-- ==== Sys2Proof/Word.lean ====
section
/-! DEFINITION. Word.lean: the word types of the EC1024 and nothing else.
Instants are `Nat` counts of ticks of 7.8125 ps (spec 00_scope.md glossary, "Tick"). -/

namespace Sys2Proof

/-- One byte of a mailbox buffer, a record, a frame or a memory (R3). -/
abbrev Byte := BitVec 8

/-- One 32-bit front-desk or fabric register word (R431, R473). -/
abbrev Word := BitVec 32

/-- An LFSR state: 24-bit Galois register (R97). -/
abbrev Lfsr := BitVec 24

/-- A sparse table: entries by rising key; an absent key holds the table's default. -/
abbrev Tab (α : Type) := List (Nat × α)

end Sys2Proof
end

