-- ==== Sys2Proof/Syntax.lean ====
section
/-! DEFINITION. Syntax.lean: the commands the block takes, one constructor per row of
spec/opcode_table.json, and the operand structures they carry. The first operand `t` of every
constructor (in RESET_N_ASSERT's pulse) is the elapsed time, in ticks, at which the command happens (log entry 2). -/

namespace Sys2Proof

/-- A mailbox request (R451): mailbox, tag and payload; the opcode is the constructor's. -/
structure Req where
  mb      : Nat
  tag     : Nat
  payload : List Byte
  deriving DecidableEq, Repr

/-- A received Ethernet frame as the MAC hands it up (R330, R434): host lane, addresses as 48-bit
values in the form of R553, EtherType, the 802.1Q TCI when tagged, the association number of the receive SA under which its MACsec
check passed (none: it came unprotected), and the payload bytes after the EtherType. -/
structure Frame where
  lane      : Nat
  src       : Nat
  dst       : Nat
  etherType : Nat
  tci       : Option Nat
  secured   : Option Nat
  payload   : List Byte
  deriving DecidableEq, Repr

/-- What an Announce message tells (R363): the fields of the priority vector in the standard's order, the port it comes from, and the
logarithm of its interval in seconds. -/
structure Announce where
  prio1    : Nat
  clkClass : Nat
  accuracy : Nat
  variance : Nat
  prio2    : Nat
  gm       : Nat
  steps    : Nat
  src      : Nat
  interval : Int
  deriving DecidableEq, Repr

/-- The parts of an IEEE 802.1AS message the time service uses (R363). Times are nanoseconds, corrections are in units of 2^-16 ns as the
standard carries them; `src` is the sender's port identity. -/
inductive Gptp where
  | announce (domain : Nat) (a : Announce)
  | sync (domain src seq : Nat) (twoStep : Bool) (originNs : Nat) (corr : Int)
  | followUp (domain src seq originNs : Nat) (corr : Int)
  | pdelayReq (seq : Nat)
  | pdelayResp (seq t2Ns : Nat) (corr : Int)
  | pdelayRespFollowUp (seq t3Ns : Nat) (corr : Int)
  deriving DecidableEq, Repr

/-- A fire record (R184, R269). -/
structure FireRec where
  str   : Nat
  em    : Nat
  stamp : Nat
  iset  : Nat
  seq   : Nat
  deriving DecidableEq, Repr

/-- What one of the two links makes of a fire record the scheduler sends (R269): it arrives as sent, altered, or not at all. -/
inductive LinkRx where
  | asSent
  | altered (r : FireRec)
  | lost
  deriving DecidableEq, Repr

/-- What the boot code finds (R493, R495): `capacity` is the capacity code detected from the mode registers. -/
structure BootInfo where
  capacity     : Nat
  layoutSame   : Bool
  logHeaderOk  : Bool
  deriving DecidableEq, Repr

/-- The measured results of the factory sequence (R314): the failing step (0 none), per channel the tap scan's counts n_0 … n_95 (R306)
and the counts of the 64 raw codes under the new mask (R310), FIRE trims, PMON gains, sense offsets and gains by index 8n + g. -/
structure FactoryResult where
  failStep : Nat
  scans    : Tab (List Nat)
  codes    : Tab (List Nat)
  fire     : List Int
  pmon     : List Nat
  senseO   : List Int
  senseM   : List Nat
  deriving DecidableEq, Repr

/-- A twin-lane hello control block (R386). -/
structure Hello where
  laneNo  : Nat
  mask    : Nat
  maxRate : Nat
  serial  : Nat
  ack     : Nat
  deriving DecidableEq, Repr

/-- The leader's beat (R419). -/
structure Beat where
  leader     : Nat
  nodes      : Nat
  turnCycle  : Nat
  ringTime   : Nat
  loop       : Nat
  linePeriod : Nat
  salt       : Nat
  deriving DecidableEq, Repr

/-- A node slot of a ring cycle (R419). -/
structure RingSlot where
  position  : Nat
  rank      : Nat
  flags     : Nat
  serial    : Nat
  headId    : Nat
  turnMask  : Nat
  linkLen   : Nat
  residence : Nat
  trigger   : Nat
  action    : Nat
  deriving DecidableEq, Repr

/-- A service set as the twin lanes carry it (R413): which service (0 adaptation, 1 interference
manager, 2 planner), its parameter values by key (id × 65,536 + index), the planner's image bytes. -/
structure SvcSet where
  kind   : Nat
  values : Tab Nat
  image  : List (Nat × Byte)
  deriving DecidableEq, Repr

/-- Where a host access without a row of its own comes in: the SPI target, with the bits on HSPI_MOSI between the edges of HSPI_CS_N
(R431); a register inside the fabric, by its byte address (R5); the test port, with a TCK cycle's levels (R527). -/
inductive Access where
  | spi (mosi : List Bool)
  | fabric (addr : Nat)
  | test (tms tdi trstLow : Bool)
  deriving DecidableEq, Repr

/-- RESET_N as the pin shows it (R520): the instant of its falling edge and how long it stays low. -/
structure LowPulse where
  t     : Nat
  lowNs : Nat
  deriving DecidableEq, Repr

/-- The commands of the block: one constructor per row of spec/opcode_table.json. Operands that are not plain: `box` is a request's mailbox
and tag; `value` the word of a register write inside the fabric, no part of the other accesses; `claim32`, `claim1`, `claim0` the levels
of CLAIM_ID[3:2], [1] and [0]; `flags` a block's compliance and clipping; `n2`, `n1`, `n0` a sense channel's number in binary; `samples`
a pulse monitor's codes in a gate and outside gates before it, or before a segment and in it; `pad` a pin and the level it is held at, none
when it follows; `pulse` the raw code of TRIG_IO's falling edge and its width in ns. -/
inductive Instr where
  | paramGet (t : Nat) (r : Req)
  | paramSet (t : Nat) (r : Req)
  | paramSeal (t : Nat) (r : Req)
  | paramList (t : Nat) (r : Req)
  | devRun (t : Nat) (r : Req)
  | devStop (t : Nat) (r : Req)
  | eventRead (t : Nat) (r : Req)
  | fwWrite (t : Nat) (r : Req)
  | fwUpdate (t : Nat) (box : Nat × Nat) (payload : List Byte)
  | devReset (t : Nat) (r : Req)
  | debugChallenge (t : Nat) (r : Req)
  | debugResponse (t : Nat) (box : Nat × Nat) (payload : List Byte)
  | devIdentity (t : Nat) (r : Req)
  | chmapWrite (t : Nat) (r : Req)
  | chmapRead (t : Nat) (r : Req)
  | chCountersRead (t : Nat) (r : Req)
  | chEventCapture (t : Nat) (r : Req)
  | captureDone (t : Nat)
  | ambientRead (t : Nat) (r : Req)
  | passportRead (t : Nat) (r : Req)
  | tallyCountersRead (t : Nat) (r : Req)
  | stackStatusRead (t : Nat) (r : Req)
  | templateWrite (t : Nat) (r : Req)
  | extCountersRead (t : Nat) (r : Req)
  | itinWrite (t : Nat) (r : Req)
  | itinRead (t : Nat) (r : Req)
  | itinValidate (t : Nat) (r : Req)
  | curveWrite (t : Nat) (r : Req)
  | planRoiSet (t : Nat) (r : Req)
  | emitCountersRead (t : Nat) (r : Req)
  | servoLawWrite (t : Nat) (r : Req)
  | servoTableWrite (t : Nat) (r : Req)
  | servoStatusRead (t : Nat) (r : Req)
  | tpRead (t : Nat) (r : Req)
  | senseRead (t : Nat) (r : Req)
  | senseFirWrite (t : Nat) (r : Req)
  | senseLeadMeasure (t : Nat) (r : Req)
  | senseStatusRead (t : Nat) (r : Req)
  | streamConfig (t : Nat) (r : Req)
  | rawRequest (t : Nat) (r : Req)
  | macsecKeySet (t : Nat) (r : Req)
  | motionFeed (t : Nat) (r : Req)
  | streamStatusRead (t : Nat) (r : Req)
  | laneRetrain (t : Nat) (r : Req)
  | laneTest (t : Nat) (r : Req)
  | laneStatusRead (t : Nat) (r : Req)
  | laneEyeScan (t : Nat) (r : Req)
  | eyeScanDone (t : Nat) (low high : List (List Nat)) (count : List Nat)
  | trigSend (t : Nat) (r : Req)
  | twinRingStatusRead (t : Nat) (r : Req)
  | healthRead (t : Nat) (r : Req)
  | healthSensorRetire (t : Nat) (r : Req)
  | nkCommission (t : Nat) (r : Req)
  | nkSetWrite (t : Nat) (r : Req)
  | nkConfirm (t : Nat) (r : Req)
  | nkSetConfirmed (t : Nat)
  | nkStatusRead (t : Nat) (r : Req)
  | nkLedgerRead (t : Nat) (r : Req)
  | nkFaultClear (t : Nat) (r : Req)
  | calFactoryRun (t : Nat) (r : Req)
  | calFactoryDone (t : Nat) (f : FactoryResult)
  | calTapReselect (t : Nat) (r : Req)
  | calReselectDone (t : Nat) (scans : Tab (List Nat))
  | calOffsetMeasure (t : Nat) (r : Req)
  | calTwinSkewMeasure (t : Nat) (r : Req)
  | calMeasureDone (t : Nat)
  | calStatusRead (t : Nat) (r : Req)
  | dmaXfer (t : Nat) (r : Req)
  | dmaXferDone (t : Nat)
  | logControl (t : Nat) (r : Req)
  | memStatusRead (t : Nat) (r : Req)
  | fwEraseDone (t : Nat)
  | mailboxOverrun (t : Nat) (mb : Nat)
  | registerWrite (t : Nat) (a : Access) (value : Word)
  | attentionClear (t : Nat) (value : Word)
  | attnEnableWrite (t : Nat) (value : Word)
  | attnModerationExpiry (t : Nat)
  | freeze (t : Nat) (value : Word)
  | thaw (t : Nat) (value : Word)
  | freezeN (t : Nat) (widthNs : Nat)
  | icTake (t : Nat)
  | finish (t : Nat) (src : Nat)
  | cntClr (t : Nat) (src : Nat)
  | icSoft (t : Nat) (value : Word)
  | moderationRelease (t : Nat) (group : Nat)
  | processorIdle (t : Nat)
  | dmaGo (t : Nat) (chan : Nat)
  | haltedClear (t : Nat) (stream : Bool) (chan : Nat)
  | dmaRecord (t : Nat) (chan : Nat) (bytes : List Byte)
  | dmaBurstEnd (t : Nat) (engine : Nat) (corrected : Nat) (bad : Bool)
  | mgmtRequest (t : Nat) (f : Frame)
  | mgmtRegisterRead (t : Nat) (f : Frame)
  | mgmtRegisterWrite (t : Nat) (f : Frame)
  | windowWrite (t : Nat) (f : Frame)
  | windowRead (t : Nat) (f : Frame)
  | receivedFrameDropped (t : Nat) (f : Frame)
  | gptpFrame (t : Nat) (lane : Nat) (m : Gptp)
  | syncReceiptTimeout (t : Nat)
  | timeHoldoverExpiry (t : Nat)
  | motionStale (t : Nat)
  | porstNAssert (t : Nat)
  | porstNRelease (t : Nat)
  | nkSelftest (t : Nat) (item : Nat × List Nat)
  | resetNAssert (p : LowPulse)
  | resetNRelease (t claim32 : Nat) (claim1 claim0 : Bool)
  | commandReset (t : Nat)
  | bootComplete (t : Nat) (b : BootInfo)
  | watchdog (t : Nat) (trial : Bool)
  | tempSample (t : Nat) (readings : List (Option Int))
  | throttleStepTimer (t : Nat)
  | voltageSample (t : Nat) (mv : List Nat)
  | healthVoltage (t : Nat) (rail : Nat)
  | voltageFault (t : Nat) (rail : Nat)
  | ageingMeasure (t : Nat) (counts : List Nat)
  | healthScoreUpdate (t : Nat)
  | lineStart (t : Nat) (facet : Nat)
  | lineEnd (t : Nat)
  | setInstant (t : Nat) (str : Nat)
  | fireEdge (t : Nat) (str : Nat)
  | fireWidthEnd (t : Nat) (str : Nat)
  | shuntHoldEnd (t : Nat) (str : Nat)
  | detectorEvent (t : Nat) (chan passed : Nat)
  | rearm (t : Nat) (chan : Nat)
  | chStuckHigh (t : Nat) (chan : Nat)
  | coincidenceDecision (t : Nat) (chan : Nat)
  | tallyService (t : Nat) (rod : Nat)
  | pointStart (t : Nat) (chan : Nat)
  | scoutRunStart (t : Nat) (rod : Nat)
  | scoutRunEnd (t : Nat) (rod : Nat)
  | fineReplayDone (t : Nat) (rod : Nat)
  | pointEnd (t : Nat) (chan : Nat)
  | pageClose (t : Nat) (chan : Nat)
  | extractorService (t : Nat) (deck : Nat)
  | extractionComplete (t : Nat) (deck : Nat)
  | stackReadDone (t : Nat) (chan : Nat)
  | pageRelease (t : Nat) (chan : Nat)
  | ambientIntervalStart (t : Nat)
  | ambientPublish (t : Nat)
  | sealDeadline (t : Nat)
  | frameBoundaryEvent (t : Nat)
  | frameEnd (t : Nat)
  | bluwardFlush (t : Nat) (slot cls : Nat)
  | keyClose (t : Nat) (slot cls : Nat)
  | linkFree (t : Nat) (lane : Nat)
  | pointToken (t : Nat)
  | servoSample (t : Nat) (servo : Nat) (x : Int)
  | polyMark (t : Nat) (raw : Nat)
  | markMissing (t : Nat)
  | tpEdge (t : Nat) (port raw : Nat) (rising : Bool)
  | tpHoldoffEnd (t : Nat) (port : Nat)
  | tpGateEnd (t : Nat) (port : Nat)
  | tpGateResult (t : Nat) (port : Nat)
  | decimationBlock (t : Nat) (sense currentNa terminalUv : Nat) (clip : Bool) (bits : List Bool)
  | senseSample (t : Nat) (n2 n1 n0 : Bool)
  | settlingEnd (t : Nat) (sense : Nat)
  | senseLeadDone (t : Nat) (sense : Nat)
  | fireRecord (t : Nat) (a b : LinkRx)
  | integrationDone (t : Nat) (pmon : Nat) (samples : List Nat × List Nat)
  | strayPulse (t : Nat) (pmon energyPj : Nat)
  | segmentTrigger (t : Nat) (pmon trig : Nat) (samples : List Nat × List Nat)
  | segmentRearm (t : Nat) (pmon : Nat)
  | stallWindowEnd (t : Nat)
  | clockCheck (t : Nat) (nCycles : Nat)
  | ledgerScrub (t : Nat) (badCells : List Nat)
  | subBinBoundary (t : Nat) (window : Nat)
  | headSwitch (t : Nat) (high : Bool)
  | hvFbChange (t : Nat) (closed : Bool)
  | contactorStuck (t : Nat)
  | hvFbOpen (t : Nat)
  | enableReadback (t : Nat) (pad : Nat × Option Bool)
  | hvCutNAssert (t : Nat)
  | permissionGrant (t : Nat)
  | laserTempTimeout (t : Nat)
  | nkDegradedClock (t : Nat)
  | degradedClockClear (t : Nat)
  | cdCandidate (t : Nat) (chan : Nat)
  | cdBlendStep (t : Nat)
  | calSave (t : Nat)
  | laneSelfCheckDone (t : Nat) (lane : Nat) (passed : Bool)
  | negotiationComplete (t : Nat) (lane partnerMask : Nat)
  | twinHello (t : Nat) (lane : Nat) (h : Hello)
  | trainTimeout (t : Nat) (lane : Nat)
  | laneUp (t : Nat) (lane : Nat)
  | laneDown (t : Nat) (lane reason : Nat)
  | laneRetry (t : Nat) (lane : Nat)
  | claimRoundStart (t : Nat)
  | claimRoundEnd (t : Nat) (syncLow : Bool) (read : Nat)
  | twinStatus (t : Nat) (strap headId : Nat) (t1 t2 t3 t4 : Nat)
  | twinStatusTimeout (t : Nat)
  | lineNotice (t : Nat) (frame line facet inst : Nat)
  | noticeMiss (t : Nat)
  | lineCopy (t : Nat) (bytes : List Byte)
  | serviceSetReceived (t : Nat) (v : SvcSet)
  | ownerFireStamp (t : Nat) (str : Nat)
  | ringBeat (t : Nat) (b : Beat) (slots : List RingSlot)
  | ringInsertion (t : Nat)
  | leaderTakeover (t : Nat)
  | ringHoldover (t : Nat)
  | ringLockLost (t : Nat)
  | trigIoPulse (t : Nat) (pulse : Nat × Nat)
  | triggerAction (t : Nat) (code : Nat)
  | logFrozen (t : Nat)
  | vddNkWindowChange (t : Nat) (mv : Nat)
  | tAbsent (t : Nat)
  | nkPeerCutNChange (t : Nat) (high : Bool)
  | pmonBaselineFault (t : Nat) (p : Nat × Nat)
  | pmonChannelClear (t : Nat) (p : Nat × Nat)
  | confirmWriteTimeout (t : Nat)
  | checkerLock (t : Nat) (lane : Nat)
  | checkerLockLoss (t : Nat) (lane errors : Nat)
  | patrolScrub (t : Nat) (addr kind : Nat)
  | firmwareTimer (t : Nat) (timer : Nat)
  | ringCycleStart (t : Nat)
  | peerDelayRequest (t : Nat)
  deriving DecidableEq, Repr

end Sys2Proof
end

