-- ==== Sys2Proof/Decode.lean ====
section
/-! DEFINITION. Decode.lean: the opcode table gives no row any bits (its rows have no fields): a command reaches the block as a
mailbox request, a register access, a frame or an event, never as an encoded word. No word spells a command. -/

namespace Sys2Proof

/-- The command a word of `nbits` bits spells by the table's encodings: none, since no row has one. Log entry 90 (DESIGN CHOICE). -/
def decodeTableWord (_nbits _w : Nat) : Option Instr := none

end Sys2Proof
end

