-- ==== Sys2Proof/Config.lean ====
section
/-! DEFINITION. Config.lean: what the specification leaves open, as constants without a body.
No proof can evaluate them, so a claim about them holds for every value they may have. -/

namespace Sys2Proof.Config

/-- A free value of unbounded width: the value drawn when the State's counter `free` holds `n`.
Used wherever the specification states no result (log entry 1). -/
opaque freeNat : Nat → Nat

/-- Byte `n` of the device's identity key figures, fixed at manufacture and given no value by the specification (R464). -/
opaque identityKeyByte : Nat → BitVec 8

/-- Fraction bits of the halfband coefficients less 2: their file is supplied apart from the specification (R247, log entry 86). -/
opaque halfbandBits : Nat → Nat

/-- Coefficient `i` (0 to 4) of halfband filter `f`, at the distance 2i + 3 from its centre, in units of 2^-(halfbandBits f + 2) (R247, log
entry 86). -/
opaque halfbandTap : Nat → Nat → Int

/-- Byte `i` of the protected user data that GCM of a cipher suite (MACSEC.CIPHER) forms under a key and initialization vector from the
associated data and the text: the standard's, which the specification names and does not restate (R329, log entry 113). -/
opaque gcmText : Nat → List (BitVec 8) → List (BitVec 8) → List (BitVec 8) → List (BitVec 8) → Nat → BitVec 8

/-- Byte `i` of the integrity check value, with the operands of `gcmText` (R328, R329, log entry 113). -/
opaque gcmIcv : Nat → List (BitVec 8) → List (BitVec 8) → List (BitVec 8) → List (BitVec 8) → Nat → BitVec 8

/-- The test port's facts of the BSDL file, which is supplied apart from the specification (R527, log entry 8): the IDCODE, the length of
the instruction register less 2, the number of boundary cells, the ball of each cell, and the instruction an instruction code selects. -/
opaque idcode : Nat
opaque irBits : Nat
opaque boundaryCells : Nat
opaque boundaryBall : Nat → Nat
opaque tapCode : Nat → Nat

/-- Bits of snapshot chain `n`: the chains' layout is in no file of the specification (R528, log entry 8). -/
opaque chainLen : Nat → Nat

/-- Byte `i` of the SHA-256 digest of a message, and whether an ECDSA P-256 signature (r, s) of a digest verifies under a public key (x, y): the
standards', which the specification names and does not restate (R298, R466, R469, log entry 118). -/
opaque sha256 : List (BitVec 8) → Nat → BitVec 8
opaque ecdsaOk : List (BitVec 8) → List (BitVec 8) → List (BitVec 8) → Bool

/-- Byte `i` of a signature by the device identity key over a digest, the `n`-th that is made: the key is private and the signature's
random number is open (R298, R464, log entry 118). -/
opaque identitySign : List (BitVec 8) → Nat → Nat → BitVec 8

/-- PAM4 level of symbol `i` of the SSPRQ pattern: the standard's, which the specification names and does not restate (R390, log
entry 138). -/
opaque ssprq : Nat → Nat

/-- Whether a device has lost the claim round of a microsecond of reference time before a cell (R405, log entry 135). -/
opaque claimLost : Int → Nat → Bool

/-- Whether the `n`-th pair of edges that may arrive as one does (R480, log entry 119). -/
opaque edgesMerge : Nat → Bool

/-- Whether the processor stops the interrupt controller's clock when it goes idle for the `n`-th time (R480, log entry 119). -/
opaque clockStops : Nat → Bool

end Sys2Proof.Config
end

