-- ==== Sys2Proof/Machine/Num.lean ====
section
/-! DEFINITION. Machine/Num.lean: plain helpers the meanings share: sparse tables, byte memories,
little-endian fields (R3), checks (R175, R294), counters of classes S and W (R8) and exact roundings. -/

namespace Sys2Proof.Machine

/-! ### Sparse tables (`Tab`): rising keys, no entry equal to the default -/

/-- The entry of key `k`, or the default `d`. -/
def tget {α : Type} (d : α) : Tab α → Nat → α
  | [], _ => d
  | (j, v) :: m, k => if k = j then v else tget d m k

/-- Removes every entry of key `k`. -/
def tdel {α : Type} (k : Nat) : Tab α → Tab α
  | [] => []
  | (j, w) :: m => if j = k then tdel k m else (j, w) :: tdel k m

/-- Puts an entry of key `k` in its place. -/
def tins {α : Type} (k : Nat) (v : α) : Tab α → Tab α
  | [] => [(k, v)]
  | (j, w) :: m => if k < j then (k, v) :: (j, w) :: m else if k = j then (k, v) :: m else (j, w) :: tins k v m

/-- Writes key `k`; the default erases the entry, so that equal tables are equal lists. -/
def tput {α : Type} [DecidableEq α] (d : α) (m : Tab α) (k : Nat) (v : α) : Tab α := if v = d then tdel k m else tins k v m

/-- Applies `f` to the entry of key `k`. -/
def tmod {α : Type} [DecidableEq α] (d : α) (m : Tab α) (k : Nat) (f : α → α) : Tab α :=
  tput d m k (f (tget d m k))

/-- Keys strictly rising above `lo`, and no entry equal to the default. -/
def twf {α : Type} [DecidableEq α] (d : α) : Option Nat → Tab α → Bool
  | _, [] => true
  | none, (k, v) :: m => decide (v ≠ d) && twf d (some k) m
  | some lo, (k, v) :: m => decide (lo < k) && decide (v ≠ d) && twf d (some k) m

/-! ### Byte memories: canonical lists of `Host.Cell` -/

/-- Reads one byte; an unlisted address reads as `d`. Log entry 5 (DESIGN CHOICE). -/
def cget (d : Byte) (m : List Host.Cell) (a : Nat) : Byte := tget d m a

/-- Writes one byte and keeps the canonical form. Log entry 5 (DESIGN CHOICE). -/
def cput (d : Byte) (m : List Host.Cell) (a : Nat) (b : Byte) : List Host.Cell := tput d m a b

/-- Writes consecutive bytes from `a`. Log entry 5 (DESIGN CHOICE). -/
def cputs (d : Byte) (m : List Host.Cell) (a : Nat) : List Byte → List Host.Cell
  | [] => m
  | b :: bs => cputs d (cput d m a b) (a + 1) bs

/-- Reads `n` consecutive bytes from `a`. Log entry 5 (DESIGN CHOICE). -/
def cgets (d : Byte) (m : List Host.Cell) (a : Nat) : Nat → List Byte
  | 0 => []
  | n + 1 => cget d m a :: cgets d m (a + 1) n

/-- Reads a little-endian field of `n` bytes. -/
def cgetLE (d : Byte) (m : List Host.Cell) (a : Nat) : Nat → Nat
  | 0 => 0
  | n + 1 => (cget d m a).toNat + 256 * cgetLE d m (a + 1) n

/-! ### Little-endian fields (R3) -/

/-- `v` as `n` little-endian bytes; higher bits are cut. -/
def le : Nat → Nat → List Byte
  | 0, _ => []
  | n + 1, v => BitVec.ofNat 8 v :: le n (v / 256)

/-- `n` bytes of a value, most significant first, as the tags of the Ethernet standards are sent. -/
def be (n v : Nat) : List Byte := (le n v).reverse

/-- The two's-complement pattern of `v` on `w` bits. -/
def pat (w : Nat) (v : Int) : Nat := (v % (2 ^ w : Int)).toNat

/-- A signed value as `n` little-endian bytes. -/
def leI (n : Nat) (v : Int) : List Byte := le n (pat (8 * n) v)

/-- Reads bytes as a little-endian number. -/
def unle : List Byte → Nat
  | [] => 0
  | b :: bs => b.toNat + 256 * unle bs

/-- The signed value of a `w`-bit pattern. -/
def sgn (w v : Nat) : Int :=
  if 2 ^ (w - 1) ≤ v % 2 ^ w then (v % 2 ^ w : Int) - 2 ^ w else (v % 2 ^ w : Int)

/-- Field of `n` bytes at offset `o` of a payload; bytes beyond it count as absent (0). -/
def fld (p : List Byte) (o n : Nat) : Nat := unle ((p.drop o).take n)

/-- Signed field of `n` bytes at offset `o`. -/
def fldI (p : List Byte) (o n : Nat) : Int := sgn (8 * n) (fld p o n)

/-- Bits `hi` down to `lo` of `v`. -/
def bits (v hi lo : Nat) : Nat := v / 2 ^ lo % 2 ^ (hi + 1 - lo)

/-- Whether every byte of a list is 0 (a reserved field). -/
def allZero (l : List Byte) : Bool := l.all (fun b => decide (b = 0))

/-- `n` copies of a zero byte. -/
def zeros (n : Nat) : List Byte := List.replicate n 0

/-- Number of 1 bits among bits 0 to `n − 1`. -/
def popc : Nat → Nat → Nat
  | 0, _ => 0
  | n + 1, v => v % 2 + popc n (v / 2)

/-- The bit numbers set in `v`, among bits 0 to `n − 1`, rising from `i`. -/
def bitList : Nat → Nat → Nat → List Nat
  | 0, _, _ => []
  | n + 1, i, v => if v % 2 = 1 then i :: bitList n (i + 1) (v / 2) else bitList n (i + 1) (v / 2)

/-- The number whose 1 bits are the listed ones. -/
def bitsOf (l : List Nat) : Nat := l.foldl (fun a i => a ||| 2 ^ i) 0

/-! ### Checks -/

/-- Eight steps of the reflected CRC-32 (R175) on one register value. -/
def crc32Bits : Nat → Nat → Nat
  | 0, c => c
  | n + 1, c => crc32Bits n (if c % 2 = 1 then (c / 2) ^^^ 0xEDB88320 else c / 2)

/-- CRC-32 with reflected polynomial 0xEDB88320, initial value and final XOR all ones (R175). -/
def crc32 (l : List Byte) : Nat :=
  l.foldl (fun c b => crc32Bits 8 (c ^^^ b.toNat)) 0xFFFFFFFF ^^^ 0xFFFFFFFF

/-- Eight steps of CRC-16/CCITT. -/
def crc16Bits : Nat → Nat → Nat
  | 0, c => c
  | n + 1, c => crc16Bits n (if c / 32768 % 2 = 1 then (c * 2 % 65536) ^^^ 0x1021 else c * 2 % 65536)

/-- CRC-16/CCITT-FALSE: polynomial 0x1021, initial value 0xFFFF. -/
def crc16 (l : List Byte) : Nat :=
  l.foldl (fun c b => crc16Bits 8 (c ^^^ (b.toNat * 256))) 0xFFFF

/-! ### Counters (R8) -/

/-- A class W counter of 32 bits with its sticky wrap flag. -/
structure CntW where
  val  : Word := 0
  wrap : Bool := false
  deriving DecidableEq, Repr

/-- A class S counter with its sticky saturation flag; its width is given where it is raised. -/
structure CntS where
  val : Nat := 0
  sat : Bool := false
  deriving DecidableEq, Repr

/-- Adds `k` to a class W counter: it wraps to zero and the flag sticks. -/
def CntW.add (c : CntW) (k : Nat) : CntW :=
  { val := BitVec.ofNat 32 (c.val.toNat + k)
    wrap := c.wrap || decide (2 ^ 32 ≤ c.val.toNat + k) }

/-- Whether adding `k` wraps the counter (its wrap event is raised). -/
def CntW.wraps (c : CntW) (k : Nat) : Bool := decide (2 ^ 32 ≤ c.val.toNat + k)

/-- Adds `k` to a class S counter of maximum `mx`: the first lost increment sets the flag. -/
def CntS.add (mx : Nat) (c : CntS) (k : Nat) : CntS :=
  if c.val + k ≤ mx then { c with val := c.val + k } else { val := mx, sat := true }

/-- The host's clear: bit 0 clears the counts, bit 1 the sticky flags (R9). -/
def CntW.clear (c : CntW) (counts flags : Bool) : CntW :=
  { val := if counts then 0 else c.val, wrap := if flags then false else c.wrap }

/-- The host's clear of a class S counter (R9). -/
def CntS.clear (c : CntS) (counts flags : Bool) : CntS :=
  { val := if counts then 0 else c.val, sat := if flags then false else c.sat }

/-- A flag as a bit. -/
def b2n (b : Bool) : Nat := if b then 1 else 0

/-! ### Exact arithmetic -/

/-- Clamp to `[lo, hi]`. -/
def clamp (lo hi v : Int) : Int := if v < lo then lo else if hi < v then hi else v

/-- Clamp of naturals. -/
def clampN (lo hi v : Nat) : Nat := if v < lo then lo else if hi < v then hi else v

/-- Division rounded to nearest, ties away from zero, for a positive divisor. -/
def rnd (a : Int) (d : Nat) : Int :=
  if a < 0 then -((2 * (-a) + d) / (2 * d)) else (2 * a + d) / (2 * d)

/-- Natural division rounded to nearest, ties up. -/
def rndN (a d : Nat) : Nat := (2 * a + d) / (2 * d)

/-- Ceiling division. -/
def cdiv (a d : Nat) : Nat := (a + d - 1) / d

/-- Arithmetic shift right of an integer (floor). -/
def asr (a : Int) (n : Nat) : Int := a / (2 ^ n : Int)

/-- Division that rounds toward zero. -/
def tdiv (a : Int) (d : Nat) : Int := if a < 0 then -((-a) / d) else a / d

/-- Integer square root by `k` bits, from the top bit down. -/
def isqrtGo : Nat → Nat → Nat → Nat
  | 0, r, _ => r
  | k + 1, r, n => if (r + 2 ^ k) * (r + 2 ^ k) ≤ n then isqrtGo k (r + 2 ^ k) n else isqrtGo k r n

/-- The integer part of the square root of `n`, for `n` below 2^256. -/
def isqrt (n : Nat) : Nat := isqrtGo 128 0 n

/-- The largest list element by a key, the first one on a tie. -/
def argmax {α : Type} (f : α → Int) : List α → Option α
  | [] => none
  | a :: l => match argmax f l with
    | none => some a
    | some b => if f a < f b then some b else some a

/-- Largest number of a list, 0 when empty. -/
def maxL (l : List Nat) : Nat := l.foldl max 0

/-- The counter modulo distance `a − b` on 32 bits as a signed value. -/
def sdiff32 (a b : Nat) : Int := sgn 32 ((a + 2 ^ 32 - b % 2 ^ 32) % 2 ^ 32)

/-- Insert into a list sorted by a key, after equal keys. -/
def insertBy {α : Type} (f : α → Nat) (a : α) : List α → List α
  | [] => [a]
  | b :: l => if f a < f b then a :: b :: l else b :: insertBy f a l

/-- Sort by rising key, stable. -/
def sortBy {α : Type} (f : α → Nat) (l : List α) : List α := l.foldl (fun r a => insertBy f a r) []

/-- The element at an index of a list, or a default. -/
def nth {α : Type} (d : α) (l : List α) (i : Nat) : α := l.getD i d

/-- Replace the element at an index. -/
def setN {α : Type} (l : List α) (i : Nat) (a : α) : List α := l.set i a

/-- Sum of a list of naturals. -/
def sumN (l : List Nat) : Nat := l.foldl (· + ·) 0

/-- Sum of a list of integers. -/
def sumI (l : List Int) : Int := l.foldl (· + ·) 0

end Sys2Proof.Machine
end

