-- ==== Sys2Proof/Machine/Params.lean ====
section
/-! DEFINITION. Machine/Params.lean: every parameter of the parameter tables (R76, R108, R138, R170, R205,
R236, R260, R301, R321, R367, R394, R427, R470, R503, R529): ID, width, class, scope, stated range, default. -/

namespace Sys2Proof.Machine

/-- One parameter entry (R14): scope is coded as in PARAM_LIST (R461), class as there (0 FS, 1 IM, 2 BO);
`lo` and `hi` bound the value; `dflt` is the first index's default, `varies` says it differs by index. -/
structure PRow where
  id     : Nat
  width  : Nat
  cls    : Nat
  scope  : Nat
  first  : Nat
  count  : Nat
  signed : Bool
  lo     : Int
  hi     : Int
  dflt   : Nat
  varies : Bool
  deriving DecidableEq, Repr

abbrev pMgmtEthertype : Nat := 0x0001
abbrev pMgmtEnable : Nat := 0x0002
abbrev pFwTrialTimeout : Nat := 0x0003
abbrev pChEnable : Nat := 0x0101
abbrev pChInputMode : Nat := 0x0102
abbrev pChTermination : Nat := 0x0103
abbrev pChThreshold : Nat := 0x0104
abbrev pChDeadTime : Nat := 0x0105
abbrev pChRangeWindow : Nat := 0x0106
abbrev pChAttribution : Nat := 0x0107
abbrev pChSilentCheck : Nat := 0x0108
abbrev pAmbGuard : Nat := 0x0201
abbrev pAmbMinCount : Nat := 0x0202
abbrev pAmbSmoothShift : Nat := 0x0203
abbrev pCoincWindow : Nat := 0x0204
abbrev pCoincDepth : Nat := 0x0205
abbrev pCoincAdaptMode : Nat := 0x0206
abbrev pCoincAdaptTarget : Nat := 0x0207
abbrev pCoincTcBase : Nat := 0x0208
abbrev pPassportOrderEnable : Nat := 0x0209
abbrev pPassportDitherEnable : Nat := 0x020A
abbrev pPassportFamily : Nat := 0x020B
abbrev pPassportNode : Nat := 0x020C
abbrev pPassportSalt : Nat := 0x020D
abbrev pPassportSeedSource : Nat := 0x020E
abbrev pStrangerRatio : Nat := 0x020F
abbrev pStrangerMinCount : Nat := 0x0210
abbrev pIfmMode : Nat := 0x0211
abbrev pIfmMinRods : Nat := 0x0212
abbrev pIfmDwell : Nat := 0x0213
abbrev pTallyCoarseWidth : Nat := 0x0301
abbrev pTallyCoarseStart : Nat := 0x0302
abbrev pTallyFineWidth : Nat := 0x0303
abbrev pTallyScoutK : Nat := 0x0304
abbrev pTallyScoutMin : Nat := 0x0305
abbrev pTallyCarryFallback : Nat := 0x0306
abbrev pTallyZoomMode : Nat := 0x0310
abbrev pTallySurveyShots : Nat := 0x0311
abbrev pTallyShotsPerPoint : Nat := 0x0312
abbrev pTallyStackMask : Nat := 0x0320
abbrev pTallyStackDepth : Nat := 0x0321
abbrev pTallyStackStart : Nat := 0x0322
abbrev pTallyStackNominalFrame : Nat := 0x0323
abbrev pExtPileup : Nat := 0x0401
abbrev pExtTemplate : Nat := 0x0402
abbrev pExtCfarK : Nat := 0x0403
abbrev pExtPolicy : Nat := 0x0404
abbrev pExtMaxReturns : Nat := 0x0405
abbrev pExtMinSep : Nat := 0x0406
abbrev pExtFitMethod : Nat := 0x0407
abbrev pExtCentroidHalf : Nat := 0x0408
abbrev pExtFineMin : Nat := 0x0409
abbrev pExtWidthFineMin : Nat := 0x040A
abbrev pExtRangeScale : Nat := 0x040B
abbrev pExtRangeOffset : Nat := 0x040C
abbrev pExtClutterRange : Nat := 0x040D
abbrev pExtDiffuseWidth : Nat := 0x040E
abbrev pExtDiffuseRatio : Nat := 0x040F
abbrev pExtDiffuseAction : Nat := 0x0410
abbrev pExtEmptyPoints : Nat := 0x0411
abbrev pEmitPresent : Nat := 0x0501
abbrev pEmitStagger : Nat := 0x0502
abbrev pEmitSetupLead : Nat := 0x0503
abbrev pEmitFireWidth : Nat := 0x0504
abbrev pEmitCurve : Nat := 0x0505
abbrev pEmitLevelTarget : Nat := 0x0506
abbrev pEmitFadeFrames : Nat := 0x0507
abbrev pEmitBank : Nat := 0x0508
abbrev pEmitChargeLead : Nat := 0x0509
abbrev pEmitGalvoServo : Nat := 0x050A
abbrev pPlanMode : Nat := 0x0520
abbrev pPlanSatHigh : Nat := 0x0521
abbrev pPlanSatLow : Nat := 0x0522
abbrev pPlanQHigh : Nat := 0x0523
abbrev pPlanStep : Nat := 0x0524
abbrev pPlanFloor : Nat := 0x0525
abbrev pPlanLedgerMargin : Nat := 0x0526
abbrev pServoMode : Nat := 0x0601
abbrev pServoRate : Nat := 0x0602
abbrev pServoFbPort : Nat := 0x0603
abbrev pServoOpenLevel : Nat := 0x0604
abbrev pServoHandoverLimit : Nat := 0x0605
abbrev pServoSlew : Nat := 0x0606
abbrev pServoSpeedTarget : Nat := 0x0607
abbrev pServoSetpointStep : Nat := 0x0608
abbrev pServoSettleWindow : Nat := 0x0609
abbrev pServoSettleCount : Nat := 0x060A
abbrev pServoSatCount : Nat := 0x060B
abbrev pServoFfEnable : Nat := 0x060C
abbrev pServoSetpoint : Nat := 0x060D
abbrev pPolyServo : Nat := 0x0620
abbrev pPolyFacets : Nat := 0x0621
abbrev pPolyFacetOrigin : Nat := 0x0622
abbrev pPolyPhaseRef : Nat := 0x0623
abbrev pPolyLinePeriod : Nat := 0x0624
abbrev pPolyPhaseOffset : Nat := 0x0625
abbrev pPolyLockWindow : Nat := 0x0626
abbrev pPolyLockCount : Nat := 0x0627
abbrev pAzOrigin : Nat := 0x0628
abbrev pAzSpan : Nat := 0x0629
abbrev pTpSource : Nat := 0x0630
abbrev pTpEdge : Nat := 0x0631
abbrev pTpHoldoff : Nat := 0x0632
abbrev pTpGate : Nat := 0x0633
abbrev pSenseEnable : Nat := 0x0701
abbrev pSenseRole : Nat := 0x0702
abbrev pSenseExcMode : Nat := 0x0703
abbrev pSenseExcCurrent : Nat := 0x0704
abbrev pSenseExcVoltage : Nat := 0x0705
abbrev pSenseWiring : Nat := 0x0706
abbrev pSenseGain : Nat := 0x0707
abbrev pSenseAutorangeHold : Nat := 0x0708
abbrev pSenseCicDecimation : Nat := 0x0709
abbrev pSenseFirDecimation : Nat := 0x070A
abbrev pSenseFirSource : Nat := 0x070B
abbrev pSenseShiftAuto : Nat := 0x070C
abbrev pSenseShifts : Nat := 0x070D
abbrev pSenseDcBlock : Nat := 0x070E
abbrev pSenseDcShift : Nat := 0x070F
abbrev pSenseRestoreBlocks : Nat := 0x0710
abbrev pStreamPathMode : Nat := 0x0801
abbrev pStreamSinglePath : Nat := 0x0802
abbrev pStreamEthertype : Nat := 0x0803
abbrev pStreamFrameMax : Nat := 0x0804
abbrev pStreamClassMap : Nat := 0x0805
abbrev pStreamFlush : Nat := 0x0806
abbrev pStreamFineSelect : Nat := 0x0807
abbrev pStreamSrcMac : Nat := 0x0808
abbrev pStreamReplTag : Nat := 0x0809
abbrev pTimeSource : Nat := 0x0810
abbrev pTimeDomain : Nat := 0x0811
abbrev pTimePort : Nat := 0x0812
abbrev pMotionMode : Nat := 0x0818
abbrev pMotionField : Nat := 0x0819
abbrev pMotionStale : Nat := 0x081A
abbrev pMacsecEnable : Nat := 0x0820
abbrev pMacsecCipher : Nat := 0x0821
abbrev pMacsecConfidential : Nat := 0x0822
abbrev pLaneEnable : Nat := 0x0901
abbrev pLaneAnMode : Nat := 0x0902
abbrev pLaneMaxRate : Nat := 0x0903
abbrev pLaneMinRate : Nat := 0x0904
abbrev pLaneTrainAttempts : Nat := 0x0905
abbrev pLaneRetryInterval : Nat := 0x0906
abbrev pLaneUcwLimit : Nat := 0x0907
abbrev pLaneFec25g : Nat := 0x0908
abbrev pLaneTxPolarity : Nat := 0x0909
abbrev pLaneRxPolarity : Nat := 0x090A
abbrev pLaneTxFfe : Nat := 0x090B
abbrev pLaneTrainTimeout : Nat := 0x090C
abbrev pTwinEnable : Nat := 0x0A01
abbrev pTwinPriority : Nat := 0x0A02
abbrev pTwinOwnerBias : Nat := 0x0A03
abbrev pTwinFreshLines : Nat := 0x0A04
abbrev pTwinHeadId : Nat := 0x0A05
abbrev pTwinKeyHold : Nat := 0x0A06
abbrev pRingEnable : Nat := 0x0A10
abbrev pRingRank : Nat := 0x0A11
abbrev pRingLinkLength : Nat := 0x0A12
abbrev pRingLinePeriod : Nat := 0x0A13
abbrev pRingTurnCycle : Nat := 0x0A14
abbrev pRingTurnMask : Nat := 0x0A15
abbrev pRingTurnRequired : Nat := 0x0A16
abbrev pRingHoldover : Nat := 0x0A17
abbrev pRingTrigLatency : Nat := 0x0A18
abbrev pRingTrigAction : Nat := 0x0A19
abbrev pRingTrigLocalCode : Nat := 0x0A1A
abbrev pHealthThrottleLimit : Nat := 0x0B01
abbrev pHealthTempCritical : Nat := 0x0B02
abbrev pHealthThermalMode : Nat := 0x0B03
abbrev pHealthThrottleStep : Nat := 0x0B04
abbrev pHealthWatchdog : Nat := 0x0B05
abbrev pNkCaptureEnable : Nat := 0x0C01
abbrev pNkEdgeLevel : Nat := 0x0C02
abbrev pNkEdgeHyst : Nat := 0x0C03
abbrev pNkSelectN : Nat := 0x0C04
abbrev pNkPretrigger : Nat := 0x0C05
abbrev pNkStringCapture : Nat := 0x0C06
abbrev pNkIntegGate : Nat := 0x0C07
abbrev pCalCdEnable : Nat := 0x0D01
abbrev pCalCdEvents : Nat := 0x0D02
abbrev pCalCdMaxStep : Nat := 0x0D03
abbrev pCalSaveInterval : Nat := 0x0D04
abbrev pCalOffsetGate : Nat := 0x0D05
abbrev pCalTwinSkew : Nat := 0x0D06
abbrev pMemCapacity : Nat := 0x0E01
abbrev pMemRate : Nat := 0x0E02
abbrev pMemStackSize : Nat := 0x0E03
abbrev pMemSpillSize : Nat := 0x0E04
abbrev pMemScrubHours : Nat := 0x0E05
abbrev pLogSpan : Nat := 0x0E06
abbrev pLogPostTrigger : Nat := 0x0E07
abbrev pLogTriggers : Nat := 0x0E08
abbrev pLogContent : Nat := 0x0E09
abbrev pSpillEnable : Nat := 0x0E0A
abbrev pWinEnable : Nat := 0x0E0B

/-- The parameters of subsystem 0 (R470). -/
def params00 : List PRow := [
  ⟨0x0001, 16, 2, 0, 0, 1, false, 1536, 65535, 34998, false⟩,
  ⟨0x0002, 2, 1, 0, 0, 1, false, 0, 3, 3, false⟩,
  ⟨0x0003, 8, 2, 0, 0, 1, false, 2, 120, 10, false⟩]

/-- The parameters of subsystem 1 (R76). -/
def params01 : List PRow := [
  ⟨0x0101, 1, 0, 3, 0, 1024, false, 0, 1, 1, false⟩,
  ⟨0x0102, 1, 2, 3, 0, 1024, false, 0, 1, 0, false⟩,
  ⟨0x0103, 1, 2, 3, 0, 1024, false, 0, 1, 0, false⟩,
  ⟨0x0104, 8, 0, 3, 0, 1024, false, 0, 250, 25, false⟩,
  ⟨0x0105, 7, 0, 3, 0, 1024, false, 4, 64, 4, false⟩,
  ⟨0x0106, 14, 0, 0, 0, 1, false, 64, 8192, 8192, false⟩,
  ⟨0x0107, 2, 0, 0, 0, 1, false, 1, 2, 2, false⟩,
  ⟨0x0108, 1, 1, 3, 0, 1024, false, 0, 1, 1, false⟩]

/-- The parameters of subsystem 2 (R108). -/
def params02 : List PRow := [
  ⟨0x0201, 6, 0, 0, 0, 1, false, 0, 63, 16, false⟩,
  ⟨0x0202, 16, 0, 0, 0, 1, false, 0, 65535, 64, false⟩,
  ⟨0x0203, 3, 0, 2, 0, 64, false, 0, 6, 2, false⟩,
  ⟨0x0204, 5, 0, 2, 0, 64, false, 1, 16, 4, false⟩,
  ⟨0x0205, 3, 0, 2, 0, 64, false, 1, 4, 2, false⟩,
  ⟨0x0206, 1, 1, 0, 0, 1, false, 0, 1, 0, false⟩,
  ⟨0x0207, 16, 1, 0, 0, 1, false, 1, 65535, 512, false⟩,
  ⟨0x0208, 5, 1, 2, 0, 64, false, 1, 16, 4, false⟩,
  ⟨0x0209, 1, 0, 0, 0, 1, false, 0, 1, 1, false⟩,
  ⟨0x020A, 1, 0, 0, 0, 1, false, 0, 1, 1, false⟩,
  ⟨0x020B, 4, 0, 0, 0, 1, false, 0, 15, 0, false⟩,
  ⟨0x020C, 4, 0, 0, 0, 1, false, 0, 15, 0, false⟩,
  ⟨0x020D, 12, 0, 0, 0, 1, false, 0, 4095, 0, false⟩,
  ⟨0x020E, 1, 0, 0, 0, 1, false, 0, 1, 0, false⟩,
  ⟨0x020F, 8, 0, 0, 0, 1, false, 16, 255, 48, false⟩,
  ⟨0x0210, 16, 0, 0, 0, 1, false, 0, 65535, 256, false⟩,
  ⟨0x0211, 1, 1, 0, 0, 1, false, 0, 1, 0, false⟩,
  ⟨0x0212, 7, 1, 0, 0, 1, false, 1, 64, 2, false⟩,
  ⟨0x0213, 8, 1, 0, 0, 1, false, 1, 255, 25, false⟩]

/-- The parameters of subsystem 3 (R138). -/
def params03 : List PRow := [
  ⟨0x0301, 4, 0, 0, 0, 1, false, 5, 9, 8, false⟩,
  ⟨0x0302, 14, 0, 0, 0, 1, false, 0, 16383, 0, false⟩,
  ⟨0x0303, 3, 0, 0, 0, 1, false, 0, 4, 3, false⟩,
  ⟨0x0304, 8, 0, 2, 0, 64, false, 0, 255, 48, false⟩,
  ⟨0x0305, 12, 0, 2, 0, 64, false, 1, 4095, 2, false⟩,
  ⟨0x0306, 1, 0, 0, 0, 1, false, 0, 1, 0, false⟩,
  ⟨0x0310, 2, 0, 0, 0, 1, false, 0, 2, 0, false⟩,
  ⟨0x0311, 6, 0, 0, 0, 1, false, 1, 63, 4, false⟩,
  ⟨0x0312, 7, 0, 0, 0, 1, false, 1, 64, 8, false⟩,
  ⟨0x0320, 1, 0, 3, 0, 1024, false, 0, 1, 0, false⟩,
  ⟨0x0321, 5, 0, 0, 0, 1, false, 1, 16, 8, false⟩,
  ⟨0x0322, 11, 0, 0, 0, 1, false, 0, 1536, 1536, false⟩,
  ⟨0x0323, 20, 0, 0, 0, 1, false, 1000, 1000000, 40000, false⟩]

/-- The parameters of subsystem 4 (R170). -/
def params04 : List PRow := [
  ⟨0x0401, 1, 0, 2, 0, 64, false, 0, 1, 0, false⟩,
  ⟨0x0402, 2, 0, 2, 0, 64, false, 0, 3, 0, false⟩,
  ⟨0x0403, 8, 0, 2, 0, 64, false, 0, 255, 72, false⟩,
  ⟨0x0404, 2, 0, 2, 0, 64, false, 0, 2, 0, false⟩,
  ⟨0x0405, 3, 0, 2, 0, 64, false, 1, 4, 2, false⟩,
  ⟨0x0406, 6, 0, 2, 0, 64, false, 1, 32, 3, false⟩,
  ⟨0x0407, 1, 0, 2, 0, 64, false, 0, 1, 0, false⟩,
  ⟨0x0408, 3, 0, 0, 0, 1, false, 1, 7, 3, false⟩,
  ⟨0x0409, 8, 0, 0, 0, 1, false, 1, 255, 2, false⟩,
  ⟨0x040A, 8, 0, 0, 0, 1, false, 1, 255, 16, false⟩,
  ⟨0x040B, 24, 0, 0, 0, 1, false, 4194304, 5242879, 4915200, false⟩,
  ⟨0x040C, 16, 0, 3, 0, 1024, true, -32768, 32767, 0, false⟩,
  ⟨0x040D, 16, 0, 0, 0, 1, false, 0, 10000, 200, false⟩,
  ⟨0x040E, 8, 0, 0, 0, 1, false, 16, 255, 32, false⟩,
  ⟨0x040F, 8, 0, 0, 0, 1, false, 1, 255, 64, false⟩,
  ⟨0x0410, 1, 0, 0, 0, 1, false, 0, 1, 1, false⟩,
  ⟨0x0411, 1, 0, 0, 0, 1, false, 0, 1, 1, false⟩]

/-- The parameters of subsystem 5 (R205). -/
def params05 : List PRow := [
  ⟨0x0501, 8, 0, 4, 0, 16, false, 0, 255, 0, false⟩,
  ⟨0x0502, 15, 0, 4, 0, 16, false, 0, 31999, 0, true⟩,
  ⟨0x0503, 9, 0, 0, 0, 1, false, 100, 300, 200, false⟩,
  ⟨0x0504, 5, 0, 0, 0, 1, false, 2, 24, 8, false⟩,
  ⟨0x0505, 2, 0, 4, 0, 16, false, 0, 3, 0, false⟩,
  ⟨0x0506, 8, 0, 4, 0, 16, false, 0, 255, 255, false⟩,
  ⟨0x0507, 7, 0, 4, 0, 16, false, 0, 64, 0, false⟩,
  ⟨0x0508, 2, 0, 4, 0, 16, false, 0, 3, 0, true⟩,
  ⟨0x0509, 16, 0, 0, 0, 1, false, 100, 60000, 2000, false⟩,
  ⟨0x050A, 3, 0, 0, 0, 1, false, 0, 4, 4, false⟩,
  ⟨0x0520, 1, 1, 0, 0, 1, false, 0, 1, 0, false⟩,
  ⟨0x0521, 8, 1, 0, 0, 1, false, 0, 255, 13, false⟩,
  ⟨0x0522, 8, 1, 0, 0, 1, false, 0, 255, 3, false⟩,
  ⟨0x0523, 8, 1, 0, 0, 1, false, 32, 255, 160, false⟩,
  ⟨0x0524, 4, 1, 0, 0, 1, false, 1, 15, 4, false⟩,
  ⟨0x0525, 8, 1, 0, 0, 1, false, 0, 255, 64, false⟩,
  ⟨0x0526, 8, 1, 0, 0, 1, false, 0, 255, 230, false⟩]

/-- The parameters of subsystem 6 (R236). -/
def params06 : List PRow := [
  ⟨0x0601, 3, 1, 5, 0, 4, false, 0, 4, 0, false⟩,
  ⟨0x0602, 15, 1, 5, 0, 4, false, 1250, 25000, 5000, false⟩,
  ⟨0x0603, 4, 1, 5, 0, 4, false, 0, 15, 1, false⟩,
  ⟨0x0604, 16, 1, 5, 0, 4, true, -32768, 32767, 0, false⟩,
  ⟨0x0605, 15, 1, 5, 0, 4, false, 0, 32767, 512, false⟩,
  ⟨0x0606, 15, 1, 5, 0, 4, false, 1, 32767, 16, false⟩,
  ⟨0x0607, 32, 1, 5, 0, 4, false, 2000000, 2000000000, 40000000, false⟩,
  ⟨0x0608, 15, 1, 5, 0, 4, false, 1, 32767, 256, false⟩,
  ⟨0x0609, 15, 1, 5, 0, 4, false, 1, 32767, 16, false⟩,
  ⟨0x060A, 16, 1, 5, 0, 4, false, 1, 65535, 25, false⟩,
  ⟨0x060B, 16, 1, 5, 0, 4, false, 1, 65535, 2000, false⟩,
  ⟨0x060C, 2, 1, 5, 0, 4, false, 0, 3, 0, false⟩,
  ⟨0x060D, 16, 1, 5, 0, 4, true, -32768, 32767, 0, false⟩,
  ⟨0x0620, 2, 2, 0, 0, 1, false, 0, 3, 0, false⟩,
  ⟨0x0621, 4, 2, 0, 0, 1, false, 1, 15, 5, false⟩,
  ⟨0x0622, 32, 0, 0, 0, 1, false, 0, 4294967295, 0, false⟩,
  ⟨0x0623, 1, 1, 0, 0, 1, false, 0, 1, 0, false⟩,
  ⟨0x0624, 32, 1, 0, 0, 1, false, 200000, 2000000000, 8000000, false⟩,
  ⟨0x0625, 32, 1, 0, 0, 1, false, 0, 4294967295, 0, false⟩,
  ⟨0x0626, 15, 1, 0, 0, 1, false, 1, 8191, 16, false⟩,
  ⟨0x0627, 16, 1, 0, 0, 1, false, 1, 65535, 1000, false⟩,
  ⟨0x0628, 32, 0, 0, 0, 1, false, 0, 4294967295, 0, false⟩,
  ⟨0x0629, 32, 0, 0, 0, 1, false, 1, 4294967295, 3435973837, false⟩,
  ⟨0x0630, 3, 1, 10, 0, 16, false, 0, 7, 1, true⟩,
  ⟨0x0631, 2, 1, 10, 0, 16, false, 1, 3, 1, false⟩,
  ⟨0x0632, 16, 1, 10, 0, 16, false, 4, 65535, 4, false⟩,
  ⟨0x0633, 20, 1, 10, 0, 16, false, 1000, 1000000, 100000, false⟩]

/-- The parameters of subsystem 7 (R260). -/
def params07 : List PRow := [
  ⟨0x0701, 1, 1, 6, 0, 8, false, 0, 1, 0, false⟩,
  ⟨0x0702, 3, 1, 6, 0, 8, false, 0, 4, 0, false⟩,
  ⟨0x0703, 2, 1, 6, 0, 8, false, 0, 2, 0, false⟩,
  ⟨0x0704, 3, 1, 6, 0, 8, false, 0, 7, 3, false⟩,
  ⟨0x0705, 5, 1, 6, 0, 8, false, 5, 25, 10, false⟩,
  ⟨0x0706, 2, 1, 6, 0, 8, false, 0, 2, 2, false⟩,
  ⟨0x0707, 4, 1, 6, 0, 8, false, 0, 8, 8, false⟩,
  ⟨0x0708, 8, 1, 6, 0, 8, false, 1, 255, 4, false⟩,
  ⟨0x0709, 9, 1, 6, 0, 8, false, 16, 256, 40, false⟩,
  ⟨0x070A, 6, 1, 6, 0, 8, false, 2, 40, 25, false⟩,
  ⟨0x070B, 1, 1, 6, 0, 8, false, 0, 1, 0, false⟩,
  ⟨0x070C, 1, 1, 6, 0, 8, false, 0, 1, 1, false⟩,
  ⟨0x070D, 32, 1, 6, 0, 8, false, 0, 4294967295, 0, false⟩,
  ⟨0x070E, 2, 1, 6, 0, 8, false, 0, 2, 0, false⟩,
  ⟨0x070F, 4, 1, 6, 0, 8, false, 4, 15, 10, false⟩,
  ⟨0x0710, 8, 1, 6, 0, 8, false, 1, 255, 16, false⟩]

/-- The parameters of subsystem 8 (R367). -/
def params08 : List PRow := [
  ⟨0x0801, 2, 1, 0, 0, 1, false, 0, 2, 0, false⟩,
  ⟨0x0802, 1, 1, 0, 0, 1, false, 0, 1, 0, false⟩,
  ⟨0x0803, 16, 1, 0, 0, 1, false, 1536, 65535, 34997, false⟩,
  ⟨0x0804, 14, 1, 0, 0, 1, false, 3136, 9216, 9000, false⟩,
  ⟨0x0805, 20, 1, 0, 0, 1, false, 0, 1048575, 274960, false⟩,
  ⟨0x0806, 10, 1, 0, 0, 1, false, 1, 1000, 20, false⟩,
  ⟨0x0807, 1, 1, 0, 0, 1, false, 0, 1, 0, false⟩,
  ⟨0x0808, 48, 2, 8, 0, 2, false, 0, 281474976710655, 0, true⟩,
  ⟨0x0809, 1, 1, 0, 0, 1, false, 0, 1, 1, false⟩,
  ⟨0x0810, 1, 1, 0, 0, 1, false, 0, 1, 0, false⟩,
  ⟨0x0811, 8, 1, 0, 0, 1, false, 0, 127, 0, false⟩,
  ⟨0x0812, 3, 1, 0, 0, 1, false, 0, 7, 0, false⟩,
  ⟨0x0818, 2, 1, 0, 0, 1, false, 0, 2, 0, false⟩,
  ⟨0x0819, 32, 1, 0, 0, 1, true, -2147483648, 2147483647, 2094395, false⟩,
  ⟨0x081A, 8, 1, 0, 0, 1, false, 1, 255, 20, false⟩,
  ⟨0x0820, 2, 1, 0, 0, 1, false, 0, 3, 0, false⟩,
  ⟨0x0821, 2, 1, 0, 0, 1, false, 0, 3, 0, false⟩,
  ⟨0x0822, 1, 1, 0, 0, 1, false, 0, 1, 1, false⟩]

/-- The parameters of subsystem 9 (R394). -/
def params09 : List PRow := [
  ⟨0x0901, 1, 1, 7, 0, 10, false, 0, 1, 1, false⟩,
  ⟨0x0902, 1, 1, 7, 0, 8, false, 0, 1, 0, false⟩,
  ⟨0x0903, 3, 1, 7, 0, 10, false, 0, 4, 3, true⟩,
  ⟨0x0904, 3, 1, 7, 0, 10, false, 0, 4, 0, false⟩,
  ⟨0x0905, 3, 1, 7, 0, 10, false, 1, 7, 2, false⟩,
  ⟨0x0906, 16, 1, 7, 0, 10, false, 10, 60000, 1000, false⟩,
  ⟨0x0907, 16, 1, 7, 0, 10, false, 1, 65535, 100, false⟩,
  ⟨0x0908, 1, 1, 7, 0, 8, false, 0, 1, 1, false⟩,
  ⟨0x0909, 1, 2, 7, 0, 10, false, 0, 1, 0, false⟩,
  ⟨0x090A, 1, 2, 7, 0, 10, false, 0, 1, 0, false⟩,
  ⟨0x090B, 32, 1, 7, 0, 10, false, 0, 4294967295, 0, false⟩,
  ⟨0x090C, 14, 1, 7, 0, 10, false, 10, 10000, 500, false⟩]

/-- The parameters of subsystem 10 (R427). -/
def params10 : List PRow := [
  ⟨0x0A01, 1, 2, 0, 0, 1, false, 0, 1, 0, false⟩,
  ⟨0x0A02, 4, 1, 0, 0, 1, false, 1, 15, 8, false⟩,
  ⟨0x0A03, 8, 1, 0, 0, 1, false, 0, 255, 8, false⟩,
  ⟨0x0A04, 8, 1, 0, 0, 1, false, 1, 255, 2, false⟩,
  ⟨0x0A05, 32, 2, 0, 0, 1, false, 0, 4294967295, 0, false⟩,
  ⟨0x0A06, 10, 1, 0, 0, 1, false, 16, 1000, 64, false⟩,
  ⟨0x0A10, 1, 1, 0, 0, 1, false, 0, 1, 0, false⟩,
  ⟨0x0A11, 8, 1, 0, 0, 1, false, 0, 255, 128, false⟩,
  ⟨0x0A12, 14, 1, 0, 0, 1, false, 1, 10000, 100, false⟩,
  ⟨0x0A13, 32, 1, 0, 0, 1, false, 200000, 2000000000, 8000000, false⟩,
  ⟨0x0A14, 5, 1, 0, 0, 1, false, 1, 16, 1, false⟩,
  ⟨0x0A15, 16, 1, 0, 0, 1, false, 0, 65535, 65535, false⟩,
  ⟨0x0A16, 1, 1, 0, 0, 1, false, 0, 1, 0, false⟩,
  ⟨0x0A17, 14, 1, 0, 0, 1, false, 1, 10000, 100, false⟩,
  ⟨0x0A18, 10, 1, 0, 0, 1, false, 20, 1000, 40, false⟩,
  ⟨0x0A19, 3, 1, 11, 1, 15, false, 0, 7, 0, false⟩,
  ⟨0x0A1A, 4, 1, 0, 0, 1, false, 1, 15, 1, false⟩]

/-- The parameters of subsystem 11 (R529). -/
def params11 : List PRow := [
  ⟨0x0B01, 8, 1, 0, 0, 1, false, 60, 125, 115, false⟩,
  ⟨0x0B02, 8, 1, 0, 0, 1, false, 70, 125, 125, false⟩,
  ⟨0x0B03, 1, 1, 0, 0, 1, false, 0, 1, 0, false⟩,
  ⟨0x0B04, 4, 1, 0, 0, 1, false, 0, 8, 0, false⟩,
  ⟨0x0B05, 12, 2, 0, 0, 1, false, 50, 4000, 500, false⟩]

/-- The parameters of subsystem 12 (R301). -/
def params12 : List PRow := [
  ⟨0x0C01, 3, 1, 0, 0, 1, false, 0, 7, 4, false⟩,
  ⟨0x0C02, 10, 1, 9, 0, 4, false, 1, 1023, 512, false⟩,
  ⟨0x0C03, 8, 1, 9, 0, 4, false, 1, 255, 16, false⟩,
  ⟨0x0C04, 16, 1, 4, 0, 16, false, 1, 65535, 1024, false⟩,
  ⟨0x0C05, 6, 1, 0, 0, 1, false, 0, 63, 8, false⟩,
  ⟨0x0C06, 16, 1, 0, 0, 1, false, 0, 65535, 65535, false⟩,
  ⟨0x0C07, 8, 1, 0, 0, 1, false, 16, 180, 160, false⟩]

/-- The parameters of subsystem 13 (R321). -/
def params13 : List PRow := [
  ⟨0x0D01, 1, 1, 0, 0, 1, false, 0, 1, 1, false⟩,
  ⟨0x0D02, 5, 1, 0, 0, 1, false, 16, 26, 20, false⟩,
  ⟨0x0D03, 10, 1, 0, 0, 1, false, 1, 1023, 64, false⟩,
  ⟨0x0D04, 14, 1, 0, 0, 1, false, 0, 10080, 60, false⟩,
  ⟨0x0D05, 16, 1, 0, 0, 1, false, 1, 65535, 2000, false⟩,
  ⟨0x0D06, 32, 0, 0, 0, 1, true, -16384, 16384, 0, false⟩]

/-- The parameters of subsystem 14 (R503). -/
def params14 : List PRow := [
  ⟨0x0E01, 3, 2, 0, 0, 1, false, 0, 4, 0, false⟩,
  ⟨0x0E02, 2, 2, 0, 0, 1, false, 0, 2, 0, false⟩,
  ⟨0x0E03, 14, 2, 0, 0, 1, false, 0, 8192, 512, false⟩,
  ⟨0x0E04, 11, 2, 0, 0, 1, false, 0, 1024, 64, false⟩,
  ⟨0x0E05, 8, 1, 0, 0, 1, false, 1, 168, 24, false⟩,
  ⟨0x0E06, 11, 1, 0, 0, 1, false, 100, 2000, 2000, false⟩,
  ⟨0x0E07, 10, 1, 0, 0, 1, false, 0, 1000, 200, false⟩,
  ⟨0x0E08, 3, 1, 0, 0, 1, false, 0, 7, 7, false⟩,
  ⟨0x0E09, 3, 1, 0, 0, 1, false, 0, 7, 7, false⟩,
  ⟨0x0E0A, 1, 1, 0, 0, 1, false, 0, 1, 1, false⟩,
  ⟨0x0E0B, 2, 1, 0, 0, 1, false, 0, 3, 0, false⟩]

/-- Every parameter, by rising ID. -/
def params : List PRow :=
  params00 ++ params01 ++ params02 ++ params03 ++ params04 ++ params05 ++ params06 ++ params07 ++ params08 ++ params09 ++ params10 ++ params11 ++ params12 ++ params13 ++ params14

/-- The entry of an ID, if the ID is defined. -/
def paramRow (id : Nat) : Option PRow := params.find? (fun r => r.id == id)

/-- The six octets of a default STREAM.SRC_MAC (R367, R553) from SERIAL_LO: A begins with 02, B with 06. -/
def defaultMac (path serialLo : Nat) : Nat :=
  (if path = 0 then 0x02 else 0x06) + 0xEC * 2 ^ 8 + 0x10 * 2 ^ 16 + serialLo / 2 ^ 16 % 256 * 2 ^ 24
    + serialLo / 2 ^ 8 % 256 * 2 ^ 32 + serialLo % 256 * 2 ^ 40

/-- Default of a parameter that depends on the index or on the part (serial number, grade). -/
def paramDefault (serialLo grade : Nat) (r : PRow) (i : Nat) : Nat :=
  if r.id = pTpSource then (if i = 0 then 1 else if i = 1 then 2 else 0)
  else if r.id = pEmitStagger then i * 2000
  else if r.id = pEmitBank then i / 4
  else if r.id = pLaneMaxRate then (if i < 8 then 3 else 4)
  else if r.id = pPassportSalt then serialLo % 4096
  else if r.id = pStreamSrcMac then defaultMac i serialLo
  else if r.id = pHealthThrottleLimit then (if grade = 1 then 100 else 115)
  else if r.id = pHealthTempCritical then (if grade = 1 then 110 else 125)
  else r.dflt

/-- Whether the index lies in the scope. -/
def PRow.hasIndex (r : PRow) (i : Nat) : Bool := decide (r.first ≤ i) && decide (i < r.first + r.count)

end Sys2Proof.Machine
end

