-- ==== Sys2Proof/Machine/State.lean ====
section
/-! DEFINITION. Machine/State.lean: all the state the specification gives the EC1024, as plain data, the
reasons a step may stop with, and the state right after power-on reset. Instants are device-time or elapsed
ticks of 7.8125 ps (log entry 2). Indexed state is a `Tab` whose absent entries hold the structure's defaults. -/

namespace Sys2Proof.Machine

/-! ### Front desk (spec 14) -/

/-- One event entry (R455): code, sequence, device time in coarse cycles, data bytes. -/
structure Ev where
  code : Nat
  seq  : Word
  time : Nat
  data : List Byte
  deriving DecidableEq, Repr

/-- Where an in-band request came from (R434, R437): link, source MAC, VLAN tag, protection, transaction. -/
structure InBand where
  lane    : Nat
  src     : Nat
  tci     : Option Nat
  secured : Bool
  trans   : Nat
  deriving DecidableEq, Repr

/-- A management or window reply handed to the MAC (R435, R497). -/
structure Reply where
  lane      : Nat
  dst       : Nat
  etherType : Nat
  tci       : Option Nat
  secured   : Bool
  body      : List Byte
  deriving DecidableEq, Repr

/-- One mailbox (R446, R447): state 0 IDLE, 1 BUSY, 2 DONE; the 256-byte buffer as cells (unlisted reads 0);
`rungAt` is the cycle of its last doorbell (R448). -/
structure Mailbox where
  st           : Nat := 0
  overrun      : Bool := false
  writeIgnored : Bool := false
  inBand       : Bool := false
  completed    : CntW := {}
  lastResult   : Nat := 0
  lastOpcode   : Nat := 0
  buf          : List Host.Cell := []
  origin       : Option InBand := none
  lastOrigin   : Option InBand := none
  lastKind2    : List Byte := []
  rungAt       : Option Nat := none
  deriving DecidableEq, Repr

/-- A host's W1C clear of ATTENTION in one cycle of the C domain (R6, R445): the cycle, the bits it cleared, and ATTN_N and the moderation
timer as they were before. -/
structure AttnClear where
  cyc   : Nat
  bits  : Word
  pin   : Bool
  timer : Option Nat
  deriving DecidableEq, Repr

/-- Debug authentication in progress (R469): nonce, level asked, instant issued. -/
structure Challenge where
  nonce : List Byte
  level : Nat
  at_   : Nat
  deriving DecidableEq, Repr

/-- The front desk (R431 to R433, R439 to R448, R455, R462 to R469). `miso` holds the data bits HSPI_MOSI's last read was answered with
on HSPI_MISO, none while it is in high impedance; `logDue` the event entries on their way to stream channel 9, oldest first (R455, R481);
`setAt` and `setBits` the cycle of the last hardware set of ATTENTION and the bits set in it, `clr` the last clear (R6, R445); `rom` the
boot ROM has run (R466); `fwWait` the mailboxes whose flash requests wait for the flash, oldest first (R448, R468). -/
structure Desk where
  st         : Nat := 1
  health     : Nat := 0
  recovery   : Bool := false
  lab        : Bool := false
  debug      : Nat := 0
  confirmed  : Bool := false
  slot       : Nat := 0
  trial      : Bool := false
  pendStop   : Bool := false
  pendExit   : Bool := false
  pendRun    : Bool := false
  attention  : Word := 0
  attnEnable : Word := 0x0C00#32
  attnDelay  : Nat := 0
  attnTimer  : Option Nat := none
  setAt      : Option Nat := none
  setBits    : Word := 0
  clr        : Option AttnClear := none
  resetCause : Nat := 1
  held       : CntS := {}
  fwVersion  : Word := 0
  eventCount : CntW := {}
  events     : List Ev := []
  lostCount  : Nat := 0
  lostFirst  : Nat := 0
  mbs        : Tab Mailbox := []
  waiting    : List Nat := []
  snap       : List Word := []
  challenge  : Option Challenge := none
  debugFails : Nat := 0
  cmdReset   : Option Nat := none
  replies    : Tab (Option Reply) := []
  erase      : Option Nat := none
  pendFallback : Option (Nat × Nat) := none
  miso       : Option (List Bool) := none
  logDue     : List (List Byte) := []
  rom        : Bool := false
  fwWait     : List Nat := []
  deriving DecidableEq, Repr

/-! ### Frame-shadowed sets and parameters (spec 00, 01, 14) -/

/-- A channel-map entry (R54). -/
structure ChMap where
  row : Nat
  col : Nat
  str : Nat
  em  : Nat
  nbr : List Nat
  deriving DecidableEq, Repr

/-- An energy-curve slot (R194, R208): the filling formula (0 logarithmic with span in 0.1 dB, 1 gamma in
Q4.12) and the entries written since. -/
structure Curve where
  gamma : Bool := false
  shape : Nat := 300
  ovr   : Tab (Option Nat) := []
  deriving DecidableEq, Repr

/-- A matched-filter template slot (R151): taps and anchor. -/
structure Tmpl where
  taps   : List Nat
  anchor : Nat
  deriving DecidableEq, Repr

/-- A set of frame-shadowed settings (R27, R460): parameter values by key `id × 65,536 + index` (absent: the
default), channel map, templates, curves, itinerary image; `fades` has bit s when the set contains a write
of STRING_s's fade parameters (R195). -/
structure SetImg where
  vals    : Tab (Option Nat) := []
  chmap   : Tab (Option ChMap) := []
  tmpl    : Tab (Option Tmpl) := []
  curves  : Tab Curve := []
  itin    : List Host.Cell := []
  itinHas : Bool := false
  fades   : Nat := 0
  deriving DecidableEq, Repr

/-- A host sealed set (R27 to R30, R554): the snapshot, which owned settings it carries (in host mode when
sealed), and the first frame it governs. -/
structure Sealed where
  img    : SetImg
  coinc  : Bool
  family : Bool
  plan   : Bool
  first  : Nat
  deriving DecidableEq, Repr

/-- A service set (R92, R203): owned parameter values by key, the planner's image, the first frame. -/
structure SvcSealed where
  vals  : Tab (Option Nat) := []
  image : Option (List Host.Cell) := none
  first : Nat := 0
  deriving DecidableEq, Repr

/-- A seal that awaits the judgement of its timeliness (R28): host seals name their mailbox. -/
structure Awaiting where
  mb     : Option Nat
  tag    : Nat
  at_    : Nat
  host   : Option Sealed
  svc    : Option SvcSealed
  deriving DecidableEq, Repr

/-- Parameters and sets (R7, R27 to R33, R92, R169). `gen` is the 1-bit set generation in force. -/
structure Par where
  shadow    : SetImg := {}
  inForce   : SetImg := {}
  prev      : SetImg := {}
  gen       : Nat := 0
  im        : Tab (Option Nat) := []
  bo        : Tab (Option Nat) := []
  boBoot    : Tab (Option Nat) := []
  timely    : Option Sealed := none
  late      : Option Sealed := none
  svcTimely : Option SvcSealed := none
  svcLate   : Option SvcSealed := none
  awaiting  : List Awaiting := []
  deriving DecidableEq, Repr

/-! ### Channels (spec 02), ambient and coincidence (spec 03) -/

/-- An event that awaits its gate's decision (R61, R88, R91, R105): stamp in ticks, generation of the set that governs it (that of
its most recent covering shot), whether it lay outside the return region when stamped. -/
structure QEnt where
  stamp : Nat
  gen   : Nat
  out   : Bool
  deriving DecidableEq, Repr

/-- A point of a channel still of interest (R120): identity, its page if binned, whether it merged, shots
fired so far, first and last fire stamps, the cause when not binned (R125), whether it has ended, the set generation of its shots,
the shed count of a point that is not binned (R71) and its cell's index in the line. -/
structure PtRef where
  frame  : Nat
  line   : Nat
  point  : Nat
  page   : Option Nat
  merged : Bool
  shots  : Nat
  first  : Nat
  last   : Nat
  cause  : Nat
  ended  : Bool
  gen    : Nat := 0
  shed   : Nat := 0
  cell   : Nat := 0
  deriving DecidableEq, Repr

/-- Ambient sums of one finished interval of a channel (R83, R84). -/
structure AmbHist where
  frame : Nat
  line  : Nat
  idx   : Nat
  a     : Nat
  l     : Nat
  deriving DecidableEq, Repr

/-- One detector channel (R50 to R53, R69 to R72, R78, R83), armed at reset: log entry 125 (DESIGN CHOICE). `queue` holds the 22-bit
entries of R61, `det` the input's level, `ambLate` the stamps counted after every range window of the line so far,
`enSince` the instant the channel was last enabled, `dropLogs` the frames for which TALLY_SHOTS_DROPPED was logged (R125). -/
structure Chan where
  armed     : Bool := true
  det       : Bool := false
  detSince  : Nat := 0
  last      : Nat := 0
  offs      : List (Nat × Nat) := []
  recent    : List Nat := []
  pend      : List QEnt := []
  queue     : List Nat := []
  shedding  : Bool := false
  shedTotal : CntW := {}
  attrOver  : CntW := {}
  stamped   : Nat := 0
  queued    : Nat := 0
  satPoints : CntS := {}
  silent    : Bool := false
  stuckFr   : Bool := false
  frStamped : Bool := false
  frSatLog  : Bool := false
  frShed    : CntS := {}
  frAttr    : CntS := {}
  dropLogs  : List Nat := []
  enSince   : Nat := 0
  lnQueued  : Nat := 0
  lnShed    : Nat := 0
  ambA      : Nat := 0
  ambLate   : List Nat := []
  region    : List Nat := []
  hist      : List AmbHist := []
  pts       : List PtRef := []
  ptNew     : Nat := 0
  deriving DecidableEq, Repr

/-- A running event capture (R79). -/
structure Capture where
  chan    : Nat
  count   : Nat
  until_  : Nat
  stamps  : List Nat
  mb      : Nat
  tag     : Nat
  deriving DecidableEq, Repr

/-- The ambient figures of a rod (R85 to R88, R94, R105). -/
structure AmbRod where
  lam     : Nat := 0
  disp    : Nat := 256
  fb      : Bool := false
  lc      : Bool := false
  rejects : Nat := 0
  v       : CntS := {}
  u       : CntS := {}
  lamMax  : Nat := 0
  lamSum  : Nat := 0
  lamN    : Nat := 0
  cur     : Nat := 0
  cellN   : Nat := 0
  cellB   : Nat := 0
  fbFr    : Nat := 0
  deriving DecidableEq, Repr

/-- An open ambient interval (R81); `close` is the latest close of a range window of its line, 0 while no shot of it fired. -/
structure Interval where
  start : Nat
  frame : Nat
  line  : Nat
  idx   : Nat
  close : Nat := 0
  deriving DecidableEq, Repr

/-- Ambient estimator, coincidence services and passport seeds (spec 03); `seeded` once N and SALT have been latched (R101). -/
structure Amb where
  interval   : Option Interval := none
  nextIdx    : Nat := 0
  rods       : Tab AmbRod := []
  pubFrame   : Nat := 0
  pubIdx     : Nat := 0
  lcDeck     : Tab Nat := []
  lastSwitch : Option Nat := none
  seedN      : Nat := 0
  seedSalt   : Nat := 0
  seedRing   : Bool := false
  seeded     : Bool := false
  deriving DecidableEq, Repr

/-! ### Tally engines (spec 04) -/

/-- Page descriptor (R119); `win` lists the placed window starts in order. -/
structure Desc where
  gen       : Nat := 0
  frame     : Nat := 0
  line      : Nat := 0
  point     : Nat := 0
  first     : Nat := 0
  last      : Nat := 0
  shots     : Nat := 0
  fineShots : Nat := 0
  shed      : Nat := 0
  b         : Nat := 0
  f         : Nat := 0
  o         : Nat := 0
  zoom      : Nat := 0
  merged    : Bool := false
  sat       : Bool := false
  carryFb   : Bool := false
  win       : List Nat := []
  deriving DecidableEq, Repr

/-- One page (R118, R121): state 0 FREE, 1 OPEN, 2 HELD, 3 CLOSED; bins by index (fine bin j of window w
at 64w + j). `scout`: 0 no run, 1 waiting, 2 running, 3 finished. `raw` holds the raw marks of its cell, `lastPt` and `lastLine` the last point merged; `stackDue` while an admitted
stacking read is due, `newEnt` when it allocates a stack entry. -/
structure Page where
  st       : Nat := 0
  coarse   : Tab Nat := []
  fine     : Tab Nat := []
  d        : Desc := {}
  raw      : Nat := 0
  seff     : Nat := 0
  scout    : Nat := 0
  scoutAt  : Nat := 0
  lastPt   : Nat := 0
  lastLine : Nat := 0
  points   : Nat := 0
  endedAt  : Nat := 0
  slotEnd  : Option Nat := none
  stackDue : Bool := false
  newEnt   : Bool := false
  cellKey  : Nat := 0
  deriving DecidableEq, Repr

/-- A fine part held while a scout run is due (R128): page key, shot Δ. -/
structure FineHold where
  page  : Nat
  delta : Nat
  deriving DecidableEq, Repr

/-- The tally engine of a rod (R15, R112, R128, R139, R141). -/
structure TalRod where
  rr        : Nat := 0
  run       : Option (Nat × Nat) := none
  hold      : List FineHold := []
  closed    : Nat := 0
  incs      : Nat := 0
  mergedC   : CntW := {}
  dropped   : CntW := {}
  satPages  : CntW := {}
  empty     : CntW := {}
  frMerged  : Nat := 0
  frSat     : Nat := 0
  deriving DecidableEq, Repr

/-- A stack entry (R133), keyed by channel, line and point. -/
structure StackEnt where
  chan   : Nat
  line   : Nat
  point  : Nat
  first  : Nat
  frames : Nat
  shots  : Nat
  b      : Nat
  o      : Nat
  counts : Tab Nat
  deriving DecidableEq, Repr

/-- A deck's stacking port (R134 to R136, R140) and its point count of the frame (R18). -/
structure TalDeck where
  points    : Nat := 0
  weight    : Nat := 1
  allow     : Nat := 0
  charged   : Nat := 0
  admitted  : Nat := 0
  refused0  : Nat := 0
  refused1  : Nat := 0
  first0    : Nat := 0
  first1    : Nat := 0
  exported  : Nat := 0
  restarts  : CntW := {}
  lFrame    : Nat := 0
  lAllow    : Nat := 0
  lCharged  : Nat := 0
  lAdmitted : Nat := 0
  lRefused  : Nat := 0
  lExported : Nat := 0
  deriving DecidableEq, Repr

/-- Tally engines, pages (key 2c + p) and stacking; `resume` is the first frame that contributes after entries in progress
were dropped (R136), `prevFbe` the FBE before (R134). -/
structure Tally where
  pages   : Tab Page := []
  rods    : Tab TalRod := []
  decks   : Tab TalDeck := []
  stack   : List StackEnt := []
  resume  : Option Nat := none
  prevFbe : Option Nat := none
  deriving DecidableEq, Repr

/-! ### Records (spec 11) -/

/-- A formed record, or a RAW_KEY with its FINE_WINDOW records (R341): type, class, scan frame, set generation, line,
point index, channel, records in the header's count, records counted (a RAW_KEY is not), bytes. -/
structure Rec where
  typ   : Nat
  cls   : Nat
  frame : Nat
  gen   : Nat
  line  : Nat := 0
  point : Nat := 0
  chan  : Nat := 0
  nrec  : Nat := 1
  items : Nat := 1
  bytes : List Byte
  deriving DecidableEq, Repr

/-! ### Extractors (spec 05) -/

/-- A waiting page group (R16): rod, H cycle of its close, page keys not yet served. -/
structure Group where
  rod   : Nat
  at_   : Nat
  pages : List Nat
  deriving DecidableEq, Repr

/-- One return of a point as the extractor forms it (R157 to R168). `tq` is t_R in 1/256 tick. -/
structure Ret where
  bin     : Nat
  win     : Option Nat
  tq      : Nat
  range   : Nat
  intens  : Nat
  width   : Nat
  quality : Nat
  flags   : Nat
  diffuse : Bool
  deriving DecidableEq, Repr

/-- The page in service (R142, R143): its key, the point it holds, slot start, reported and suppressed returns, the
records formed. -/
structure Service where
  page    : Nat
  frame   : Nat
  line    : Nat
  first   : Nat
  last    : Nat
  gen     : Nat
  chan    : Nat
  cellKey : Nat
  start   : Nat
  rep     : List Ret
  sup     : List Ret
  recs    : List Rec
  deriving DecidableEq, Repr

/-- A deck's extractor (R142 to R147, R172, R173); `busyUntil` is the end of its latest service slot in 1/5 tick. -/
structure ExtDeck where
  queue     : List Group := []
  busyUntil : Nat := 0
  services  : List Service := []
  served    : Nat := 0
  reported  : Nat := 0
  suppr     : CntW := {}
  candDrop  : CntW := {}
  holds     : CntW := {}
  discarded : CntW := {}
  pileup    : CntW := {}
  peak      : Nat := 0
  frCand    : Nat := 0
  frPile    : Nat := 0
  deriving DecidableEq, Repr

/-- A channel's latest extracted point (R82, R129, R143). -/
structure LastPt where
  frame : Nat
  line  : Nat
  done  : Nat
  rep   : List Nat
  sup   : List Nat
  deriving DecidableEq, Repr

/-- Extractors and the points handed back. -/
structure Ext where
  decks   : Tab ExtDeck := []
  last    : Tab (List LastPt) := []
  frLimit : Nat := 0
  frHolds : Nat := 0
  deriving DecidableEq, Repr

/-! ### Shot scheduler (spec 06) -/

/-- A cell of a line (R177) with the defaults resolved. -/
structure Cell where
  k      : Nat
  n      : Nat
  zoom   : Nat
  b      : Nat
  f      : Nat
  raw    : Nat
  o      : Nat
  gating : Nat
  masks  : List Nat
  codes  : List Nat
  deriving DecidableEq, Repr

/-- A shot of recent times (R60, R65, R120): `nth` counts the emitter's fired shots of the point from 1, `first` is the
point's first fire stamp on the emitter;
`gate` is the gating mask as a 1,024-bit number, none when every channel is on. -/
structure Shot where
  str   : Nat
  em    : Nat
  stamp : Nat
  first : Nat
  frame : Nat
  line  : Nat
  point : Nat
  nth   : Nat
  cell  : Nat
  n     : Nat
  zoom  : Nat
  b     : Nat
  f     : Nat
  o     : Nat
  raw   : Nat
  gate  : Option Nat
  gen   : Nat
  deriving DecidableEq, Repr

/-- An edge placed at a set instant and not yet fired (R187, R192): whether this device drives it (R403), was moved by a
separation shift (R188), is capped (R196); `launch` is when its edge leaves the FIRE path, in 1/16 tick: the string's path delay
early (R190, R316). -/
structure Placed where
  slot : Nat
  em   : Nat
  edge : Nat
  launch : Int
  iset : Nat
  drive : Bool
  shift : Bool
  capped : Bool
  deriving DecidableEq, Repr

/-- A fade in progress (R35). -/
structure Fade where
  e0 : Nat
  et : Nat
  l  : Nat
  j  : Nat
  deriving DecidableEq, Repr

/-- A string's scheduler state and outputs (R96 to R101, R187 to R195). `shunt` has bit e while SHUNT_s_e is
low (open). -/
structure Strng where
  order    : Nat := 0
  dither   : Nat := 0
  nextSlot : Nat := 0
  perm     : List Nat := []
  placed   : Option Placed := none
  lvl      : Nat := 255
  fade     : Option Fade := none
  iset     : Nat := 0
  shunt    : Nat := 0
  fire     : Bool := false
  fireEdge : Nat := 0
  holdEdge : Nat := 0
  emPt     : Tab (Nat × Nat × Nat × Nat) := []
  deriving DecidableEq, Repr

/-- The line being run (R182, R183). -/
structure LineRun where
  line  : Nat
  tls   : Nat
  facet : Nat
  p     : Nat
  slots : Nat
  deriving DecidableEq, Repr

/-- A planner statistic (R203): cell of a line and string: reported returns, saturated ones, quality sum,
and the azimuth codes and rows of its points that ended, which the regions of interest are tested against (R204, R209). -/
structure PlanStat where
  rets : Nat := 0
  sat  : Nat := 0
  qsum : Nat := 0
  pts  : List (Nat × Nat) := []
  deriving DecidableEq, Repr

/-- A region of interest (R204, R209). -/
structure Roi where
  azLo  : Nat
  azHi  : Nat
  rowLo : Nat
  rowHi : Nat
  deriving DecidableEq, Repr

/-- The shot scheduler, the itinerary buffers' base image and the planner (spec 01, 06). `lastEdge` is the edge placed last, `firedEdge`
the one fired last (R188), `lineClose` the latest close of a range window of the line, 0 before its first shot (R81). `planFrom` is the first frame a planner image of the
armed base governs (R202); keys of `planStat` are `(line × 65,536 + cell) × 16 + string`. -/
structure Sched where
  frameNo    : CntW := {}
  running    : Bool := false
  truncated  : Bool := false
  fbeAt      : Option Nat := none
  frameStart : Nat := 0
  frameShots : Nat := 0
  winClose   : Nat := 0
  notBefore  : Nat := 0
  line       : Option LineRun := none
  nextLine   : Nat := 0
  ready      : Nat := 0
  lastTls    : Nat := 0
  linesRun   : Nat := 0
  lastLine   : Nat := 0
  strs       : Tab Strng := []
  lastEdge   : Option Nat := none
  firedEdge  : Option Nat := none
  lineClose  : Nat := 0
  shots      : List Shot := []
  gapFr      : Nat := 0
  gapLogged  : Bool := false
  fired      : Nat := 0
  shifts     : Nat := 0
  capped     : Nat := 0
  rateSkip   : Nat := 0
  gap        : CntW := {}
  overrun    : CntW := {}
  facetW     : CntW := {}
  ceil       : Nat := 4095
  rdiv       : Nat := 1
  chgReq     : Nat := 0
  chgEn      : Nat := 0
  chgRise    : Tab Nat := []
  base       : List Host.Cell := []
  baseArmed  : Bool := false
  copyBack   : Nat := 0
  rois       : List Roi := []
  planFrom   : Option Nat := none
  planStat   : Tab PlanStat := []
  itinId     : Option Nat := none
  itinPlan   : Bool := false
  turnStop   : Bool := false
  elevSent   : Bool := false
  fresh      : Bool := false
  rehand     : Bool := false
  deriving DecidableEq, Repr

/-! ### Scan servo and timing ports (spec 07) -/

/-- One control law (R217): order, B_0 … B_3, A_1 … A_3 in Q15, gain shift. -/
structure Law where
  order : Nat := 2
  b     : List Int := [0, 0, 0, 0]
  a     : List Int := [0, 0, 0]
  shift : Nat := 0
  deriving DecidableEq, Repr

/-- Accepted marks (R222): the latest stamp, T_m, recent (t_a, T_m) pairs newest first, whether the mark is
overdue. -/
structure Marks where
  ta      : Option Nat := none
  tm      : Option Nat := none
  hist    : List (Nat × Nat) := []
  missing : Bool := false
  deriving DecidableEq, Repr

/-- One servo channel (R214 to R221, R228 to R230). Histories are newest first. `at_` is the instant of the last sample, `port` the mark
port in force, `due` a target that waits for the next sample (R215), `satLog` a saturation episode already reported (R230). `drv` is the
code SRV_CMD is driven with; `thS`, `orgS`, `tmS`, `fltS` are Θ, the facet origin, T_m and the feedback fault at the last sample (R239);
`rate` is the sample period in force since then, `goal` the output before any slew, `adopt` the entry of a line copy that waits for the
next sample (R215, R231). -/
structure Servo where
  at_      : Option Nat := none
  rate     : Nat := 0
  goal     : Int := 0
  adopt    : List Byte := []
  orgS     : Nat := 0
  port     : Nat := 1
  due      : Option Int := none
  mode     : Nat := 0
  laws     : Tab Law := []
  lawDue   : Tab (Option Law) := []
  cog      : Tab Int := []
  fri      : Tab Int := []
  cogSh    : Tab Int := []
  friSh    : Tab Int := []
  cogDue   : Bool := false
  friDue   : Bool := false
  x        : Int := 0
  e        : Int := 0
  y        : Int := 0
  u        : Int := 0
  drv      : Int := 0
  errS     : List Int := [0, 0, 0, 0]
  errP     : List Int := [0, 0, 0, 0]
  errX     : List Int := [0, 0, 0, 0]
  ys       : List Int := [0, 0, 0]
  us       : List Int := [0, 0, 0]
  ffs      : List Int := [0, 0, 0]
  ramp     : Int := 0
  target   : Int := 0
  settled  : Bool := false
  settleCnt : Nat := 0
  slewing  : Bool := false
  fbRun    : Nat := 0
  satRun   : Nat := 0
  satLog   : Bool := false
  slewed   : CntW := {}
  marks    : Marks := {}
  ePhase   : Int := 0
  thS      : Nat := 4294967295
  tmS      : Option Nat := none
  fltS     : Bool := false
  deriving DecidableEq, Repr

/-- A line-start instant handed to the T domain (R227): the facet, the coarse cycle, the tick at which that facet's passage begins, and
T_m. -/
structure Handed where
  facet : Nat := 0
  at_   : Nat := 0
  start : Nat := 0
  tm    : Nat := 0
  deriving DecidableEq, Repr

/-- The polygon (R222 to R227): lock, its count, the samples in PHASE mode, the pending mark fault, the start angle given, the instant
since which nothing has changed that line-start instants are computed from, the instants handed before that change, the facet whose
line-start event was raised last with the instant that facet began (R227), whether GALVO_SETTLE_LATE was logged for the line. -/
structure Poly where
  locked   : Bool := false
  lockCnt  : Nat := 0
  phaseN   : CntS := {}
  fault    : Bool := false
  angle    : Option Nat := none
  since    : Nat := 0
  handed   : List Handed := []
  lastLs   : Option (Nat × Nat) := none
  lateLog  : Bool := false
  deriving DecidableEq, Repr

/-- One timing port (R232 to R235): queue of (stamp, rising), drop counter, the drop count since the last
TP_OVERFLOW and its instant, hold-off end, gate start, stamps of the gate, those of the gate being fitted (end, stamps, later ones not
used), and the finished gate's figures. -/
structure TPort where
  queue   : List (Nat × Bool) := []
  dropped : CntW := {}
  since   : Nat := 0
  ovfAt   : Option Nat := none
  hold    : Option Nat := none
  heldOff : Nat := 0
  gate    : Nat := 0
  stamps  : List Nat := []
  unused  : Nat := 0
  fitting : Option (Nat × List Nat × Nat) := none
  valid   : Bool := false
  full    : Bool := false
  gateEnd : Nat := 0
  period  : Nat := 0
  used    : Nat := 0
  resid   : Nat := 0
  deriving DecidableEq, Repr

/-- Servos, the polygon and timing ports. -/
structure Srv where
  ch    : Tab Servo := []
  poly  : Poly := {}
  tp    : Tab TPort := []
  deriving DecidableEq, Repr

/-! ### Sense channels (spec 08) -/

/-- A queued sample (R259). -/
structure Smp where
  time  : Nat
  value : Int
  gain  : Nat
  flags : Nat
  seq   : Nat
  deriving DecidableEq, Repr

/-- A lead phase (R252): step 1 waits a settling interval, 2 averages, 3 settles after the restoration; sums of the
samples, each times 2^(7 − its gain code), and of the measured currents. -/
structure Lead where
  step : Nat
  n    : Nat
  sum  : Int × Nat
  cur  : Nat
  deriving DecidableEq, Repr

/-- The figures of a channel at its last decimation block (R264): state, gain, compliance, wraps of the two counters, current, terminal
voltage, R_L, K_FS as a fraction, R, D_F, open wires, range changes. -/
structure SnsStat where
  st     : Nat
  g      : Nat
  compl  : Bool
  wraps  : Bool × Bool
  cur    : Nat
  term   : Nat
  rl     : Nat
  kfs    : Nat × Nat
  r      : Nat
  df     : Nat
  opens  : Nat
  ranges : Nat
  deriving DecidableEq, Repr

/-- The decimation chain's registers (R246): the four 40-bit integrators and combs of the CIC, the input histories of the two halfband
filters and of the FIR, newest first, with the inputs counted since their last outputs; `due` while an output sample is due. -/
structure Decim where
  integ : List Int := [0, 0, 0, 0]
  comb  : List Int := [0, 0, 0, 0]
  h1    : List Int := []
  n1    : Nat := 0
  h2    : List Int := []
  n2    : Nat := 0
  hf    : List Int := []
  nf    : Nat := 0
  due   : Bool := false
  deriving DecidableEq, Repr

/-- One sense channel (R243 to R264). `cfg` holds the parameters 0x0701 … 0x0710 as last taken at a decimation
block; `settle` is the end of the settling interval; `conds` the open-wire conditions of the last block;
`chainWr` a write to 0x0709 … 0x070D since the last block, `leadDue` a lead phase owed at restoration, `prevCur` the current reported by
the block before the last, `stat` the figures of the last block. -/
structure Sense where
  on       : Bool := false
  cfg      : List Nat := []
  g        : Nat := 0
  lead     : Option Lead := none
  rl       : Nat := 0xFFFFFFFF
  settle   : Option Nat := none
  d        : Int := 0
  lowRun   : Nat := 0
  conds    : Nat := 0
  openAt   : Option Nat := none
  restore  : Nat := 0
  queue    : List Smp := []
  seq      : Nat := 0
  dropped  : CntW := {}
  dropN    : Nat := 0
  dropAt   : Option Nat := none
  opens    : CntW := {}
  ranges   : CntW := {}
  rangeN   : Nat := 0
  rangeAt  : Option Nat := none
  fir      : List Int := []
  chainWr  : Bool := false
  leadDue  : Bool := false
  chain    : Decim := {}
  cur      : Nat := 0
  prevCur  : Option Nat := none
  stat     : Option SnsStat := none
  term     : Nat := 0
  compl    : Bool := false
  clip     : Bool := false
  tol      : Bool := false
  tolAt    : Option Nat := none
  rangeChg : Bool := false
  deriving DecidableEq, Repr

/-! ### Nerrak (spec 09). Nerrak's own instants are elapsed ticks (`State.wall`); it runs in every state. -/

/-- The accounts of a ledger cell (R283): per window, pJ by absolute sub-bin number. -/
structure NkCell where
  w0 : Tab Nat := []
  w1 : Tab Nat := []
  w2 : Tab Nat := []
  deriving DecidableEq, Repr

/-- An integration gate (R273): shot, gate end (device ticks), expected energy in pJ, the string's shot number
of the frame. -/
structure Gate where
  str   : Nat
  em    : Nat
  stamp : Nat
  stop  : Nat
  ex    : Nat
  nth   : Nat
  deriving DecidableEq, Repr

/-- One pulse-monitor channel (R273 to R279): gates awaiting their energy, the last gate opened, consecutive low
mismatches, the PMON_CHANNEL fault with its clearing conditions (`at_` also when its baseline last left the window), the capture in
progress, busy misses, E_m of the last gate once known. `base` holds the samples outside gates, newest first, at most 256 (R273); `edgeOn`
an armed edge trigger, `shot` the last fired shot not yet tried by the 1-in-N trigger (string, its number in the frame), `anom` an anomaly
not yet tried by the anomaly trigger (R279). -/
structure Pmon where
  gates   : List Gate := []
  last    : Option Gate := none
  lowRun  : Nat := 0
  active  : Bool := false
  at_     : Nat := 0
  baseOk  : Bool := false
  clean   : Nat := 0
  lowHad  : Bool := false
  busy    : Option Nat := none
  misses  : CntW := {}
  lastE   : Option Nat := none
  base    : List Nat := []
  edgeOn  : Bool := true
  shot    : Option (Nat × Nat) := none
  anom    : Bool := false
  deriving DecidableEq, Repr

/-- A captured segment (R280): time of sample 0 in ticks, channel, string and emitter (255 none), trigger, E_m, the
fire stamp of the gate it overlaps; `known` once what it carries is (its gate's E_m, or that it overlaps none), `formed` while its record is
with the stream, `rsv` in a reserved entry (R281). -/
structure Seg where
  time    : Nat
  chan    : Nat
  str     : Nat
  em      : Nat
  trig    : Nat
  e       : Nat
  gate    : Option Nat
  samples : List Nat
  known   : Bool := false
  formed  : Bool := false
  rsv     : Bool := false
  deriving DecidableEq, Repr

/-- The confirmation record (R298); `sig` is its signature by the device identity key. -/
structure SetRec where
  check  : Nat
  setId  : Nat
  serial : Nat
  count  : Nat
  sig    : List Byte
  deriving DecidableEq, Repr

/-- Nerrak's state (R267: only PORST_N resets it). `sendSeq` numbers the next fire record, `links` holds the records on their way over
both links, oldest first (R184, R269). `cutDue`: HV_CUT_N is to be asserted 2.5 µs after `lsrFell` and `cutFrom`; `stallAt` is the start of the running stall window (R286); `gain`
holds the gains g_k read from OTP at the self-test (R315). `pads` holds the level a pad is held at against its command, by pin (0
LSR_EN_A, 1 LSR_EN_B, 2 HV_CUT_N; none: it follows). -/
structure Nk where
  faults   : Word := 0
  testing  : Bool := true
  passed   : Bool := false
  relAt    : Nat := 0
  lsrFell  : Nat := 0
  cutDue   : Bool := false
  cutFrom  : Nat := 0
  cutAt    : Nat := 0
  uncutAt  : Nat := 0
  hvAt     : Nat := 0
  peerAt   : Nat := 0
  marks    : Marks := {}
  stallTh  : Nat := 4294967295
  stallAdv : Nat := 0
  stallAt  : Nat := 0
  disagree : Nat := 0
  clockBad : Bool := false
  degAcc   : Nat := 0
  degOn    : Option Nat := none
  cleanAt  : Option Nat := none
  ledger   : Tab NkCell := []
  fillMax  : Tab Nat := []
  publish  : Tab Nat := []
  cap      : Bool := false
  pm       : Tab Pmon := []
  segs     : List Seg := []
  gaps     : Tab (Option (Nat × Nat)) := []
  shotN    : Tab Nat := []
  unmeas   : CntW := {}
  lows     : CntW := {}
  lost     : CntW := {}
  laser    : Tab (Option Int) := []
  laserAt  : Option Nat := none
  laserOut : Bool := true
  chgHeld  : Bool := true
  wrHeld   : Bool := false
  cand     : List Host.Cell := []
  candOk   : Bool := false
  conf     : Option (List Host.Cell) := none
  nonce    : Option (Nat × Nat) := none
  confirm  : Option (Nat × Nat × Nat) := none
  lastSeq  : Option Nat := none
  pads     : Tab (Option Bool) := []
  sendSeq  : Nat := 0
  links    : List FireRec := []
  gain     : Tab Nat := []
  deriving DecidableEq, Repr

/-! ### Calibration (spec 10) -/

/-- A width-table blend in progress (R311): start edges, candidate widths, steps taken. -/
structure Blend where
  start : List Nat
  cand  : List Nat
  k     : Nat
  deriving DecidableEq, Repr

/-- One channel's calibration (R305 to R311). The reset table is uniform with nominal taps (R320). -/
structure CalCh where
  mask     : Nat := 0x8006f7777bbbdddeeef777ba
  widths   : List Nat := List.replicate 64 256
  edges    : List Nat := (List.range 65).map (· * 256)
  hist     : Tab Nat := []
  fill     : Nat := 0
  blend    : Option Blend := none
  accepted : CntW := {}
  rejected : CntW := {}
  lastRej  : Option Nat := none
  deriving DecidableEq, Repr

/-- A tap-reselection outage (R313): `start` none while it waits for the next commit. -/
structure Outage where
  rod   : Nat
  start : Option Nat
  deriving DecidableEq, Repr

/-- A running measurement (R317, R318): offsets of `count` channels from `first` over `n` complete frames from `frame0` on, or the skew
over `n` shots with the sum at key 0; sums of r + OFF, or of edge − stamp in ticks, with their counts; `cur` the sums of frames that have
not ended, by frame, `done` the complete frames covered. -/
structure Measure where
  skew    : Bool
  first   : Nat
  count   : Nat
  target  : Nat
  frame0  : Nat
  n       : Nat
  store   : Bool
  sums    : Tab (Int × Nat)
  cur     : Tab (Tab (Int × Nat)) := []
  done    : Nat := 0
  deriving DecidableEq, Repr

/-- Calibration state (spec 10): `lastSave` the last save, `saveTry` the last expiry of the interval, `blendAt` the last
blend step, `outFrom` and `outEnd` the start and end of each rod's last reselection outage. Keys of the sense trims are 8 × channel + gain code. -/
structure Calib where
  ch       : Tab CalCh := []
  outage   : Option Outage := none
  factory  : Option Nat := none
  fire     : Tab Int := []
  pmon     : Tab Nat := []
  senseO   : Tab Int := []
  senseM   : Tab Nat := []
  changed  : Bool := false
  lastSave : Nat := 0
  meas     : Option Measure := none
  saveTry  : Nat := 0
  blendAt  : Nat := 0
  outFrom  : Tab Nat := []
  outEnd   : Tab Nat := []
  deriving DecidableEq, Repr


/-! ### Bluward stream (spec 11) -/

/-- The addressing of a stream slot (R368). -/
structure SlotCfg where
  enable : Bool := false
  path   : Nat := 0
  vlan   : Bool := false
  id     : Nat := 0
  tci    : Nat := 0
  dest   : Nat := 0
  deriving DecidableEq, Repr

/-- A stream slot: its addressing, the count of its stream-id changes, next sequence per such epoch (R332, R368). -/
structure Slot where
  cfg   : SlotCfg := {}
  epoch : Nat := 0
  seqs  : Tab Nat := []
  deriving DecidableEq, Repr

/-- An open Bluward frame (R335) or keyed frame (R414, `key` = its rank). -/
structure OpenF where
  slot  : Nat
  cls   : Nat
  frame : Nat
  gen   : Nat
  start : Nat
  len   : Nat
  line  : Nat
  key   : Option Nat
  recs  : List Rec
  deriving DecidableEq, Repr

/-- A closed Bluward frame: payload, records, counted records, charged bytes, the addressing and mode it closed
under, the keyed sequence when keyed, the tick it closed at, whether it gets an R-TAG. -/
structure BFrame where
  slot    : Nat
  cls     : Nat
  frame   : Nat
  gen     : Nat
  nrec    : Nat
  items   : Nat
  payload : List Byte
  charged : Nat
  cfg     : SlotCfg
  epoch   : Nat
  mode    : Nat
  macsec  : Bool
  keySeq  : Option Nat
  at_     : Nat := 0
  rtag    : Bool := false
  deriving DecidableEq, Repr

/-- A loss record (R348, R349): kind 0 GAP, 1 and 2 SHED; `frame` its scan frame (R557); `start`, `stop` in ticks. -/
structure Loss where
  kind   : Nat
  frame  : Nat
  stage  : Nat := 0
  cls    : Nat := 0
  index  : Nat := 0
  start  : Nat := 0
  stop   : Nat := 0
  items  : Nat := 0
  frames : Nat := 1
  recs   : List Nat := []
  offered : Nat := 0
  shed   : Nat := 0
  line   : Nat := 0
  chans  : List (Nat × Nat) := []
  deriving DecidableEq, Repr

/-- A class queue (R358, R359): key path × 8 + class, path 2 the shared queues of REPLICATE. `ep` is the open stage-4
episode: start tick, records. -/
structure Queue where
  frames   : List BFrame := []
  bytes    : Nat := 0
  shedding : Bool := false
  ep       : Option (Nat × Nat) := none
  frRecs   : Nat := 0
  deriving DecidableEq, Repr

/-- A path (0 A, 1 B; 2 holds the shared loss store and frame figures of REPLICATE). -/
structure Path where
  loss    : List Loss := []
  buf     : List (BFrame × Nat) := []
  frames  : Nat := 0
  bytes   : Nat := 0
  shed    : Tab CntW := []
  repl    : CntW := {}
  lossC   : CntW := {}
  ceil    : CntW := {}
  offered : Nat := 0
  shedB   : Nat := 0
  capN    : Nat := 0
  stopTx  : Bool := false
  deriving DecidableEq, Repr

/-- MACsec's part of a frame (R328, R329): the SecTAG with its EtherType, the protected user data as it is sent, the ICV. -/
structure SecOut where
  tag  : List Byte
  text : List Byte
  icv  : List Byte
  deriving DecidableEq, Repr

/-- The Ethernet frame in transmission on a link (R328): Bluward header and payload, addresses, 802.1Q tag, R-TAG sequence, EtherType,
MACsec part, and when the link becomes free (ticks). -/
structure LinkTx where
  hdr     : List Byte := []
  payload : List Byte := []
  dest    : Nat := 0
  src     : Nat := 0
  tag     : Option Nat := none
  rtag    : Option Nat := none
  etype   : Nat := 0
  sec     : Option SecOut := none
  until_  : Nat := 0
  deriving DecidableEq, Repr

/-- A raw request (R369): fine flag and regions (azimuth low, high, row low, high, kind). -/
structure RawReq where
  first   : Nat
  fine    : Bool
  regions : List (List Nat)
  deriving DecidableEq, Repr

/-- A MACsec SA (R370), keyed path × 8 + direction × 4 + AN. -/
structure Sa where
  sci    : Nat
  pn     : Nat
  ssci   : Nat
  salt   : List Byte
  key    : List Byte
  active : Bool := false
  warned : Bool := false
  deriving DecidableEq, Repr

/-- A frame whose FBE has been raised and whose FRAME_END is not yet formed (R347). -/
structure EndRec where
  frame : Nat
  gen   : Nat
  trunc : Bool
  lines : Nat
  fbe   : Nat
  shots : Nat
  deriving DecidableEq, Repr

/-- The Bluward assembler and paths. `forms` counts the class 1, 3 and 4 records formed per scan frame; `frHist` is
(coarse time from which, frame number), newest first (R557). `inq` holds the decks' records that wait for the assembler, oldest first,
handed over at `inAt`; `wrr` the deck served last in each class and the turns left to it (R18); `tokAt` is when the last class 1 token
fell due (R361); `logDue` the class 1 and 2 records on their way to the logbook with their stream channel, oldest first (R481, R498). -/
structure Str where
  slots   : Tab Slot := []
  opens   : List OpenF := []
  queues  : Tab Queue := []
  paths   : Tab Path := []
  tx      : Tab LinkTx := []
  tokens  : Nat := 256
  ceilEp  : Option (Nat × Nat) := none
  ceilFr  : Nat := 0
  lateEp  : Option (Nat × Nat) := none
  lateFr  : Nat := 0
  forms   : Tab (Nat × Nat × Nat) := []
  ends    : List EndRec := []
  raws    : List RawReq := []
  sas     : Tab (Option Sa) := []
  rxDrop  : Nat := 0
  frHist  : List (Nat × Nat) := []
  starts  : List (Nat × Nat) := []
  inq     : List (Nat × Rec) := []
  inAt    : Nat := 0
  wrr     : Tab (Nat × Nat) := []
  tokAt   : Nat := 0
  logDue  : List (Nat × List Byte) := []
  deriving DecidableEq, Repr

/-- The time service (R354, R363, R364): state 0 free-running, 1 synchronized, 2 holdover; the mapping takes device
tick `mapD` to gPTP time `mapP` in 2^-16 ns, at rate `rho` in 2^-41. `master` is the Announce of the best master with the instant it
came, `sync` a two-step Sync that waits for its Follow_Up: sender, sequence, receipt, correction. -/
structure Tim where
  st      : Nat := 0
  gm      : Nat := 0
  master  : Option (Announce × Nat) := none
  changes : CntW := {}
  mapD    : Nat := 0
  mapP    : Nat := 0
  rho     : Int := 0
  sync    : Option (Nat × Nat × Nat × Int) := none
  lastRx  : Option (Nat × Nat) := none
  pdReq   : Option (Nat × Nat) := none
  pdSeq   : Nat := 0
  pdResp  : Option (Nat × Nat × Nat × Int) := none
  delay   : Option Int := none
  answer  : Option (Nat × Nat × Nat) := none
  holdAt  : Nat := 0
  deriving DecidableEq, Repr

/-- An inertial sample (R365): gPTP time in ns, the device tick it converts to by R354, angular rates, velocities. -/
structure MSample where
  time : Nat
  tick : Int
  rate : List Int
  vel  : List Int
  deriving DecidableEq, Repr

/-- The integrals of a scan frame (R365): its start in ticks, the trapezoids since then as twice the value times ticks, samples used. -/
structure MotFr where
  frame : Nat
  start : Nat
  rot   : List Int := [0, 0, 0]
  trans : List Int := [0, 0, 0]
  used  : Nat := 0
  deriving DecidableEq, Repr

/-- The motion service (R365, R366): the integrals of the latest frames, newest first, and the newest sample. -/
structure Mot where
  frames : List MotFr := []
  newest : Option MSample := none
  lastAt : Nat := 0
  stale  : Bool := false
  back   : Bool := false
  deriving DecidableEq, Repr

/-! ### Serial lanes (spec 12) -/

/-- One lane (R378 to R397): `target` the rate trained at, `struck` the rates struck out, `tries` the failed attempts, `helloN`
identical hellos in a row, `since` the start of the attempt, wait or data mode, `lockFrom` the instant the checker locked, `lockAt` and
`injAt` where the counts of words checked and of injected bits were last brought up, with `chkRem` and `injRem` the part of a word and
of an injection interval passed by then, in 1/4096 bit; `an` the negotiation mode in force (R394), `top` the highest rate of the
negotiation that runs or ran last (R382), `cap` the rate a failed UP lane may not exceed (R383), `fec25` the FEC that negotiation settled
for code 1, `failed` a self-check failed (R377). -/
structure Lane where
  st       : Nat := 0
  rate     : Nat := 255
  target   : Nat := 0
  struck   : Nat := 0
  tries    : Nat := 0
  fec      : Nat := 0
  partner  : Nat := 0
  crossed  : Bool := false
  crossLog : Bool := false
  anDone   : Bool := false
  everUp   : Bool := false
  failed   : Bool := false
  an       : Nat := 0
  top      : Nat := 7
  cap      : Nat := 7
  fec25    : Option Nat := none
  mode     : Nat := 0
  pattern  : Nat := 0
  inject   : Nat := 0
  injN     : Nat := 0
  locked   : Bool := false
  since    : Nat := 0
  lockFrom : Nat := 0
  lockAt   : Nat := 0
  chkRem   : Nat := 0
  injAt    : Nat := 0
  injRem   : Nat := 0
  helloN   : Nat := 0
  lastHello : Option Hello := none
  corrected : Nat := 0
  uncorr   : Nat := 0
  symbols  : Nat := 0
  errors   : CntS := {}
  words    : Nat := 0
  injected : Nat := 0
  downs    : CntW := {}
  losses   : CntW := {}
  steps    : CntW := {}
  deriving DecidableEq, Repr

/-- A running eye scan (R393, R398): the request's dwell, offsets and threshold, and the eyes the lane has. -/
structure EyeScan where
  lane : Nat
  kind : Nat
  d    : Nat := 20
  h    : Int := 0
  v    : Int := 0
  thr  : Nat := 0
  eyes : Nat := 1
  mb   : Nat
  tag  : Nat
  deriving DecidableEq, Repr

/-- Serial lanes. -/
structure Lan where
  ch   : Tab Lane := []
  scan : Option EyeScan := none
  deriving DecidableEq, Repr

/-! ### Twins (spec 13) -/

/-- A line in run or just run, for keys (R414, R415): start in coarse cycles of reference time, slot period, window,
cells as (K, N), sequence bases by slot. -/
structure LineKey where
  frame : Nat
  line  : Nat
  tls   : Int
  p     : Nat
  w     : Nat
  cells : List (Nat × Nat)
  bases : Tab Nat
  deriving DecidableEq, Repr

/-- The twin function (R400 to R416). `own` masks the strings owned at their set instants, `srvOwn` the servos at their sample boundaries; Δ is in 1/256
tick; `roundNo` numbers the latest claim round by its start in microseconds of reference time, `roundAt` is that start in device time, `faultWhy` is the reason of the fault now; `sent`, `sentSet`
and `sentNotice` are what the owner last sent over the twin lanes. -/
structure Twn where
  strap     : Nat := 0
  owner     : Bool := false
  own       : Nat := 0
  srvOwn    : Nat := 0
  claim     : Nat := 0
  partner   : Nat := 0
  round     : Bool := false
  roundNo   : Option Int := none
  roundAt   : Nat := 0
  faultNow  : Bool := false
  faultWhy  : Nat := 0
  conflict  : Bool := false
  delta     : Int := 0
  lastX     : Option Nat := none
  held      : Bool := false
  stale     : Bool := false
  good      : Nat := 0
  copy      : Option (List Byte × Nat) := none
  copyBad   : Bool := false
  notice    : Option (Nat × Nat × Nat × Nat) := none
  ownInst   : Option Nat := none
  bases     : Tab Nat := []
  lines     : List LineKey := []
  ownerC    : CntW := {}
  staleC    : CntW := {}
  missC     : CntW := {}
  reformC   : CntW := {}
  turnC     : CntW := {}
  lateC     : CntW := {}
  sent      : List Byte := []
  sentSet   : Option SvcSealed := none
  sentNotice : Option (Nat × Nat × Nat × Int) := none
  deriving DecidableEq, Repr

/-! ### Caravan ring and triggers (spec 13) -/

/-- A trigger that waits for its action time (R426): code, action in ring time and in device coarse cycles. -/
structure Trig where
  code   : Nat
  action : Nat
  dev    : Nat
  deriving DecidableEq, Repr

/-- The ring node (R418 to R426). The mapping takes device coarse cycle `mapDev` to ring time `mapRing` at
`rate` / 2^32 ring cycles per device cycle. `beats` counts valid beats in a row, `serial` is the leader's, `outAt` the instant of the
leader's last comma, `outBeat` the last beat sent as leader, `txTrig` the triggers to forward (code, action time). -/
structure Ring where
  engaged  : Bool := false
  locked   : Bool := false
  leader   : Bool := false
  holdover : Bool := false
  holdAt   : Nat := 0
  beats    : Nat := 0
  lastBeat : Option Nat := none
  pos      : Nat := 255
  nodes    : Nat := 0
  cycle    : Nat := 1
  period   : Nat := 8000000
  loop     : Nat := 0
  node     : Nat := 0
  salt     : Nat := 0
  serial   : Nat := 0
  slots    : List RingSlot := []
  mapDev   : Nat := 0
  mapRing  : Nat := 0
  rate     : Nat := 4294967296
  leave    : Bool := false
  trigs    : List Trig := []
  txTrig   : List (Nat × Nat) := []
  outSlot  : Option RingSlot := none
  outBeat  : List Byte := []
  outAt    : Nat := 0
  deriving DecidableEq, Repr

/-! ### Interrupt controller, DMA, memory, logbook (spec 15) -/

/-- An interrupt source (R473); `edgeAt` is the instant of its latest edge, `latch` its asynchronous latch, set by an edge that met the
controller's clock stopped or in the 8 cycles after its restart (R480). -/
structure IcSrc where
  pending : Bool := false
  active  : Bool := false
  count   : CntS := {}
  mod     : Bool := false
  group   : Nat := 0
  enable  : Bool := false
  prio    : Nat := 0
  held    : Bool := false
  edgeAt  : Option Nat := none
  latch   : Bool := false
  deriving DecidableEq, Repr

/-- A moderation group (R478): timer in 0.1 µs, end of the hold in ticks. -/
structure IcMod where
  timer : Nat := 0
  hold  : Option Nat := none
  deriving DecidableEq, Repr

/-- The interrupt controller (R472 to R480). `line` is the request line as last evaluated; `deep` while its clock is stopped in deep idle,
`wokeAt` the clock's last restart, `draws` counts the choices R480 leaves open. -/
structure Ic where
  src     : Tab IcSrc := []
  floor   : Nat := 0
  latched : Bool := false
  idle    : Bool := false
  line    : Bool := false
  badFin  : CntS := {}
  mods    : Tab IcMod := []
  taken   : Nat := 0
  deep    : Bool := false
  wokeAt  : Option Nat := none
  draws   : Nat := 0
  deriving DecidableEq, Repr

/-- A DMA stream channel (R482, R487 to R490): register fields, the queued records in bytes, the first without what has been moved of it, and
those records whole with the coarse time they came (no bytes: cut by a flush); the shedding episode (start tick, records).
`fromMem` says that the channel drains memory into its sink queue (R481), `sink` the bytes in that queue. -/
structure DmaS where
  ring    : Nat := 0
  enable  : Bool := false
  size    : Nat := 0
  stopWm  : Nat := 224
  startWm : Nat := 8
  head    : Nat := 0
  queue   : List (List Byte) := []
  recs    : List (Nat × List Byte) := []
  request : Bool := false
  shed    : Bool := false
  ep      : Option (Nat × Nat) := none
  halted  : Bool := false
  fromMem : Bool := false
  sink    : Nat := 0
  deriving DecidableEq, Repr

/-- A DMA control channel (R483, R490). -/
structure DmaC where
  first  : Nat := 0
  busy   : Bool := false
  cur    : Nat := 0
  halted : Bool := false
  deriving DecidableEq, Repr

/-- An engine (R484, R485): the channel in service (stream below 32, control 32 + n), its descriptor's address, bytes
moved and reserved for the burst, the last channels served round-robin; `flushed`: the channel in service was disabled meanwhile (R490). -/
structure DmaE where
  chan  : Option Nat := none
  desc  : Nat := 0
  moved : Nat := 0
  burst : Nat := 0
  rrS   : Nat := 0
  rrC   : Nat := 0
  flushed : Bool := false
  deriving DecidableEq, Repr

/-- A running DMA_XFER (R504). -/
structure Xfer where
  mb     : Nat
  tag    : Nat
  target : Nat
  exch   : Nat
  off    : Nat
  len    : Nat
  deriving DecidableEq, Repr

/-- A window frame in its channel's queue (R481, R497): a write's or a read request's. -/
structure WinReq where
  frame : Frame
  write : Bool
  deriving DecidableEq, Repr

/-- The DMA engines. `wins` are the window frames in the queues of channels 14 to 17 in the order of arrival, `spills` the segments in those of
channels 10 to 13 on their way to the spill region (R481). -/
structure Dma where
  streams : Tab DmaS := []
  ctls    : Tab DmaC := []
  engines : Tab DmaE := []
  shedC   : CntW := {}
  xfer    : Option Xfer := none
  wins    : List WinReq := []
  spills  : List Seg := []
  deriving DecidableEq, Repr

/-- External memory (R491 to R495, R506): contents (an unlisted byte reads 0), layout in MiB, ECC figures, bad
blocks (their first addresses); the block the patrol scrub reads next and when it read the last (R492). -/
structure Mem where
  bytes    : List Host.Cell := []
  usable   : Nat := 0
  rate     : Nat := 0
  spillMB  : Nat := 0
  stackMB  : Nat := 0
  logMB    : Nat := 0
  kept     : Bool := false
  refresh  : Bool := true
  corr     : Nat := 0
  corrN    : Nat := 0
  corrAt   : Option Nat := none
  uncorr   : CntW := {}
  uncorrAt : Option Nat := none
  bad      : List Nat := []
  spill    : List Seg := []
  layout   : Option (Nat × Nat × Nat × Nat) := none
  scrub    : Nat := 0
  scrubAt  : Nat := 0
  deriving DecidableEq, Repr

/-- A logbook block (R498): records in order as (device coarse time, bytes). -/
structure Block where
  kind  : Nat
  flags : Nat
  seq   : Nat
  recs  : List (Nat × List Byte)
  deriving DecidableEq, Repr

/-- The logbook (R498 to R502): state 0 recording, 1 post-trigger, 2 frozen; oldest block first. -/
structure Lgb where
  st      : Nat := 0
  kind    : Nat := 0
  trigAt  : Nat := 0
  trigEv  : Nat := 0
  trigSt  : Word := 0
  trigNk  : Word := 0
  stopAt  : Nat := 0
  ignored : CntW := {}
  blocks  : List Block := []
  seq     : CntW := {}
  deriving DecidableEq, Repr

/-! ### Health, reset and freeze (spec 16) -/

/-- A die sensor (R508 to R513, R531), in 0.1 °C. -/
structure DieSensor where
  t       : Int := 0
  ok      : Bool := true
  retired : Bool := false
  misses  : Nat := 0
  good    : Nat := 0
  seen    : Bool := false
  subst   : Option Int := none
  lastOk  : Int := 0
  deriving DecidableEq, Repr

/-- A rail (R511): value in mV, when it left the warning window and the fault window (ticks), whether logged. -/
structure Rail where
  mv     : Option Nat := none
  out    : Option Nat := none
  logged : Bool := false
  fault  : Option Nat := none
  deriving DecidableEq, Repr

/-- Health and the thermal manager (R508 to R517); `tempAt`, `voltAt`, `ageAt` are the elapsed ticks of the last samples (R509, R511, R512). -/
structure Hlt where
  sens    : Tab DieSensor := []
  target  : Nat := 0
  applied : Nat := 0
  riseAt  : Option Nat := none
  coolAt  : Option Nat := none
  barred  : Bool := false
  critical : Bool := false
  rails   : Tab Rail := []
  osc     : Tab Nat := []
  oscLow  : Nat := 0
  score   : Nat := 0
  penal   : Nat := 0
  stuckN  : Nat := 0
  silentN : Nat := 0
  steps   : CntW := {}
  warns   : CntW := {}
  tempAt  : Option Nat := none
  voltAt  : Option Nat := none
  ageAt   : Option Nat := none
  deriving DecidableEq, Repr

/-- Reset and freeze (R520 to R526). `from_` is the state a freeze left, `causes` those acting since the last release,
`bootAt` when BOOT began, `heldAt` the start of the RESET_N hold that lasts, `heldFor` the longest hold that ended since the last
release, `cmdUntil` the earliest release. -/
structure Rst where
  causes   : Nat := 0
  bootAt   : Nat := 0
  heldAt   : Option Nat := none
  heldFor  : Option Nat := none
  frzHeld  : Bool := false
  from_    : Nat := 0
  cmdUntil : Option Nat := none
  wasFrozen : Bool := false
  deriving DecidableEq, Repr

/-! ### Test port (spec 16) -/

/-- The states of the IEEE 1149.1 controller (R527). -/
inductive TapSt where
  | reset | idle | selDr | capDr | shDr | ex1Dr | pauDr | ex2Dr | updDr | selIr | capIr | shIr | ex1Ir | pauIr | ex2Ir | updIr
  deriving DecidableEq, Repr

/-- The instructions of the test port (R527); `network` selects the segment-insertion bits and what is behind those that are open. -/
inductive TapInstr where
  | bypass | idcode | sample | extest | network
  deriving DecidableEq, Repr

/-- The test port (R527): controller, instruction in force, the shift registers, TDI side last, the boundary cells' update latches, TDO
(none: high impedance), the segment-insertion bits as shifted in (bit n: chain n). -/
structure Tap where
  st    : TapSt := .reset
  instr : TapInstr := .idcode
  ir    : List Bool := []
  dr    : List Bool := []
  upd   : List Bool := []
  tdo   : Option Bool := none
  sibs  : Nat := 0
  deriving DecidableEq, Repr

/-! ### Pins and non-volatile memory -/

/-- Balls: inputs as the device sees them, outputs as it drives them (true is the level high, except `hvCut`,
`attnN` and `trigIo`, true while asserted). `headSw` and `hvFb` are the levels; HV_FB true reads closed. -/
structure Pins where
  porstN  : Bool := true
  resetN  : Bool := true
  headSw  : Bool := false
  hvFb    : Bool := false
  peerCut : Bool := true
  vddNk   : Bool := true
  lsrA    : Bool := false
  lsrB    : Bool := false
  hvCut   : Bool := true
  attnN   : Bool := false
  ringEng : Bool := false
  trigIo  : Option Nat := none
  claimLo : Bool := false
  deriving DecidableEq, Repr

/-- The contents of the calibration file (R319) or of the OTP calibration area (R320); bit n of `present` says that part n is there. -/
structure CalFile where
  gen    : Nat
  present : Nat
  serial : Nat
  ch     : Tab CalCh
  fire   : Tab Int
  pmon   : Tab Nat
  senseO : Tab Int
  senseM : Tab Nat
  offs   : Tab Nat
  skew   : Int
  deriving DecidableEq, Repr

/-- The fields of a boot directory copy (R465). -/
structure BootDir where
  seq    : Nat := 0
  active : Nat := 0
  trial  : Nat := 0
  boots  : Nat := 0
  deriving DecidableEq, Repr

/-- OTP and flash (R315, R319, R440, R464 to R466, R469, R512): identity, the anti-rollback level, the hashes of the four image keys and of the two
debug keys (none: not programmed) with their revoked slots, the oscillators' values of the final test; the calibration file's bytes (none: absent),
the commissioning set with its confirmation record, each in two copies (R465), the bytes of the boot directory's two copies (none: erased) and
the image slots (an unlisted flash byte reads 0xFF). `signs` counts the signatures made. -/
structure Nv where
  serial   : Nat := 0
  grade    : Nat := 0
  rollback : Nat := 0
  otpCal   : Option CalFile := none
  calFile  : List Byte := []
  calFile1 : List Byte := []
  skew     : Int := 0
  set      : List Host.Cell := []
  setRec   : Option SetRec := none
  set1     : List Host.Cell := []
  setRec1  : Option SetRec := none
  imgKeys  : Tab (List Byte) := []
  imgRevoked : Nat := 0
  dbgKeys  : Tab (List Byte) := []
  dbgRevoked : Nat := 0
  osc      : Tab Nat := []
  signs    : Nat := 0
  dir0     : List Byte := []
  dir1     : List Byte := []
  slotA    : List Host.Cell := []
  slotB    : List Host.Cell := []
  deriving DecidableEq, Repr

/-! ### The whole machine -/

/-- Why a command ends in a fault. No meaning of this model raises one: what the specification calls a fault of the
device is a state of the device. -/
inductive Fault where
  /-- Never raised; present because a machine type names its faults. Safe: it adds no behaviour. -/
  | none_
  deriving DecidableEq, Repr

/-- Why a command is refused by the model. -/
inductive Refusal where
  /-- A command whose meaning is not written yet, by its mnemonic. Safe: no next state is claimed. -/
  | notModelled (mnemonic : String)
  deriving DecidableEq, Repr

/-- The state of the block. `wall` counts elapsed ticks since power-up, `dev` the device time in ticks (it stops in
FROZEN, R525), `free` the free values drawn (the model's own), `pending` the waiting commands, first in first out. -/
structure State where
  wall    : Nat := 0
  dev     : Nat := 0
  free    : Nat := 0
  pins    : Pins := {}
  nv      : Nv := {}
  desk    : Desk := {}
  par     : Par := {}
  ch      : Tab Chan := []
  capture : Option Capture := none
  amb     : Amb := {}
  tal     : Tally := {}
  ext     : Ext := {}
  sch     : Sched := {}
  srv     : Srv := {}
  sns     : Tab Sense := []
  nk      : Nk := {}
  cal     : Calib := {}
  str     : Str := {}
  tim     : Tim := {}
  mot     : Mot := {}
  lan     : Lan := {}
  twn     : Twn := {}
  rng     : Ring := {}
  ic      : Ic := {}
  dma     : Dma := {}
  mem     : Mem := {}
  lgb     : Lgb := {}
  hlt     : Hlt := {}
  rst     : Rst := {}
  tap     : Tap := {}
  pending : List Instr := []
  deriving DecidableEq, Repr

/-- The machine right after PORST_N release (R268, R522): state BOOT, RESET_CAUSE POWER_ON, Nerrak's self-test in
progress with the enables low and HV_CUT_N asserted, nothing waiting. Every field holds its structure's default:
the specification's reset value, or the one INVENTORY.md names (log entries 3 to 5, 91, 125). -/
def State.reset : State := {}

end Sys2Proof.Machine
end

