-- ==== Sys2Proof/Machine/Ops.lean ====
section
/-! DEFINITION. Machine/Ops.lean: the named operations the meanings share: time, parameters, event log and
attention, the mailbox protocol, registers of indexed state. -/

namespace Sys2Proof.Machine

/-! ### Time (log entry 2) -/

/-- Ticks in a nanosecond, microsecond, millisecond and second (R58: a tick is 7.8125 ps). -/
abbrev tNs : Nat := 128
abbrev tUs : Nat := 128000
abbrev tMs : Nat := 128000000
abbrev tSec : Nat := 128000000000

/-- Elapsed time moves to `t` (never back); device time moves with it except in FROZEN, where it stops (R525).
Log entries 2 (DESIGN CHOICE), 10 (DESIGN CHOICE). -/
def advance (t : Nat) (s : State) : State :=
  { s with
    wall := max s.wall t
    dev := if s.desk.st = 7 then s.dev else s.dev + (max s.wall t - s.wall) }

/-- An event of a domain that stops in FROZEN and is held in RESET (R37, R524): there only time moves.
Log entries 2 (DESIGN CHOICE), 7 (DESIGN CHOICE). -/
def live (t : Nat) (f : State → State) (s : State) : State :=
  let s := advance t s
  if s.desk.st = 0 ∨ s.desk.st = 7 then s else f s

/-- Device time in coarse cycles (R8, R61). Log entry 2 (DESIGN CHOICE). -/
def coarse (s : State) : Nat := s.dev / 64

/-! ### Free values (log entry 1) -/

/-- The next free value below `n` (any value when `n` is 0), and the state that has drawn it. Log entry 1 (DESIGN CHOICE). -/
def freeVal (n : Nat) (s : State) : Nat × State :=
  (if n = 0 then Config.freeNat s.free else Config.freeNat s.free % n, { s with free := s.free + 1 })

/-- `n` free bytes. Log entry 1 (DESIGN CHOICE). -/
def freeBytes : Nat → State → List Byte × State
  | 0, s => ([], s)
  | n + 1, s =>
    let r := freeBytes n { s with free := s.free + 1 }
    (BitVec.ofNat 8 (Config.freeNat s.free) :: r.1, r.2)

/-! ### Parameters (R7, R14, R459) -/

/-- Table key of a parameter index. -/
def pKey (id i : Nat) : Nat := id * 65536 + i

/-- The default of a parameter of this part (R76 and the other tables; TWIN_SKEW's is the file's, R320). -/
def pDefault (s : State) (r : PRow) (i : Nat) : Nat :=
  if r.id = pCalTwinSkew then pat 64 s.nv.skew
  else paramDefault (s.nv.serial % 2 ^ 32) s.nv.grade r i

/-- A value of a table of set values, or the default. -/
def valOr (s : State) (m : Tab (Option Nat)) (r : PRow) (i : Nat) : Nat :=
  match tget none m (pKey r.id i) with
  | some v => v
  | none => pDefault s r i

/-- The value of an FS parameter in a set (64-bit pattern). -/
def setVal (s : State) (img : SetImg) (id i : Nat) : Nat :=
  match paramRow id with
  | some r => valOr s img.vals r i
  | none => 0

/-- The value in force of a parameter (R458 copy 1): FS from the set in force, IM at once, BO as booted. -/
def par (s : State) (id i : Nat) : Nat :=
  match paramRow id with
  | some r =>
    if r.cls = 0 then valOr s s.par.inForce.vals r i
    else if r.cls = 1 then valOr s s.par.im r i
    else valOr s s.par.boBoot r i
  | none => 0

/-- The value in force of a device-scope parameter. -/
def par0 (s : State) (id : Nat) : Nat := par s id 0

/-- The value in force of a signed parameter. -/
def parI (s : State) (id i : Nat) : Int := sgn 64 (par s id i)

/-- The set a generation bit names: the one in force, or the previous one (R32). Log entry 44 (DEDUCED). -/
def genImg (s : State) (g : Nat) : SetImg := if g = s.par.gen then s.par.inForce else s.par.prev

/-- An FS parameter of the set a generation names (R32, R169). Log entry 44 (DEDUCED). -/
def gPar (s : State) (g id i : Nat) : Nat := setVal s (genImg s g) id i

/-- The channel-map entry at boot (R56). -/
def bootMap (c : Nat) : ChMap := { row := c / 4, col := c % 4, str := 255, em := 255, nbr := [] }

/-- A channel's entry in a set's map. -/
def setMap (img : SetImg) (c : Nat) : ChMap := (tget none img.chmap c).getD (bootMap c)

/-- A channel's map entry in force. -/
def chMap (s : State) (c : Nat) : ChMap := setMap s.par.inForce c

/-- Whether a channel is enabled (R52). -/
def chEnabled (s : State) (c : Nat) : Bool := par s pChEnable c == 1

/-- Whether a channel's entry names an emitter. -/
def chMapped (s : State) (c : Nat) : Bool := decide ((chMap s c).str ≠ 255)

/-! ### Indexed state -/

def ch (s : State) (c : Nat) : Chan := tget {} s.ch c
def setCh (s : State) (c : Nat) (v : Chan) : State := { s with ch := tput {} s.ch c v }
def mb (s : State) (k : Nat) : Mailbox := tget {} s.desk.mbs k
def setMb (s : State) (k : Nat) (m : Mailbox) : State := { s with desk.mbs := tput {} s.desk.mbs k m }
def ambRod (s : State) (r : Nat) : AmbRod := tget {} s.amb.rods r
def setAmbRod (s : State) (r : Nat) (v : AmbRod) : State := { s with amb.rods := tput {} s.amb.rods r v }
def page (s : State) (k : Nat) : Page := tget {} s.tal.pages k
def setPage (s : State) (k : Nat) (v : Page) : State := { s with tal.pages := tput {} s.tal.pages k v }
def talRod (s : State) (r : Nat) : TalRod := tget {} s.tal.rods r
def setTalRod (s : State) (r : Nat) (v : TalRod) : State := { s with tal.rods := tput {} s.tal.rods r v }
def talDeck (s : State) (d : Nat) : TalDeck := tget {} s.tal.decks d
def setTalDeck (s : State) (d : Nat) (v : TalDeck) : State := { s with tal.decks := tput {} s.tal.decks d v }
def extDeck (s : State) (d : Nat) : ExtDeck := tget {} s.ext.decks d
def setExtDeck (s : State) (d : Nat) (v : ExtDeck) : State := { s with ext.decks := tput {} s.ext.decks d v }
def strng (s : State) (i : Nat) : Strng := tget {} s.sch.strs i
def setStrng (s : State) (i : Nat) (v : Strng) : State := { s with sch.strs := tput {} s.sch.strs i v }

/-! ### Attention (R442, R445) -/

/-- The enabled attention bits. -/
def attnA (s : State) : Word := s.desk.attention &&& s.desk.attnEnable

/-- What follows a change of ATTENTION or ATTN_ENABLE (R445): `was` is the value of A before. From 0 to
non-zero the moderation timer starts (DELAY 0 asserts at once); at 0 ATTN_N and the timer end; SAFETY newly
set and enabled asserts at once. -/
def attnUpdate (was : Word) (safety : Bool) (s : State) : State :=
  if attnA s = 0 then { s with desk.attnTimer := none, pins.attnN := false }
  else if safety && (attnA s).getLsbD 11 then { s with desk.attnTimer := none, pins.attnN := true }
  else if s.pins.attnN then s
  else if was = 0 then
    (if s.desk.attnDelay = 0 then { s with pins.attnN := true }
     else { s with desk.attnTimer := some (s.dev + s.desk.attnDelay * tUs) })
  else s

/-- Ticks of a C cycle (R21: 800 MHz). -/
def cCycle : Nat := 160

/-- The running cycle of the C domain. -/
def cycleNow (s : State) : Nat := s.dev / cCycle

/-- Whether the C domain, with the event queue, ATTENTION and the interrupt controller, stands still (R37, R520, R525). -/
def cStopped (s : State) : Bool := s.desk.st == 0 || s.desk.st == 7

/-- Sets attention bits in a running C domain (R442). A set wins over a clear of the same cycle (R6), which then changed neither ATTN_N nor
the moderation timer (R445). Log entry 11 (DESIGN CHOICE). -/
def attnRaise (bits : Word) (s : State) : State :=
  let n := cycleNow s
  let u := attnUpdate (attnA s) (bits.getLsbD 11) { s with
    desk.attention := s.desk.attention ||| bits, desk.setAt := some n
    desk.setBits := if s.desk.setAt = some n then s.desk.setBits ||| bits else bits }
  match s.desk.clr with
  | some c =>
    if c.cyc = n ∧ bits &&& c.bits &&& s.desk.attnEnable ≠ 0 then
      { u with pins.attnN := u.pins.attnN || c.pin, desk.attnTimer := if u.pins.attnN || c.pin then none else c.timer }
    else u
  | none => u

/-- Sets attention bits by hardware; in FROZEN and RESET they keep their values (R433, R520, R525). -/
def attnSet (bits : Word) (s : State) : State := if cStopped s then s else attnRaise bits s

/-! ### Events (R455, R456, R471) -/

/-- Attention bits an event code sets besides EVENT (R442): TIME for TIME_SYNC, LINK for LANE_UP, LANE_DOWN
and the RING_ events, SAFETY for NK_FAULT. Log entry 11 (DESIGN CHOICE). -/
def evAttn (code : Nat) : Word :=
  if code = 0x0805 then 0x2000#32
  else if code = 0x0901 ∨ code = 0x0902 ∨ (0x0A06 ≤ code ∧ code ≤ 0x0A0A) then 0x1000#32
  else if code = 0x0C01 then 0x0800#32
  else 0#32

/-- An event entry's bytes (R455). -/
def evBytes (e : Ev) : List Byte :=
  le 2 e.code ++ le 1 e.data.length ++ le 1 0 ++ le 4 e.seq.toNat ++ le 8 e.time ++ (e.data ++ zeros 24).take 24

/-- Appends an entry, or drops it at a full queue: counted, EVENT_LOST set at the first drop (R456). The entry goes to the logbook's channel
in either case (R455, R481). Log entry 120 (DEDUCED). -/
def pushEv (code : Nat) (data : List Byte) (s : State) : State :=
  let c := s.desk.eventCount.add 1
  let e : Ev := { code := code, seq := c.val, time := coarse s, data := data }
  let s := { s with desk.eventCount := c, desk.logDue := s.desk.logDue ++ [evBytes e] }
  if s.desk.events.length < 1024 then attnRaise 0x100#32 { s with desk.events := s.desk.events ++ [e] }
  else if s.desk.lostCount = 0 then
    attnRaise 0x200#32 { s with desk.lostCount := 1, desk.lostFirst := c.val.toNat }
  else { s with desk.lostCount := s.desk.lostCount + 1 }

/-- Appends an entry; the entry that wraps EVENT_COUNT is followed by the counter's wrap event (R8, R444, R471). -/
def countEv (code : Nat) (data : List Byte) (s : State) : State :=
  if s.desk.eventCount.wraps 1 then pushEv 0x0009 (le 1 1 ++ le 1 0) (pushEv code data s) else pushEv code data s

/-- Queues EVENT_LOST first when drops are unreported and space is free (R456). Log entry 80 (DEDUCED). -/
def pushLost (s : State) : State :=
  if s.desk.lostCount = 0 ∨ 1024 ≤ s.desk.events.length then s
  else
    let d := le 4 s.desk.lostCount ++ le 4 s.desk.lostFirst
    countEv 0x0003 d { s with desk.lostCount := 0, desk.lostFirst := 0 }

/-- Logs an event in a running C domain (R455): EVENT_LOST goes ahead of it. -/
def logNow (code : Nat) (data : List Byte) (s : State) : State := attnRaise (evAttn code) (countEv code data (pushLost s))

/-- Logs an event (R455); in FROZEN and RESET the event queue stands still (R520, R525). Log entry 60 (DEDUCED). -/
def logEv (code : Nat) (data : List Byte) (s : State) : State := if cStopped s then s else logNow code data s

/-- Adds to a class W counter and logs its wrap event with the given code and data (R8). -/
def wrapEv (old : CntW) (k code : Nat) (data : List Byte) (s : State) : State :=
  if old.wraps k then logEv code data s else s

/-! ### Interrupt sources (R472 to R478) -/

def icSrc (s : State) (n : Nat) : IcSrc := tget {} s.ic.src n
def setIcSrc (s : State) (n : Nat) (v : IcSrc) : State := { s with ic.src := tput {} s.ic.src n v }

/-- Whether a source is eligible (R474). -/
def icEligible (s : State) (x : IcSrc) : Bool :=
  x.pending && !x.active && x.enable && decide (s.ic.floor ≤ x.prio) && !x.held

/-- Evaluates the request line; a rise sets LATCHED (R475) and wakes an idle processor (R479). -/
def icLine (s : State) : State :=
  let l := s.ic.src.any (fun p => icEligible s p.2)
  { s with ic.line := l, ic.latched := s.ic.latched || (l && !s.ic.line), ic.idle := s.ic.idle && !l }

/-- A source becomes pending: its moderation group may start holding, and a holding group holds it (R478). One that is pending already
stays as it is. -/
def icPend (n : Nat) (s : State) : State :=
  let x := icSrc s n
  if x.pending then icLine s else
  let g := tget {} s.ic.mods x.group
  let starts := x.mod && decide (g.timer ≠ 0) && g.hold.isNone && !s.ic.idle
  let s := if starts then
      { s with ic.mods := tput {} s.ic.mods x.group { g with hold := some (s.dev + g.timer * (tUs / 10)) } }
    else s
  icLine (setIcSrc s n { x with pending := true, held := x.mod && (starts || g.hold.isSome) })

/-- Whether the controller's clock is stopped, or was restarted within the last 8 C cycles (R480). -/
def icRestarts (s : State) : Bool :=
  s.ic.deep || (match s.ic.wokeAt with | some w => decide (s.dev ≤ w + 8 * cCycle) | none => false)

/-- Whether an edge may arrive as one with its source's edge before, not yet taken (R480): less than 4 C cycles after it, or within 8 C cycles
of the clock's restart that the latter brought about. -/
def icNear (s : State) (x : IcSrc) : Bool :=
  x.pending && (match x.edgeAt with
    | some a => decide (s.dev < a + 4 * cCycle) || (match s.ic.wokeAt with | some w => decide (w ≤ a) && decide (s.dev ≤ w + 8 * cCycle) | none => false)
    | none => false)

/-- A stopped clock restarts at the first edge (R480). -/
def icWake (s : State) : State :=
  if s.ic.deep then { s with ic.deep := false, ic.wokeAt := some s.dev } else s

/-- An edge is counted, unless it arrives as one with the edge before (R473, R480); its latch is set where the clock stands or restarts.
Log entry 119 (DEDUCED). -/
def icCount (n : Nat) (s : State) : State :=
  let x := icSrc s n
  setIcSrc { s with ic.draws := s.ic.draws + b2n (icNear s x) } n
    { x with edgeAt := some s.dev, latch := icRestarts s, count := if icNear s x && Config.edgesMerge s.ic.draws then x.count else x.count.add 15 1 }

/-- An edge on a source: PENDING set, COUNT raised (R472, R473). Log entry 14 (DESIGN CHOICE). -/
def irqNow (n : Nat) (s : State) : State := icPend n (icCount n (icWake s))

/-- An edge on a source; the controller stands still in FROZEN and RESET (R520, R525). -/
def irq (n : Nat) (s : State) : State := if cStopped s then s else irqNow n s

/-- The input of a level source (R472). Log entry 14 (DESIGN CHOICE). -/
def irqLevel (n : Nat) (on : Bool) (s : State) : State :=
  let x := icSrc s n
  if cStopped s ∨ on = x.pending then s
  else if on then irqNow n s
  else icLine (setIcSrc s n { x with pending := false, held := false })

/-- Whether a source is an edge source (R472). -/
def icEdge (n : Nat) : Bool :=
  !((decide (25 ≤ n) && decide (n ≤ 104)) || (decide (173 ≤ n) && decide (n ≤ 196)) || (decide (217 ≤ n) && decide (n ≤ 228))
    || (decide (277 ≤ n) && decide (n ≤ 280)) || (decide (289 ≤ n) && decide (n ≤ 324)))

/-- A happening in the unit of a source of which R472 gives the origin and no rule gives the condition: the level it leaves, or whether an
edge comes, is open. Log entry 14 (DESIGN CHOICE). -/
def irqOpen (n : Nat) (s : State) : State :=
  if cStopped s then s
  else
    let v := freeVal 2 s
    if icEdge n then (if v.1 = 1 then irq n v.2 else v.2) else irqLevel n (v.1 == 1) v.2

/-! ### Mailboxes (R446 to R454) -/

/-- Result codes (R453). -/
abbrev rOK : Nat := 0
abbrev rBUSY : Nat := 1
abbrev rBadOpcode : Nat := 2
abbrev rBadParam : Nat := 3
abbrev rNotPermitted : Nat := 4
abbrev rSealLate : Nat := 5
abbrev rSafetyLocked : Nat := 6
abbrev rCheckMismatch : Nat := 7
abbrev rTimeout : Nat := 8
abbrev rRange : Nat := 10

/-- The bytes of a request as they lie in the buffer (R451). -/
def reqBytes (op : Nat) (r : Req) : List Byte :=
  le 2 op ++ le 2 r.payload.length ++ le 4 r.tag ++ r.payload

/-- The bytes of a response (R452): no payload with BAD_OPCODE, SAFETY_LOCKED, NOT_PERMITTED_IN_STATE and
BUSY. -/
def respBytes (op result tag : Nat) (payload : List Byte) : List Byte :=
  let p := if result = rBadOpcode ∨ result = rSafetyLocked ∨ result = rNotPermitted ∨ result = rBUSY then [] else payload
  le 2 op ++ le 2 result ++ le 4 tag ++ le 2 p.length ++ le 2 0 ++ p

/-- Writes bytes at the start of a mailbox buffer of 256 bytes. -/
def bufPut (m : Mailbox) (l : List Byte) : Mailbox := { m with buf := cputs 0 m.buf 0 (l.take 256) }

/-- Completion of a request (R447): response into the buffer, MB_COMPLETED, MB_LAST, then DONE; an SPI request
sets ATTENTION.MBOX, an in-band one is answered with kind 2 (R436). -/
def mbDone (k op result tag : Nat) (payload : List Byte) (s : State) : State :=
  let m := mb s k
  let bytes := respBytes op result tag payload
  let m' := { bufPut m bytes with
    st := 2, completed := m.completed.add 1, lastResult := result, lastOpcode := op }
  let s := wrapEv m.completed 1 0x0009 (le 1 2 ++ le 1 k) s
  match m.origin with
  | none => attnSet (BitVec.ofNat 32 (2 ^ k)) (setMb s k { m' with lastOrigin := none })
  | some o =>
    let body := le 1 1 ++ le 1 2 ++ le 1 k ++ le 1 0 ++ le 4 o.trans ++ bytes
    let s := setMb s k { m' with lastOrigin := some o, lastKind2 := body }
    { s with desk.replies := tput none s.desk.replies o.lane (some
        { lane := o.lane, dst := o.src, etherType := par0 s pMgmtEthertype, tci := o.tci, secured := o.secured,
          body := body }) }

/-- A doorbell that finds the mailbox BUSY (R447): OVERRUN set, MAILBOX_OVERRUN logged. -/
def mbOverrun (k : Nat) (inBand : Bool) (s : State) : State :=
  logEv 0x0004 (le 1 k ++ le 1 (b2n inBand)) (setMb s k { mb s k with overrun := true })

/-- The doorbell order with mailbox `k` rung now (R448): last, but of the doorbells of one cycle in ascending mailbox number. -/
def ringOrder (s : State) (k : Nat) : List Nat → List Nat
  | [] => [k]
  | j :: r => if (mb s j).rungAt = some (cycleNow s) ∧ k < j then k :: j :: r else j :: ringOrder s k r

/-- Submits a request: the bytes into the buffer, BUSY, into the doorbell order (R447, R448); interrupt source 1 + k.
Log entry 18 (DESIGN CHOICE). -/
def mbRing (k : Nat) (bytes : List Byte) (o : Option InBand) (s : State) : State :=
  let m := bufPut (mb s k) bytes
  irq (1 + k) { setMb s k { m with st := 1, inBand := o.isSome, origin := o, rungAt := some (cycleNow s) } with
    desk.waiting := ringOrder s k s.desk.waiting }

/-- Whether the buffer of a BUSY mailbox holds exactly this request. Log entry 18 (DESIGN CHOICE). -/
def mbHolds (k op : Nat) (r : Req) (s : State) : Bool :=
  cgets 0 (mb s k).buf 0 (min 256 (8 + r.payload.length)) == (reqBytes op r).take 256

/-- Whether the front desk answers requests: not in RESET or FROZEN (R433); in recovery only mailbox 0 (R467). -/
def deskAnswers (k : Nat) (s : State) : Bool :=
  decide (s.desk.st ≠ 0) && decide (s.desk.st ≠ 7) && (!s.desk.recovery || k == 0)

/-- How a command ends its own step: `done` completes the mailbox, `pending` leaves it BUSY for the event that
will complete it (R448, R449). -/
inductive CmdOut where
  | done (result : Nat) (payload : List Byte) (s : State)
  | pending (s : State)

/-- What a command's row fixes (R450, R454): its opcode, the only mailbox range it is accepted on, the debug level
it needs, and whether it runs in recovery (R467). -/
structure CmdSpec where
  op       : Nat
  mbLo     : Nat := 0
  mbHi     : Nat := 7
  level    : Nat := 0
  recovery : Bool := false
  deriving DecidableEq, Repr

/-- A field of a refusal's payload (R452): bytes its table fixes there (echoed fields, device-wide figures), reserved bytes, `n` bytes
the specification gives no value in a refusal, such a value kept below `m`, or to the bits of `m`, by its table. -/
inductive RField where
  | lit (b : List Byte)
  | zero (n : Nat)
  | free (n : Nat)
  | below (n m : Nat)
  | mask (n m : Nat)
  deriving DecidableEq, Repr

/-- The bytes of a refusal's fields. Log entry 1 (DESIGN CHOICE). -/
def refuseBytes : List RField → State → List Byte × State
  | [], s => ([], s)
  | f :: l, s =>
    let r := match f with
      | .lit b => (b, s)
      | .zero n => (zeros n, s)
      | .free n => freeBytes n s
      | .below n m => let v := freeVal m s; (le n v.1, v.2)
      | .mask n m => let v := freeVal 0 s; (le n (v.1 &&& m), v.2)
    let q := refuseBytes l r.2
    (r.1 ++ q.1, q.2)

/-- A refusal that carries the payload its table lays out (R452): the fields the specification does not fix there are free
values. Log entry 1 (DESIGN CHOICE). -/
def refuse (result : Nat) (l : List RField) (s : State) : CmdOut :=
  let r := refuseBytes l s
  .done result r.1 r.2

/-- Runs a started request by the order of refusals of R454: role and debug level, length, then the command.
Log entries 18 (DESIGN CHOICE), 19 (DESIGN CHOICE). -/
def runCmd (c : CmdSpec) (lenOk : List Byte → Bool) (body : Nat → Req → State → CmdOut) (r : Req) (s : State) : State :=
  let out : CmdOut :=
    if r.mb < c.mbLo ∨ c.mbHi < r.mb ∨ s.desk.debug < c.level then .done rSafetyLocked [] s
    else if 248 < r.payload.length ∨ lenOk r.payload = false then .done rBadParam [] s
    else if s.desk.recovery && !c.recovery then .done rNotPermitted [] s
    else body c.op r s
  match out with
  | .done result payload s' => mbDone r.mb c.op result r.tag payload s'
  | .pending s' => s'

/-- The opcodes of the commands (R13, R453); every other one is reserved. Log entry 19 (DESIGN CHOICE). -/
def opcodes : List Nat :=
  [0x0001, 0x0002, 0x0003, 0x0004, 0x0010, 0x0011, 0x0012, 0x0013, 0x0014, 0x0015, 0x0016, 0x0017, 0x0018,
   0x0110, 0x0111, 0x0112, 0x0113, 0x0210, 0x0211, 0x0310, 0x0311, 0x0410, 0x0411, 0x0510, 0x0511, 0x0512, 0x0513, 0x0514, 0x0515]
  ++ [0x0610, 0x0611, 0x0612, 0x0613, 0x0710, 0x0711, 0x0712, 0x0713, 0x0810, 0x0811, 0x0812, 0x0813, 0x0814,
      0x0910, 0x0911, 0x0912, 0x0913, 0x0A10, 0x0A11, 0x0B10, 0x0B11, 0x0C10, 0x0C11, 0x0C12, 0x0C13, 0x0C14, 0x0C15,
      0x0D10, 0x0D11, 0x0D12, 0x0D13, 0x0D14, 0x0E10, 0x0E11, 0x0E12]

/-- Requests with a reserved opcode that have come to the front of the doorbell order are answered BAD_OPCODE (R448, R453); at most `n`. -/
def answerReserved : Nat → State → State
  | 0, s => s
  | n + 1, s =>
    match s.desk.waiting with
    | [] => s
    | k :: w =>
      let op := cgetLE 0 (mb s k).buf 0 2
      if opcodes.contains op then s
      else answerReserved n (mbDone k op rBadOpcode (cgetLE 0 (mb s k).buf 4 4) [] { s with desk.waiting := w })

/-- A mailbox command's row: it rings the doorbell of an IDLE or DONE mailbox and starts, or starts a request rung
before (R447); requests start in doorbell order (R448), so a request behind others only waits; a BUSY mailbox
refuses another doorbell with OVERRUN. Log entry 18 (DESIGN CHOICE). -/
def command (c : CmdSpec) (lenOk : List Byte → Bool) (body : Nat → Req → State → CmdOut) (t : Nat) (r : Req)
    (s : State) : State :=
  let s := advance t s
  if 7 < r.mb ∨ deskAnswers r.mb s = false then s
  else if (mb s r.mb).st = 1 then
    (if s.desk.waiting.head? = some r.mb ∧ mbHolds r.mb c.op r s = true then
      answerReserved 8 (runCmd c lenOk body r { s with desk.waiting := s.desk.waiting.tail })
     else if s.desk.waiting.contains r.mb && mbHolds r.mb c.op r s then s
     else mbOverrun r.mb false s)
  else
    let s' := mbRing r.mb (reqBytes c.op r) none s
    if s.desk.waiting = [] then runCmd c lenOk body r { s' with desk.waiting := [] } else s'

/-- A request length of exactly `n` bytes. -/
def lenEq (n : Nat) (p : List Byte) : Bool := p.length == n

/-- The host's clear field: bits 0 (counters) and 1 (sticky flags); any other bit is refused (R78, R210). -/
def clearOk (v : Nat) : Bool := decide (v < 4)

end Sys2Proof.Machine
end

