-- ==== Sys2Proof/Machine/Itin.lean ====
section
/-! DEFINITION. Machine/Itin.lean: the itinerary image (R174 to R178), its validation (R180, R207, R555) and the
energy curves (R194, R208). -/

namespace Sys2Proof.Machine

/-! ### Reading an image -/

/-- A field of `n` bytes of an image; bytes never written read as 0 (log entry 5). -/
def imf (img : List Host.Cell) (o n : Nat) : Nat := cgetLE 0 img o n

def imLines (img : List Host.Cell) : Nat := imf img 2 1
def imGates (img : List Host.Cell) : Nat := imf img 3 1
def imId (img : List Host.Cell) : Nat := imf img 4 4
def imLen (img : List Host.Cell) : Nat := imf img 8 4
def imGateOff (img : List Host.Cell) : Nat := imf img 12 4

/-- Byte offset of a line's record (R175). -/
def lineOff (img : List Host.Cell) (l : Nat) : Nat := imf img (32 + 4 * l) 4
def lineAngle (img : List Host.Cell) (l : Nat) : Nat := imf img (lineOff img l) 2
def linePeriod (img : List Host.Cell) (l : Nat) : Nat := imf img (lineOff img l + 2) 2
def lineCellCount (img : List Host.Cell) (l : Nat) : Nat := imf img (lineOff img l + 4) 2
def lineFacet (img : List Host.Cell) (l : Nat) : Nat := imf img (lineOff img l + 6) 1
/-- Elevation setpoint of a line as its 16-bit pattern; 0x8000 means no change (R176). -/
def lineElev (img : List Host.Cell) (l : Nat) : Nat := imf img (lineOff img l + 8) 2

def cellOff (img : List Host.Cell) (l i : Nat) : Nat := lineOff img l + 16 + 48 * i

/-- The gating mask of a gating index as a 1,024-bit number; none for 0xFF (R177, R178). -/
def gateMask (img : List Host.Cell) (g : Nat) : Option Nat :=
  if g = 255 then none else some (imf img (imGateOff img + 128 * g) 128)

/-- Bit `i` of `v`, as a Bool. -/
def bit (v i : Nat) : Bool := v.testBit i

/-- A cell with its defaults resolved against a set's parameters (R177). -/
def imCell (pv : Nat → Nat) (img : List Host.Cell) (l i : Nat) : Cell :=
  let o := cellOff img l i
  let df := imf img (o + 2) 1
  { k := imf img o 2
    n := if bit df 0 then pv pTallyShotsPerPoint else imf img (o + 3) 1
    zoom := if bit df 1 then pv pTallyZoomMode else imf img (o + 4) 1 % 4
    b := if bit df 2 then pv pTallyCoarseWidth else imf img (o + 5) 1
    f := if bit df 3 then pv pTallyFineWidth else imf img (o + 6) 1
    raw := imf img (o + 7) 1 % 4
    o := if bit df 4 then pv pTallyCoarseStart else imf img (o + 8) 2 % 16384
    gating := imf img (o + 10) 1
    masks := (List.range 16).map (fun x => imf img (o + 12 + x) 1)
    codes := (List.range 16).map (fun x => imf img (o + 28 + x) 1) }

/-- The cells of a line, in order. -/
def lineCells (pv : Nat → Nat) (img : List Host.Cell) (l : Nat) : List Cell :=
  (List.range (lineCellCount img l)).map (fun i => imCell pv img l i)

/-- Cycles of a list of cells: Σ K × N (R183). -/
def cellCycles (cs : List Cell) : Nat := sumN (cs.map (fun c => c.k * c.n))

/-- Slots of a line: 8 × Σ K × N (R183). -/
def lineSlots (pv : Nat → Nat) (img : List Host.Cell) (l : Nat) : Nat := 8 * cellCycles (lineCells pv img l)

/-- Finds the cell of a cycle: cell index, the cell, point index within the line, first cycle of that point. -/
def cellAt : List Cell → Nat → Nat → Nat → Nat → Option (Nat × Cell × Nat × Nat)
  | [], _, _, _, _ => none
  | c :: cs, ci, pt, start, cyc =>
    if cyc < start + c.k * c.n then
      some (ci, c, pt + (cyc - start) / c.n, start + (cyc - start) / c.n * c.n)
    else cellAt cs (ci + 1) (pt + c.k) (start + c.k * c.n) cyc

/-- The parameters of the set in force, device scope. -/
def pvForce (s : State) (id : Nat) : Nat := par0 s id

/-- The parameters of the shadow, device scope. -/
def pvShadow (s : State) (id : Nat) : Nat := setVal s s.par.shadow id 0

/-! ### Curves (R194, R208) -/

/-- Largest v of at most 4,095 with `test v`, for a downward-closed test, by binary search. -/
def searchDown (test : Nat → Bool) : Nat → Nat → Nat
  | 0, v => v
  | n + 1, v => if test (v + 2 ^ n) then searchDown test n (v + 2 ^ n) else searchDown test n v

/-- round(4,095 × 10^(−span × (255 − e) / (255 × 100))) with the span in 0.1 dB: the largest v with
2v − 1 ≤ 8,190 × 10^(−k/25,500), decided on integers. Log entry 9 (DESIGN CHOICE). -/
def logCurve (span e : Nat) : Nat :=
  let g := Nat.gcd (span * (255 - e)) 25500
  let a := span * (255 - e) / g
  let m := 25500 / g
  searchDown (fun v => decide ((2 * v - 1) ^ m * 10 ^ a ≤ 8190 ^ m)) 12 0

/-- round(4,095 × (e / 255)^γ) with γ in Q4.12, decided on integers. Log entry 9 (DESIGN CHOICE). -/
def gammaCurve (g e : Nat) : Nat :=
  let d := Nat.gcd g 4096
  let a := g / d
  let m := 4096 / d
  searchDown (fun v => decide ((2 * v - 1) ^ m * 255 ^ a ≤ 8190 ^ m * e ^ a)) 12 0

/-- Entry `e` of a curve slot. -/
def curveVal (c : Curve) (e : Nat) : Nat :=
  match tget none c.ovr e with
  | some v => v
  | none => if c.gamma then (if e = 0 then 0 else gammaCurve c.shape e) else logCurve c.shape e

/-- The curve slot of a set. -/
def setCurve (img : SetImg) (k : Nat) : Curve := tget {} img.curves k

/-- Whether a slot never decreases: its formula does not, so only neighbours of written entries are compared. -/
def curveRises (c : Curve) : Bool :=
  c.ovr.all (fun (p : Nat × Option Nat) =>
    (p.1 == 0 || decide (curveVal c (p.1 - 1) ≤ curveVal c p.1)) &&
    (p.1 == 255 || decide (curveVal c p.1 ≤ curveVal c (p.1 + 1))))

/-! ### Validation (R207, R555) -/

/-- What a check finds: reason 0 valid, line 0xFF and cell 0xFFFF when not bound. -/
structure Verdict where
  reason : Nat
  line   : Nat := 255
  cell   : Nat := 65535
  deriving DecidableEq, Repr

/-- Whether `[o, o + n)` lies inside the image and starts at a multiple of 8. -/
def inImage (img : List Host.Cell) (o n : Nat) : Bool := decide (o % 8 = 0) && decide (o + n ≤ imLen img)

/-- Reason 1: header and layout. The line table is checked for a line count of 1 to 64. Log entry 41 (DEDUCED). -/
def badLayout (img : List Host.Cell) : Bool :=
  let n := imLines img
  let g := imGates img
  decide (imf img 0 2 ≠ 1) || decide (16 < g)
  || decide (imLen img < 32) || decide (131072 < imLen img) || decide (imLen img % 8 ≠ 0)
  || decide (imGateOff img ≠ 0 ∧ g = 0) || decide (imGateOff img = 0 ∧ g ≠ 0)
  || (decide (g ≠ 0) && !inImage img (imGateOff img) (128 * g))
  || (decide (1 ≤ n ∧ n ≤ 64) &&
      (decide (imLen img < 32 + 4 * n) ||
       (List.range n).any (fun l => !inImage img (lineOff img l) (16 + 48 * lineCellCount img l))))

/-- The whole image with bytes 16 to 19 taken as 0 (R175). -/
def imCheckBytes (img : List Host.Cell) : List Byte :=
  cgets 0 (cputs 0 img 16 (zeros 4)) 0 (imLen img)

/-- The first failure of a cell, in the order of R555. Log entry 41 (DEDUCED). -/
def checkCell (present : Nat → Nat) (img : List Host.Cell) (l i : Nat) : Nat :=
  let o := cellOff img l i
  let df := imf img (o + 2) 1
  let n := imf img (o + 3) 1
  let z := imf img (o + 4) 1
  let b := imf img (o + 5) 1
  let f := imf img (o + 6) 1
  let oo := imf img (o + 8) 2
  let g := imf img (o + 10) 1
  if imf img o 2 = 0 then 5
  else if (!bit df 0 && (decide (n = 0) || decide (64 < n))) || (!bit df 1 && decide (z % 4 = 3))
      || (!bit df 2 && (decide (b < 5) || decide (9 < b))) || (!bit df 3 && decide (4 < f)) then 6
  else if g ≠ 255 ∧ imGates img ≤ g then 7
  else if (List.range 16).any (fun x => decide (imf img (o + 12 + x) 1 &&& (255 - present x) ≠ 0)) then 8
  else if decide (32 ≤ df) || (!bit df 1 && decide (4 ≤ z)) || (!bit df 4 && decide (16384 ≤ oo))
      || decide (4 ≤ imf img (o + 7) 1) || decide (imf img (o + 11) 1 ≠ 0) || decide (imf img (o + 44) 4 ≠ 0) then 11
  else 0

/-- The first failing cell of a line from cell `i`, `n` cells left. -/
def checkCells (present : Nat → Nat) (img : List Host.Cell) (l : Nat) : Nat → Nat → Option Verdict
  | 0, _ => none
  | n + 1, i =>
    let r := checkCell present img l i
    if r = 0 then checkCells present img l n (i + 1) else some { reason := r, line := l, cell := i }

/-- The first failure of one line. -/
def checkLine (present : Nat → Nat) (facets : Nat) (img : List Host.Cell) (l : Nat) : Option Verdict :=
  let o := lineOff img l
  if linePeriod img l < 500 then some { reason := 4, line := l }
  else if lineCellCount img l = 0 then some { reason := 5, line := l }
  else if lineFacet img l ≠ 255 ∧ facets ≤ lineFacet img l then some { reason := 12, line := l }
  else if imf img (o + 7) 1 ≠ 0 ∨ imf img (o + 10) 6 ≠ 0 then some { reason := 11, line := l }
  else match checkCells present img l (lineCellCount img l) 0 with
    | some v => some v
    | none =>
      if 65535 < sumN ((List.range (lineCellCount img l)).map (fun i => imf img (cellOff img l i) 2)) then
        some { reason := 5, line := l }
      else none

def checkLines (present : Nat → Nat) (facets : Nat) (img : List Host.Cell) : Nat → Nat → Option Verdict
  | 0, _ => none
  | n + 1, l =>
    match checkLine present facets img l with
    | some v => some v
    | none => checkLines present facets img n (l + 1)

/-- Whether some gap between rising positions is below 15 ns (1,920 ticks). -/
def gapShort : List Nat → Bool
  | a :: b :: l => decide (b < a + 1920) || gapShort (b :: l)
  | _ => false

/-- Reason 9: a cyclic gap of the present strings' staggers below 15 ns for some line's period (R189). -/
def badStagger (pos : List Nat) (periods : List Nat) : Bool :=
  let p := sortBy id pos
  gapShort p || (match p, p.getLast? with
    | a :: _, some z => periods.any (fun q => decide (a + q * 64 < z + 1920))
    | _, _ => false)

/-- Every check, against the parameters and curves of a set (R180, R207, R555). Log entry 41 (DEDUCED). -/
def validate (s : State) (st : SetImg) (img : List Host.Cell) : Verdict :=
  let pv := fun id i => setVal s st id i
  let present := fun x => pv pEmitPresent x
  let strs := (List.range 16).filter (fun x => decide (present x ≠ 0))
  if badLayout img then { reason := 1 }
  else if crc32 (imCheckBytes img) ≠ imf img 16 4 then { reason := 2 }
  else if imLines img = 0 ∨ 64 < imLines img then { reason := 3 }
  else if imf img 20 12 ≠ 0 then { reason := 11 }
  else match checkLines present (par0 s pPolyFacets) img (imLines img) 0 with
    | some v => v
    | none =>
      if badStagger (strs.map (fun x => pv pEmitStagger x)) ((List.range (imLines img)).map (linePeriod img)) then { reason := 9 }
      else if strs.any (fun x => !curveRises (setCurve st (pv pEmitCurve x))) then { reason := 10 }
      else { reason := 0 }

/-- The frame length ITIN_VALIDATE reports: Σ of the lines' active lengths in coarse cycles (R183). -/
def frameLength (pv : Nat → Nat) (img : List Host.Cell) : Nat :=
  sumN ((List.range (imLines img)).map (fun l => linePeriod img l * lineSlots pv img l))

end Sys2Proof.Machine
end

