-- ==== Sys2Proof/Machine/Stream.lean ====
section
/-! DEFINITION. Machine/Stream.lean: the Bluward assembler (R328 to R362): records into frames, class queues and shedding,
loss records and their store, links; keyed frames of twins (R414 to R416); the time mapping (R354). -/

namespace Sys2Proof.Machine

/-! ### Configuration and capacity (R331, R333) -/

/-- Whether the device is in twin mode (R400). -/
def twinMode (s : State) : Bool := par0 s pTwinEnable == 1

def lane (s : State) (l : Nat) : Lane := tget {} s.lan.ch l
def setLane (s : State) (l : Nat) (v : Lane) : State := { s with lan.ch := tput {} s.lan.ch l v }

/-- MAC rate in Gbit/s of a rate code (R333). -/
def macRate (code : Nat) : Nat := [10, 25, 50, 100].getD code 0

/-- Whether a host lane's link is up in data mode (R333, R378). -/
def linkUp (s : State) (l : Nat) : Bool := decide (l < 8) && (lane s l).st == 4

/-- The lanes of a path. -/
def pathLanes (p : Nat) : List Nat := [4 * p, 4 * p + 1, 4 * p + 2, 4 * p + 3]

/-- B_p in Gbit/s (R333). -/
def capacity (s : State) (p : Nat) : Nat :=
  sumN ((pathLanes p).map (fun l => if linkUp s l then macRate (lane s l).rate else 0))

/-- Links of a path that are up, bit n for its lane n. -/
def linksUp (s : State) (p : Nat) : Nat := bitsOf ((List.range 4).filter (fun i => linkUp s (4 * p + i)))

def path (s : State) (p : Nat) : Path := tget {} s.str.paths p
def setPath (s : State) (p : Nat) (v : Path) : State := { s with str.paths := tput {} s.str.paths p v }
def slot (s : State) (k : Nat) : Slot := tget {} s.str.slots k
def setSlot (s : State) (k : Nat) (v : Slot) : State := { s with str.slots := tput {} s.str.slots k v }
def queue (s : State) (q cls : Nat) : Queue := tget {} s.str.queues (q * 8 + cls)
def setQueue (s : State) (q cls : Nat) (v : Queue) : State := { s with str.queues := tput {} s.str.queues (q * 8 + cls) v }

/-- The slot of a class (R367 CLASS_MAP). -/
def slotOf (s : State) (cls : Nat) : Nat := par0 s pStreamClassMap / 2 ^ (4 * cls - 4) % 16

/-- Where frames of a slot go (R331): 0 A, 1 B, 2 the shared queues of REPLICATE. -/
def pathOf (s : State) (mode : Nat) (c : SlotCfg) : Nat :=
  if mode = 0 then par0 s pStreamSinglePath else if mode = 1 then 2 else c.path

/-- The paths a queue index stands for. -/
def realPaths (q : Nat) : List Nat := if q = 2 then [0, 1] else [q]

/-- Whether a frame that closes now gets an R-TAG (R328). -/
def rTagged (s : State) (mode : Nat) : Bool := mode == 1 && par0 s pStreamReplTag == 1

/-- Charged bytes of a Bluward frame (R357). -/
def charge (s : State) (mode : Nat) (c : SlotCfg) (macsec : Bool) (payload : Nat) : Nat :=
  24 + payload + 14 + (if c.vlan then 4 else 0) + (if rTagged s mode then 6 else 0)
    + (if macsec then 32 else 0) + 4 + 8 + 12

/-- Whether frames are sent under MACsec (R367). -/
def macsecOn (s : State) : Bool := bits (par0 s pMacsecEnable) 0 0 == 1

/-- The frame number in force at a coarse instant (R557). -/
def frameAt (s : State) (c : Nat) : Nat :=
  match s.str.frHist.find? (fun p => decide (p.1 ≤ c)) with
  | some p => p.2
  | none => s.sch.frameNo.val.toNat

/-- Frame start of a scan frame, in ticks. -/
def frameStartOf (s : State) (f : Nat) : Nat :=
  match s.str.starts.find? (fun p => p.1 == f) with
  | some p => p.2
  | none => s.sch.frameStart

/-! ### Loss records (R348 to R350, R557) -/

/-- A loss record's bytes. -/
def lossBytes (l : Loss) : List Byte :=
  if l.kind = 0 then
    le 1 0x30 ++ le 1 0 ++ le 2 24 ++ le 1 l.stage ++ le 1 l.cls ++ le 2 l.index ++ le 8 (l.start / 64)
      ++ le 4 (min (2 ^ 32 - 1) ((l.stop - l.start) / tNs)) ++ le 4 (min (2 ^ 32 - 1) l.items)
  else if l.kind = 1 then
    le 1 0x31 ++ le 1 1 ++ le 2 48 ++ le 1 l.index ++ le 1 l.cls ++ le 1 l.frames ++ le 1 0
      ++ ((List.range 5).flatMap (fun i => le 4 (min (2 ^ 32 - 1) (l.recs.getD i 0)))) ++ le 4 0 ++ le 8 l.offered ++ le 8 l.shed
  else
    le 1 0x31 ++ le 1 2 ++ le 2 136 ++ le 1 l.index ++ le 1 l.line ++ le 1 l.frames ++ le 1 0
      ++ ((List.range 16).flatMap (fun i =>
        let p := l.chans.getD i (0, 0)
        le 4 (min (2 ^ 32 - 1) p.1) ++ le 4 (min (2 ^ 32 - 1) p.2)))

/-- Whether a stored record is the partner of a new one (R350). -/
def partner (a b : Loss) : Bool :=
  a.kind == b.kind && a.index == b.index && (a.kind != 0 || (a.stage == b.stage && a.cls == b.cls))

/-- Merges a new record `b` into its partner `a` (R350); the scan frame is that of the earlier one (R557). Log entry 56 (DEDUCED). -/
def lossMerge (a b : Loss) : Loss :=
  { a with
    frame := if b.start < a.start then b.frame else a.frame
    start := min a.start b.start, stop := max a.stop b.stop, items := min (2 ^ 32 - 1) (a.items + b.items)
    cls := if a.kind = 1 then a.cls ||| b.cls else a.cls
    frames := a.frames + b.frames
    recs := (List.range 5).map (fun i => min (2 ^ 32 - 1) (a.recs.getD i 0 + b.recs.getD i 0))
    offered := a.offered + b.offered, shed := a.shed + b.shed
    line := if b.start < a.start then b.line else a.line
    chans := (List.range 16).map (fun i =>
      let p := a.chans.getD i (0, 0)
      let q := b.chans.getD i (0, 0)
      (min (2 ^ 32 - 1) (p.1 + q.1), min (2 ^ 32 - 1) (p.2 + q.2))) }

/-- Merges into the newest partner of a store, oldest first; none when there is no partner. -/
def mergeNewest (l : Loss) (st : List Loss) : Option (List Loss) :=
  match st.reverse.findIdx? (fun a => partner a l) with
  | none => none
  | some i => some ((st.reverse.modify i (fun a => lossMerge a l)).reverse)

/-- Puts a loss record into the store of class 2's path (R350); as formed, it goes to the logbook (R481, R498). Log entry 120 (DEDUCED). -/
def pushLoss (l : Loss) (s : State) : State :=
  let s := { s with str.logDue := s.str.logDue ++ [(8, lossBytes l)] }
  let q := pathOf s (par0 s pStreamPathMode) (slot s (slotOf s 2)).cfg
  let p := path s q
  if p.loss.length < 256 then setPath s q { p with loss := p.loss ++ [l] }
  else match mergeNewest l p.loss with
    | some st => setPath s q { p with loss := st }
    | none =>
      let s := (realPaths q).foldl (fun s k =>
        let x := path s k
        wrapEv x.lossC 1 0x0809 (le 1 k ++ le 1 7) (setPath s k { x with lossC := x.lossC.add 1 })) s
      logEv 0x0804 (le 1 q ++ le 1 (if l.kind = 0 then l.stage else 4)) s

/-- Sends a GAP record (R348): stage, class, index, first loss and closing instant in ticks, items. Log entry 56 (DEDUCED). -/
def gap (stage cls index start stop items : Nat) (s : State) : State :=
  pushLoss { kind := 0, frame := frameAt s (start / 64), stage := stage, cls := cls, index := index, start := start,
             stop := stop, items := items } s

/-! ### Class queues (R358, R359) -/

/-- Closes a stage-4 episode of a class (R348). -/
def closeEp (q cls : Nat) (s : State) : State :=
  let x := queue s q cls
  match x.ep with
  | none => s
  | some e => gap 4 cls q e.1 s.dev e.2 (setQueue s q cls { x with ep := none })

/-- Takes the `n` oldest formed segments out of the store (R281). -/
def dropFormed : Nat → List Seg → List Seg
  | 0, l => l
  | _ + 1, [] => []
  | n + 1, x :: l => if x.formed then dropFormed n l else x :: dropFormed (n + 1) l

/-- The first `n` segments that are with the stream are with it no more. -/
def unformFirst : Nat → List Seg → List Seg
  | 0, l => l
  | _, [] => []
  | n + 1, x :: l => if x.formed then { x with formed := false } :: unformFirst n l else x :: unformFirst (n + 1) l

/-- A class 5 frame is discarded unsent: its segments, the newest with the stream or the oldest, stay in the store (R281).
Log entry 137 (DEDUCED). -/
def segBack (newest : Bool) (f : BFrame) (s : State) : State :=
  if f.cls = 5 then
    { s with nk.segs := if newest then (unformFirst f.items s.nk.segs.reverse).reverse else unformFirst f.items s.nk.segs }
  else s

/-- A class 5 frame is sent: its segments leave the store (R281). -/
def segOut (f : BFrame) (s : State) : State :=
  if f.cls = 5 then { s with nk.segs := dropFormed f.items s.nk.segs } else s

/-- Discards a closed frame (R359): counted on every path it would have used, into the open episode and the frame's
figures. -/
def shedFrame (q : Nat) (f : BFrame) (s : State) : State :=
  let x := queue s q f.cls
  let ep := match x.ep with | some e => (e.1, e.2 + f.items) | none => (s.dev, f.items)
  let s := segBack true f (setQueue s q f.cls { x with ep := some ep, frRecs := x.frRecs + f.items })
  let s := setPath s q { path s q with shedB := (path s q).shedB + f.charged }
  (realPaths q).foldl (fun s k =>
    let p := path s k
    let c : CntW := tget {} p.shed f.cls
    wrapEv c f.items 0x0809 (le 1 k ++ le 1 f.cls) (setPath s k { p with shed := tput {} p.shed f.cls (c.add f.items) })) s

/-- Hands a closed frame to its class queue (R358, R359); a disabled slot's frames are discarded (R368). -/
def enqueueFrame (q : Nat) (f : BFrame) (s : State) : State :=
  let s := setPath s q { path s q with offered := (path s q).offered + f.charged }
  let x := queue s q f.cls
  if f.cfg.enable = false ∨ x.shedding then shedFrame q f s
  else if 196608 < x.bytes + f.charged then shedFrame q f (setQueue s q f.cls { x with shedding := true })
  else setQueue s q f.cls { x with frames := x.frames ++ [f], bytes := x.bytes + f.charged }

/-- Takes the oldest frame of a class queue; the class leaves shedding at 65,536 bytes (R359). -/
def dequeue (q cls : Nat) (s : State) : Option (BFrame × State) :=
  let x := queue s q cls
  match x.frames with
  | [] => none
  | f :: rest =>
    let b := x.bytes - f.charged
    let s' := setQueue s q cls { x with frames := rest, bytes := b }
    some (f, if x.shedding && decide (b ≤ 65536) then
        closeEp q cls (setQueue s' q cls { queue s' q cls with shedding := false })
      else s')

/-! ### Keys (R414, R415) -/

/-- Keys per point index of a keyed class. -/
def keysPer (cls : Nat) : Nat := if cls = 1 then 8 else if cls = 3 then 64 else if cls = 4 then 640 else 0

/-- The rank of a keyed record (R414). -/
def rankOf (r : Rec) : Nat :=
  if r.cls = 1 then r.point * 8 + r.chan / 128
  else if r.cls = 3 then r.point * 64 + r.chan / 16
  else if r.typ = 0x12 then r.point * 640 + 512 + r.chan / 8
  else r.point * 640 + r.chan / 2

/-- Device time to reference time in coarse cycles (R407): the listening twin adds Δ. -/
def refOf (s : State) (c : Nat) : Int :=
  if twinMode s && s.twn.strap % 2 == 1 then (c : Int) + s.twn.delta / (256 * 64) else c

/-- S_p: shots per point summed over point indices 0 … p (R415), from a line's cells (K, N). -/
def shotsUpTo : List (Nat × Nat) → Nat → Nat
  | [], _ => 0
  | (k, n) :: l, p => if p < k then (p + 1) * n else k * n + shotsUpTo l (p - k)

/-- Close instant of a key in coarse cycles of reference time (R415). -/
def tClose (s : State) (k : LineKey) (point : Nat) : Int :=
  k.tls + (8 * k.p * shotsUpTo k.cells point + k.w + par0 s pTwinKeyHold * 2000 : Nat)

/-- The line a key belongs to, while it is still known. -/
def lineKey (s : State) (frame line : Nat) : Option LineKey :=
  s.twn.lines.find? (fun k => k.frame == frame && k.line == line)

/-- Key count of a class in a line (R414). -/
def keyCount (k : LineKey) (cls : Nat) : Nat := sumN (k.cells.map (·.1)) * keysPer cls

/-- Sequence of a keyed frame (R414). -/
def keySeq (s : State) (k : LineKey) (slotNo cls rank : Nat) : Nat :=
  let lower := [1, 3, 4].filter (fun c => decide (c < cls) && slotOf s c == slotNo)
  (tget 0 k.bases slotNo + sumN (lower.map (keyCount k)) + rank) % 2 ^ 32

/-! ### Closing and forming (R335, R337) -/

/-- Closes an open frame (R335): PAD to 48 bytes, addressing and mode as they stand now (R331, R368). -/
def closeFrame (o : OpenF) (s : State) : State :=
  let pad := if 24 + o.len < 48 then 24 - o.len else 0
  let padB := if pad = 0 then [] else le 1 0x7F ++ le 1 0 ++ le 2 pad ++ zeros (pad - 4)
  let sl := slot s o.slot
  let mode := par0 s pStreamPathMode
  let mac := macsecOn s
  let sq := match o.key with
    | some r => match lineKey s o.frame o.line with
      | some k => some (keySeq s k o.slot o.cls r)
      | none => none
    | none => none
  let f : BFrame :=
    { slot := o.slot, cls := o.cls, frame := o.frame, gen := o.gen
      nrec := sumN (o.recs.map (·.nrec)) + (if pad = 0 then 0 else 1), items := sumN (o.recs.map (·.items))
      payload := o.recs.flatMap (·.bytes) ++ padB
      charged := charge s mode sl.cfg mac (o.len + pad), cfg := sl.cfg, epoch := sl.epoch, mode := mode, macsec := mac
      keySeq := sq, at_ := s.dev, rtag := rTagged s mode }
  enqueueFrame (pathOf s mode sl.cfg) f { s with str.opens := s.str.opens.filter (fun x => x ≠ o) }

/-- Closes every open frame that satisfies a test, oldest first. -/
def closeAll (p : OpenF → Bool) (s : State) : State :=
  (s.str.opens.filter p).foldl (fun s o => closeFrame o s) s

/-- Adds a record to the open frame of its slot and class (R335). -/
def addOwn (r : Rec) (s : State) : State :=
  let k := slotOf s r.cls
  let mine := fun (o : OpenF) => o.slot == k && o.cls == r.cls && o.key.isNone
  let s := closeAll (fun o => mine o && (o.frame != r.frame || decide (par0 s pStreamFrameMax < 24 + o.len + r.bytes.length))) s
  match s.str.opens.find? mine with
  | some o => { s with str.opens := s.str.opens.map (fun x => if x = o then { o with len := o.len + r.bytes.length, recs := o.recs ++ [r] } else x) }
  | none => { s with str.opens := s.str.opens ++ [{ slot := k, cls := r.cls, frame := r.frame, gen := r.gen, start := s.dev, len := r.bytes.length, line := r.line, key := none, recs := [r] }] }

/-- A keyed record formed after its key has closed (R415). Log entries 54 (DEDUCED), 55 (DEDUCED). -/
def lateKey (r : Rec) (s : State) : State :=
  let e := match s.str.lateEp with | some e => (e.1, e.2 + r.items) | none => (s.dev, r.items)
  wrapEv s.twn.lateC r.items 0x0A0B (le 1 6)
    { s with str.lateEp := some e, str.lateFr := s.str.lateFr + r.items, twn.lateC := s.twn.lateC.add r.items }

/-- Adds a keyed record to its key's frame, in ascending channel order (R414, R415). Log entry 54 (DEDUCED). -/
def addKeyed (r : Rec) (s : State) : State :=
  match lineKey s r.frame r.line with
  | none => lateKey r s
  | some lk =>
    if tClose s lk r.point ≤ refOf s (coarse s) then lateKey r s
    else
      let k := slotOf s r.cls
      let rank := rankOf r
      match s.str.opens.find? (fun o => o.slot == k && o.cls == r.cls && o.frame == r.frame && o.line == r.line && o.key == some rank) with
      | some o => { s with str.opens := s.str.opens.map (fun x => if x = o then { o with len := o.len + r.bytes.length, recs := insertBy (·.chan) r o.recs } else x) }
      | none => { s with str.opens := s.str.opens ++ [{ slot := k, cls := r.cls, frame := r.frame, gen := r.gen, start := s.dev, len := r.bytes.length, line := r.line, key := some rank, recs := [r] }] }

/-- Closes the episode of the point ceiling (R348, R361). -/
def closeCeil (s : State) : State :=
  match s.str.ceilEp with
  | none => s
  | some e => gap 4 17 0xFFFF e.1 s.dev e.2 { s with str.ceilEp := none }

/-- A class 1 record formed without a token (R361). -/
def ceilShed (s : State) : State :=
  let e := match s.str.ceilEp with | some e => (e.1, e.2 + 1) | none => (s.dev, 1)
  let s := { s with str.ceilEp := some e, str.ceilFr := s.str.ceilFr + 1 }
  (realPaths (pathOf s (par0 s pStreamPathMode) (slot s (slotOf s 1)).cfg)).foldl (fun s k =>
    let p := path s k
    wrapEv p.ceil 1 0x0809 (le 1 k ++ le 1 8) (setPath s k { p with ceil := p.ceil.add 1 })) s

/-- Places an admitted record. -/
def addRec (r : Rec) (s : State) : State :=
  if twinMode s && (r.cls == 1 || r.cls == 3 || r.cls == 4) then addKeyed r s else addOwn r s

/-- A record is formed: counted per scan frame (R347); those of classes 1 and 2 go to the logbook before any shedding (R481, R498).
Log entry 120 (DEDUCED). -/
def formed (r : Rec) (s : State) : State :=
  let s := if r.cls = 1 then { s with str.logDue := s.str.logDue ++ [(r.chan / 128, r.bytes)] }
    else if r.cls = 2 then { s with str.logDue := s.str.logDue ++ [(8, r.bytes)] } else s
  let c := tget (0, 0, 0) s.str.forms r.frame
  let c := if r.cls = 1 then (c.1 + r.items, c.2.1, c.2.2) else if r.cls = 3 then (c.1, c.2.1 + r.items, c.2.2)
    else if r.cls = 4 then (c.1, c.2.1, c.2.2 + r.items) else c
  if r.cls = 1 ∨ r.cls = 3 ∨ r.cls = 4 then { s with str.forms := tput (0, 0, 0) s.str.forms r.frame c } else s

/-- Ticks of the 20 P cycles in which a class 1 token falls due (R40, R361: 16 ns at 1.25 GHz, 62.5 M records/s). -/
def tokTicks : Nat := 2048

/-- The tokens that have fallen due by now (R361): one per 20 P cycles, 256 at most. -/
def accrue (s : State) : State :=
  let n := (s.dev - s.str.tokAt) / tokTicks
  { s with str.tokens := min 256 (s.str.tokens + n), str.tokAt := s.str.tokAt + n * tokTicks }

/-- The assembler takes a record (R361): class 1 against the point ceiling. -/
def admitRec (r : Rec) (s : State) : State :=
  if r.cls = 1 then
    let s := accrue s
    if s.str.tokens = 0 then ceilShed s
    else addRec r (closeCeil { s with str.tokens := s.str.tokens - 1 })
  else addRec r s

/-- A record of the device's own (classes 2 and 5), which no deck forms. -/
def pushRec (r : Rec) (s : State) : State := admitRec r (formed r s)

/-! ### The decks' turns (R18) -/

/-- Whether a deck has a record of a class that waits. -/
def waits (s : State) (cls d : Nat) : Bool := s.str.inq.any (fun p => p.1 == d && p.2.cls == cls)

/-- The deck whose turn it is in a class, and the turns it has left after this one: the deck served last while it has turns left, else
the next one with a record, for as many turns as its weight. Log entry 114 (DEDUCED). -/
def turnOf (s : State) (cls : Nat) : Option (Nat × Nat) :=
  let w := tget (7, 0) s.str.wrr cls
  if w.2 ≠ 0 ∧ waits s cls w.1 = true then some (w.1, w.2 - 1)
  else (((List.range 8).map (fun i => (w.1 + 1 + i) % 8)).find? (waits s cls)).map (fun d => (d, (talDeck s d).weight - 1))

/-- Serves the oldest record of the deck whose turn it is in a class (R18). -/
def serveTurn (cls : Nat) (s : State) : Option State :=
  match turnOf s cls with
  | none => none
  | some t =>
    match s.str.inq.find? (fun p => p.1 == t.1 && p.2.cls == cls) with
    | none => none
    | some p => some (admitRec p.2 { s with str.inq := s.str.inq.erase p, str.wrr := tput (7, 0) s.str.wrr cls t })

/-- Serves up to `n` waiting records, the highest class first. -/
def serveTurns : Nat → State → State
  | 0, s => s
  | n + 1, s =>
    match serveTurn 1 s with
    | some s' => serveTurns n s'
    | none => match serveTurn 3 s with
      | some s' => serveTurns n s'
      | none => match serveTurn 4 s with
        | some s' => serveTurns n s'
        | none => s

/-- The assembler takes the decks' waiting records, at the instant they were handed over. Log entry 114 (DEDUCED). -/
def assemble (s : State) : State :=
  if s.str.inq = [] then s else { serveTurns s.str.inq.length { s with dev := s.str.inAt } with dev := s.dev }

/-- A deck hands over a record it has formed (R18): those of one instant are served by the decks' turns. Log entry 114 (DEDUCED). -/
def deckRec (d : Nat) (r : Rec) (s : State) : State :=
  let s := formed r (if s.str.inAt < s.dev then assemble s else s)
  { s with str.inq := s.str.inq ++ [(d, r)], str.inAt := s.dev }

/-- A class 2 or 5 record of the frame running. -/
def ownRec (typ cls : Nat) (flags : Nat) (body : List Byte) (s : State) : State :=
  pushRec { typ := typ, cls := cls, frame := s.sch.frameNo.val.toNat, gen := s.par.gen
            bytes := le 1 typ ++ le 1 flags ++ le 2 (4 + body.length) ++ body } s

/-- The PULSE_SEGMENT record of a segment (R353). -/
def segBody (g : Seg) : List Byte :=
  le 8 (g.time % 2 ^ 58 + g.em % 8 * 2 ^ 58 + g.str / 4 % 4 * 2 ^ 61 + b2n g.gate.isSome * 2 ^ 63) ++ le 4 (min g.e (2 ^ 32 - 1))
    ++ le 80 ((List.range 64).foldl (fun a i => a + g.samples.getD i 0 % 1024 * 2 ^ (10 * i)) 0)

/-- Hands every known segment of the store that is not with the stream to it as a PULSE_SEGMENT record (R281, R337). Before READY and in
FROZEN the stream takes none (R37). -/
def formSegs (s : State) : State :=
  if s.desk.st < 2 ∨ s.desk.st = 7 then s
  else
  let t := s.nk.segs.filter (fun g => !g.formed && g.known)
  let s := { s with nk.segs := s.nk.segs.map (fun g => if g.known then { g with formed := true } else g) }
  t.foldl (fun s g => ownRec 0x41 5 (g.chan % 4 + g.trig % 4 * 4) (segBody g) s) s

/-! ### Stream channels and the segment spill (R481, R488) -/

def dmaS (s : State) (n : Nat) : DmaS := tget {} s.dma.streams n
def setDmaS (s : State) (n : Nat) (v : DmaS) : State := { s with dma.streams := tput {} s.dma.streams n v }
def dmaC (s : State) (n : Nat) : DmaC := tget {} s.dma.ctls n
def setDmaC (s : State) (n : Nat) (v : DmaC) : State := { s with dma.ctls := tput {} s.dma.ctls n v }
def dmaE (s : State) (n : Nat) : DmaE := tget {} s.dma.engines n
def setDmaE (s : State) (n : Nat) (v : DmaE) : State := { s with dma.engines := tput {} s.dma.engines n v }

/-- Bytes in a stream queue of records. -/
def DmaS.fill (x : DmaS) : Nat := sumN (x.queue.map List.length)

/-- Whether the engine of a stream channel serves no descriptor (R481, R484). -/
def engineIdle (s : State) (n : Nat) : Bool := (dmaE s (n % 4)).chan.isNone

/-- Bytes of a segment in the spill region: those of its record (R281, R353). Log entry 24 (DEDUCED). -/
abbrev segBytes : Nat := 96

/-- The stream channel that a window frame passes (R481). -/
def winChan (w : WinReq) : Nat := (if w.write then 14 else 16) + w.frame.lane / 4

/-- Bytes in a stream channel's queue: its records, the segments on their way to the spill region, the data of its window frames, and what its
sink holds. -/
def chanFill (s : State) (n : Nat) : Nat :=
  (dmaS s n).fill + (dmaS s n).sink + segBytes * (s.dma.spills.filter (fun g => 10 + g.chan == n)).length
    + sumN ((s.dma.wins.filter (fun w => winChan w == n)).map (fun w => fld w.frame.payload 2 2))

/-- Ends the shedding episode of a channel: its stage-6 GAP record and DMA_SHED (R488); window channels have none. -/
def dmaShedClose (n : Nat) (s : State) : State :=
  let x := dmaS s n
  match x.ep with
  | none => s
  | some e =>
    let s := gap 6 n (n % 4) e.1 s.dev e.2 (setDmaS s n { x with ep := none })
    logEv 0x0E04 (le 1 n ++ le 1 (n % 4) ++ le 4 (min (2 ^ 32 - 1) e.2)) s

/-- A channel whose fill has fallen to START_WM leaves shedding (R488). -/
def dmaUnshed (n : Nat) (s : State) : State :=
  let x := dmaS s n
  if x.shed && decide (chanFill s n ≤ x.startWm * 256) then dmaShedClose n (setDmaS s n { x with shed := false }) else s

/-- A record of a channel is shed (R488): counted in its episode, which a queue at or below START_WM ends at once. -/
def dmaShed (n : Nat) (s : State) : State :=
  let x := dmaS s n
  let ep := match x.ep with | some e => (e.1, e.2 + 1) | none => (s.dev, 1)
  let c := s.dma.shedC
  dmaUnshed n (wrapEv c 1 0x0E0A (le 1 2) { setDmaS s n { x with shed := true, ep := some ep } with dma.shedC := c.add 1 })

/-- Whether a record of so many bytes is shed on its arrival in a channel's queue (R488). -/
def dmaSheds (s : State) (n bytes : Nat) : Bool := (dmaS s n).shed || decide ((dmaS s n).stopWm * 256 < chanFill s n + bytes)

/-- Segments in the queues of channels 10 to 13 whose engine serves no descriptor reach the spill region, in order. Log entry 66 (DEDUCED). -/
def spillServe (s : State) : State :=
  let go := s.dma.spills.filter (fun g => engineIdle s (10 + g.chan))
  (List.range 4).foldl (fun s k => dmaUnshed (10 + k) s) { s with
    mem.spill := s.mem.spill ++ go, dma.spills := s.dma.spills.filter (fun g => !engineIdle s (10 + g.chan)) }

/-- A segment is spilled through channel 10 + its pulse-monitor channel (R281, R481): queued for memory, or shed there (R488). -/
def spillSeg (g : Seg) (s : State) : State :=
  if dmaSheds s (10 + g.chan) segBytes then dmaShed (10 + g.chan) s else spillServe { s with dma.spills := s.dma.spills ++ [g] }

/-- Spilled segments are sent oldest first once the store has drained (R503 SPILL.ENABLE); each is read back through its channel, whose
engine must serve no descriptor (R481). Log entry 24 (DEDUCED). -/
def segRefill (s : State) : State :=
  match s.nk.segs, s.mem.spill with
  | [], g :: rest =>
    if engineIdle s (10 + g.chan) then formSegs { s with nk.segs := [{ g with formed := false }], mem.spill := rest } else s
  | _, _ => formSegs s

/-- The STACKED_HIST record of an exported entry (R344). -/
def stackedRecord (e : StackEnt) (gen frame : Nat) (s : State) : State :=
  deckRec (e.chan / 128)
          { typ := 0x12, cls := 4, frame := frame, gen := gen, line := e.line, point := e.point, chan := e.chan
            bytes := le 1 0x12 ++ le 1 e.frames ++ le 2 1040 ++ le 2 (e.chan + (e.b - 5) * 2048) ++ le 2 e.point
              ++ le 4 e.first ++ le 4 (e.shots % 4096 + e.line % 64 * 4096 + e.o * 2 ^ 18)
              ++ (List.range 512).flatMap (fun i => le 2 (tget 0 e.counts i)) } s

/-! ### Links (R332, R350, R358, R360, R370) -/

/-- The active transmit SA of a path. -/
def txSa (s : State) (p : Nat) : Option (Nat × Sa) :=
  ((List.range 4).filterMap (fun an =>
    match tget none s.str.sas (p * 8 + an) with
    | some a => if a.active then some (an, a) else none
    | none => none)).head?

/-- Packet-number space of the cipher suite in force (R329). -/
def pnSpace (s : State) : Nat := if par0 s pMacsecCipher ≤ 1 then 2 ^ 64 else 2 ^ 32

/-- Whether a path may send a frame: under MACsec it needs an active SA that is not exhausted (R370). Log entry 54 (DEDUCED). -/
def maySend (s : State) (p : Nat) (macsec : Bool) : Bool := !macsec || (!(path s p).stopTx && (txSa s p).isSome)

/-- The threshold and the exhaustion of a path's active SA (R370): logged; at exhaustion another installed SA takes its place.
Log entry 54 (DEDUCED). -/
def pnCheck (p : Nat) (s : State) : State :=
  match txSa s p with
  | none => s
  | some (an, a) =>
    let warn := decide (3 * pnSpace s ≤ 4 * a.pn) && !a.warned
    let s := { s with str.sas := tput none s.str.sas (p * 8 + an) (some { a with warned := a.warned || warn }) }
    let s := if warn then logEv 0x0806 (le 1 p ++ le 1 an) s else s
    if a.pn < pnSpace s then s
    else
      let s := { s with str.sas := tput none s.str.sas (p * 8 + an) (some { a with warned := true, active := false }) }
      match (List.range 4).find? (fun n => n != an && (match tget none s.str.sas (p * 8 + n) with | some b => decide (b.pn < pnSpace s) | none => false)) with
      | some n => { s with str.sas := tput none s.str.sas (p * 8 + n) ((tget none s.str.sas (p * 8 + n)).map (fun b => { b with active := true })) }
      | none => logEv 0x0807 (le 1 p) (setPath s p { path s p with stopTx := true })

/-- Uses a packet number of the path's active SA (R370). Log entry 54 (DEDUCED). -/
def usePn (p : Nat) (s : State) : State :=
  match txSa s p with
  | none => s
  | some (an, a) => pnCheck p { s with str.sas := tput none s.str.sas (p * 8 + an) (some { a with pn := a.pn + 1 }) }

/-- Header of a Bluward frame (R334, R416). -/
def frameHeader (s : State) (q : Nat) (f : BFrame) (seq : Nat) : List Byte :=
  let own := f.cls = 2 ∨ f.cls = 5
  let id := if twinMode s ∧ own then f.cfg.id % 4096 + s.twn.strap * 4096 else f.cfg.id
  let dev := if f.keySeq.isSome then par0 s pTwinHeadId else s.nv.serial % 2 ^ 32
  let fl := f.cls + (if f.mode = 1 then 8 else if q = 1 then 16 else 0)
  let h := le 1 1 ++ le 1 24 ++ le 2 id ++ le 4 f.frame ++ le 4 seq ++ le 2 f.nrec ++ le 2 f.payload.length ++ le 4 dev ++ le 2 fl
  h ++ le 2 (crc16 h)

/-- A frame's sequence number: the keyed one, or the next of its slot (R332). -/
def takeSeq (f : BFrame) (s : State) : Nat × State :=
  match f.keySeq with
  | some q => (q, s)
  | none =>
    let x := slot s f.slot
    let n := tget 0 x.seqs f.epoch
    (n, setSlot s f.slot { x with seqs := tput 0 x.seqs f.epoch ((n + 1) % 2 ^ 32) })

/-! ### The Ethernet frame (R328, R329) -/

/-- The protected user data: from the 802.1Q tag through the Bluward frame (R328). -/
def userData (v : LinkTx) : List Byte :=
  (match v.tag with | some c => be 2 0x8100 ++ be 2 c | none => [])
    ++ (match v.rtag with | some q => be 2 0xF1C1 ++ be 2 0 ++ be 2 q | none => []) ++ be 2 v.etype ++ v.hdr ++ v.payload

/-- The octets of a frame as sent, from the destination address through the FCS (R328). Log entry 113 (PRESUMED). -/
def etherBytes (v : LinkTx) : List Byte :=
  let m := le 6 v.dest ++ le 6 v.src
  let b := match v.sec with
    | some c => m ++ c.tag ++ c.text ++ c.icv
    | none => m ++ userData v
  b ++ le 4 (crc32 b)

/-- Bitwise exclusive or of two byte lists. -/
def xorBytes (a b : List Byte) : List Byte := (a.zip b).map (fun p => p.1 ^^^ p.2)

/-- The initialization vector of a packet number (R329): of the salt and SSCI for the XPN suites, else of the SCI. Log entry 113 (PRESUMED). -/
def secIv (xpn : Bool) (a : Sa) : List Byte := if xpn then xorBytes (be 4 a.ssci ++ be 8 a.pn) a.salt else be 8 a.sci ++ be 4 (a.pn % 2 ^ 32)

/-- MACsec's part of a frame under an SA (R328, R329): SCI in every SecTAG, confidentiality offset 0, integrity only or confidentiality by
MACSEC.CONFIDENTIAL. Log entry 113 (PRESUMED). -/
def secure (s : State) (an : Nat) (a : Sa) (v : LinkTx) : SecOut :=
  let suite := par0 s pMacsecCipher
  let conf := par0 s pMacsecConfidential = 1
  let tag := be 2 0x88E5 ++ le 1 (0x20 + (if conf then 0x0C else 0) + an) ++ le 1 0 ++ be 4 (a.pn % 2 ^ 32) ++ be 8 a.sci
  let key := a.key.take (if suite % 2 = 0 then 16 else 32)
  let iv := secIv (decide (suite ≤ 1)) a
  let m := le 6 v.dest ++ le 6 v.src ++ tag
  let u := userData v
  let aad := if conf then m else m ++ u
  let text := if conf then u else []
  { tag := tag, icv := (List.range 16).map (Config.gcmIcv suite key iv aad text)
    text := if conf then (List.range u.length).map (Config.gcmText suite key iv aad text) else u }

/-- Charged bytes of a frame whose transmission starts now: MACsec's part counts as it stands now (R357). -/
def chargedNow (s : State) (f : BFrame) : Nat :=
  f.charged - (if f.macsec then 32 else 0) + (if macsecOn s then 32 else 0)

/-- Starts a frame on a link (R328, R332): the link is busy for its charged bytes at the MAC rate (R357). MACSEC.ENABLE is immediate and
counts as it stands at the start (R7). Log entry 54 (DEDUCED). -/
def startTx (l q : Nat) (f : BFrame) (seq : Nat) (s : State) : State :=
  let s := segOut f s
  let p := l / 4
  let n := chargedNow s f
  let mac := macsecOn s
  let v : LinkTx :=
    { hdr := frameHeader s q f seq, payload := f.payload, dest := f.cfg.dest, src := par s pStreamSrcMac p
      tag := if f.cfg.vlan then some f.cfg.tci else none, rtag := if f.rtag then some (seq % 65536) else none
      etype := par0 s pStreamEthertype, until_ := s.dev + n * 1024 / max 1 (macRate (lane s l).rate) }
  let v := match (if mac then txSa s p else none) with
    | some (an, a) => { v with sec := some (secure s an a v) }
    | none => v
  let s := { s with str.tx := tput {} s.str.tx l v }
  let x := path s p
  let s := setPath s p { x with frames := x.frames + 1, bytes := x.bytes + n }
  if mac then usePn p s else s

/-- The prefix of a loss store that one Bluward frame carries: one scan frame, within FRAME_MAX (R335, R557). -/
def lossPrefix (mx frame : Nat) : List Loss → Nat → List Loss × List Loss
  | [], _ => ([], [])
  | l :: st, len =>
    if l.frame = frame ∧ 24 + len + (lossBytes l).length ≤ mx then
      let r := lossPrefix mx frame st (len + (lossBytes l).length)
      (l :: r.1, r.2)
    else ([], l :: st)

/-- The loss store that the next frame for queue index `q` is taken from: its own first, then those that a change of mode or path left
records in (R331, R350). Log entry 115 (DEDUCED). -/
def lossStore (q : Nat) (s : State) : Option Nat := [q, 0, 1, 2].find? (fun k => !(path s k).loss.isEmpty)

/-- A Bluward frame of loss records for queue index `q`, which the class 2 slot now reaches (R331, R350): it closes now, under the mode
in force. While the slot is disabled it sends nothing, and loss records, which are never shed, wait. Log entry 56 (DEDUCED). -/
def lossFrame (q : Nat) (s : State) : Option (BFrame × State) :=
  match (if (slot s (slotOf s 2)).cfg.enable then lossStore q s else none) with
  | none => none
  | some st =>
    let ls := (path s st).loss
    let frame := (ls.head?.map (·.frame)).getD 0
    let r := lossPrefix (par0 s pStreamFrameMax) frame ls 0
    let body := r.1.flatMap lossBytes
    let pad := if body.length < 24 then 24 - body.length else 0
    let k := slotOf s 2
    let sl := slot s k
    let mode := par0 s pStreamPathMode
    let f : BFrame :=
      { slot := k, cls := 2, frame := frame, gen := s.par.gen, nrec := r.1.length + (if pad = 0 then 0 else 1), items := r.1.length
        payload := body ++ (if pad = 0 then [] else le 1 0x7F ++ le 1 0 ++ le 2 pad ++ zeros (pad - 4))
        charged := charge s mode sl.cfg (macsecOn s) (body.length + pad), cfg := sl.cfg, epoch := sl.epoch, mode := mode
        macsec := macsecOn s, keySeq := none, at_ := s.dev, rtag := rTagged s mode }
    let s := setPath s st { path s st with loss := r.2 }
    some (f, setPath s q { path s q with offered := (path s q).offered + f.charged })

/-- Frames a path holds in REPLICATE: those buffered and those in transmission (R360). -/
def replHeld (s : State) (p : Nat) : Nat :=
  (path s p).buf.length + ((pathLanes p).filter (fun l => decide (s.dev < (tget {} s.str.tx l).until_))).length

/-- A copy of a replicated frame for the other path: buffered, or a replicate drop (R360). -/
def replCopy (p : Nat) (f : BFrame) (seq : Nat) (s : State) : State :=
  let x := path s p
  if capacity s p = 0 then s
  else if replHeld s p < 2 * ((pathLanes p).filter (linkUp s)).length then setPath s p { x with buf := x.buf ++ [(f, seq)] }
  else wrapEv x.repl 1 0x0809 (le 1 p ++ le 1 6) (setPath s p { x with repl := x.repl.add 1 })

/-- Whether a path paces the shared queues: the larger B_p, path A on a tie, alone when the other is down (R360). -/
def paces (s : State) (p : Nat) : Bool :=
  if p = 0 then decide (capacity s 1 ≤ capacity s 0) else decide (capacity s 0 < capacity s 1)

/-- The queue index of a path's oldest frame of a class: its own queue, or the shared ones where it paces them (R358, R360). -/
def classQueue (p cls : Nat) (s : State) : Option Nat :=
  let own := (queue s p cls).frames.head?
  let all := if paces s p then (queue s 2 cls).frames.head? else none
  match own, all with
  | none, none => none
  | some _, none => some p
  | none, some _ => some 2
  | some a, some b => some (if a.at_ < b.at_ then p else 2)

/-- The next frame of a path with its queue index: loss records first, then the classes by priority (R350, R358). -/
def nextFrame (p : Nat) (s : State) : Option (Nat × BFrame × State) :=
  let q := pathOf s (par0 s pStreamPathMode) (slot s (slotOf s 2)).cfg
  let loss := if q = p ∨ (q = 2 ∧ paces s p = true) then lossFrame q s else none
  match loss with
  | some r => some (q, r)
  | none => [1, 2, 3, 4, 5].foldl (fun r c => match r with
    | some x => some x
    | none => match classQueue p c s with
      | some k => (dequeue k c s).map (fun x => (k, x))
      | none => none) none

/-- The link of a path that the next frame goes to (R332): of those that are up and free, the one that became free first, the lowest
lane of several. -/
def freeLink (s : State) (p : Nat) : Option Nat :=
  let u := fun l => (tget {} s.str.tx l).until_
  ((pathLanes p).filter (fun l => linkUp s l && decide (u l ≤ s.dev))).foldl
    (fun b l => match b with | none => some l | some k => some (if u l < u k then l else k)) none

/-- A path with a free link sends its next frame (R332, R350, R358, R360): a buffered copy, or the next of its queues. -/
def sendNext (p l : Nat) (s : State) : State :=
  match (path s p).buf with
  | (f, seq) :: rest => startTx l 2 f seq (setPath s p { path s p with buf := rest })
  | [] =>
    match nextFrame p s with
    | some (q, f, s') =>
      let r := takeSeq f s'
      let s' := startTx l q f r.1 r.2
      if q = 2 then replCopy (1 - p) f r.1 s' else s'
    | none => s

/-- A link becomes free: a frame of its path starts, on the link of R332. -/
def linkFree (l : Nat) (s : State) : State :=
  let s := assemble s
  let p := l / 4
  segRefill <| if linkUp s l = false ∨ s.dev < (tget {} s.str.tx l).until_ ∨ maySend s p (macsecOn s) = false then s
  else match freeLink s p with
    | some k => sendNext p k s
    | none => s

/-! ### Time mapping (R354, R363) -/

/-- gPTP time of a device tick in 2^-16 ns (R354). -/
def gptpAt (s : State) (tick : Nat) : Int :=
  (s.tim.mapP : Int) + ((tick : Int) - s.tim.mapD) * 512 * (2 ^ 41 + s.tim.rho) / 2 ^ 41

/-- Device tick of a gPTP time in ns: the inverse of R354. -/
def devOfGptp (s : State) (ns : Nat) : Int :=
  (s.tim.mapD : Int) + ((ns : Int) * 65536 - s.tim.mapP) * 2 ^ 41 / (512 * (2 ^ 41 + s.tim.rho))

/-- The TIME record of a frame start (R354). The uncertainty is the service's own figure, which the specification
leaves open unless free-running (log entry 1). -/
def timeRecord (s : State) : State :=
  let g := (gptpAt s (coarse s * 64)).toNat / 65536
  let u := freeVal (2 ^ 32) s
  let unc := if s.tim.st = 0 then 0xFFFFFFFF else u.1
  ownRec 0x50 2 0 (le 1 s.tim.st ++ le 1 (par0 s pTimeDomain) ++ le 2 s.tim.changes.val.toNat ++ le 8 (coarse s)
    ++ le 8 (g / 1000000000 % 2 ^ 48) ++ le 4 (g % 1000000000) ++ leI 4 s.tim.rho ++ le 4 unc ++ le 4 0) u.2

end Sys2Proof.Machine
end

