-- ==== Sys2Proof/Machine/Score.lean ====
section
/-! DEFINITION. Machine/Score.lean: the reported temperature maximum (R509), the health score and its penalties (R516,
R517), and the HEALTH record (R352). -/

namespace Sys2Proof.Machine

def dieSensor (s : State) (n : Nat) : DieSensor := tget {} s.hlt.sens n
def setDieSensor (s : State) (n : Nat) (v : DieSensor) : State := { s with hlt.sens := tput {} s.hlt.sens n v }

/-- Whether a sensor is valid (R510): neither failed nor retired. -/
def DieSensor.valid (x : DieSensor) : Bool := x.ok && !x.retired

/-- What a sensor contributes to the reported maximum: its reading, or its substitute (R509, R513). -/
def dieReading (s : State) (n : Nat) : Option Int :=
  let x := dieSensor s n
  if x.valid then some x.t else x.subst

/-- The reported maximum with the sensor that holds it, the lowest number on a tie (R509). -/
def reported (s : State) : Option (Nat × Int) :=
  argmax (fun p => p.2) ((List.range 24).filterMap (fun n => (dieReading s n).map (fun t => (n, t))))

/-- The reported maximum in 0.1 °C; without a valid sensor it is open. Log entry 70 (DEDUCED). -/
def hottest (s : State) : Int := match reported s with | some p => p.2 | none => sgn 16 (Config.freeNat s.free % 65536)

/-- The sensor that holds the reported maximum; open without a valid one. -/
def hottestAt (s : State) : Nat := match reported s with | some p => p.1 | none => Config.freeNat s.free % 256

def servo (s : State) (n : Nat) : Servo := tget {} s.srv.ch n
def setServo (s : State) (n : Nat) (v : Servo) : State := { s with srv.ch := tput {} s.srv.ch n v }

/-- Feedback fault now (R222, R230): the polygon servo's mark is overdue, or 16 samples at full scale. -/
def servoFault (s : State) (n : Nat) : Bool :=
  decide (16 ≤ (servo s n).fbRun) || (decide (n = par0 s pPolyServo) && (servo s n).marks.missing)

/-- Saturated now (R230): the condition was reported and has not been absent for a sample since. -/
def servoSat (s : State) (n : Nat) : Bool := (servo s n).satLog

def sense (s : State) (n : Nat) : Sense := tget {} s.sns n
def setSense (s : State) (n : Nat) (v : Sense) : State := { s with sns := tput {} s.sns n v }
def pmon (s : State) (k : Nat) : Pmon := tget {} s.nk.pm k
def setPmon (s : State) (k : Nat) (v : Pmon) : State := { s with nk.pm := tput {} s.nk.pm k v }

/-- Whether a channel's role, as taken at its last block, is laser string or detector (R258, R260). -/
def senseFaulty (x : Sense) : Bool := x.cfg.getD 1 0 == 1 || x.cfg.getD 1 0 == 2

/-- The penalty of each cause of R517, by its bit. -/
def penalties (s : State) : List Nat :=
  let cnt := fun (n : Nat) (p : Nat → Bool) => ((List.range n).filter p).length
  [ min 32 s.hlt.stuckN, min 32 s.hlt.silentN, 48 * cnt 4 (servoFault s), 16 * cnt 4 (servoSat s),
    24 * cnt 8 (fun n => (sense s n).openAt.isSome && senseFaulty (sense s n)),
    8 * cnt 8 (fun n => (sense s n).openAt.isSome && !senseFaulty (sense s n)),
    16 * cnt 24 (fun n => !(dieSensor s n).valid), 32 * (s.hlt.rails.filter (fun p => p.2.logged)).length,
    4 * s.hlt.applied, 4 * cnt 8 (fun l => par s pLaneEnable l == 1 && (lane s l).st != 4),
    16 * cnt 2 (fun l => par s pLaneEnable (8 + l) == 1 && (lane s (8 + l)).st != 4),
    24 * b2n (par0 s pRingEnable == 1 && !s.rng.locked), 64 * b2n (twinMode s && !s.twn.owner && s.twn.stale),
    8 * b2n (par0 s pTimeSource == 0 && s.tim.st != 1),
    16 * b2n (match s.mem.uncorrAt with | some t => decide (s.dev < t + 10 * tSec) | none => false),
    32 * b2n ((List.range 4).any (fun k => (pmon s k).active)) ]

/-- Base of the score by state (R516). -/
def scoreBase (st : Nat) : Nat := [0, 0, 80, 160, 200, 120, 40, 0].getD st 0

/-- Recomputes the score and the penalty map (R516, R517); in FROZEN it holds. -/
def updScore (s : State) : State :=
  if s.desk.st = 7 then s
  else
    let p := penalties s
    let v := scoreBase s.desk.st - sumN p
    { s with hlt.score := v, hlt.penal := bitsOf ((List.range 16).filter (fun i => decide (p.getD i 0 ≠ 0))), desk.health := v }

/-- The HEALTH record (R352). -/
def healthRecord (s : State) : State :=
  ownRec 0x40 2 0 (le 1 s.desk.st ++ le 1 s.hlt.applied ++ le 1 s.hlt.score ++ le 1 0 ++ le 8 (coarse s) ++ leI 2 (hottest s)
    ++ le 2 0 ++ le 4 s.nk.faults.toNat ++ le 4 s.desk.eventCount.val.toNat ++ le 4 0) s

end Sys2Proof.Machine
end

