-- ==== Sys2Proof/Machine/Guard.lean ====
section
/-! DEFINITION. Machine/Guard.lean: what every family shares with Nerrak and the state machine: the governing set
(R295, R299), fault raising (R287, R288), enables, contactor and permission (R270 to R272), caps (R196, R197),
charging (R199), state changes (R38), and the stop of emission with its truncated FBE (R25, R28). -/

namespace Sys2Proof.Machine

/-! ### Open roundings (log entry 1) -/

/-- A quotient whose rounding the specification does not give: the floor, or the next integer, freely. Log entry 1 (DESIGN CHOICE). -/
def freeRound (num : Int) (den : Nat) (s : State) : Int × State :=
  if num % den = 0 then (num / den, s)
  else let r := freeVal 2 s; (num / den + r.1, r.2)

/-! ### The commissioning set (R295, R296) -/

/-- A little-endian field of a set. -/
def sf (st : List Host.Cell) (o n : Nat) : Nat := cgetLE 0 st o n
def sMask (st : List Host.Cell) : Nat := sf st 8 2
def sSectors (st : List Host.Cell) : Nat := sf st 10 1
def sFacets (st : List Host.Cell) : Nat := sf st 11 1
def sWindow (st : List Host.Cell) (w : Nat) : Nat := sf st (16 + 4 * w) 4
def sRho (st : List Host.Cell) (i : Nat) : Nat := sf st (64 + 64 * i) 4
def sPmax (st : List Host.Cell) (i : Nat) : Nat := sf st (68 + 64 * i) 4
def sBpCode (st : List Host.Cell) (i j : Nat) : Nat := sf st (72 + 64 * i + 8 * j) 2
def sBpE (st : List Host.Cell) (i j : Nat) : Nat := sf st (76 + 64 * i + 8 * j) 4
def sLimit (st : List Host.Cell) (w n : Nat) : Nat := sf st (1088 + 4 * (32 * w + n)) 4
def sAz (st : List Host.Cell) (e : Nat) : Int := sgn 16 (sf st (1472 + 4 * e) 2)
def sScale (st : List Host.Cell) (e : Nat) : Nat := sf st (1474 + 4 * e) 1

/-- The first offset of a list of (offset, valid) checks that fails. -/
def firstBad : List (Nat × Bool) → Option Nat
  | [] => none
  | (o, ok) :: l => if ok then firstBad l else some o

/-- The header's checks (R295, R297), in offset order. -/
def headerChecks (st : List Host.Cell) : List (Nat × Bool) :=
  let sw := sWindow st 0
  let mw := sWindow st 1
  let lw := sWindow st 2
  [ (0, decide (sf st 0 2 = 1)), (2, decide (sf st 2 2 = 1984)),
    (10, decide (1 ≤ sSectors st ∧ sSectors st ≤ 32)), (11, decide (1 ≤ sFacets st ∧ sFacets st ≤ 15)),
    (16, decide (104 ≤ sw ∧ sw ≤ 1000000 ∧ sw % 8 = 0)), (20, decide (sw < mw ∧ mw ≤ 10000000 ∧ mw % 8 = 0)),
    (24, decide (mw < lw ∧ lw ≤ 1000000000 ∧ lw % 8 = 0)), (32, decide (sf st 28 4 < sf st 32 4)),
    (36, decide (1 ≤ sf st 36 4)), (40, decide (sf st 40 1 ≠ 0)), (41, decide (sf st 41 1 ≤ 1)),
    (42, decide (1 ≤ sf st 42 2 ∧ sf st 42 2 ≤ 4095)), (48, decide (sf st 44 4 < sf st 48 4)),
    (56, decide (sf st 56 1 = 1 ∨ sf st 56 1 = 2 ∨ sf st 56 1 = 4 ∨ sf st 56 1 = 8)) ]
  ++ (List.range 7).map (fun i => (57 + i, decide (sf st (57 + i) 1 = 0)))

/-- A string entry's checks (R296, R297). -/
def stringChecks (st : List Host.Cell) (i : Nat) : List (Nat × Bool) :=
  (List.range 7).flatMap (fun j =>
    [ (72 + 64 * i + 8 * j, decide (sBpCode st i j ≤ 4095) && (j == 0 || decide (sBpCode st i (j - 1) < sBpCode st i j))),
      (74 + 64 * i + 8 * j, decide (sf st (74 + 64 * i + 8 * j) 2 = 0)),
      (76 + 64 * i + 8 * j, j == 0 || decide (sBpE st i (j - 1) ≤ sBpE st i j)) ])

/-- Whether an emitter of a masked string may fire. -/
def sAnyEmitter (st : List Host.Cell) : Bool :=
  (List.range 128).any (fun e => (sMask st).testBit (e / 8) && decide (0 < sScale st e))

/-- The limit table's checks (R296, R297). -/
def limitChecks (st : List Host.Cell) : List (Nat × Bool) :=
  (List.range 96).map (fun k =>
    (1088 + 4 * k, if k % 32 < sSectors st then !sAnyEmitter st || decide (sLimit st (k / 32) (k % 32) ≠ 0)
      else decide (sLimit st (k / 32) (k % 32) = 0)))

/-- The emitter table's checks (R296). -/
def emitterChecks (st : List Host.Cell) : List (Nat × Bool) :=
  (List.range 128).flatMap (fun e =>
    [(1474 + 4 * e, decide (sScale st e ≤ 128)), (1475 + 4 * e, decide (sf st (1475 + 4 * e) 1 = 0))])

/-- The first invalid byte of a set under R297; none when it is valid. -/
def setInvalid (st : List Host.Cell) : Option Nat :=
  firstBad (headerChecks st ++ (List.range 16).flatMap (stringChecks st) ++ limitChecks st ++ emitterChecks st)

/-- The check value of a set (R175 over its 1,984 bytes). -/
def setCheck (st : List Host.Cell) : Nat := crc32 (cgets 0 st 0 1984)

/-- The set that governs (R271, R299): the candidate in COMMISSIONING while valid, else the confirmed set. -/
def governing (s : State) : Option (List Host.Cell) :=
  if s.desk.st = 3 then (if s.nk.candOk then some s.nk.cand else none) else s.nk.conf

/-- A cell's limit in a window times 128 (R284): in COMMISSIONING the lower of the candidate's and the confirmed
set's (R299). -/
def limit128 (s : State) (st : List Host.Cell) (w e n : Nat) : Nat :=
  let l := sLimit st w n * sScale st e
  match s.nk.conf with
  | some c => if s.desk.st = 3 then min l (sLimit c w n * sScale c e) else l
  | none => l

/-! ### Nerrak's views -/

/-- Revolution phase by the formula of R222 from a mark history. Log entry 40 (DEDUCED). -/
def phaseOf (m : Marks) (t : Nat) : Nat :=
  match m.hist.find? (fun p => decide (p.1 ≤ t)) with
  | some (ta, tm) => if tm = 0 then 4294967295 else min 4294967295 ((t - ta) * 2 ^ 32 / tm)
  | none => 4294967295

/-- Θ_N at an elapsed instant (R282). -/
def thetaN (s : State) (w : Nat) : Nat := phaseOf s.nk.marks w

/-- Whether the head switch reads closed (R287, R295): HEAD_SW low reads closed with polarity 0. Log entry 50 (DEDUCED). -/
def headClosed (s : State) : Bool :=
  let pol := match governing s with | some st => sf st 41 1 | none => 0
  if pol = 1 then s.pins.headSw else !s.pins.headSw

/-- VDD_NK's window (R266, R538): 752 to 848 mV. -/
def nkWindow (mv : Nat) : Bool := decide (752 ≤ mv) && decide (mv ≤ 848)

/-- The window of a pulse-monitor baseline (R268, R276, R548): codes 32 to 96. -/
def baseIn (code : Nat) : Bool := decide (32 ≤ code) && decide (code ≤ 96)

/-- Whether the last mark interval lies within the set's bounds (R271, R286). -/
def markOk (s : State) (st : List Host.Cell) : Bool :=
  match s.nk.marks.tm with
  | some tm => decide (sf st 28 4 * 64 ≤ tm) && decide (tm ≤ sf st 32 4 * 64)
  | none => false

/-- The O faults among the latches, and the D faults (R287). Log entry 32 (DEDUCED). -/
def oFaults (s : State) : Word := s.nk.faults &&& 0xFFF#32
def dFaults (s : State) : Word := s.nk.faults &&& 0xF0000#32

/-- Whether Nerrak's own supplies and reset let it act (R266). -/
def nkAlive (s : State) : Bool := s.pins.vddNk && s.pins.porstN

/-- Whether Nerrak's continuous checks run: after its start self-test (R269). -/
def nkChecks (s : State) : Bool := s.pins.porstN && !s.nk.testing

/-- Every condition of emission permission (R271). -/
def permOk (s : State) : Bool :=
  match governing s with
  | none => false
  | some st =>
    (s.desk.st == 3 || s.desk.st == 4 || s.desk.st == 5) && oFaults s == 0 && s.nk.passed && nkAlive s
      && decide (s.nk.relAt + sWindow st 1 * tUs ≤ s.wall) && headClosed s && !s.pins.hvCut && s.pins.hvFb
      && decide (s.nk.hvAt + tMs ≤ s.wall) && markOk s st && decide (sf st 36 4 ≤ s.nk.stallAdv)

/-! ### Caps (R196 to R198, R285, R296, R514) -/

/-- The rate divisor of a throttle step (R514). -/
def stepDiv (k : Nat) : Nat := [1, 1, 1, 1, 2, 2, 4, 4, 8].getD k 8

/-- The ISET ceiling of a throttle step (R514). Log entry 27 (DEDUCED). -/
def stepCeil (k : Nat) : Nat := [4095, 3252, 2583, 2052, 2052, 1630, 1630, 1294, 1028].getD k 1028

/-- Nerrak's ceiling and divisor in RUN and DEGRADED (R296), with the ledger cap (R285). Log entry 27 (DEDUCED). -/
def nkCeil (s : State) : Nat :=
  min (if s.nk.cap then 2047 else 4095)
    (match s.nk.conf with
      | some st => if s.desk.st = 4 ∨ s.desk.st = 5 then sf st 42 2 else 4095
      | none => 4095)
/-- Log entry 27 (DEDUCED). -/
def nkDiv (s : State) : Nat :=
  match s.nk.conf with
  | some st => if s.desk.st = 4 ∨ s.desk.st = 5 then sf st 56 1 else 1
  | none => 1

/-- The ISET ceiling in force (R196): COMMISSIONING 10 %, DEGRADED 25 %, Nerrak's, the throttle step's; the lowest. -/
def ceilNow (s : State) : Nat :=
  min (if s.desk.st = 3 then 409 else if s.desk.st = 5 then 1023 else 4095) (min (nkCeil s) (stepCeil s.hlt.applied))

/-- The rate divisor in force (R197): COMMISSIONING 4, DEGRADED 2, Nerrak's, the throttle's; the largest. -/
def divNow (s : State) : Nat :=
  max (if s.desk.st = 3 then 4 else if s.desk.st = 5 then 2 else 1) (max (nkDiv s) (stepDiv s.hlt.applied))

/-- Takes the caps in force and logs a change of ceiling or divisor (R198); a stopped or reset scheduler keeps its own. -/
def updCaps (s : State) : State :=
  let c := ceilNow s
  let d := divNow s
  if (c = s.sch.ceil ∧ d = s.sch.rdiv) ∨ s.desk.st = 0 ∨ s.desk.st = 7 then s
  else logEv 0x0505 (le 2 c ++ le 1 d) { s with sch.ceil := c, sch.rdiv := d }

/-! ### Charging (R199, R293) -/

/-- The charger banks requested (R199). Log entry 57 (DEDUCED). -/
def chgRequest (s : State) : Nat :=
  if s.desk.st = 3 ∨ s.desk.st = 4 ∨ s.desk.st = 5 then
    bitsOf (((List.range 16).filter (fun i => decide (par s pEmitPresent i ≠ 0))).map (fun i => par s pEmitBank i))
  else 0

/-- Drives CHG_EN from the request and Nerrak's hold; CHARGE_INHIBITED names the banks newly held (R199). -/
def updCharge (s : State) : State :=
  let q := chgRequest s
  let en := if s.nk.chgHeld then 0 else q
  let wasHeld := s.sch.chgReq &&& (s.sch.chgReq ^^^ s.sch.chgEn)
  let held := q &&& (q ^^^ en)
  let new := held &&& (held ^^^ (held &&& wasHeld))
  let rise := en &&& (en ^^^ (en &&& s.sch.chgEn))
  let s := { s with sch.chgReq := q, sch.chgEn := en, sch.chgRise := (bitList 8 0 rise).foldl (fun m k => tput 0 m k s.dev) s.sch.chgRise }
  if new = 0 then s else logEv 0x0506 (le 1 new) s

/-! ### Stopping emission (R25, R28 to R30) -/

/-- Whether the state permits emission (R37): COMMISSIONING, RUN, DEGRADED. -/
def stEmits (s : State) : Bool := s.desk.st == 3 || s.desk.st == 4 || s.desk.st == 5

/-- The seal deadline of the running frame (R28). -/
def sealDeadline (s : State) : Option Nat :=
  s.sch.fbeAt.map (fun f => max (f - 2 * tUs) s.sch.lastTls)

/-- Merges a later service set over an earlier one for the same boundary. -/
def svcMerge (old : Option SvcSealed) (new : SvcSealed) : SvcSealed :=
  match old with
  | none => new
  | some o =>
    { vals := new.vals.foldl (fun m p => tput none m p.1 p.2) o.vals
      image := match new.image with | some i => some i | none => o.image
      first := new.first }

/-- A set for a boundary replaces the one waiting there; its snapshot holds every earlier write, fades too (R30). -/
def sealMerge (old : Option Sealed) (new : Sealed) : Sealed :=
  match old with
  | none => new
  | some o => { new with img := { new.img with fades := new.img.fades ||| o.img.fades } }

/-- Response payload of PARAM_SEAL (R460). -/
def sealPayload (first flags reason line cell : Nat) : List Byte :=
  le 4 first ++ le 1 flags ++ le 1 reason ++ le 1 line ++ le 1 0 ++ le 2 cell ++ le 2 0

/-- Places an awaiting host set as timely or late and answers its PARAM_SEAL (R29, R30, R460). -/
def judgeHost (late : Bool) (first : Nat) (a : Awaiting) (h : Sealed) (s : State) : State :=
  let h := { h with first := first }
  let was := if late then s.par.late else s.par.timely
  let s := if late then { s with par.late := some (sealMerge s.par.late h) }
    else { s with par.timely := some (sealMerge s.par.timely h) }
  let s := if late then logEv 0x0001 (le 1 0 ++ le 4 first) s else s
  match a.mb with
  | some k => mbDone k 0x0003 (if late then rSealLate else rOK) a.tag
      (sealPayload first (b2n late + 2 * b2n was.isSome) 0 255 65535) s
  | none => s

/-- Places an awaiting service set as timely or late (R28, R92). -/
def judgeSvc (late : Bool) (first : Nat) (v : SvcSealed) (s : State) : State :=
  let v := { v with first := first }
  let s := if late then { s with par.svcLate := some (svcMerge s.par.svcLate v) }
    else { s with par.svcTimely := some (svcMerge s.par.svcTimely v) }
  if late then logEv 0x0001 (le 1 1 ++ le 4 first) s else s

/-- Judges one awaiting seal (R28). -/
def judgeOne (late : Bool) (a : Awaiting) (s : State) : State :=
  let first := (s.sch.frameNo.val.toNat + if late then 2 else 1) % 2 ^ 32
  let s := match a.host with | some h => judgeHost late first a h s | none => s
  match a.svc with | some v => judgeSvc late first v s | none => s

/-- Judges every awaiting seal once the FBE time is fixed: timely when its snapshot lies before the deadline. Log entry 25 (DEDUCED). -/
def judgeSeals (s : State) : State :=
  match sealDeadline s with
  | none => s
  | some d =>
    s.par.awaiting.foldl (fun s a => judgeOne (decide (d ≤ a.at_)) a s) { s with par.awaiting := [] }

/-- Stops emission (R25): a running frame gets a truncated FBE when its last fired shot's window closes, or now when
none was fired; placed edges and remaining slots are dropped. Nothing is raised while no frame runs (R33).
Log entries 31 (DESIGN CHOICE), 124 (DESIGN CHOICE). -/
def stopEmission (s : State) : State :=
  let clr : State := { s with
    sch.strs := s.sch.strs.map (fun p => (p.1, { p.2 with placed := none }))
    sch.line := none, sch.nextLine := 0, sch.lastEdge := s.sch.firedEdge }
  if s.sch.running && (s.sch.fbeAt.isNone || s.sch.strs.any (fun p => p.2.placed.isSome)) then
    judgeSeals { clr with
      sch.truncated := true
      sch.fbeAt := some (if s.sch.frameShots = 0 then s.dev else max s.dev s.sch.winClose) }
  else if s.sch.fbeAt.isNone then { clr with sch.linesRun := 0 } else clr

/-! ### Enables and contactor (R270 to R272, R289) -/

/-- Ends permission: LSR_EN_A and LSR_EN_B fall (R271, R289 step 5); emission stops (R25). Log entry 31 (DESIGN CHOICE). -/
def dropLsr (s : State) : State :=
  if s.pins.lsrA || s.pins.lsrB then
    let s := { s with pins.lsrA := false, pins.lsrB := false, nk.lsrFell := s.wall }
    if stEmits s then stopEmission s else s
  else s

/-- Whether HV_CUT_N is to be asserted (R266, R268, R272). Log entry 31 (DESIGN CHOICE). -/
def wantCut (s : State) : Bool :=
  !(s.desk.st == 2 || s.desk.st == 3 || s.desk.st == 4 || s.desk.st == 5) || oFaults s != 0 || !s.nk.passed || !nkAlive s

/-- Drives HV_CUT_N (R272): asserted 2.5 µs after LSR_EN fell; at once when it fell earlier, but for an O fault 2.5 µs after the fault at
the earliest (R289 step 6). Log entry 31 (DESIGN CHOICE). -/
def driveCut (s : State) : State :=
  if wantCut s then
    (if s.pins.hvCut then { s with nk.cutDue := false }
     else if nkAlive s = false ∨ (oFaults s = 0 ∧ s.nk.lsrFell + 5 * tUs / 2 ≤ s.wall ∧ !s.pins.lsrA) then
      { s with pins.hvCut := true, nk.cutAt := s.wall, nk.cutDue := false }
     else { s with nk.cutDue := true, nk.cutFrom := if s.nk.cutDue then s.nk.cutFrom else s.wall })
  else if s.pins.hvCut then { s with pins.hvCut := false, nk.uncutAt := s.wall, nk.cutDue := false }
  else { s with nk.cutDue := false }

/-- The degraded clock (R291): it counts while a D fault is active in DEGRADED or COMMISSIONING; 60 s of RUN free of
D faults are timed from `cleanAt`. -/
def degClock (s : State) : State :=
  let active := dFaults s != 0 && (s.desk.st == 3 || s.desk.st == 5)
  let s := match s.nk.degOn with
    | some w => { s with nk.degAcc := s.nk.degAcc + (s.wall - w), nk.degOn := if active then some s.wall else none }
    | none => { s with nk.degOn := if active then some s.wall else none }
  if s.desk.st = 4 ∧ dFaults s = 0 then { s with nk.cleanAt := some (s.nk.cleanAt.getD s.wall) }
  else { s with nk.cleanAt := none }

/-- What follows any change Nerrak sees: permission, contactor, degraded clock, caps. -/
def nkUpdate (s : State) : State :=
  let s := if s.pins.lsrA && !permOk s then dropLsr s else s
  updCaps (degClock (driveCut s))

/-- VDD_NK as Nerrak's own monitor sees it: it leaves or returns to its window (R266, R538). -/
def vddNkChange (mv : Nat) (s : State) : State := nkUpdate { s with pins.vddNk := nkWindow mv }

/-! ### The ledger's fills and cap (R283 to R285) -/

def nkCell (s : State) (c : Nat) : NkCell := tget {} s.nk.ledger c
def setNkCell (s : State) (c : Nat) (v : NkCell) : State := { s with nk.ledger := tput {} s.nk.ledger c v }

/-- A sub-bin's length in ticks (R283). Log entry 30 (DEDUCED). -/
def subTicks (st : List Host.Cell) (w : Nat) : Nat := max 1 (sWindow st w * 16000)

/-- The account of a window. -/
def NkCell.win (c : NkCell) (w : Nat) : Tab Nat := if w = 0 then c.w0 else if w = 1 then c.w1 else c.w2

/-- Sum of the current sub-bin and the eight before it (R283). -/
def account (s : State) (st : List Host.Cell) (w c : Nat) : Nat :=
  let cur := s.dev / subTicks st w
  sumN ((((nkCell s c).win w).filter (fun p => decide (cur ≤ p.1 + 8))).map (·.2))

/-- A cell's limit times 128 in a window (R284, R299). -/
def cellLimit (s : State) (st : List Host.Cell) (w c : Nat) : Nat := limit128 s st w (c / 32) (c % 32)

/-- The fill of a cell in a window (R285): 255 for a non-empty account without a limit. -/
def fillOf (s : State) (st : List Host.Cell) (w c : Nat) : Nat :=
  let a := account s st w c
  let l := cellLimit s st w c
  if l = 0 then (if a = 0 then 0 else 255) else min 255 (a * 256 * 128 / l)

/-- The fill of a cell over the three windows (R285). -/
def fill3 (s : State) (st : List Host.Cell) (c : Nat) : Nat :=
  max (fillOf s st 0 c) (max (fillOf s st 1 c) (fillOf s st 2 c))

/-- The cell of highest fill; among equals the choice is open. Log entry 33 (DESIGN CHOICE). -/
def topCell (s : State) (st : List Host.Cell) : Nat × State :=
  let fs := s.nk.ledger.map (fun p => (p.1, fill3 s st p.1))
  let mx := maxL (fs.map (·.2))
  let tops := (fs.filter (fun p => p.2 == mx)).map (·.1)
  if tops.length ≤ 1 then (tops.headD 0, s)
  else let r := freeVal tops.length s; (tops.getD r.1 0, r.2)

/-- The frame's highest fill of each string so far (R285). -/
def noteFills (st : List Host.Cell) (s : State) : State :=
  { s with nk.fillMax := s.nk.ledger.foldl (fun m p => tmod 0 m (p.1 / 256) (max · (fill3 s st p.1))) s.nk.fillMax }

/-- Evaluates the fills (R285, R304): the frame's highest ones, and NK_LEDGER_CAP, added at 240 and removed once every fill is below
224. -/
def capEval (s : State) : State :=
  match governing s with
  | none => s
  | some st =>
    let s := noteFills st s
    let fs := s.nk.ledger.map (fun p => fill3 s st p.1)
    let go := fun (on : Bool) =>
      let r := topCell s st
      let s := logEv 0x0C04 (le 1 (b2n on) ++ le 1 (r.1 / 256) ++ le 1 (r.1 / 32 % 8) ++ le 1 (r.1 % 32)) { r.2 with nk.cap := on }
      updCaps s
    if !s.nk.cap && fs.any (fun f => decide (240 ≤ f)) then go true
    else if s.nk.cap && fs.all (fun f => decide (f < 224)) then go false
    else s

/-! ### Incidents of the logbook (R500) -/

/-- The DEVICE_STATE register (R441). -/
def stateWord (s : State) : Nat :=
  s.desk.health * 65536 + b2n s.desk.recovery * 2048 + b2n s.desk.lab * 1024 + s.desk.debug * 256 + b2n s.desk.confirmed * 128
    + s.desk.slot * 64 + b2n s.desk.trial * 32 + s.desk.st

/-- An incident triggers the logbook (R500): kinds 2 to 4 only with their bits in LOG.TRIGGERS; outside recording it is
ignored and counted. -/
def incident (kind : Nat) (s : State) : State :=
  if 2 ≤ kind ∧ kind ≤ 4 ∧ (par0 s pLogTriggers).testBit (kind - 2) = false then s
  else if s.lgb.st ≠ 0 then
    wrapEv s.lgb.ignored 1 0x0E0A (le 1 3) { s with lgb.ignored := s.lgb.ignored.add 1 }
  else { s with
    lgb.st := 1, lgb.kind := kind, lgb.trigAt := coarse s, lgb.trigEv := s.desk.eventCount.val.toNat
    lgb.trigSt := BitVec.ofNat 32 (stateWord s), lgb.trigNk := s.nk.faults
    lgb.stopAt := s.dev + par0 s pLogPostTrigger * tMs }

/-- Logs NK_FAULT; the Nerrak report's interrupt source follows (R304, R472), an O fault is an incident (R500). Log entry 15 (DEDUCED). -/
def nkFaultEv (bitNo str em val : Nat) (s : State) : State :=
  let s := irq (if bitNo < 16 then 201 + bitNo else 197 + bitNo)
    (logEv 0x0C01 (le 1 bitNo ++ le 1 str ++ le 1 em ++ le 4 (min val (2 ^ 32 - 1))) s)
  if bitNo < 16 then incident 2 s else s

/-- SENSE_CHANNEL (R287): an open wire on a channel with role 1 or 2, or named in the set's laser mask. -/
def senseFault (s : State) : Bool :=
  let mask := match governing s with | some st => sf st 40 1 | none => 0
  s.sns.any (fun p => p.2.openAt.isSome && (senseFaulty p.2 || mask.testBit p.1))

/-- Latches a fault of a state that does not emit: no state change follows (R288). The value R304 names none for is free. -/
def latchFault (bitNo : Nat) (s : State) : State :=
  if s.nk.faults.getLsbD bitNo then s
  else
    let r := freeVal (2 ^ 32) s
    nkFaultEv bitNo 255 255 r.1 { r.2 with nk.faults := r.2.nk.faults ||| BitVec.ofNat 32 (2 ^ bitNo) }

/-- Takes a fault's latch back (R287): NK_FAULT_CLEARED. -/
def unlatch (bitNo : Nat) (s : State) : State :=
  if s.nk.faults.getLsbD bitNo then
    logEv 0x0C02 (le 1 bitNo) { s with nk.faults := s.nk.faults &&& ~~~ (BitVec.ofNat 32 (2 ^ bitNo)) }
  else s

/-- Whether the governing set makes the head switch read open (R287, R295). -/
def headOpen (s : State) : Bool := (governing s).isSome && !headClosed s

/-- NK_TEMP_INTERLOCK at each start of holding the charge (R293); the pins follow. -/
def setChgHeld (held : Bool) (s : State) : State :=
  if held = s.nk.chgHeld then s
  else
    let s := { s with nk.chgHeld := held }
    updCharge (if held then logEv 0x0C08 (le 1 1) s else s)

/-- Whether a sample's voltage in µV lies within the set's laser window (R293). -/
def inLaser (st : List Host.Cell) (uv : Int) : Bool := decide ((sf st 44 4 : Int) ≤ uv) && decide (uv ≤ sf st 48 4)

/-- Whether charging is to be held (R293): no valid sample for 100 ms, or a masked channel's latest out of window. -/
def chgHold (s : State) : Bool :=
  s.nk.laserOut || (match governing s with
    | some st => s.nk.laser.any (fun p => (sf st 40 1).testBit p.1 && (match p.2 with | some v => !inLaser st v | none => false))
    | none => true)

/-- On leaving COMMISSIONING the confirmed set governs again: its switch polarity and laser mask decide what reads as a fault (R287), its
limits the fills and the ledger cap (R285), its laser mask and window the charge (R293). -/
def relatch (s : State) : State :=
  let s := if headOpen s then latchFault 7 s else s
  let s := if senseFault s then latchFault 17 s else unlatch 17 s
  setChgHeld (chgHold s) (capEval s)

/-! ### State changes (R38, R441, R442, R471) -/

/-- Changes DEVICE_STATE.STATE: a candidate set is discarded on leaving COMMISSIONING (R299), STATE_CHANGE logged, ATTENTION.STATE set, the score
recomputed (R516), outputs idle outside emission (R193), charging and Nerrak follow, a HEALTH record is sent (R337).
Log entry 13 (DESIGN CHOICE). -/
def setSt (new cause : Nat) (s : State) : State :=
  let old := s.desk.st
  let s := { s with desk.st := new }
  let s := if new = 3 ∨ new = 4 ∨ new = 5 then s else
      { s with sch.strs := s.sch.strs.map (fun p => (p.1, { p.2 with fire := false, shunt := 0, iset := 0 })) }
  let s := if old = 3 ∧ new ≠ 3 ∧ s.nk.confirm.isNone then { s with nk.cand := [], nk.candOk := false, nk.nonce := none } else s
  let s := if old = 3 ∧ new ≠ 3 then relatch s else s
  let s := logNow 0x0002 (le 1 old ++ le 1 new ++ le 1 cause) (attnRaise 0x400#32 (updScore s))
  let s := healthRecord (nkUpdate (updCharge s))
  if new = 5 ∧ old ≠ 5 then incident 3 s else if new = 6 ∧ old ≠ 6 then incident 4 s else s

/-- Drops the transitions that wait for an FBE (R39). Log entry 27 (DEDUCED). -/
def dropPend (s : State) : State :=
  { s with desk.pendStop := false, desk.pendExit := false, desk.pendRun := false }

/-- A change to a state that acts at once: pending ones are dropped (R39), emission ends with a truncated FBE when the
new state does not emit (R25). -/
def stNow (new cause : Nat) (s : State) : State :=
  let s := dropPend s
  let s := if new = 4 ∨ new = 5 then s else stopEmission s
  setSt new cause s

/-! ### Faults (R287, R288, R290) -/

/-- Raises a fault (R287): latched once. An O fault goes to SAFE_STOP from an emitting state (R288), a D fault takes
RUN to DEGRADED and drops a pending return to RUN (R290). Log entry 29 (DESIGN CHOICE). -/
def raiseFault (bitNo str em val : Nat) (s : State) : State :=
  if s.nk.faults.getLsbD bitNo then s
  else
    let s := nkFaultEv bitNo str em val { s with nk.faults := s.nk.faults ||| BitVec.ofNat 32 (2 ^ bitNo) }
    if bitNo < 16 then
      (if stEmits s then stNow 6 2 s else nkUpdate s)
    else if s.desk.st = 4 then stNow 5 2 s
    else nkUpdate { s with desk.pendRun := false }

/-- Raises a fault for which R304 names no value: the value is free. Log entries 1 (DESIGN CHOICE), 29 (DESIGN CHOICE). -/
def raiseFree (bitNo str em : Nat) (s : State) : State :=
  if s.nk.faults.getLsbD bitNo then s
  else let r := freeVal (2 ^ 32) s; raiseFault bitNo str em r.1 r.2

/-- Clears a fault (R287, R303): DEGRADED without D faults returns to RUN at the next FBE (R38, R291). -/
def clearFault (bitNo : Nat) (s : State) : State :=
  if s.nk.faults.getLsbD bitNo = false then s
  else
    let s := unlatch bitNo s
    nkUpdate (if s.desk.st = 5 ∧ dFaults s = 0 ∧ s.desk.pendStop = false then { s with desk.pendRun := true } else s)

/-- Keeps a D fault in step with its condition. -/
def levelFault (bitNo : Nat) (on : Bool) (s : State) : State :=
  if on then raiseFree bitNo 255 255 s else clearFault bitNo s

/-- Another set governs, or the governing one has changed: HEAD_OPEN, SENSE_CHANNEL, the fills with the ledger cap and the charge interlock
are judged by it (R285, R287, R293). -/
def rejudge (s : State) : State :=
  let s := if headOpen s then raiseFree 7 255 255 s else s
  let s := capEval (levelFault 17 (senseFault s) s)
  setChgHeld (chgHold s) (nkUpdate s)

end Sys2Proof.Machine
end

