-- ==== Sys2Proof/Machine/NkLedger.lean ====
section
/-! DEFINITION. Machine/NkLedger.lean: Nerrak's marks and scan checks (R282, R286), expected energy (R276), the emission
ledger with its fills and cap (R283 to R285), pulse-monitor faults (R278). -/

namespace Sys2Proof.Machine

/-! ### Marks (R222, R282) -/

/-- Accepts a mark stamp, or none when it lies before 0.75 × T_m after the last one (R222). Log entry 30 (DEDUCED). -/
def markAccept (m : Marks) (t : Nat) : Option Marks :=
  match m.ta, m.tm with
  | none, _ => some { ta := some t, tm := none, hist := ((t, 0) :: m.hist).take 16, missing := false }
  | some a, none => some { ta := some t, tm := some (t - a), hist := ((t, t - a) :: m.hist).take 16, missing := false }
  | some a, some p =>
    if 4 * (t - a) < 3 * p then none
    else some { ta := some t, tm := some (t - a), hist := ((t, t - a) :: m.hist).take 16, missing := false }

/-- The elapsed instant of a device stamp. Log entries 30 (DEDUCED), 40 (DEDUCED). -/
def wallOf (s : State) (stamp : Nat) : Nat := stamp + (s.wall - s.dev)

/-- A polygon mark reaches Nerrak (R282, R286): an interval outside the set's bounds is SCAN_STALL while permission is
held; its value is the mark interval in ticks. Log entry 30 (DEDUCED). -/
def nkMark (stamp : Nat) (s : State) : State :=
  match markAccept s.nk.marks (wallOf s stamp) with
  | none => s
  | some m =>
    let s := { s with nk.marks := m }
    match governing s, m.tm with
    | some st, some tm =>
      nkUpdate (if s.pins.lsrA && !markOk s st then raiseFault 5 255 255 tm s else s)
    | _, _ => s

/-- Circular distance of two phases. -/
def phaseDist (a b : Nat) : Nat :=
  let d := (a + 2 ^ 32 - b % 2 ^ 32) % 2 ^ 32
  min d (2 ^ 32 - d)

/-- Nerrak's comparison of Θ_N and the servo's Θ at a sample (R286): SCAN_DISAGREE at the second one in a row. Log entry 49 (DEDUCED). -/
def nkCompare (theta : Nat) (s : State) : State :=
  if s.pins.lsrA = false then { s with nk.disagree := 0 }
  else if 2 ^ 26 < phaseDist (thetaN s s.wall) theta then
    let s := { s with nk.disagree := s.nk.disagree + 1 }
    if 2 ≤ s.nk.disagree then raiseFault 6 255 255 (thetaN s s.wall) s else s
  else { s with nk.disagree := 0 }

/-- Whether the 9,700 N cycles of a stall window can have passed since its start, by the fastest oscillator (R266, R286). -/
def stallOver (s : State) : Bool := decide (9700 * 1280 * 100 ≤ (s.wall - s.nk.stallAt) * 103)

/-- A stall window ends and the next one begins (R286). Log entries 30 (DEDUCED), 49 (DEDUCED). -/
def stallWindow (s : State) : State :=
  if stallOver s = false then s
  else
  let th := thetaN s s.wall
  let adv := (th + 2 ^ 32 - s.nk.stallTh % 2 ^ 32) % 2 ^ 32
  let s := { s with nk.stallTh := th, nk.stallAdv := adv, nk.stallAt := s.wall }
  match governing s with
  | some st => nkUpdate (if s.pins.lsrA && decide (adv < sf st 36 4) then raiseFault 5 255 255 th s else s)
  | none => s

/-! ### Expected energy (R276) -/

/-- A point on the line through (c0, e0) and (c1, e1) at `code`, as a fraction. -/
def onLine (c0 e0 c1 e1 code : Nat) : Int × Nat :=
  (((e0 : Int) * ((c1 : Int) - c0) + ((e1 : Int) - e0) * ((code : Int) - c0)), c1 - c0)

/-- E_x as a fraction: linear between breakpoints, from (0, 0) below the first, along the last segment above (R276). -/
def exFrac (st : List Host.Cell) (i code : Nat) : Int × Nat :=
  match (List.range 7).find? (fun j => decide (code ≤ sBpCode st i j)) with
  | some 0 => if sBpCode st i 0 = 0 then ((sBpE st i 0 : Nat), 1) else onLine 0 0 (sBpCode st i 0) (sBpE st i 0) code
  | some j => onLine (sBpCode st i (j - 1)) (sBpE st i (j - 1)) (sBpCode st i j) (sBpE st i j) code
  | none => onLine (sBpCode st i 5) (sBpE st i 5) (sBpCode st i 6) (sBpE st i 6) code

/-- E_x in pJ; the rounding of the interpolation is open (log entry 1). -/
def exEnergy (st : List Host.Cell) (i code : Nat) (s : State) : Nat × State :=
  let f := exFrac st i code
  let r := freeRound f.1 (max 1 f.2) s
  (r.1.toNat, r.2)

/-- 1.2 × E_x (R275, R278), its rounding open. -/
def ex12 (ex : Nat) (s : State) : Nat × State :=
  let r := freeRound (12 * ex : Nat) 10 s
  (r.1.toNat, r.2)

/-! ### The ledger (R282 to R285) -/

/-- The sector of a shot of emitter (i, e) at a fire stamp (R282, R223). Log entry 40 (DEDUCED). -/
def sectorOf (s : State) (st : List Host.Cell) (i e stamp : Nat) : Nat :=
  let th := (thetaN s (wallOf s stamp) + 2 ^ 32 - sf st 12 4) % 2 ^ 32
  let phi : Nat := th * sFacets st % 2 ^ 32
  ((((phi : Nat) : Int) + sAz st (8 * i + e) * 65536) % 4294967296).toNat * sSectors st / 2 ^ 32

/-- Cell number of an emitter and sector. -/
def cellNo (i e n : Nat) : Nat := (8 * i + e) * 32 + n

/-- Adds energy to the sub-bin of a stamp, dropping sub-bins that left the account. -/
def addWin (s : State) (st : List Host.Cell) (w stamp e : Nat) (m : Tab Nat) : Tab Nat :=
  let cur := s.dev / subTicks st w
  tmod 0 (m.filter (fun p => decide (cur ≤ p.1 + 8))) (stamp / subTicks st w) (· + e)

/-- Whether the headroom test fails for a cell in any window (R284). -/
def headroomFails (s : State) (st : List Host.Cell) (c : Nat) : Bool :=
  [0, 1, 2].any (fun w => decide (cellLimit s st w c < (account s st w c + 2 * sPmax st (c / 256)) * 128))

/-- Accounts a pulse (R283 to R285): all three accounts of its cell, headroom, fills and cap. Log entry 49 (DEDUCED). -/
def accountPulse (st : List Host.Cell) (i e stamp amount : Nat) (s : State) : State :=
  let c := cellNo i e (sectorOf s st i e stamp)
  let x := nkCell s c
  let s := setNkCell s c { w0 := addWin s st 0 stamp amount x.w0, w1 := addWin s st 1 stamp amount x.w1,
                           w2 := addWin s st 2 stamp amount x.w2 }
  let s := if headroomFails s st c then
      raiseFault 0 i e (maxL ([0, 1, 2].map (fun w => account s st w c))) s
    else s
  capEval s

/-- Publishes the frame's highest fills for the planner and starts the next frame's (R285). -/
def publishFills (s : State) : State :=
  let s := { s with nk.shotN := [] }
  match governing s with
  | none => { s with nk.publish := s.nk.fillMax, nk.fillMax := [] }
  | some st =>
    let now := s.nk.ledger.foldl (fun m p => tput 0 m (p.1 / 256) (max (tget 0 m (p.1 / 256)) (fill3 s st p.1))) ([] : Tab Nat)
    { s with nk.publish := s.nk.fillMax, nk.fillMax := now }

/-- A sub-bin boundary of a window (R283, R285). -/
def subBinBoundary (w : Nat) (s : State) : State :=
  match governing s with
  | none => s
  | some st => if 2 < w ∨ s.dev % subTicks st w ≠ 0 then s else capEval s

/-- An uncorrectable sub-bin sets its cell's accounts to their limits (R283); the rounding of a limit is open. Log entry 33 (DESIGN CHOICE). -/
def badCell (st : List Host.Cell) (s : State) (c : Nat) : State :=
  if 4096 ≤ c then s
  else
    let f := fun (w : Nat) (s : State) => freeRound (cellLimit s st w c : Nat) 128 s
    let r0 := f 0 s
    let r1 := f 1 r0.2
    let r2 := f 2 r1.2
    let put := fun (w : Nat) (v : Int) => tput 0 ([] : Tab Nat) (s.dev / subTicks st w) v.toNat
    setNkCell r2.2 c { w0 := put 0 r0.1, w1 := put 1 r1.1, w2 := put 2 r2.1 }

/-- The 100 ms scrub of the ledger memory (R269). Log entry 33 (DESIGN CHOICE). -/
def ledgerScrub (bad : List Nat) (s : State) : State :=
  match governing s with
  | none => s
  | some st => if nkChecks s = false then s else capEval (bad.foldl (badCell st) s)

/-! ### Pulse-monitor channel faults (R276, R278) -/

/-- Raises PMON_CHANNEL for a channel; one already active keeps counting. -/
def pmonRaise (k : Nat) (s : State) : State :=
  let x := pmon s k
  if x.active then s
  else raiseFree 16 255 255 (setPmon s k { x with active := true, at_ := s.wall, baseOk := false, clean := 0, lowHad := false, lowRun := 0 })

/-- Clears a channel's fault once its three conditions hold (R278); the D fault ends with the last channel. -/
def pmonTry (k : Nat) (s : State) : State :=
  let x := pmon s k
  if x.active && x.baseOk && decide (16 ≤ x.clean) && !x.lowHad then
    let s := setPmon s k { x with active := false, clean := 0 }
    if (List.range 4).any (fun j => (pmon s j).active) then s else clearFault 16 s
  else s

end Sys2Proof.Machine
end

