-- ==== Sys2Proof/Machine/RingTime.lean ====
section
/-! DEFINITION. Machine/RingTime.lean: ring time and its line instants (R420, R424) as the servo, the scheduler and the
triggers read them. -/

namespace Sys2Proof.Machine

/-- Ring time of a device coarse cycle by the node's mapping and rate (R420); rounded down. -/
def ringOf (s : State) (c : Nat) : Int :=
  (s.rng.mapRing : Int) + ((c : Int) - s.rng.mapDev) * s.rng.rate / 2 ^ 32

/-- Device coarse cycle of a ring time: the inverse of the mapping, rounded down. -/
def devOfRing (s : State) (r : Nat) : Int :=
  (s.rng.mapDev : Int) + ((r : Int) - s.rng.mapRing) * 2 ^ 32 / (max 1 s.rng.rate : Nat)

/-- Ring time now; a node that is not locked uses its own device time (R428). -/
def ringNow (s : State) : Nat := if s.rng.locked then (ringOf s (coarse s)).toNat else coarse s

/-- Position in the turn cycle of the last ring line instant at or before a coarse cycle (R424). -/
def turnPos (s : State) (c : Nat) : Nat := ((ringOf s c).toNat / max 1 s.rng.period) % max 1 s.rng.cycle

/-- The phase error of R225 for a mark: t_0 against the nearest reference instant, the earlier one on a tie. All instants
in units of 1 / (2^32 × rate) tick. -/
def phaseError (s : State) (ta tm : Nat) : Int :=
  let lp := par0 s pPolyLinePeriod
  let off := par0 s pPolyPhaseOffset
  let ring := par0 s pPolyPhaseRef == 1
  let rate : Nat := if ring then max 1 s.rng.rate else 1
  let t0 : Int := ((ta * 2 ^ 32 + tm * par0 s pPolyFacetOrigin) * rate : Nat)
  let base : Int := if ring then (((s.rng.mapDev + off) * rate : Nat) : Int) * 64 * 2 ^ 32 - (s.rng.mapRing : Int) * 64 * 2 ^ 64
    else ((off * 64 * 2 ^ 32 : Nat) : Int)
  let step : Nat := if ring then max 1 s.rng.period * 64 * 2 ^ 64 else lp * 64 * 2 ^ 32
  let d0 : Int := (t0 - base) % (max 1 step : Nat)
  let d : Int := if (step : Int) - d0 < d0 then d0 - step else d0
  clamp (-32768) 32767 (rnd (d * 65536) (max 1 (lp * 64 * 2 ^ 32 * rate)))

end Sys2Proof.Machine
end

