-- ==== Sys2Proof/Machine/Servo.lean ====
section
/-! DEFINITION. Machine/Servo.lean: the scan servos (R212 to R231): samples, control laws, hand-overs, marks, lock, crossings,
azimuth codes, and their commands. -/

namespace Sys2Proof.Machine

/-- sat16 of R216. -/
def sat16 (v : Int) : Int := clamp (-32768) 32767 v

/-- Servos and timing ports run in every state but RESET, BOOT and FROZEN (R37, R213). -/
def servosRun (s : State) : Bool := !(s.desk.st == 0 || s.desk.st == 1 || s.desk.st == 7)

/-- The polygon servo. -/
def polyNo (s : State) : Nat := par0 s pPolyServo

/-! ### Targets (R182, R228) -/

/-- A new target reaches a servo (R228): it acts at the next sample (R215), and the later of two replaces the earlier. -/
def handTarget (n : Nat) (v : Int) (s : State) : State := setServo s n { servo s n with due := some v }

/-- Hands a line's elevation to the elevation servo unless it is 0x8000 (R182). -/
def handElev (l : Nat) (s : State) : State :=
  let g := par0 s pEmitGalvoServo
  let v := lineElev s.par.inForce.itin l
  if g < 4 ∧ v ≠ 0x8000 then handTarget g (sgn 16 v) s else s

/-! ### Phases and azimuth (R222 to R224, R227) -/

/-- Revolution phase Θ of a servo at a device tick (R222). -/
def theta (s : State) (n tick : Nat) : Nat := phaseOf (servo s n).marks tick

/-- Θ′ of R223 by a set's facet origin. -/
def thetaP (origin th : Nat) : Nat := (th + 2 ^ 32 - origin % 2 ^ 32) % 2 ^ 32

/-- The facet index of R223. -/
def facetOf (f origin th : Nat) : Nat := thetaP origin th * f / 2 ^ 32

/-- The azimuth code of R224 from a phase. -/
def azCode (f origin azOrigin span th : Nat) : Nat :=
  let phi := thetaP origin th * f % 2 ^ 32
  let d := (phi + 2 ^ 32 - azOrigin % 2 ^ 32) % 2 ^ 32
  if d < span then min 0xFFFF ((2 * d * 65536 + span) / (2 * span)) else 0xFFFF

/-- The azimuth code at a device tick under the set a generation names (R224). -/
def azimuthAt (s : State) (gen tick : Nat) : Nat :=
  azCode (par0 s pPolyFacets) (gPar s gen pPolyFacetOrigin 0) (gPar s gen pAzOrigin 0) (gPar s gen pAzSpan 0) (theta s (polyNo s) tick)

/-- The smallest D whose azimuth code reaches a start angle (R224, R227). -/
def angleD (angle span : Nat) : Nat := if angle = 0 then 0 else cdiv ((2 * angle - 1) * span) 131072

/-- The coarse cycle at which a facet's crossing of the pending start angle falls, counted `rev` revolutions after a mark,
with Θ extrapolated (R227). Log entry 36 (DEDUCED). -/
def crossing (s : State) (angle facet ta tm rev : Nat) : Nat :=
  let f := max 1 (par0 s pPolyFacets)
  let phi := (par0 s pAzOrigin + angleD angle (par0 s pAzSpan)) % 2 ^ 32
  let th := (cdiv (facet * 2 ^ 32 + phi) f + par0 s pPolyFacetOrigin) % 2 ^ 32
  (ta + rev * tm + cdiv (th * tm) (2 ^ 32)) / 64

/-- The tick at which a facet's passage begins that has its crossing of the pending angle in coarse cycle `c`. -/
def passStart (s : State) (angle tm c : Nat) : Nat :=
  let phi := (par0 s pAzOrigin + angleD angle (par0 s pAzSpan)) % 2 ^ 32
  c * 64 - phi * tm / (2 ^ 32 * max 1 (par0 s pPolyFacets))

/-- Whether a handed instant is of the passage whose line-start event was raised last: the same facet, within half a revolution
(R227). -/
def samePass (s : State) (h : Handed) : Bool :=
  match s.srv.poly.lastLs with
  | some (f, q) => f == h.facet && decide (2 * ((h.start : Int) - q).natAbs < h.tm)
  | none => false

/-- The line-start instants of the next 2 µs as computed now (R227): locked, T_m held, an angle pending, and nothing that they are
computed from changed in the 2 µs before each. Log entry 36 (DEDUCED). -/
def computedNow (s : State) : List Handed :=
  let p := s.srv.poly
  let m := (servo s (polyNo s)).marks
  match p.angle, m.ta, m.tm with
  | some a, some ta, some tm =>
    if p.locked = false then []
    else ((List.range (par0 s pPolyFacets)).flatMap (fun f => [0, 1].map (fun r =>
        let c := crossing s a f ta tm r
        ({ facet := f, at_ := c, start := passStart s a tm c, tm := tm } : Handed)))).filter (fun h =>
      decide (coarse s ≤ h.at_) && decide (h.at_ ≤ coarse s + 4000) && decide (p.since + 2 * tUs ≤ h.at_ * 64))
  | _, _, _ => []

/-- The line-start instants handed to the T domain and not past: those computed now, and those handed before the last change of what
they are computed from, which stand (R227). -/
def handedNow (s : State) : List Handed := (s.srv.poly.handed.filter (fun h => decide (coarse s ≤ h.at_))) ++ computedNow s

/-- Something changes that line-start instants are computed from, the mark, the lock, the start angle or the set: what has been handed
stands, and nothing new is handed for 2 µs (R227). -/
def polyChange (s : State) : State := { s with srv.poly.handed := handedNow s, srv.poly.since := s.dev }

/-- The handed instant of a facet in a coarse cycle, of a passage that has had no event yet (R227). -/
def handedAt (s : State) (facet c : Nat) : Option Handed :=
  (handedNow s).find? (fun h => h.facet == facet && h.at_ == c && !samePass s h)

/-- Whether a line-start instant handed for the facet falls in this coarse cycle (R227); answers where its passage begins. -/
def handedPass (s : State) (facet : Nat) : Option Nat := (handedAt s facet (coarse s)).map (·.start)

/-- Whether a line-start instant handed for the facet falls in this coarse cycle (R227). -/
def lineHanded (s : State) (facet : Nat) : Bool := (handedPass s facet).isSome

/-- The facet's passage has had its line-start event (R227). -/
def passUsed (facet : Nat) (s : State) : State :=
  { s with srv.poly.lastLs := some (facet, (handedPass s facet).getD s.dev) }

/-- The scheduler gives the servo the start angle of the next line (R182). -/
def giveAngle (a : Nat) (s : State) : State :=
  let s := polyChange s
  { s with srv.poly.angle := some a, srv.poly.lateLog := false }

/-- Whether the elevation servo lets a line start (R229). -/
def elevSettled (s : State) : Bool :=
  let g := par0 s pEmitGalvoServo
  decide (4 ≤ g) || ((servo s g).settled && (servo s g).due.isNone)

/-- A crossing missed because the elevation servo is not settled is logged once per line (R229). -/
def settleLate (s : State) : State :=
  if s.srv.poly.lateLog then s
  else
    let g := par0 s pEmitGalvoServo
    let v := servo s g
    logEv 0x0604 (le 1 g ++ le 2 (min 65535 (v.x - v.target).natAbs) ++ le 4 s.sch.frameNo.val.toNat) { s with srv.poly.lateLog := true }

/-! ### Marks (R222, R225) -/

/-- A mark stamp reaches a servo; the polygon servo refreshes its phase error and logs an early mark (R222, R225). -/
def servoMark (n stamp : Nat) (s : State) : State :=
  let v := servo s n
  match markAccept v.marks stamp with
  | none => if n = polyNo s then logEv 0x0606 (le 1 n ++ le 1 2) s else s
  | some m =>
    let e := match m.tm with | some tm => phaseError s stamp tm | none => v.ePhase
    let s := if n = polyNo s then polyChange s else s
    setServo s n { v with marks := m, ePhase := e }

/-- A port's stamp reaches every servo that takes its marks from it (R212, R234). -/
def marksOf (port stamp : Nat) (s : State) : State :=
  ((List.range 4).filter (fun n => (servo s n).port == port)).foldl (fun s n => servoMark n stamp s) s

/-- No mark for 1.5 × T_m (R222). -/
def markMissing (s : State) : State :=
  let n := polyNo s
  let v := servo s n
  match v.marks.ta, v.marks.tm with
  | some a, some p =>
    if v.marks.missing = true ∨ servosRun s = false ∨ 2 * (s.dev - a) < 3 * p then s
    else logEv 0x0606 (le 1 n ++ le 1 1) { setServo s n { v with marks.missing := true } with srv.poly.fault := true }
  | _, _ => s

/-- The servo holds no T_m after a change of its mark port (R222); a locked polygon loses its marks. Phases before the change stay known
(R224), from it on Θ holds at its end. -/
def restartMarks (n : Nat) (s : State) : State :=
  let s := if n = polyNo s then polyChange s else s
  let s := setServo s n { servo s n with marks := { hist := ((s.dev, 0) :: (servo s n).marks.hist).take 16 } }
  if n = polyNo s ∧ s.srv.poly.locked = true then { s with srv.poly.fault := true } else s

/-! ### Laws and feed-forward (R216 to R218) -/

/-- Sum of products of two lists. -/
def dot : List Int → List Int → Int
  | a :: l, b :: m => a * b + dot l m
  | _, _ => 0

/-- y of R217 from error and output histories, newest first. -/
def lawOut (l : Law) (e y : List Int) : Int :=
  let acc := dot (l.b.take (l.order + 1)) e - dot (l.a.take l.order) y
  sat16 (asr (acc * 2 ^ l.shift + 2 ^ 14) 15)

/-- Sign of a difference. -/
def sgnOf (v : Int) : Int := if v < 0 then -1 else if v = 0 then 0 else 1

/-- The feed-forward term (R218). Log entry 47 (DEDUCED). -/
def feedFwd (s : State) (n : Nat) (v : Servo) (x : Int) (th : Nat) : Int :=
  let en := par s pServoFfEnable n
  let isPoly := n == polyNo s
  let p := if isPoly then th / 2 ^ 22 else ((x + 32768) / 64).toNat
  let sg := if isPoly then 1 else sgnOf (x - v.x)
  tget 0 v.cog p * (en % 2 : Nat) + tget 0 v.fri p * sg * (en / 2 % 2 : Nat)

/-! ### The sample (R214 to R221, R226, R229, R230) -/

/-- Whether this instant is a sample instant of a servo (R214): whole sample periods after its last sample, a new SERVO.RATE acting from
the sample it reaches on (R215); the first one after BOOT has any phase. Log entry 108 (DESIGN CHOICE). -/
def sampleDue (s : State) (n : Nat) : Bool :=
  match (servo s n).at_ with
  | none => true
  | some t => decide (t < s.dev) && decide ((s.dev - t) % ((servo s n).rate * 512) = 0)

/-- A target that waits is taken, and clears the settled state (R228, R229). -/
def takeTarget (v : Servo) : Servo :=
  match v.due with
  | some t => { v with target := t, settled := false, settleCnt := 0, due := none }
  | none => v

/-- The mark port written acts at the sample (R215); a change of it restarts the servo's marks (R222). -/
def takePort (n : Nat) (s : State) : State :=
  let p := par s pServoFbPort n
  if (servo s n).port = p then s else restartMarks n (setServo s n { servo s n with port := p })

/-- The servo state that a line copy carries, taken at a sample (R215, R231): mode, slew state and goal, ramp, target, histories.
Log entry 34 (DEDUCED). -/
def takeAdopted (v : Servo) : Servo :=
  if v.adopt = [] then v
  else
    { v with
      adopt := [], mode := fld v.adopt 0 1, slewing := bit (fld v.adopt 1 1) 0, ramp := fldI v.adopt 2 2, target := fldI v.adopt 4 2
      u := fldI v.adopt 6 2, y := fldI v.adopt 12 2, goal := fldI v.adopt 18 2
      us := (List.range 3).map (fun i => fldI v.adopt (6 + 2 * i) 2), ys := (List.range 3).map (fun i => fldI v.adopt (12 + 2 * i) 2) }

/-- Applies what reached the servo before its sample (R215): tables, laws, target; answers whether a hand-over occurs. -/
def servoApply (s : State) (n : Nat) (v : Servo) : Servo × Bool :=
  let m := par s pServoMode n
  let v1 := { v with
    cog := if v.cogDue then v.cogSh else v.cog, fri := if v.friDue then v.friSh else v.fri, cogDue := false, friDue := false
    laws := v.lawDue.foldl (fun t (p : Nat × Option Law) => match p.2 with | some l => tput {} t p.1 l | none => t) v.laws, lawDue := [] }
  ({ takeTarget v1 with mode := m }, m != v.mode || (tget none v.lawDue m).isSome)

/-- SPEED error (R216, R222): full drive until T_m exists; the rounding of the quotient is open. Log entry 48 (DESIGN CHOICE). -/
def speedError (n : Nat) (tm : Option Nat) (s : State) : Int × State :=
  match tm with
  | none => (32767, s)
  | some p =>
    let tgt := max 1 (par s pServoSpeedTarget n * 64)
    let r := freeRound (((p : Int) - tgt) * 32768) tgt s
    (sat16 r.1, r.2)

/-- One step of a value toward a goal by at most `d`. Log entry 47 (DEDUCED). -/
def stepTo (d : Nat) (v goal : Int) : Int :=
  if (goal - v).natAbs ≤ d then goal else if v < goal then v + d else v - d

/-- Errors, ramp and settle state of a sample (R216, R228, R229). -/
def servoMeasure (n : Nat) (x : Int) (v : Servo) (s : State) : Servo × State :=
  let ramp := stepTo (par s pServoSetpointStep n) v.ramp v.target
  let es := speedError n v.marks.tm s
  let ok := decide (ramp = v.target) && decide ((x - v.target).natAbs ≤ par s pServoSettleWindow n) && v.mode == 3
  let isPoly := n == polyNo s
  ({ v with
      ramp := ramp
      errS := (es.1 :: v.errS).take 4, errP := (v.ePhase :: v.errP).take 4, errX := (sat16 (ramp - x) :: v.errX).take 4
      settled := v.mode == 3 && decide (par s pServoSettleCount n ≤ v.settleCnt), settleCnt := if ok then v.settleCnt + 1 else 0
      thS := if isPoly then theta s n s.dev else 0, orgS := par0 s pPolyFacetOrigin, tmS := v.marks.tm }, es.2)

/-- The error history of a mode. -/
def Servo.errs (v : Servo) (m : Nat) : List Int := if m = 1 then v.errS else if m = 2 then v.errP else v.errX

/-- The output history less the feed-forward, the output history a law takes over (R219). -/
def Servo.own (v : Servo) : List Int := List.zipWith (· - ·) v.us v.ffs

/-- y and the output before any slew (R217 to R219); in HOLD the last output. Log entry 47 (DEDUCED). -/
def servoLaw (s : State) (n : Nat) (v : Servo) (over_ : Bool) (ff : Int) : Int × Int :=
  if v.mode = 0 then (parI s pServoOpenLevel n, sat16 (parI s pServoOpenLevel n + ff))
  else if 4 ≤ v.mode then (v.y, v.u)
  else
    let y := lawOut (tget {} v.laws v.mode) (v.errs v.mode) (if over_ then v.own else v.ys)
    (y, sat16 (y + ff))

/-- The sample's output (R217, R220, R221): preset, slew or plain; logs HANDOVER_SLEW. Log entry 47 (DEDUCED). -/
def servoOutput (n oldMode : Nat) (x : Int) (v : Servo) (hand : Bool) (s : State) : State :=
  let ff := if v.mode = 4 then 0 else feedFwd s n v x v.thS
  let r := servoLaw s n v hand ff
  let diff := r.2 - v.u
  let preset := hand && decide (diff.natAbs ≤ par s pServoHandoverLimit n)
  let slew := (hand && !preset) || (!hand && v.slewing)
  let d := par s pServoSlew n
  let u := if preset then v.u else if slew then stepTo d v.u r.2 else r.2
  let y := if preset && decide (v.mode ≠ 4) then sat16 (v.u - ff) else r.1
  let fh := if v.mode = 4 then v.ffs.headD 0 else ff
  let e := if v.mode = 0 ∨ v.mode = 4 then 0 else (v.errs v.mode).headD 0
  let v' := { v with
    x := x, e := e, y := y, u := u, goal := r.2, ys := (y :: (if hand then v.own else v.ys)).take 3, us := (u :: v.us).take 3, ffs := (fh :: v.ffs).take 3
    slewing := slew && decide (d < diff.natAbs), slewed := if hand && !preset then v.slewed.add 1 else v.slewed
    fbRun := if x = 32767 ∨ x = -32768 then v.fbRun + 1 else 0, satRun := if u = 32767 ∨ u = -32768 then v.satRun + 1 else 0 }
  let sat := decide (u = 32767 ∨ u = -32768) && (v.satLog || decide (par s pServoSatCount n ≤ v'.satRun))
  let s := setServo s n { v' with satLog := sat }
  let s := if hand && !preset then
      logEv 0x0601 (le 1 n ++ le 1 oldMode ++ le 1 v.mode ++ leI 2 (sat16 diff)) (wrapEv v.slewed 1 0x060A (le 1 n ++ le 1 1) s)
    else s
  let s := if v'.fbRun = 16 then logEv 0x0606 (le 1 n ++ le 1 3) s else s
  let s := if sat && !v.satLog then logEv 0x0605 (le 1 n ++ leI 2 u) s else s
  setServo s n { servo s n with fltS := servoFault s n }

/-- The lock of the polygon (R226). Log entry 49 (DEDUCED). -/
def polyLock (s : State) : State :=
  let v := servo s (polyNo s)
  let p := s.srv.poly
  let e := v.errP.headD 0
  let win := par0 s pPolyLockWindow
  let lose := fun (why : Nat) =>
    logEv 0x0603 (le 1 why ++ leI 2 e)
      (let s := polyChange s; { s with srv.poly := { s.srv.poly with locked := false, lockCnt := 0, phaseN := {}, fault := false } })
  if p.locked then
    (if p.fault then lose 3 else if v.mode ≠ 2 then lose 2 else if 4 * win < e.natAbs then lose 1 else s)
  else
    let n := if v.mode = 2 then p.phaseN.add (2 ^ 32 - 1) 1 else {}
    let ok := v.mode == 2 && v.marks.tm.isSome && !v.marks.missing && decide (e.natAbs ≤ win)
    let c := if ok then p.lockCnt + 1 else 0
    let p := { p with phaseN := n, lockCnt := c, fault := false }
    if ok && decide (par0 s pPolyLockCount ≤ c) then
      logEv 0x0602 (le 4 n.val) { s with srv.poly := { p with locked := true, handed := handedNow s, since := s.dev } }
    else { s with srv.poly := p }

/-- A servo sample boundary (R214, R215). -/
def servoSample (n : Nat) (x : Int) (s : State) : State :=
  if 3 < n ∨ servosRun s = false ∨ x < -32768 ∨ 32767 < x ∨ sampleDue s n = false then s
  else
    let s := takePort n s
    let v := takeAdopted (servo s n)
    let s := { s with twn.srvOwn := if s.twn.owner then s.twn.srvOwn ||| 2 ^ n else s.twn.srvOwn &&& (15 - 2 ^ n) }
    let a := servoApply s n { v with drv := v.u, at_ := some s.dev, rate := par s pServoRate n }
    let m := servoMeasure n x a.1 s
    let s := servoOutput n v.mode x m.1 a.2 m.2
    irqOpen (169 + n) (if n = polyNo s then nkCompare (servo s n).thS (polyLock s) else s)

/-! ### Commands (R237 to R239) -/

/-- SERVO_LAW_WRITE (R237). -/
def lawWriteBody (_op : Nat) (r : Req) (s : State) : CmdOut :=
  let n := fld r.payload 0 1
  let m := fld r.payload 1 1
  let o := fld r.payload 2 1
  let b := (List.range 4).map (fun i => fldI r.payload (4 + 2 * i) 2)
  let a := (List.range 3).map (fun i => fldI r.payload (12 + 2 * i) 2)
  let resp := le 1 n ++ le 1 m ++ le 2 0
  if 3 < n ∨ m = 0 ∨ 3 < m ∨ o < 2 ∨ 3 < o ∨ 8 < fld r.payload 3 1 ∨ fld r.payload 18 2 ≠ 0
      ∨ (o = 2 ∧ (b.getD 3 0 ≠ 0 ∨ a.getD 2 0 ≠ 0)) then .done rBadParam resp s
  else
    let v := servo s n
    .done rOK resp (setServo s n { v with lawDue := tput none v.lawDue m (some { order := o, b := b, a := a, shift := fld r.payload 3 1 }) })

/-- SERVO_TABLE_WRITE (R218, R238). -/
def tableWriteBody (_op : Nat) (r : Req) (s : State) : CmdOut :=
  let n := fld r.payload 0 1
  let tb := fld r.payload 1 1
  let cm := fld r.payload 2 1
  let first := fld r.payload 4 2
  let cnt := fld r.payload 6 2
  let es := (List.range cnt).map (fun i => fldI r.payload (8 + 2 * i) 2)
  if 3 < n ∨ 1 < tb ∨ 1 < cm ∨ fld r.payload 3 1 ≠ 0 ∨ 112 < cnt ∨ 1024 < first + cnt ∨ 1023 < first
      ∨ (tb = 1 ∧ es.any (fun e => decide (e < 0)) = true) then .done rBadParam (le 1 n ++ le 1 tb ++ le 2 0) s
  else
    let v := servo s n
    let fill := fun (t : Tab Int) => (es.zipIdx).foldl (fun m p => tput 0 m (first + p.2) p.1) t
    let v := if tb = 0 then { v with cogSh := fill v.cogSh, cogDue := v.cogDue || cm == 1 }
      else { v with friSh := fill v.friSh, friDue := v.friDue || cm == 1 }
    .done rOK (le 1 n ++ le 1 tb ++ le 2 cnt) (setServo s n v)

/-- SERVO_STATUS_READ (R239), every value of the last sample boundary; what has no value (the error of OPEN and HOLD, T_m before two marks) is free. Log entry 48 (DESIGN CHOICE). -/
def servoStatusBody (_op : Nat) (r : Req) (s : State) : CmdOut :=
  let n := fld r.payload 0 1
  if 3 < n ∨ allZero (r.payload.drop 1) = false then
    refuse rBadParam [.lit (le 1 n), .below 1 5, .mask 2 0x3F, .free 12,
      if n = polyNo s then .free 5 else .lit (le 4 0 ++ le 1 255), .zero 3, .free 12] s
  else
    let v := servo s n
    let isPoly := n == polyNo s
    let fe := freeVal 65536 s
    let ft := freeVal (2 ^ 64) fe.2
    let e := if v.mode = 0 ∨ v.mode = 4 then fe.1 else pat 16 v.e
    let fl := b2n v.slewing + 2 * b2n (isPoly && s.srv.poly.locked) + 4 * b2n v.settled + 8 * b2n (servoSat s n)
      + 16 * b2n v.fltS + 32 * b2n v.slewed.wrap
    .done rOK (le 1 n ++ le 1 v.mode ++ le 2 fl ++ leI 2 v.x ++ le 2 e ++ leI 2 v.y ++ leI 2 v.u ++ leI 2 v.ramp ++ leI 2 v.target
      ++ le 4 (if isPoly then v.thS else 0)
      ++ le 1 (if isPoly then facetOf (par0 s pPolyFacets) v.orgS v.thS else 255) ++ le 3 0
      ++ le 8 (v.tmS.getD ft.1) ++ le 4 v.slewed.val.toNat) ft.2

def execServoLawWrite (t : Nat) (r : Req) (s : State) : Host.Outcome State Fault Refusal :=
  .next (command { op := 0x0610 } (lenEq 20) lawWriteBody t r s)
def execServoTableWrite (t : Nat) (r : Req) (s : State) : Host.Outcome State Fault Refusal :=
  .next (command { op := 0x0611 } (fun p => decide (8 ≤ p.length) && p.length == 8 + 2 * fld p 6 2) tableWriteBody t r s)
def execServoStatusRead (t : Nat) (r : Req) (s : State) : Host.Outcome State Fault Refusal :=
  .next (command { op := 0x0612 } (lenEq 4) servoStatusBody t r s)
def execServoSample (t n : Nat) (x : Int) (s : State) : Host.Outcome State Fault Refusal := .next (live t (servoSample n x) s)
def execMarkMissing (t : Nat) (s : State) : Host.Outcome State Fault Refusal := .next (live t markMissing s)

end Sys2Proof.Machine
end

