-- ==== Sys2Proof/Machine/TimePort.lean ====
section
/-! DEFINITION. Machine/TimePort.lean: the timing ports (R232 to R235) and TP_READ (R240). -/

namespace Sys2Proof.Machine

def tport (s : State) (p : Nat) : TPort := tget {} s.srv.tp p
def setTport (s : State) (p : Nat) (v : TPort) : State := { s with srv.tp := tput {} s.srv.tp p v }

/-- A port's source is set: gates restart now, and after a change servos that take their marks from it hold no T_m (R222, R235). -/
def tpRestart (p : Nat) (same : Bool) (s : State) : State :=
  let s := setTport s p { tport s p with gate := s.dev, stamps := [], unused := 0 }
  if same then s else ((List.range 4).filter (fun n => (servo s n).port == p)).foldl (fun s n => restartMarks n s) s

/-- Queues a stamp, or drops it and logs TP_OVERFLOW at most once per second (R234). -/
def tpQueue (p stamp : Nat) (rising : Bool) (s : State) : State :=
  let x := tport s p
  if x.queue.length < 64 then setTport s p { x with queue := x.queue ++ [(stamp, rising)] }
  else
    let ev := match x.ovfAt with | some t => decide (t + tSec ≤ s.dev) | none => true
    let s := setTport s p { x with
      dropped := x.dropped.add 1, since := if ev then 0 else x.since + 1, ovfAt := if ev then some s.dev else x.ovfAt }
    let s := wrapEv x.dropped 1 0x060A (le 1 p ++ le 1 2) s
    if ev then logEv 0x0607 (le 1 p ++ le 4 (x.since + 1)) s else s

/-- An edge of a port's source reaches the port (R232 to R235): selected, not held off, stamped, queued, taken by the regression and by
every servo whose mark port it is. -/
def portEdge (p raw : Nat) (rising : Bool) (s : State) : State :=
  if (par s pTpEdge p).testBit (if rising then 0 else 1) = false then s
  else
    let x := tport s p
    let held := match x.hold with | some e => decide (s.dev < e) | none => false
    if held then setTport s p { x with heldOff := x.heldOff + 1 }
    else
      let stamp := coarse s * 64 + raw % 64
      let full := decide (4096 ≤ x.stamps.length)
      let s := setTport s p { x with
        hold := some (stamp + par s pTpHoldoff p * 64)
        stamps := if full then x.stamps else x.stamps ++ [stamp], unused := if full then x.unused + 1 else x.unused }
      tpQueue p stamp rising (marksOf p stamp s)

/-- The ports that take a source (R232): code 0 is each port's own ball, here that of port `p`. -/
def portsOf (s : State) (k p : Nat) : List Nat :=
  if k = 0 then (if par s pTpSource p = 0 then [p] else []) else (List.range 16).filter (fun q => par s pTpSource q == k)

/-- An edge of a source (R232) reaches every port that takes it. Each port has its own delay line; the model gives them one raw code.
Log entry 109 (DESIGN CHOICE). -/
def sourceEdge (k p raw : Nat) (rising : Bool) (s : State) : State :=
  if servosRun s = false then s else (portsOf s k p).foldl (fun s q => irqOpen (173 + q) (portEdge q raw rising s)) s

/-- An edge on POLY_INDEX_IN: a rising one is the polygon's mark, which also reaches Nerrak over its own path, in every state
(R222, R282). Log entry 109 (DESIGN CHOICE). -/
def polyEdge (raw : Nat) (rising : Bool) (s : State) : State :=
  let stamp := coarse s * 64 + raw % 64
  let s := sourceEdge 2 0 raw rising s
  if rising then nkMark stamp s else s

/-- An edge at a timing port's source (R232, R233): every port that takes the source sees it; an Off port has none. -/
def tpEdge (p raw : Nat) (rising : Bool) (s : State) : State :=
  let k := par s pTpSource p
  if 15 < p ∨ k = 7 then s else if k = 2 then polyEdge raw rising s else sourceEdge k p raw rising s

/-- The hold-off ends (R233). -/
def tpHoldEnd (p : Nat) (s : State) : State :=
  let x := tport s p
  match x.hold with
  | some e => if 15 < p ∨ s.dev < e then s else setTport s p { x with hold := none }
  | none => s

/-- A gate ends and its regression starts (R235); the next gate follows back to back. The gate-full flag goes with the gate's result. -/
def tpGateEnd (p : Nat) (s : State) : State :=
  let x := tport s p
  let stop := x.gate + par s pTpGate p * tUs
  if 15 < p ∨ servosRun s = false ∨ s.dev < stop then s
  else
    let n := x.stamps.length
    let s := setTport s p { x with
      gate := stop, stamps := [], unused := 0, full := x.full && decide (2 ≤ n)
      fitting := if n < 2 then none else some (stop, x.stamps, x.unused)
      valid := if n < 2 then false else x.valid, gateEnd := if n < 2 then stop else x.gateEnd }
    let s := if n < 2 then logEv 0x0608 (le 1 p ++ le 1 n) s else s
    if 0 < x.unused then logEv 0x0609 (le 1 p ++ le 4 (min (2 ^ 32 - 1) x.unused)) s else s

/-- Period in 2^-16 tick and residual in ticks of a gate's stamps (R235). -/
def regress (ts : List Nat) : Nat × Nat :=
  let n : Int := ts.length
  let t0 := ts.headD 0
  let t : List Int := ts.map (fun x => (x : Int) - t0)
  let si := n * (n - 1) / 2
  let sii := (n - 1) * n * (2 * n - 1) / 6
  let st := sumI t
  let stt := sumI (t.map (fun x => x * x))
  let sit := sumI (t.zipIdx.map (fun p => p.1 * (p.2 : Int)))
  let c := n * sit - si * st
  let d := n * sii - si * si
  let a := n * stt - st * st
  let num := (a * d - c * c).toNat
  let den := (d * n * n).toNat
  ((rnd (c * 65536) (max 1 d.toNat)).toNat, if den = 0 then 0 else (isqrt (4 * num / den) + 1) / 2)

/-- A gate's result becomes available (R235). -/
def tpGateResult (p : Nat) (s : State) : State :=
  let x := tport s p
  match x.fitting with
  | some (stop, ts, un) =>
    if 15 < p then s
    else
      let r := regress ts
      setTport s p { x with fitting := none, valid := true, full := decide (0 < un), gateEnd := stop, period := r.1, used := ts.length, resid := r.2 }
  | none => s

/-- TP_READ (R233, R240); without a result the figures of the last gate are free. Log entry 48 (DESIGN CHOICE). -/
def tpReadBody (_op : Nat) (r : Req) (s : State) : CmdOut :=
  let p := fld r.payload 0 1
  let mx := fld r.payload 1 1
  if 15 < p ∨ 26 < mx ∨ fld r.payload 2 2 ≠ 0 then
    refuse rBadParam [.lit (le 1 p ++ le 1 0), .mask 2 7, .free 32] s
  else
    let x := tport s p
    let es := x.queue.take mx
    let f := freeBytes 16 s
    let s := setTport f.2 p { x with queue := x.queue.drop mx }
    .done rOK (le 1 p ++ le 1 es.length ++ le 2 (b2n x.valid + 2 * b2n x.full + 4 * b2n x.dropped.wrap) ++ le 8 (x.gateEnd / 64)
      ++ (if x.valid then le 8 x.period ++ le 4 x.used ++ le 4 x.resid else f.1) ++ le 4 x.dropped.val.toNat ++ le 4 (x.queue.length - es.length)
      ++ es.flatMap (fun e => le 8 (e.1 % 2 ^ 63 + b2n e.2 * 2 ^ 63))) s

def execTpRead (t : Nat) (r : Req) (s : State) : Host.Outcome State Fault Refusal :=
  .next (command { op := 0x0613 } (lenEq 4) tpReadBody t r s)
def execPolyMark (t raw : Nat) (s : State) : Host.Outcome State Fault Refusal := .next (polyEdge raw true (advance t s))
def execTpEdge (t port raw : Nat) (rising : Bool) (s : State) : Host.Outcome State Fault Refusal := .next (live t (tpEdge port raw rising) s)
def execTpHoldoffEnd (t port : Nat) (s : State) : Host.Outcome State Fault Refusal := .next (live t (tpHoldEnd port) s)
def execTpGateEnd (t port : Nat) (s : State) : Host.Outcome State Fault Refusal := .next (live t (tpGateEnd port) s)
def execTpGateResult (t port : Nat) (s : State) : Host.Outcome State Fault Refusal := .next (live t (tpGateResult port) s)

end Sys2Proof.Machine
end

