-- ==== Sys2Proof/Machine/Image.lean ====
section
/-! DEFINITION. Machine/Image.lean: the boot directory and the firmware images (R465, R466), the keys and signatures that images, debug
responses and confirmation records are checked with (R298, R300, R464, R466, R469). -/

namespace Sys2Proof.Machine

abbrev miB : Nat := 1048576

/-- The SHA-256 digest of a message. Log entry 118 (PRESUMED). -/
def digest (m : List Byte) : List Byte := (List.range 32).map (Config.sha256 m)

/-- Whether a key is the one of an OTP key slot (R466, R469): its digest equals the slot's hash, which must be programmed. -/
def keyKnown (slots : Tab (List Byte)) (k : Nat) (key : List Byte) : Bool := (tget [] slots k).length == 32 && tget [] slots k == digest key

/-- The device identity public key, x then y (R464). -/
def identityKey : List Byte := (List.range 64).map Config.identityKeyByte

/-! ### The flash (R465) -/

/-- What lies at an offset of the flash: a copy or an image slot with the offset in it, or nothing the device writes. -/
inductive FlashPart where
  | directory (copy off : Nat)
  | slot (k off : Nat)
  | calibration (copy off : Nat)
  | commissioning (copy off : Nat)
  | reserved
  deriving DecidableEq, Repr

/-- The layout of the flash (R465). -/
def flashPart (a : Nat) : FlashPart :=
  if a < 0x10000 then .directory (a / 0x8000) (a % 0x8000)
  else if a < 0x1810000 then .slot 0 (a - 0x10000)
  else if a < 0x3010000 then .slot 1 (a - 0x1810000)
  else if a < 0x3050000 then .calibration ((a - 0x3010000) / 0x20000) ((a - 0x3010000) % 0x20000)
  else if a < 0x3060000 then .commissioning ((a - 0x3050000) / 0x8000) ((a - 0x3050000) % 0x8000)
  else .reserved

/-- A byte of the flash where R465 gives its place: a directory copy and a calibration copy hold their bytes from their start, unwritten
bytes read 0xFF; the place of the set's and its record's bytes within a commissioning copy is not stated. -/
def flashByte (s : State) (a : Nat) : Option Byte :=
  match flashPart a with
  | .directory c o => some ((if c = 0 then s.nv.dir0 else s.nv.dir1).getD o 0xFF#8)
  | .slot k o => some (cget 0xFF#8 (if k = 0 then s.nv.slotA else s.nv.slotB) o)
  | .calibration c o => some ((if c = 0 then s.nv.calFile else s.nv.calFile1).getD o 0xFF#8)
  | .commissioning _ _ => none
  | .reserved => some 0xFF#8

/-! ### The boot directory (R465, R466) -/

/-- The 16 bytes of a directory copy. -/
def dirBytes (d : BootDir) : List Byte :=
  let b := le 4 1 ++ le 4 d.seq ++ le 1 d.active ++ le 1 d.trial ++ le 1 d.boots ++ le 1 0
  b ++ le 4 (crc32 (b.take 12))

/-- A copy's fields; none when its format or check word is wrong. Log entry 78 (DEDUCED). -/
def dirRead (b : List Byte) : Option BootDir :=
  if b.length = 16 ∧ fld b 0 4 = 1 ∧ fld b 12 4 = crc32 (b.take 12) then
    some { seq := fld b 4 4, active := fld b 8 1 % 2, trial := fld b 9 1, boots := fld b 10 1 }
  else none

/-- Which copy governs (R465): the valid one with the higher sequence; none when neither is valid. -/
def dirCopy (s : State) : Option Nat :=
  match dirRead s.nv.dir0, dirRead s.nv.dir1 with
  | some a, some b => some (if a.seq < b.seq then 1 else 0)
  | some _, none => some 0
  | none, some _ => some 1
  | none, none => none

/-- The directory in force; without a valid copy slot A, no trial. Log entry 78 (DEDUCED). -/
def bootDir (s : State) : BootDir :=
  match dirCopy s with
  | some 0 => (dirRead s.nv.dir0).getD {}
  | some _ => (dirRead s.nv.dir1).getD {}
  | none => {}

/-- Writes the directory into the copy that does not govern, with the next sequence (R465). -/
def dirWrite (active trial boots : Nat) (s : State) : State :=
  let b := dirBytes { seq := (bootDir s).seq + 1, active := active, trial := trial, boots := boots }
  if dirCopy s = some 0 then { s with nv.dir1 := b } else { s with nv.dir0 := b }

/-! ### Images (R465, R466) -/

/-- The cells of an image slot. -/
def slotCells (s : State) (k : Nat) : List Host.Cell := if k = 0 then s.nv.slotA else s.nv.slotB

/-- Bytes and numbers of an image slot. -/
def slotGet (s : State) (k a n : Nat) : List Byte := cgets 0xFF#8 (slotCells s k) a n
def slotNum (s : State) (k a n : Nat) : Nat := cgetLE 0xFF#8 (slotCells s k) a n

/-- An image's version (FW_VERSION's layout) and anti-rollback level (R465). -/
def slotVersion (s : State) (k : Nat) : Nat := slotNum s k 8 4
def slotRollback (s : State) (k : Nat) : Nat := slotNum s k 12 4

/-- Whether the header's fields are those of an image (R465); reserved bytes are not looked at (R4). -/
def headerOk (s : State) (k : Nat) : Bool :=
  slotNum s k 0 4 == 0xEC100F1A && slotNum s k 4 2 == 1 && slotNum s k 6 2 == 256 && decide (slotNum s k 16 4 ≤ 24 * miB - 256)
    && decide (slotNum s k 20 1 < 4)

/-- Verifies an image in the six steps of R466: the number of the first that fails, 0 when it verifies. Log entry 118 (PRESUMED). -/
def imageStep (s : State) (k : Nat) : Nat :=
  let key := slotGet s k 24 64
  let slot := slotNum s k 20 1
  if headerOk s k = false then 1
  else if keyKnown s.nv.imgKeys slot key = false then 2
  else if s.nv.imgRevoked.testBit slot then 3
  else if slotRollback s k < s.nv.rollback then 4
  else if slotGet s k 88 32 ≠ digest (slotGet s k 256 (slotNum s k 16 4)) then 5
  else if Config.ecdsaOk key (digest (slotGet s k 0 120)) (slotGet s k 120 64) = false then 6
  else 0

/-! ### Debug responses and the confirmation record (R298, R300, R469) -/

/-- Whether a debug response answers its challenge (R469): the key is that of its slot, the slot is not revoked, and the signature verifies
over the 25 bytes of nonce, SERIAL_LO, SERIAL_HI and level. -/
def debugAuthentic (s : State) (c : Challenge) (p : List Byte) : Bool :=
  let slot := fld p 0 1
  let key := (p.drop 4).take 64
  keyKnown s.nv.dbgKeys slot key && !s.nv.dbgRevoked.testBit slot
    && Config.ecdsaOk key (digest (c.nonce ++ le 8 s.nv.serial ++ le 1 c.level)) ((p.drop 68).take 64)

/-- What the confirmation record's signature covers (R298). Log entry 118 (PRESUMED). -/
def recordBytes (check setId serial count : Nat) : List Byte :=
  le 4 check ++ le 4 setId ++ le 4 (serial / 2 ^ 32) ++ le 4 serial ++ le 4 count

/-- The `n`-th signature by the device identity key. Log entry 118 (PRESUMED). -/
def signRecord (m : List Byte) (n : Nat) : List Byte := (List.range 64).map (Config.identitySign (digest m) n)

/-- Whether the record's signature verifies under the device identity key (R300). -/
def recordSigned (r : SetRec) : Bool := Config.ecdsaOk identityKey (digest (recordBytes r.check r.setId r.serial r.count)) r.sig

end Sys2Proof.Machine
end

