-- ==== Sys2Proof/Machine/NkPulse.lean ====
section
/-! DEFINITION. Machine/NkPulse.lean: Nerrak's fire log and pulse monitors (R273 to R278), segmented capture and the segment
store (R279 to R281), and the events of those families. -/

namespace Sys2Proof.Machine

/-! ### Fire records and gates (R269, R273, R275, R287) -/

/-- Counts a wrap of Nerrak's counter `n` (R304). -/
def nkWrap (old : CntW) (k n : Nat) (s : State) : State := wrapEv old k 0x0C0A (le 1 n) s

/-- Accounts a pulse at 1.2 × E_x (R275, R278). -/
def account12 (st : List Host.Cell) (i e stamp ex : Nat) (s : State) : State :=
  let r := ex12 ex s
  accountPulse st i e stamp r.1 r.2

/-- A gate that opens while a segment's samples are taken is the one the segment overlaps (R280). -/
def segGate (k : Nat) (g : Gate) (s : State) : State :=
  let f := fun (y : Seg) => if y.chan = k ∧ y.known = false ∧ y.gate = none ∧ y.time < g.stop ∧ g.stamp < y.time + 64 * 32
    then { y with str := g.str, em := g.em, gate := some g.stamp } else y
  { s with nk.segs := s.nk.segs.map f, mem.spill := s.mem.spill.map f, dma.spills := s.dma.spills.map f }

/-- Opens the integration gate of a fire record, or leaves the pulse unmeasured when it would open less than 5 ns after the
previous gate of the channel (R273, R275); an unmeasured pulse is an anomaly (R279). Log entry 40 (DEDUCED). -/
def openGate (st : List Host.Cell) (r : FireRec) (ex nthShot : Nat) (s : State) : State :=
  let k := r.str % 4
  let x := { pmon s k with shot := some (r.str, nthShot) }
  let near := match x.last with | some g => decide (r.stamp < g.stop + 5 * tNs) | none => false
  if near then
    account12 st r.str r.em r.stamp ex (nkWrap s.nk.unmeas 1 1
      { setPmon s k { x with anom := true } with nk.unmeas := s.nk.unmeas.add 1 })
  else
    let g : Gate := { str := r.str, em := r.em, stamp := r.stamp, stop := r.stamp + par0 s pNkIntegGate * 32, ex := ex, nth := nthShot }
    let s := segGate k g s
    setPmon s k { x with gates := x.gates ++ [g], last := some g, lastE := none }

/-- The copy of a record a link delivers. -/
def linkCopy (l : LinkRx) (r : FireRec) : Option FireRec :=
  match l with | .asSent => some r | .altered q => some q | .lost => none

/-- Nerrak takes a fire record (R269, R287): FOREIGN_SHOT outside the set, then the gate. -/
def takeRecord (r : FireRec) (s : State) : State :=
  match governing s with
  | none => s
  | some st =>
    let n := tget 0 s.nk.shotN r.str + 1
    let s := { s with nk.shotN := tput 0 s.nk.shotN r.str n }
    let s := if (sMask st).testBit r.str = false ∨ sScale st (8 * r.str + r.em) = 0 ∨ sf st 42 2 < r.iset then
        raiseFree 4 r.str r.em s
      else s
    let e := exEnergy st r.str r.iset s
    openGate st r e.1 n e.2

/-- The oldest fire record on its way arrives over the two links (R184, R269, R287): FIRE_LOG when the copies differ, one is missing, or a
sequence number is missing; which of two different copies is used is open. A record lost on both links shows as a missing number at the
next one. Log entry 110 (DEDUCED). -/
def fireRecord (a b : LinkRx) (s : State) : State :=
  match s.nk.links with
  | [] => s
  | sent :: rest =>
    let s := { s with nk.links := rest }
    let x := linkCopy a sent
    let y := linkCopy b sent
    let c := freeVal 2 s
    let used := match x, y with
      | some p, some q => some (if p = q ∨ c.1 = 0 then p else q)
      | some p, none => some p
      | none, q => q
    let s := if x = y then s else c.2
    match used with
    | none => s
    | some r =>
      let bad := x != y || (match s.nk.lastSeq with | some q => r.seq != q + 1 | none => false)
      let s := { s with nk.lastSeq := some r.seq }
      takeRecord r (if bad && nkChecks s then raiseFree 3 255 255 s else s)

/-- E_m of Q counts (R274): Q × ρ_s × g_k to the nearest pJ, Q = num / den; ρ is Q16.16, the trim in units of 2^-30. -/
def energyOf (s : State) (st : List Host.Cell) (i k : Nat) (num : Int) (den : Nat) : Int :=
  rnd (num * (sRho st i : Int) * ((tget (2 ^ 30) s.nk.gain k : Nat) : Int)) (den * 2 ^ 46)

/-- Q of a gate as a fraction (R274): Σ (sample − baseline), the baseline being the mean of the samples in `base` (R273). -/
def gateSum (gate base : List Nat) : Int × Nat :=
  ((base.length * sumN gate : Nat) - (gate.length * sumN base : Nat), base.length)

/-- The energy check of a measured pulse (R276, R278): its energy is accounted first, so that an overexposure fault acts before a degraded
one that arises with it (R288). -/
def judgePulse (st : List Host.Cell) (k : Nat) (g : Gate) (em : Int) (s : State) : State :=
  let fl : Int := sf st 52 4
  let high := decide (6 * (g.ex : Int) < 5 * em) && decide (fl < em - g.ex)
  let low := decide (5 * em < 4 * (g.ex : Int)) && decide (fl < g.ex - em)
  let x := { pmon s k with anom := (pmon s k).anom || high || low }
  if x.active then
    let s := setPmon s k { x with clean := if high || low then 0 else x.clean + 1, lowHad := x.lowHad || low }
    pmonTry k (account12 st g.str g.em g.stamp g.ex s)
  else
    let s := setPmon s k { x with lowRun := if low && !high then x.lowRun + 1 else 0 }
    let s := accountPulse st g.str g.em g.stamp (max em.toNat g.ex) s
    if high then raiseFault 1 g.str g.em em.toNat s
    else if low then
      let s := nkWrap s.nk.lows 1 2 { s with nk.lows := s.nk.lows.add 1 }
      if 4 ≤ x.lowRun + 1 then pmonRaise k s else s
    else s

/-- What a segment of a channel carries is known, held or spilled (R280): the energy of the gate it overlaps, or, with no gate, that there is
none. Known segments are handed to the stream. -/
def segKnown (k : Nat) (gate : Option Nat) (e : Nat) (s : State) : State :=
  let f := fun (y : Seg) => if y.chan = k ∧ y.gate = gate ∧ y.known = false then { y with e := e, known := true } else y
  formSegs { s with nk.segs := s.nk.segs.map f, mem.spill := s.mem.spill.map f, dma.spills := s.dma.spills.map f }

/-- A gate's energy is ready (R274): the channel's oldest gate, once it has ended. `gate` holds its samples, `outside` the samples outside
gates since the gate before, which the baseline takes first (R273); with no such sample yet the baseline is open.
Log entry 111 (DESIGN CHOICE). -/
def integrationDone (k : Nat) (gate outside : List Nat) (s : State) : State :=
  let x := { pmon s k with base := (outside.reverse ++ (pmon s k).base).take 256 }
  match x.gates, governing s with
  | g :: rest, some st =>
    if 3 < k ∨ (s.dev < g.stop ∧ s.desk.st ≠ 7) ∨ gate.length * 32 ≠ g.stop - g.stamp then s
    else
      let f := freeVal 1024 s
      let q := if x.base = [] then gateSum gate [f.1] else gateSum gate x.base
      let s := if x.base = [] then f.2 else s
      let em := energyOf s st g.str k q.1 q.2
      let mine := match x.last with | some l => l.stamp == g.stamp | none => false
      let s := segKnown k (some g.stamp) em.toNat (setPmon s k { x with gates := rest, lastE := if mine then some em.toNat else x.lastE })
      irqOpen (197 + k) (judgePulse st k g em s)
  | g :: rest, none => segKnown k (some g.stamp) 0 (setPmon s k { x with gates := rest })
  | [], _ => if 3 < k then s else setPmon s k x

/-- Whether a device instant lies inside a gate of a channel. -/
def inGate (x : Pmon) (t : Nat) : Bool :=
  (x.gates ++ x.last.toList).any (fun g => decide (g.stamp ≤ t) && decide (t < g.stop))

/-- Energy outside every gate of a channel (R277), in the sum view over 16 ns; it is an anomaly (R279). The specification gives no
responsivity to turn the sum view's samples into energy: the energy is the command's. Log entry 111 (DESIGN CHOICE). -/
def strayPulse (k energy : Nat) (s : State) : State :=
  match governing s with
  | none => s
  | some st =>
    if 3 < k ∨ nkChecks s = false ∨ inGate (pmon s k) s.dev ∨ energy ≤ sf st 52 4 then s
    else raiseFault 2 255 255 energy (setPmon s k { pmon s k with anom := true })

/-! ### Segments (R279 to R281) -/

/-- Closes a segment gap (R281): a GAP record of stage 5. -/
def closeSegGap (k trig : Nat) (s : State) : State :=
  match tget none s.nk.gaps (k * 4 + trig) with
  | none => s
  | some g => gap 5 trig k g.1 s.dev g.2 { s with nk.gaps := tput none s.nk.gaps (k * 4 + trig) none }

/-- Closes every segment gap, at the FBE (R281). -/
def closeSegGaps (s : State) : State :=
  s.nk.gaps.foldl (fun s p => closeSegGap (p.1 / 4) (p.1 % 4) s) s

/-- A segment that is lost: its gap opens or grows (R281). -/
def segLost (g : Seg) (s : State) : State :=
  let key := g.chan * 4 + g.trig
  let s := nkWrap s.nk.lost 1 4 { s with nk.lost := s.nk.lost.add 1 }
  match tget none s.nk.gaps key with
  | some o => { s with nk.gaps := tput none s.nk.gaps key (some (o.1, o.2 + 1)) }
  | none => logEv 0x0C09 (le 1 g.chan ++ le 1 g.trig) { s with nk.gaps := tput none s.nk.gaps key (some (g.time, 1)) }

/-- Stores a captured segment (R281): an anomaly may use the 32 reserved entries; from 448 held segments spill.
Log entry 24 (DEDUCED). -/
def segStore (g : Seg) (s : State) : State :=
  let main := (s.nk.segs.filter (fun y => !y.rsv)).length
  let held := s.nk.segs.length + s.dma.spills.length
  let rsv := decide (480 ≤ main + s.dma.spills.length)
  if rsv ∧ (g.trig ≠ 3 ∨ 512 ≤ held) then segLost g s
  else
    let s := closeSegGap g.chan g.trig s
    let spills := decide (448 ≤ held) && par0 s pSpillEnable == 1
      && decide ((s.mem.spill.length + s.dma.spills.length + 1) * segBytes ≤ s.mem.spillMB * 2 ^ 20)
    if spills then spillSeg g s
    else formSegs { s with nk.segs := s.nk.segs ++ [{ g with rsv := rsv }] }

/-- The channel's latest gate that overlaps a span of ticks. -/
def gateOver (x : Pmon) (a b : Nat) : Option Gate :=
  ((x.gates ++ x.last.toList).filter (fun g => decide (g.stamp < b) && decide (a < g.stop))).getLast?

/-- Whether some sample lies below the edge trigger's re-arm level (R279). -/
def fellBelow (s : State) (k : Nat) (l : List Nat) : Bool := l.any (fun v => decide (v + par s pNkEdgeHyst k < par s pNkEdgeLevel k))

/-- Whether sample `p` of a segment rises through the edge level, `before` being the samples before it (R279). -/
def risesThrough (s : State) (k : Nat) (before samples : List Nat) (p : Nat) : Bool :=
  let lev := par s pNkEdgeLevel k
  decide (lev ≤ samples.getD p 0) && (match (before ++ samples.take p).getLast? with | some v => decide (v < lev) | none => true)

/-- Whether a trigger is enabled and its condition holds (R279): the edge, the n-th shot of a selected string, an anomaly. -/
def trigOk (s : State) (k : Nat) (x : Pmon) (trig : Nat) (before samples : List Nat) : Bool :=
  let p := par0 s pNkPretrigger
  decide (1 ≤ trig) && decide (trig ≤ 3) && (par0 s pNkCaptureEnable).testBit (trig - 1) &&
    (if trig = 1 then (x.edgeOn || fellBelow s k (before ++ samples.take p)) && risesThrough s k before samples p
     else if trig = 2 then (match x.shot with
       | some (i, n) => (par0 s pNkStringCapture).testBit i && n % max 1 (par s pNkSelectN i) == 0
       | none => false)
     else x.anom)

/-- What a trigger that fires uses up (R279): the edge re-arms below its level, a shot and an anomaly trigger once. -/
def trigUsed (s : State) (k trig : Nat) (before samples : List Nat) (x : Pmon) : Pmon :=
  let p := par0 s pNkPretrigger
  { x with
    edgeOn := if trig = 1 then fellBelow s k (samples.drop (p + 1)) else x.edgeOn || fellBelow s k (before ++ samples)
    shot := if trig = 2 then none else x.shot, anom := x.anom && trig != 3 }

/-- A capture trigger fires (R279, R280); `samples` are the segment's 64 codes, sample NK.PRETRIGGER being the trigger sample of now,
`before` the channel's samples between the segment before and this one. Log entry 111 (DESIGN CHOICE). -/
def segTrigger (k trig : Nat) (before samples : List Nat) (s : State) : State :=
  if 3 < k ∨ samples.length ≠ 64 ∨ trigOk s k (pmon s k) trig before samples = false then s
  else
    let x := trigUsed s k trig before samples (pmon s k)
    if x.busy.isSome then nkWrap x.misses 1 3 (setPmon s k { x with misses := x.misses.add 1 })
    else
      let t0 := s.dev - par0 s pNkPretrigger * 32
      let g := gateOver x t0 (t0 + 64 * 32)
      let e := match g, x.last, x.lastE with
        | some g, some l, some e => if g.stamp = l.stamp then some e else none
        | _, _, _ => none
      let seg : Seg :=
        { time := t0, chan := k, str := (g.map (·.str)).getD 255, em := (g.map (·.em)).getD 255, trig := trig
          e := e.getD 0, gate := g.map (·.stamp), samples := samples, known := e.isSome }
      segStore seg
        (setPmon s k { x with busy := some (t0 + 63 * 32) })

/-- A capture channel re-arms after its segment's last sample (R279): a segment with no gate by then overlaps none (R280). -/
def segRearm (k : Nat) (s : State) : State :=
  let x := pmon s k
  match x.busy with
  | some e => if 3 < k ∨ s.dev < e then s else segKnown k none 0 (setPmon s k { x with busy := none })
  | none => s

/-! ### Baselines (R276, R278) -/

/-- A baseline, here its code, outside its window for 1 ms (R276, R548); on a channel at fault the 100 ms within the window begin again
(R278). -/
def baselineFault (k code : Nat) (s : State) : State :=
  if 3 < k ∨ baseIn code = true then s
  else if (pmon s k).active then setPmon s k { pmon s k with baseOk := false, at_ := s.wall }
  else pmonRaise k s

/-- A baseline, here its code, within its window for 100 ms after the raising (R278, R548). -/
def baselineOk (k code : Nat) (s : State) : State :=
  let x := pmon s k
  if 3 < k ∨ baseIn code = false ∨ x.active = false ∨ s.wall < x.at_ + 100 * tMs then s else pmonTry k (setPmon s k { x with baseOk := true })

def execFireRecord (t : Nat) (a b : LinkRx) (s : State) : Host.Outcome State Fault Refusal := .next (fireRecord a b (advance t s))
def execIntegrationDone (t k : Nat) (samples : List Nat × List Nat) (s : State) : Host.Outcome State Fault Refusal :=
  .next (integrationDone k samples.1 samples.2 (advance t s))
def execStrayPulse (t k e : Nat) (s : State) : Host.Outcome State Fault Refusal := .next (strayPulse k e (advance t s))
def execSegmentTrigger (t k trig : Nat) (samples : List Nat × List Nat) (s : State) : Host.Outcome State Fault Refusal :=
  .next (segTrigger k trig samples.1 samples.2 (advance t s))
def execSegmentRearm (t k : Nat) (s : State) : Host.Outcome State Fault Refusal := .next (segRearm k (advance t s))
def execPmonBaselineFault (t : Nat) (p : Nat × Nat) (s : State) : Host.Outcome State Fault Refusal :=
  .next (baselineFault p.1 p.2 (advance t s))
def execPmonChannelClear (t : Nat) (p : Nat × Nat) (s : State) : Host.Outcome State Fault Refusal :=
  .next (baselineOk p.1 p.2 (advance t s))

end Sys2Proof.Machine
end

