-- ==== Sys2Proof/Machine/NkEvents.lean ====
section
/-! DEFINITION. Machine/NkEvents.lean: Nerrak's scan, clock, switch, contactor and permission events (R266 to R272, R286 to
R291, R402). -/

namespace Sys2Proof.Machine

/-- The 100 µs comparison of N against T (R269, R287): nominally 10,000 N cycles, ±5 %. -/
def clockCheck (n : Nat) (s : State) : State :=
  let bad := decide (n < 9500) || decide (10500 < n)
  let s := { s with nk.clockBad := bad }
  if bad && nkChecks s then raiseFree 9 255 255 s else s

/-- T absent for 10 µs while permission is held (R287). -/
def tAbsent (s : State) : State :=
  if s.pins.lsrA then raiseFree 9 255 255 { s with nk.clockBad := true } else s

/-- The head switch changes past its filter (R287). Log entry 50 (DEDUCED). -/
def headSwitch (high : Bool) (s : State) : State :=
  let s := { s with pins.headSw := high }
  if headClosed s then nkUpdate s else raiseFree 7 255 255 s

/-- HV_FB changes level (R270, R271, R287). -/
def hvFbChange (closed : Bool) (s : State) : State :=
  if closed = s.pins.hvFb then s
  else
    let s := { s with pins.hvFb := closed, nk.hvAt := s.wall }
    nkUpdate (if closed then clearFault 19 s else s)

/-- HV_FB closed for 20 ms under a full cut (R287, R402). -/
def contactorStuck (s : State) : State :=
  if nkChecks s && s.pins.hvFb && s.pins.hvCut && s.pins.peerCut
      && decide (max s.nk.hvAt (max s.nk.cutAt s.nk.peerAt) + 20 * tMs ≤ s.wall) then raiseFree 10 255 255 s
  else s

/-- HV_FB open for 20 ms while HV_CUT_N is deasserted (R287). -/
def hvFbOpen (s : State) : State :=
  if nkChecks s && !s.pins.hvFb && !s.pins.hvCut && decide (max s.nk.hvAt s.nk.uncutAt + 20 * tMs ≤ s.wall) then raiseFree 19 255 255 s else s

/-- NK_PEER_CUT_N changes (R402): low is asserted. -/
def peerCutChange (high : Bool) (s : State) : State :=
  if s.pins.peerCut = !high then s else { s with pins.peerCut := !high, nk.peerAt := s.wall }

/-- HV_CUT_N is asserted 2.5 µs after LSR_EN fell and the cut became due (R289 step 6). -/
def hvCutAssert (s : State) : State :=
  if s.nk.cutDue && decide (max s.nk.lsrFell s.nk.cutFrom + 5 * tUs / 2 ≤ s.wall) then
    nkUpdate { s with pins.hvCut := true, nk.cutAt := s.wall, nk.cutDue := false }
  else s

/-- Every permission condition holds and the enables rise (R271). Log entry 31 (DESIGN CHOICE). -/
def permissionGrant (s : State) : State :=
  if permOk s && !s.pins.lsrA then { s with pins.lsrA := true, pins.lsrB := true, nk.disagree := 0 } else s

/-- Whether a pad reads another level than its command (R287): pin 0 LSR_EN_A, 1 LSR_EN_B, 2 HV_CUT_N. -/
def padDiffers (s : State) (pin : Nat) : Bool :=
  match tget none s.nk.pads pin with
  | some v => v != (if pin = 0 then s.pins.lsrA else if pin = 1 then s.pins.lsrB else !s.pins.hvCut)
  | none => false

/-- What a pad reads back for 1 µs (R287): held at a level, or following its command again; ENABLE_READBACK when it differs.
Log entry 32 (DEDUCED). -/
def enableReadback (pin : Nat) (pad : Option Bool) (s : State) : State :=
  if 2 < pin then s
  else
    let s := { s with nk.pads := tput none s.nk.pads pin pad }
    if nkChecks s && padDiffers s pin then raiseFree 8 255 255 s else s

/-- The start self-test ends (R268): `item` is 0 or the failing one of items 1 to 4, `codes` are the baselines of the PMON channels, whose
check is item 5. A pad held against its command then is seen at once by the checks that follow (R269). -/
def nkSelftest (item : Nat) (codes : List Nat) (s : State) : State :=
  if s.nk.testing = false ∨ s.pins.porstN = false ∨ 4 < item then s
  else
    let item := if item = 0 ∧ (List.range 4).any (fun k => !baseIn (codes.getD k 64)) = true then 5 else item
    let s := logEv 0x0C05 (le 1 item) { s with
      nk.testing := false, nk.passed := decide (item = 0), nk.gain := match s.nv.otpCal with | some f => f.pmon | none => [] }
    if item ≠ 0 then raiseFree 11 255 255 s
    else if (List.range 3).any (padDiffers s) then raiseFree 8 255 255 s else nkUpdate s

/-- Elapsed ticks the degraded clock has run (R291). Log entry 28 (DESIGN CHOICE). -/
def degTicks (s : State) : Nat :=
  s.nk.degAcc + (match s.nk.degOn with | some w => s.wall - w | none => 0)

/-- The degraded clock expires (R291): 5,820,000,000 N cycles, by the fastest oscillator at the earliest. Log entry 28 (DESIGN CHOICE). -/
def degradedExpire (s : State) : State :=
  if s.nk.degOn.isSome && decide (5820000000 * 1280 * 100 ≤ degTicks s * 103) then
    stNow 6 3 (logEv 0x0C03 (le 4 (dFaults s).toNat) s)
  else s

/-- Sixty seconds of RUN free of D faults return the degraded clock to zero (R291). -/
def degradedClear (s : State) : State :=
  match s.nk.cleanAt with
  | some w => if w + 60 * tSec ≤ s.wall ∧ s.desk.st = 4 then { s with nk.degAcc := 0 } else s
  | none => s

def execStallWindowEnd (t : Nat) (s : State) : Host.Outcome State Fault Refusal := .next (stallWindow (advance t s))
def execClockCheck (t n : Nat) (s : State) : Host.Outcome State Fault Refusal := .next (clockCheck n (advance t s))
def execLedgerScrub (t : Nat) (bad : List Nat) (s : State) : Host.Outcome State Fault Refusal := .next (ledgerScrub bad (advance t s))
def execSubBinBoundary (t w : Nat) (s : State) : Host.Outcome State Fault Refusal := .next (subBinBoundary w (advance t s))
def execHeadSwitch (t : Nat) (high : Bool) (s : State) : Host.Outcome State Fault Refusal := .next (headSwitch high (advance t s))
def execHvFbChange (t : Nat) (closed : Bool) (s : State) : Host.Outcome State Fault Refusal := .next (hvFbChange closed (advance t s))
def execContactorStuck (t : Nat) (s : State) : Host.Outcome State Fault Refusal := .next (contactorStuck (advance t s))
def execHvFbOpen (t : Nat) (s : State) : Host.Outcome State Fault Refusal := .next (hvFbOpen (advance t s))
def execEnableReadback (t : Nat) (pad : Nat × Option Bool) (s : State) : Host.Outcome State Fault Refusal :=
  .next (enableReadback pad.1 pad.2 (advance t s))
def execHvCutNAssert (t : Nat) (s : State) : Host.Outcome State Fault Refusal := .next (hvCutAssert (advance t s))
def execPermissionGrant (t : Nat) (s : State) : Host.Outcome State Fault Refusal := .next (permissionGrant (advance t s))
def execNkDegradedClock (t : Nat) (s : State) : Host.Outcome State Fault Refusal := .next (degradedExpire (advance t s))
def execDegradedClockClear (t : Nat) (s : State) : Host.Outcome State Fault Refusal := .next (degradedClear (advance t s))
def execVddNkWindowChange (t mv : Nat) (s : State) : Host.Outcome State Fault Refusal := .next (vddNkChange mv (advance t s))
def execTAbsent (t : Nat) (s : State) : Host.Outcome State Fault Refusal := .next (tAbsent (advance t s))
def execNkPeerCutNChange (t : Nat) (high : Bool) (s : State) : Host.Outcome State Fault Refusal := .next (peerCutChange high (advance t s))
def execNkSelftest (t : Nat) (item : Nat × List Nat) (s : State) : Host.Outcome State Fault Refusal :=
  .next (nkSelftest item.1 item.2 (advance t s))

end Sys2Proof.Machine
end

