-- ==== Sys2Proof/Machine/NkCommands.lean ====
section
/-! DEFINITION. Machine/NkCommands.lean: commissioning (R298 to R302), NK_STATUS_READ, NK_LEDGER_READ, NK_FAULT_CLEAR (R303). -/

namespace Sys2Proof.Machine

/-- Whether a valid image is in force or sealed (R181). -/
def itinReady (s : State) : Bool :=
  s.par.inForce.itinHas || (match s.par.timely with | some x => x.img.itinHas | none => false)
    || (match s.par.late with | some x => x.img.itinHas | none => false)

/-- Sets each deck's stacking allowance for the next frame (R18, R134): its share of 80 bytes a nanosecond over `p` ticks.
Log entry 64 (DEDUCED). -/
def setAllow (p : Nat) (s : State) : State :=
  let w := sumN ((List.range 8).map (fun d => (talDeck s d).weight))
  (List.range 8).foldl (fun s d => let x := talDeck s d; setTalDeck s d { x with allow := x.weight * 80 * p / (tNs * max 1 w) }) s

/-- 0x0323 TALLY.STACK_NOMINAL_FRAME in ticks. -/
def nominalFrame (s : State) : Nat := par0 s pTallyStackNominalFrame * tUs

/-- Emission starts at an accepted run or commissioning command (R182): line 0's start angle and elevation are given, the first
frame's stacking allowance is nominal (R134). -/
def startEmission (s : State) : State :=
  setAllow (nominalFrame s) <| handElev 0 (giveAngle (lineAngle s.par.inForce.itin 0) { s with sch.nextLine := 0, sch.linesRun := 0, sch.line := none, sch.fresh := true, sch.rehand := false })

/-- COMMISSIONING ends (R38, R556): at the next FBE, at once while no frame runs. Log entry 51 (DEDUCED). -/
def exitCommissioning (s : State) : State :=
  if s.sch.running then { s with desk.pendExit := true } else stNow 2 1 s

/-- NK_COMMISSION (R298, R299, R181); action 1 is refused while the factory sequence runs (R314). Log entries 51 (DEDUCED), 61 (DEDUCED). -/
def commissionBody (_op : Nat) (r : Req) (s : State) : CmdOut :=
  let a := fld r.payload 0 1
  if (a = 1 ∧ (s.desk.st ≠ 2 ∨ itinReady s = false ∨ s.cal.factory.isSome = true)) ∨ (a = 2 ∧ s.desk.st ≠ 3) then .done rNotPermitted [] s
  else if a = 0 ∨ 2 < a ∨ allZero (r.payload.drop 1) = false then .done rBadParam [] s
  else if a = 1 then
    let c := s.nk.conf.getD []
    .done rOK [] (startEmission (rejudge (setSt 3 1 { s with nk.cand := c, nk.candOk := (setInvalid c).isNone, nk.nonce := none })))
  else .done rOK [] (exitCommissioning s)

/-- NK_SET_WRITE (R294, R298): fills the candidate and voids the nonce. Log entry 51 (DEDUCED). -/
def setWriteBody (_op : Nat) (r : Req) (s : State) : CmdOut :=
  let o := fld r.payload 0 2
  let n := fld r.payload 2 2
  if s.desk.st ≠ 3 then .done rNotPermitted [] s
  else if 1984 < o + n ∨ n = 0 ∨ 240 < n then .done rBadParam [] s
  else if s.nk.wrHeld then .done rSafetyLocked [] s
  else
    let c := cputs 0 s.nk.cand o (r.payload.drop 4)
    .done rOK [] (rejudge { s with nk.cand := c, nk.candOk := (setInvalid c).isNone, nk.nonce := none })

/-- NK_CONFIRM's response payload (R302). -/
def confirmBytes (nonce setId bad : Nat) (cnt : List Byte) : List Byte := le 4 nonce ++ le 4 setId ++ le 2 bad ++ le 2 0 ++ cnt

/-- NK_CONFIRM (R294, R298, R302). Fields R302 leaves open in a response are free (log entry 1). -/
def confirmBody (_op : Nat) (r : Req) (s : State) : CmdOut :=
  let step := fld r.payload 0 1
  let sid := sf s.nk.cand 4 4
  let bad := (setInvalid s.nk.cand).getD 0xFFFF
  let f := freeBytes 4 s
  if s.desk.st ≠ 3 then .done rNotPermitted [] s
  else if step = 0 ∨ 2 < step ∨ allZero ((r.payload.drop 1).take 3) = false ∨ (step = 1 ∧ allZero (r.payload.drop 4) = false) then
    refuse rBadParam [if step = 2 then .zero 4 else .free 4, .lit (le 4 sid ++ le 2 bad), .zero 2, .free 4] s
  else if step = 1 then
    match setInvalid s.nk.cand with
    | some o => let n := freeVal (2 ^ 32) f.2; .done rBadParam (confirmBytes n.1 sid o f.1) n.2
    | none =>
      let n := freeVal (2 ^ 32) f.2
      .done rOK (confirmBytes n.1 sid 0xFFFF f.1) { n.2 with nk.nonce := some (n.1, s.wall) }
  else
    let good := match s.nk.nonce with
      | some (n, t) => decide (n = fld r.payload 4 4) && decide (s.wall ≤ t + 10 * tSec)
      | none => false
    if good = false then .done rBadParam (confirmBytes 0 sid bad f.1) f.2
    else if s.nk.wrHeld then .done rSafetyLocked [] s
    else if setCheck s.nk.cand ≠ fld r.payload 8 4 then
      .done rCheckMismatch (confirmBytes 0 sid bad f.1) { f.2 with nk.nonce := none }
    else .pending { s with nk.nonce := none, nk.confirm := some (r.mb, r.tag, s.wall) }

/-- A copy of the commissioning set in flash with its record (R465). -/
def setCopy (s : State) (k : Nat) : List Host.Cell × Option SetRec := if k = 0 then (s.nv.set, s.nv.setRec) else (s.nv.set1, s.nv.setRec1)

/-- Why a copy confirms no set, 0 when it does (R297, R300): firmware checks the record's signature, its serial number and its check value
against the set beside it, Nerrak the CRC of the bytes it receives and their validity. -/
def setReasonOf (s : State) (k : Nat) : Nat :=
  let c := setCopy s k
  match c.2 with
  | none => 1
  | some r =>
    if recordSigned r = false then 2
    else if r.serial ≠ s.nv.serial then 3
    else if setCheck c.1 ≠ r.check then 4
    else if (setInvalid c.1).isSome then 5 else 0

/-- Confirmations counted in a copy's record. -/
def setCount (s : State) (k : Nat) : Nat := match (setCopy s k).2 with | some r => r.count | none => 0

/-- The copy that governs (R465): the valid one with the higher count; where neither is valid, the one that holds a record.
Log entry 139 (DEDUCED). -/
def setGov (s : State) : Nat :=
  if setReasonOf s 0 = 0 ∧ setReasonOf s 1 = 0 then (if setCount s 0 < setCount s 1 then 1 else 0)
  else if setReasonOf s 0 = 0 then 0
  else if setReasonOf s 1 = 0 then 1
  else if s.nv.setRec.isSome then 0 else b2n s.nv.setRec1.isSome

/-- Writes a set and its record into the copy that does not govern: the earlier record stays until this one is verified (R298, R465).
Log entry 139 (DEDUCED). -/
def setStore (c : List Host.Cell) (r : SetRec) (s : State) : State :=
  if setGov s = 0 ∧ setReasonOf s 0 = 0 then { s with nv.set1 := c, nv.setRec1 := some r } else { s with nv.set := c, nv.setRec := some r }

/-- The confirmation record is verified (R298, R302): the candidate becomes the confirmed set and COMMISSIONING ends. While Nerrak blocks
flash programs (R294) the record cannot be written: the command fails with SAFETY_LOCKED and the earlier record stays.
Log entries 20 (DESIGN CHOICE), 112 (DEDUCED). -/
def setConfirmed (s : State) : State :=
  match s.nk.confirm with
  | none => s
  | some (k, tag, t0) =>
    if t0 + 2 * tSec < s.wall then s
    else if s.nk.wrHeld then
      let s := mbDone k 0x0C12 rSafetyLocked tag [] { s with nk.confirm := none }
      if s.desk.st = 3 then s else { s with nk.cand := [], nk.candOk := false }
    else
      let c := s.nk.cand
      let n := max (setCount s 0) (setCount s 1) + 1
      let sig := signRecord (recordBytes (setCheck c) (sf c 4 4) s.nv.serial n) s.nv.signs
      let rc : SetRec := { check := setCheck c, setId := sf c 4 4, serial := s.nv.serial, count := n, sig := sig }
      let s := setStore c rc s
      let s := { s with nv.signs := s.nv.signs + 1, nk.conf := some c, nk.confirm := none, desk.confirmed := true }
      let s := logEv 0x0C06 (le 4 rc.setId ++ le 4 rc.check ++ le 4 n) s
      let s := mbDone k 0x0C12 rOK tag (confirmBytes 0 rc.setId 0xFFFF (le 4 n)) s
      if s.desk.st = 3 then exitCommissioning s else rejudge { s with nk.cand := [], nk.candOk := false }

/-- The write is not verified within 2 s (R302): the earlier record stays. -/
def confirmTimeout (s : State) : State :=
  match s.nk.confirm with
  | none => s
  | some (k, tag, t0) =>
    if s.wall < t0 + 2 * tSec then s
    else
      let f := freeBytes 4 s
      let s := { f.2 with nk.confirm := none }
      let s := mbDone k 0x0C12 rTimeout tag (confirmBytes 0 (sf s.nk.cand 4 4) 0xFFFF f.1) s
      if s.desk.st = 3 then s else { s with nk.cand := [], nk.candOk := false }

/-- NK_STATUS_READ (R287, R301). The degraded clock's milliseconds follow Nerrak's oscillator, ±3 % (R266). -/
def nkStatusBody (_op : Nat) (_r : Req) (s : State) : CmdOut :=
  let lo := degTicks s * 97 / (100 * tMs)
  let hi := degTicks s * 103 / (100 * tMs)
  let v := freeVal (hi - lo + 1) s
  let pins := b2n s.pins.lsrA + 2 * b2n s.pins.lsrB + 4 * b2n (!s.pins.hvCut) + 8 * b2n s.pins.hvFb + 16 * b2n (headClosed s)
    + 32 * b2n s.pins.lsrA + 64 * b2n s.nk.passed + 256 * s.sch.chgEn
  let locks := b2n s.nk.chgHeld + 2 * b2n s.nk.wrHeld + 4 * b2n s.nk.cap + 8 * b2n (s.desk.st == 3 && s.nk.candOk)
  let c := s.nk.conf
  let miss := sumN ((List.range 4).map (fun k => (pmon s k).misses.val.toNat)) % 2 ^ 32
  .done rOK (le 2 pins ++ le 2 locks ++ le 4 s.nk.faults.toNat ++ le 4 (lo + v.1)
    ++ le 4 (match c with | some st => sf st 4 4 | none => 0) ++ le 4 (match c with | some st => setCheck st | none => 0)
    ++ le 2 s.nk.segs.length ++ le 2 0 ++ le 4 s.nk.unmeas.val.toNat ++ le 4 s.nk.lows.val.toNat ++ le 4 miss
    ++ le 4 s.nk.lost.val.toNat) v.2

/-- NK_LEDGER_READ (R285); among equal highest fills the cell shown is open. Log entry 33 (DESIGN CHOICE). -/
def nkLedgerBody (_op : Nat) (r : Req) (s : State) : CmdOut :=
  let i := fld r.payload 0 1
  let w := fld r.payload 1 1
  if 15 < i ∨ 2 < w ∨ fld r.payload 2 2 ≠ 0 then refuse rBadParam [.lit (le 1 i ++ le 1 w), .below 1 8, .below 1 32, .free 44] s
  else match governing s with
    | none => let f := freeBytes 46 s; .done rOK (le 1 i ++ le 1 w ++ f.1) f.2
    | some st =>
      let cells := (s.nk.ledger.filter (fun p => p.1 / 256 == i)).map (fun p => (p.1, fillOf s st w p.1))
      let mx := maxL (cells.map (·.2))
      let tops := if mx = 0 then (List.range 256).map (fun c => 256 * i + c) else (cells.filter (fun p => p.2 == mx)).map (·.1)
      let v := freeVal (max 1 tops.length) s
      let top := if tops.length ≤ 1 then tops.headD (256 * i) else tops.getD v.1 (256 * i)
      .done rOK (le 1 i ++ le 1 w ++ le 1 (top / 32 % 8) ++ le 1 (top % 32) ++ le 4 (min (2 ^ 32 - 1) (account s st w top))
        ++ (List.range 8).flatMap (fun e => le 1 (maxL ((cells.filter (fun p => p.1 / 32 % 8 == e)).map (·.2))))
        ++ (List.range 32).flatMap (fun n => le 1 (maxL ((cells.filter (fun p => p.1 % 32 == n)).map (·.2))))) v.2

/-- Whether an O fault's raising condition is absent (R287, R303). Log entry 32 (DEDUCED). -/
def faultAbsent (s : State) (b : Nat) : Bool :=
  if b = 0 then (match governing s with | some st => !s.nk.ledger.any (fun p => headroomFails s st p.1) | none => true)
  else if b = 5 then (match governing s with | some st => markOk s st && decide (sf st 36 4 ≤ s.nk.stallAdv) | none => true)
  else if b = 6 then decide (s.nk.disagree < 2)
  else if b = 7 then headClosed s
  else if b = 8 then (List.range 3).all (fun p => !padDiffers s p)
  else if b = 9 then !s.nk.clockBad
  else decide (b < 10)

/-- NK_FAULT_CLEAR (R303). Log entry 32 (DEDUCED). -/
def faultClearBody (_op : Nat) (_r : Req) (s : State) : CmdOut :=
  if s.desk.st ≠ 2 ∧ s.desk.st ≠ 6 then .done rNotPermitted [] s
  else
    let s := ((List.range 12).filter (faultAbsent s)).foldl (fun s b => clearFault b s) s
    .done rOK (le 4 (oFaults s).toNat) s

def execNkCommission (t : Nat) (r : Req) (s : State) : Host.Outcome State Fault Refusal :=
  .next (command { op := 0x0C10, mbLo := 4, mbHi := 4 } (lenEq 4) commissionBody t r s)
def execNkSetWrite (t : Nat) (r : Req) (s : State) : Host.Outcome State Fault Refusal :=
  .next (command { op := 0x0C11, mbLo := 4, mbHi := 4 } (fun p => decide (4 ≤ p.length) && p.length == 4 + fld p 2 2) setWriteBody t r s)
def execNkConfirm (t : Nat) (r : Req) (s : State) : Host.Outcome State Fault Refusal :=
  .next (command { op := 0x0C12, mbLo := 4, mbHi := 4 } (lenEq 12) confirmBody t r s)
def execNkSetConfirmed (t : Nat) (s : State) : Host.Outcome State Fault Refusal := .next (live t setConfirmed s)
def execConfirmWriteTimeout (t : Nat) (s : State) : Host.Outcome State Fault Refusal := .next (live t confirmTimeout s)
def execNkStatusRead (t : Nat) (r : Req) (s : State) : Host.Outcome State Fault Refusal :=
  .next (command { op := 0x0C13 } (lenEq 0) nkStatusBody t r s)
def execNkLedgerRead (t : Nat) (r : Req) (s : State) : Host.Outcome State Fault Refusal :=
  .next (command { op := 0x0C14 } (lenEq 4) nkLedgerBody t r s)
def execNkFaultClear (t : Nat) (r : Req) (s : State) : Host.Outcome State Fault Refusal :=
  .next (command { op := 0x0C15, mbLo := 4, mbHi := 4 } (lenEq 0) faultClearBody t r s)

end Sys2Proof.Machine
end

