-- ==== Sys2Proof/Machine/Dma.lean ====
section
/-! DEFINITION. Machine/Dma.lean: external memory (R491 to R493), the DMA engines (R481 to R490), ECC (R492), the logbook
(R498 to R502) and the fabric commands (R504 to R507). -/

namespace Sys2Proof.Machine

/-! ### Memory (R491 to R493) -/

/-- First byte of each region, and the end of memory (R493). -/
def memFreeze : Nat := 256 * miB
def memExch : Nat := 320 * miB
def memSpill : Nat := 336 * miB
def memStack (s : State) : Nat := memSpill + s.mem.spillMB * miB
def memLog (s : State) : Nat := memStack s + s.mem.stackMB * miB
def memEnd (s : State) : Nat := s.mem.usable * miB

/-- Whether bytes lie in memory. -/
def memHas (s : State) (a n : Nat) : Bool := decide (a + n ≤ memEnd s)

/-- Reads bytes of external memory. -/
def memGet (s : State) (a n : Nat) : List Byte := cgets 0 s.mem.bytes a n

/-- Writes bytes of external memory; a block written whole is no longer bad. -/
def memPut (a : Nat) (l : List Byte) (s : State) : State :=
  { s with
    mem.bytes := cputs 0 s.mem.bytes a l
    mem.bad := s.mem.bad.filter (fun b => !(decide (a ≤ b) && decide (b + 64 ≤ a + l.length))) }

/-- Whether a span holds an uncorrectable block. -/
def memBad (s : State) (a n : Nat) : Bool := s.mem.bad.any (fun b => decide (b < a + n) && decide (a < b + 64))

/-! ### ECC (R492) -/

/-- The region of an address, in the order of event 0x0E02. -/
def memRegion (s : State) (a : Nat) : Nat :=
  if a < memFreeze then 0 else if a < memExch then 1 else if a < memSpill then 2 else if a < memStack s then 3
  else if a < memLog s then 4 else 5

/-- Corrected blocks (R492): counted, MEM_ECC_CORRECTED at most once per second; the channel whose source pends is open.
Log entries 14 (DESIGN CHOICE), 67 (DESIGN CHOICE). -/
def eccCorrected (n : Nat) (s : State) : State :=
  if n = 0 then s
  else
    let v := freeVal 8 { s with mem.corr := s.mem.corr + n, mem.corrN := s.mem.corrN + n }
    let s := irq (281 + v.1) v.2
    if (match s.mem.corrAt with | some t => decide (t + tSec ≤ s.dev) | none => true) then
      logEv 0x0E01 (le 4 (min (2 ^ 32 - 1) s.mem.corrN)) { s with mem.corrN := 0, mem.corrAt := some s.dev }
    else s

/-- Removes the element at an index. Log entry 67 (DESIGN CHOICE). -/
def dropAt {α : Type} (l : List α) (i : Nat) : List α := l.take i ++ l.drop (i + 1)

/-- An uncorrectable block acts by its region (R492). Which entry of a store lies in the block is open. Log entry 67 (DESIGN CHOICE). -/
def eccBad (a : Nat) (s : State) : State :=
  let b := a / 64 * 64
  let n := s.mem.uncorr
  let s := wrapEv n 1 0x0E0A (le 1 1) { s with mem.uncorrAt := some s.dev, mem.uncorr := n.add 1 }
  let g := memRegion s b
  let v := freeVal 8 s
  let s := irq (281 + v.1) v.2
  let s := logEv 0x0E02 (le 1 g ++ le 8 b) s
  if g = 4 then
    (if s.tal.stack = [] then s
     else
      let v := freeVal s.tal.stack.length s
      match s.tal.stack[v.1]? with
      | none => v.2
      | some e =>
        let d := e.chan / 128
        let x := talDeck v.2 d
        wrapEv x.restarts 1 0x0306 (le 1 d ++ le 1 5)
          (setTalDeck { v.2 with tal.stack := dropAt s.tal.stack v.1 } d { x with restarts := x.restarts.add 1 }))
  else if g = 3 then
    (if s.mem.spill = [] then s
     else
      let v := freeVal s.mem.spill.length s
      nkWrap s.nk.lost 1 4 { v.2 with mem.spill := dropAt s.mem.spill v.1, nk.lost := s.nk.lost.add 1 })
  else if g = 5 then
    (if s.lgb.blocks = [] then s
     else
      let v := freeVal s.lgb.blocks.length s
      { v.2 with lgb.blocks := s.lgb.blocks.modify v.1 (fun k => { k with flags := k.flags ||| 1 }) })
  else { s with mem.bad := b :: s.mem.bad.filter (· != b) }

/-! ### The logbook (R498 to R502) -/

/-- Content kind of a logbook channel: 1 class 1, 2 class 2, 3 events; 0 for another channel. -/
def logKind (n : Nat) : Nat := if n < 8 then 1 else if n = 8 then 2 else if n = 9 then 3 else 0

/-- Bytes used in a block after its header. -/
def Block.used (b : Block) : Nat := sumN (b.recs.map (fun p => p.2.length))

def Block.first (b : Block) : Nat := match b.recs.head? with | some p => p.1 | none => 0
def Block.last (b : Block) : Nat := match b.recs.getLast? with | some p => p.1 | none => 0

/-- Discards blocks older than LOG.SPAN, then the oldest beyond the region (R499). Log entry 65 (DEDUCED). -/
def logTrim (s : State) : State :=
  let newest := maxL (s.lgb.blocks.map Block.last)
  let l := s.lgb.blocks.filter (fun b => decide (newest ≤ b.last + par0 s pLogSpan * 2000000))
  { s with lgb.blocks := l.drop (l.length - s.mem.logMB * 16) }

/-- A new block of a kind; its class W sequence keeps a wrap flag, and chapter 15 gives the wrap no event (R8, R498). -/
def logNew (kind : Nat) (r : Nat × List Byte) (s : State) : State :=
  logTrim { s with
    lgb.blocks := s.lgb.blocks ++ [{ kind := kind, flags := 0, seq := s.lgb.seq.val.toNat, recs := [r] }]
    lgb.seq := s.lgb.seq.add 1 }

/-- Appends a record of coarse time `at_` to the newest block of its kind, or to a new one (R498). Log entry 65 (DEDUCED). -/
def logAdd (kind at_ : Nat) (bytes : List Byte) (s : State) : State :=
  let r := (at_, bytes)
  let bs := s.lgb.blocks
  let last := bs.reverse.find? (fun b => b.kind == kind)
  match last with
  | some b =>
    if b.used + bytes.length ≤ 65504 then
      logTrim { s with lgb.blocks := bs.map (fun x => if x.seq = b.seq then { x with recs := x.recs ++ [r] } else x) }
    else logNew kind r s
  | none => logNew kind r s

/-- The 65,536 bytes of a block (R498); a bad one reads as PAD records (R492). Log entry 65 (DEDUCED). -/
def blockBytes (b : Block) : List Byte :=
  if b.flags % 2 = 1 then (List.range 2048).flatMap (fun _ => le 1 0x7F ++ le 1 0 ++ le 2 32 ++ zeros 28)
  else
    let d := b.recs.flatMap (·.2)
    le 4 0x4C4F4742 ++ le 1 b.kind ++ le 1 b.flags ++ le 2 b.recs.length ++ le 4 d.length ++ le 4 b.seq ++ le 8 b.first ++ le 8 b.last
      ++ d ++ zeros (65504 - d.length)

/-- Oldest and newest times held (R499). -/
def logOldest (s : State) : Nat := (s.lgb.blocks.map Block.first).foldl min ((s.lgb.blocks.map Block.first).headD 0)
def logNewest (s : State) : Nat := maxL (s.lgb.blocks.map Block.last)

/-- Writes the freeze capture into its region (R501). -/
def freezeCapture (withEvents : Bool) (s : State) : State :=
  let ev := if withEvents then s.desk.events else []
  let h := le 2 1 ++ le 1 s.lgb.kind ++ le 1 0 ++ le 4 s.lgb.trigEv ++ le 8 s.lgb.trigAt ++ le 8 (logNewest s) ++ le 8 (logOldest s)
    ++ le 4 s.lgb.trigSt.toNat ++ le 4 s.lgb.trigNk.toNat ++ le 4 ev.length
  let e := ev.flatMap evBytes
  memPut memFreeze (h ++ le 4 (crc32 (h ++ e)) ++ e) s

/-- Post-trigger recording ends: the logbook freezes (R500). -/
def logFrozen (s : State) : State :=
  if s.lgb.st ≠ 1 ∨ s.dev < s.lgb.stopAt then s
  else
    let n := s.lgb.blocks.length
    let s := { s with lgb.st := 2, lgb.blocks := s.lgb.blocks.modify (n - 1) (fun b => { b with flags := b.flags ||| 2 }) }
    logEv 0x0E07 (le 1 s.lgb.kind ++ le 8 s.lgb.trigAt ++ le 4 ((logNewest s - logOldest s) / 2000000)) (freezeCapture true s)

/-! ### Stream queues (R482, R487, R488) -/

/-- The request after a change of the queue (R487): a whole record in it is a record end queued. A channel that drains memory asks while its
sink has room by the same watermarks. Log entry 140 (DESIGN CHOICE). -/
def DmaS.pace (x : DmaS) : DmaS :=
  if x.fromMem then
    { x with request := if x.sink ≤ x.startWm * 256 then true else if x.stopWm * 256 ≤ x.sink then false else x.request }
  else { x with request := if x.startWm * 256 ≤ x.fill ∨ x.queue ≠ [] then true else if x.fill < 64 then false else x.request }

/-- Takes `k` bytes off the front of a queue of records: the bytes, the rest, whether a record end was taken last. -/
def takeBytes : Nat → List (List Byte) → List Byte × List (List Byte) × Bool
  | _, [] => ([], [], true)
  | k, r :: q =>
    if k = 0 then ([], r :: q, true)
    else if k < r.length then (r.take k, r.drop k :: q, false)
    else let t := takeBytes (k - r.length) q; (r ++ t.1, t.2.1, t.2.2)

/-! ### Descriptors (R482 to R484, R489) -/

/-- Address of the descriptor at HEAD. -/
def headAddr (x : DmaS) : Nat := x.ring + 32 * x.head

/-- Entries of a ring. -/
def ringSize (x : DmaS) : Nat := 2 ^ (min 9 x.size + 3)

/-- The reason a stream descriptor is invalid, 0 when it is not (R489). -/
def streamBad (s : State) (a len : Nat) : Nat :=
  if len < 64 ∨ 1048576 < len ∨ len % 8 ≠ 0 then 2 else if memHas s a len = false ∨ a < memFreeze then 1 else 0

/-- The reason a control descriptor is invalid. -/
def ctlBad (s : State) (src dst len : Nat) (fill : Bool) : Nat :=
  if len = 0 ∨ 16777216 < len then 2 else if memHas s dst len = false ∨ (!fill && !memHas s src len) then 1 else 0

/-- The engine's error input: high while a channel of it is halted (R472, R489). Log entry 14 (DESIGN CHOICE). -/
def dmaErrLine (e : Nat) (s : State) : State :=
  irqLevel (277 + e) ((List.range 8).any (fun i => (dmaS s (e + 4 * i)).halted) || (List.range 2).any (fun i => (dmaC s (e + 4 * i)).halted)) s

/-- Halts a channel (R489): the reason into its descriptor's status, HALTED, DMA_ERROR. -/
def dmaHalt (e chan desc reason addr : Nat) (s : State) : State :=
  let s := if memHas s desc 32 then memPut (desc + if chan < 32 then 14 else 30) (le 2 reason) s else s
  let s := if chan < 32 then setDmaS s chan { dmaS s chan with halted := true }
    else setDmaC s (chan - 32) { dmaC s (chan - 32) with halted := true }
  let s := setDmaE s e { dmaE s e with chan := none, moved := 0, burst := 0, flushed := false }
  dmaErrLine e (logEv 0x0E05 (le 1 (b2n (decide (32 ≤ chan))) ++ le 1 (if chan < 32 then chan else chan - 32) ++ le 1 reason ++ le 8 addr) s)

/-- Whether a stream channel asks its engine for service: a descriptor it may take lies at HEAD (R482). -/
def streamAsks (s : State) (n : Nat) : Bool :=
  let x := dmaS s n
  x.enable && !x.halted && x.request
    && (!memHas s (headAddr x) 32 || (unle (memGet s (headAddr x + 12) 2)).testBit 0)

/-- The next of an engine's `m` channels of one kind that satisfies a test, round-robin after `last`. -/
def nextRound (e m last : Nat) (p : Nat → Bool) : Option Nat :=
  ((List.range m).map (fun i => e + 4 * ((last + 1 + i) % m))).find? p

/-- Reserves the next burst of the channel in service (R487): at most to the end of the first record queued, where the descriptor asks to end
at one. Log entry 82 (DEDUCED). -/
def dmaReserve (e : Nat) (s : State) : State :=
  let g := dmaE s e
  match g.chan with
  | none => s
  | some c =>
    if c < 32 then
      let len := unle (memGet s (g.desc + 8) 4)
      let x := dmaS s c
      let room := if x.fromMem then 65536 - x.sink
        else if (unle (memGet s (g.desc + 12) 2)).testBit 2 then (x.queue.headD []).length else x.fill
      setDmaE s e { g with burst := min 2048 (min (len - g.moved) room) }
    else setDmaE s e { g with burst := min 2048 (unle (memGet s (g.desc + 24) 4) - g.moved) }

/-- An idle engine picks its next channel (R484); an invalid descriptor halts its channel and the next is tried. -/
def dmaPick : Nat → Nat → State → State
  | 0, _, s => s
  | fuel + 1, e, s =>
    let g := dmaE s e
    if g.chan.isSome then s
    else
      match nextRound e 8 g.rrS (streamAsks s) with
      | some n =>
        let d := headAddr (dmaS s n)
        let a := unle (memGet s d 8)
        let r := if memHas s d 32 then streamBad s a (unle (memGet s (d + 8) 4)) else 1
        let s := setDmaE s e { g with rrS := n / 4 }
        if r ≠ 0 then dmaPick fuel e (dmaHalt e n d r (if memHas s d 32 then a else d) s)
        else dmaReserve e (setDmaE s e { dmaE s e with chan := some n, desc := d, moved := 0, flushed := false })
      | none =>
        match nextRound e 2 g.rrC (fun n => (dmaC s n).busy && !(dmaC s n).halted) with
        | none => s
        | some n =>
          let d := (dmaC s n).cur
          let src := unle (memGet s d 8)
          let dst := unle (memGet s (d + 8) 8)
          let fill := (unle (memGet s (d + 28) 2)).testBit 2
          let r := if memHas s d 32 then ctlBad s src dst (unle (memGet s (d + 24) 4)) fill else 1
          let s := setDmaE s e { g with rrC := n / 4 }
          if r ≠ 0 then
            dmaPick fuel e (dmaHalt e (32 + n) d r
              (if memHas s d 32 = false then d else if memHas s dst (unle (memGet s (d + 24) 4)) = false then dst else src) s)
          else dmaReserve e (setDmaE s e { dmaE s e with chan := some (32 + n), desc := d, moved := 0 })

/-- Completes a stream descriptor (R482): written back with OWN = 0, HEAD advances unless ENABLE 0 returned it to 0 meanwhile (R490), the
interrupt when asked for. -/
def streamDone (e n : Nat) (withdrawn recEnd : Bool) (s : State) : State :=
  let g := dmaE s e
  let x := dmaS s n
  let fl := unle (memGet s (g.desc + 12) 2)
  let fl' := (fl &&& 0xFFF2) + 4 * b2n recEnd + 8 * b2n withdrawn
  let s := memPut (g.desc + 12) (le 2 fl' ++ le 2 0 ++ le 8 (coarse s) ++ le 4 g.moved ++ le 4 0) s
  let s := setDmaS s n { x with head := if g.flushed then x.head else (x.head + 1) % ringSize x }
  let s := setDmaE s e { g with chan := none, moved := 0, burst := 0, flushed := false }
  if fl.testBit 1 then irq (237 + n) s else s

/-- The records of a channel that have been moved whole reach the logbook, unless it is frozen (R498, R500). Log entry 65 (DEDUCED). -/
def logMoved (n : Nat) (l : List (Nat × List Byte)) (s : State) : State :=
  if logKind n = 0 ∨ s.lgb.st = 2 then s
  else (l.filter (fun r => !r.2.isEmpty)).foldl (fun s r => logAdd (logKind n) r.1 r.2 s) s

/-- What a burst's end means for its descriptor (R487): complete when the buffer is full, at a record end asked for, or when the request has
been withdrawn; else the next burst. -/
def burstNext (e n moved len : Nat) (atEnd : Bool) (s : State) : State :=
  let want := (unle (memGet s ((dmaE s e).desc + 12) 2)).testBit 2
  if len ≤ moved then streamDone e n false atEnd s
  else if want && atEnd then streamDone e n false true s
  else if (dmaE s e).flushed || !(dmaS s n).request then streamDone e n true atEnd s
  else dmaReserve e s

/-- The end of a burst that fills memory from a stream channel's queue (R481, R487). -/
def queueBurst (e n : Nat) (s : State) : State :=
  let g := dmaE s e
  let x := dmaS s n
  let len := unle (memGet s (g.desc + 8) 4)
  let t := takeBytes g.burst x.queue
  let gone := x.queue.length - t.2.1.length
  let s := logMoved n (x.recs.take gone) (memPut (unle (memGet s g.desc 8) + g.moved) t.1 s)
  let s := setDmaS s n ({ x with queue := t.2.1, recs := x.recs.drop gone }).pace
  let s := dmaUnshed n (setDmaE s e { g with moved := g.moved + t.1.length, burst := 0 })
  burstNext e n (g.moved + t.1.length) len (t.2.2 && decide (t.1 ≠ [])) s

/-- The end of a burst that drains memory into a stream channel's sink queue (R481, R487). -/
def sinkBurst (e n : Nat) (s : State) : State :=
  let g := dmaE s e
  let x := dmaS s n
  let len := unle (memGet s (g.desc + 8) 4)
  let s := setDmaS s n ({ x with sink := x.sink + g.burst }).pace
  burstNext e n (g.moved + g.burst) len (decide (len ≤ g.moved + g.burst)) (setDmaE s e { g with moved := g.moved + g.burst, burst := 0 })

/-- The end of a burst of a stream channel (R487). -/
def streamBurst (e n : Nat) (s : State) : State := if (dmaS s n).fromMem then sinkBurst e n s else queueBurst e n s

/-- The size of the next access of a side at an address with `n` bytes to go (R485): the largest aligned power of two that fits, 32 at most. -/
def accessSize (a n : Nat) : Nat := ([32, 16, 8, 4, 2].find? (fun k => a % k == 0 && decide (k ≤ n))).getD 1

/-- The accesses, as (address, bytes), in which a side moves `n` bytes from `a` on (R485): the head up to the first 32-byte boundary, the
body of whole 32-byte accesses, the tail in descending size. -/
def funnel : Nat → Nat → Nat → List (Nat × Nat)
  | 0, _, _ => []
  | fuel + 1, a, n => if n = 0 then [] else (a, accessSize a n) :: funnel fuel (a + accessSize a n) (n - accessSize a n)

/-- How far into a control descriptor's source and destination the burst reserved lies (R486): upward, or downward when the destination
lies inside the source above it. -/
def ctlOff (s : State) (e : Nat) : Nat :=
  let g := dmaE s e
  let src := unle (memGet s g.desc 8)
  let dst := unle (memGet s (g.desc + 8) 8)
  let len := unle (memGet s (g.desc + 24) 4)
  let fill := (unle (memGet s (g.desc + 28) 2)).testBit 2
  if src < dst ∧ dst < src + len ∧ fill = false then len - g.moved - g.burst else g.moved

/-- The first address of the data a burst may find uncorrectable (R489, R492): of its source, of a stream descriptor's buffer; none for a fill,
which reads no data. -/
def burstAddr (s : State) (e c : Nat) : Option Nat :=
  let g := dmaE s e
  if c < 32 then some (unle (memGet s g.desc 8) + g.moved)
  else if (unle (memGet s (g.desc + 28) 2)).testBit 2 then none
  else some (unle (memGet s g.desc 8) + ctlOff s e)

/-- The end of a burst of a control channel (R483, R486). -/
def ctlBurst (e n : Nat) (s : State) : State :=
  let g := dmaE s e
  let src := unle (memGet s g.desc 8)
  let dst := unle (memGet s (g.desc + 8) 8)
  let len := unle (memGet s (g.desc + 24) 4)
  let fl := unle (memGet s (g.desc + 28) 2)
  let off := ctlOff s e
  let data := if fl.testBit 2 then (List.range g.burst).map (fun i => (le 8 src).getD ((off + i) % 8) 0) else memGet s (src + off) g.burst
  let s := memPut (dst + off) data s
  let moved := g.moved + g.burst
  let s := setDmaE s e { g with moved := moved, burst := 0 }
  if moved < len then dmaReserve e s
  else
    let nx := unle (memGet s (g.desc + 16) 8)
    let s := memPut (g.desc + 30) (le 2 0) s
    let last := fl.testBit 1
    let s := setDmaC s n { dmaC s n with busy := !last, cur := if last then 0 else nx }
    let s := setDmaE s e { dmaE s e with chan := none, moved := 0 }
    if fl.testBit 0 then irq (269 + n) s else s

/-- DMA_BURST_END (R487): `bad` says that the burst's data were uncorrectable (R489). -/
def dmaBurstEnd (e corrected : Nat) (bad : Bool) (s : State) : State :=
  if 3 < e then s
  else
    match (dmaE s e).chan with
    | none => dmaPick 64 e s
    | some c =>
      let g := dmaE s e
      let s := eccCorrected corrected s
      let s := match (if bad then burstAddr s e c else none) with
        | some a => dmaHalt e c g.desc 3 a (eccBad a s)
        | none => if c < 32 then streamBurst e c s else ctlBurst e (c - 32) s
      spillServe (dmaPick 64 e s)

/-- GO starts a control chain; ignored while BUSY (R490). -/
def dmaGo (n : Nat) (s : State) : State :=
  let x := dmaC s n
  if 7 < n ∨ x.busy then s else dmaPick 64 (n % 4) (setDmaC s n { x with busy := true, cur := x.first })

/-- A write of 1 to HALTED: the channel resumes at its next descriptor (R489). -/
def haltedClear (stream : Bool) (n : Nat) (s : State) : State :=
  if stream then
    let x := dmaS s n
    if 31 < n ∨ x.halted = false then s
    else dmaPick 64 (n % 4) (dmaErrLine (n % 4) (setDmaS s n { x with halted := false, head := (x.head + 1) % ringSize x }))
  else
    let x := dmaC s n
    if 7 < n ∨ x.halted = false then s
    else
      let last := (unle (memGet s (x.cur + 28) 2)).testBit 1
      let nx := unle (memGet s (x.cur + 16) 8)
      dmaPick 64 (n % 4) (dmaErrLine (n % 4) (setDmaC s n { x with halted := false, busy := !last, cur := if last then 0 else nx }))

/-- The oldest record on its way to a channel of the logbook, taken off (R455, R481, R498): formed records, event entries on channel 9.
Log entry 120 (DEDUCED). -/
def logNext (n : Nat) (s : State) : Option (List Byte × State) :=
  if n = 9 then
    match s.desk.logDue with
    | [] => none
    | b :: q => some (b, { s with desk.logDue := q })
  else
    match s.str.logDue.find? (fun p => p.1 == n) with
    | none => none
    | some p => some (p.2, { s with str.logDue := s.str.logDue.erase p })

/-- A record reaches a stream queue (R488, R500): it is queued, or shed under the watermarks; a frozen logbook and content that LOG.CONTENT
leaves out discard it. -/
def dmaArrive (n : Nat) (bytes : List Byte) (s : State) : State :=
  let x := dmaS s n
  let k := logKind n
  if k ≠ 0 ∧ (s.lgb.st = 2 ∨ (par0 s pLogContent).testBit (k - 1) = false) then s
  else if dmaSheds s n bytes.length then (if n = 14 ∨ n = 15 then s else dmaShed n s)
  else
    dmaPick 64 (n % 4) (setDmaS s n ({ x with queue := x.queue ++ [bytes], recs := x.recs ++ [(coarse s, bytes)] }).pace)

/-- The sink of a channel that drains memory takes bytes off its queue. Log entry 140 (DESIGN CHOICE). -/
def sinkTakes (n k : Nat) (s : State) : State :=
  let x := dmaS s n
  dmaPick 64 (n % 4) (setDmaS s n ({ x with sink := x.sink - k }).pace)

/-- DMA_RECORD (R481, R488): on a channel of the logbook the oldest record on its way there arrives, on another the given bytes; the sink of
a channel that drains memory takes as many. Log entries 120 (DEDUCED), 140 (DESIGN CHOICE). -/
def dmaRecord (n : Nat) (bytes : List Byte) (s : State) : State :=
  if 31 < n then s
  else if n = 16 ∨ n = 17 ∨ (dmaS s n).fromMem = true then sinkTakes n bytes.length s
  else if logKind n = 0 then dmaArrive n bytes s
  else match logNext n s with
    | some r => dmaArrive n r.1 r.2
    | none => s

/-! ### Commands (R504 to R506) -/

/-- Bytes a target 3 or 4 transfer reads. -/
def xferSource (s : State) (target off len : Nat) : List Byte :=
  if target = 3 then ((s.lgb.blocks.flatMap blockBytes).drop off).take len else memGet s (memFreeze + off) len

/-- Bytes the region of a target holds. Log entry 66 (DEDUCED). -/
def xferRoom (s : State) (target : Nat) : Nat :=
  if target ≤ 1 then 131072 else if target = 2 then 24 * miB else if target = 3 then 65536 * s.lgb.blocks.length else 64 * miB

/-- Whether a window access in progress overlaps a range of the exchange region (R504). -/
def winOverlaps (s : State) (o n : Nat) : Bool :=
  s.dma.wins.any (fun w => decide (fld w.frame.payload 8 4 < o + n) && decide (o < fld w.frame.payload 8 4 + fld w.frame.payload 2 2))

/-- DMA_XFER (R504): to the itinerary under R179, R201 and R206; to the slot not running under R468 and R294, reported later.
A refused transfer has moved no byte; one that ends logs DMA_XFER_DONE (R507). Log entry 66 (DEDUCED). -/
def dmaXferBody (_op : Nat) (r : Req) (s : State) : CmdOut :=
  let tg := fld r.payload 0 1
  let eo := fld r.payload 4 4
  let o := fld r.payload 8 8
  let n := fld r.payload 16 4
  let ans := fun (b : List Byte) => le 4 b.length ++ le 4 (crc32 b)
  let ends := fun (res : Nat) (b : List Byte) (s : State) => CmdOut.done res (ans b) (logEv 0x0E06 (le 1 tg ++ le 2 res ++ le 4 b.length) s)
  if tg = 0 ∧ par0 s pPlanMode = 0 then .done rNotPermitted [] s
  else if 4 < tg ∨ allZero ((r.payload.drop 1).take 3) = false ∨ eo % 8 ≠ 0 then .done rBadParam (ans []) s
  else if 16 * miB < eo + n ∨ xferRoom s tg < o + n ∨ n < 8 ∨ n % 8 ≠ 0 then .done rRange (ans []) s
  else if s.dma.xfer.isSome ∨ (tg = 0 ∧ s.dev < s.sch.copyBack) ∨ (s.desk.erase.isSome ∧ tg = 2) ∨ winOverlaps s eo n = true then .done rBUSY [] s
  else if tg = 2 then
    (if s.nk.wrHeld then .done rSafetyLocked [] s
     else .pending { s with dma.xfer := some { mb := r.mb, tag := r.tag, target := tg, exch := eo, off := o, len := n } })
  else if tg ≤ 1 then
    (if memBad s (memExch + eo) n then ends rCheckMismatch [] s
     else
      let b := memGet s (memExch + eo) n
      if tg = 0 then ends rOK b { s with par.shadow.itin := cputs 0 s.par.shadow.itin o b, par.shadow.itinHas := true }
      else ends rOK b { s with sch.base := cputs 0 s.sch.base o b, sch.baseArmed := false, sch.planFrom := none })
  else if tg = 4 ∧ memBad s (memFreeze + o) n then ends rCheckMismatch [] s
  else let b := xferSource s tg o n; ends rOK b (memPut (memExch + eo) b s)

/-- Writes into the firmware slot that is not running. Log entry 68 (DEDUCED). -/
def slotPut (o : Nat) (l : List Byte) (s : State) : State :=
  if s.desk.slot = 0 then { s with nv.slotB := cputs 0xFF#8 s.nv.slotB o l } else { s with nv.slotA := cputs 0xFF#8 s.nv.slotA o l }

/-- The transfer to the firmware slot ends (R504); a write Nerrak blocks meanwhile fails (R294). -/
def dmaXferDone (s : State) : State :=
  match s.dma.xfer with
  | none => s
  | some x =>
    let s0 := { s with dma.xfer := none }
    let fin := fun (res : Nat) (b : List Byte) (s : State) =>
      mbDone x.mb 0x0E10 res x.tag (le 4 b.length ++ le 4 (crc32 b)) (logEv 0x0E06 (le 1 x.target ++ le 2 res ++ le 4 b.length) s)
    if s.nk.wrHeld then fin rSafetyLocked [] s0
    else if memBad s (memExch + x.exch) x.len then fin rCheckMismatch [] s0
    else let b := memGet s (memExch + x.exch) x.len; fin rOK b (slotPut x.off b s0)

/-- LOG_CONTROL's answer with a result (R505); the times of an empty logbook are open. Log entry 65 (DEDUCED). -/
def logAnswer (result : Nat) (s : State) : CmdOut :=
  let f := freeBytes 16 s
  let times := if s.lgb.blocks = [] then f.1 else le 8 (logOldest s) ++ le 8 (logNewest s)
  .done result (le 1 s.lgb.st ++ le 1 s.lgb.kind ++ le 2 (b2n s.lgb.ignored.wrap) ++ times ++ le 8 s.lgb.trigAt
    ++ le 4 (s.lgb.blocks.length / 16) ++ le 4 s.lgb.ignored.val.toNat) (if s.lgb.blocks = [] then f.2 else s)

/-- LOG_CONTROL (R500, R502, R505). -/
def logControlBody (_op : Nat) (r : Req) (s : State) : CmdOut :=
  let a := fld r.payload 0 1
  if 2 < a ∨ allZero (r.payload.drop 1) = false then logAnswer rBadParam s
  else
    logAnswer rOK (if a = 1 then incident 1 s
      else if a = 2 ∧ s.lgb.st = 2 then
        logEv 0x0E08 [] { s with lgb.st := 0, lgb.kind := 0, lgb.trigAt := 0, lgb.blocks := [] }
      else s)

/-- MEM_STATUS_READ (R506). -/
def memStatusBody (_op : Nat) (r : Req) (s : State) : CmdOut :=
  let c := fld r.payload 0 1
  let m := s.mem
  let p := le 4 m.usable ++ le 2 m.rate ++ le 2 (b2n m.uncorr.wrap + 2 * b2n s.dma.shedC.wrap + 4 * b2n m.kept) ++ le 8 m.corr
    ++ le 4 m.uncorr.val.toNat ++ le 4 s.dma.shedC.val.toNat ++ le 4 m.logMB ++ le 4 m.stackMB ++ le 4 m.spillMB
  if clearOk c = false ∨ allZero (r.payload.drop 1) = false then .done rBadParam p s
  else
    .done rOK p { s with
      mem.corr := if c.testBit 0 then 0 else m.corr, mem.uncorr := m.uncorr.clear (c.testBit 0) (c.testBit 1)
      dma.shedC := s.dma.shedC.clear (c.testBit 0) (c.testBit 1) }

/-! ### Rows -/

def execDmaXfer (t : Nat) (r : Req) (s : State) : Host.Outcome State Fault Refusal :=
  .next (command { op := 0x0E10 } (lenEq 20) dmaXferBody t r s)
def execLogControl (t : Nat) (r : Req) (s : State) : Host.Outcome State Fault Refusal :=
  .next (command { op := 0x0E11 } (lenEq 4) logControlBody t r s)
def execMemStatusRead (t : Nat) (r : Req) (s : State) : Host.Outcome State Fault Refusal :=
  .next (command { op := 0x0E12 } (lenEq 4) memStatusBody t r s)
def execDmaGo (t n : Nat) (s : State) : Host.Outcome State Fault Refusal := .next (live t (dmaGo n) s)
def execHaltedClear (t : Nat) (stream : Bool) (n : Nat) (s : State) : Host.Outcome State Fault Refusal :=
  .next (live t (haltedClear stream n) s)
def execDmaRecord (t n : Nat) (bytes : List Byte) (s : State) : Host.Outcome State Fault Refusal :=
  .next (live t (dmaRecord n bytes) s)
def execLogFrozen (t : Nat) (s : State) : Host.Outcome State Fault Refusal := .next (live t logFrozen s)

end Sys2Proof.Machine
end

