-- ==== Sys2Proof/Machine/RealNum.lean ====
section
/-! DEFINITION. Machine/RealNum.lean: exponential, logarithm and code roundings on exact integers, in fixed point with 96
fraction bits where a real value is needed (log entry 9). -/

namespace Sys2Proof.Machine

/-- One in the fixed-point format. -/
abbrev fxOne : Nat := 2 ^ 96

/-- Terms of Σ (−x)^i / i! from term `i` with value `a`, signs alternating: (positive sum, negative sum). -/
def expTerms (x : Nat) : Nat → Nat → Nat → Nat → Nat → Nat × Nat
  | 0, _, _, p, n => (p, n)
  | k + 1, i, a, p, n =>
    let a' := a * x / fxOne / i
    if i % 2 = 1 then expTerms x k (i + 1) a' p (n + a') else expTerms x k (i + 1) a' (p + a') n

/-- Squares a fixed-point number `k` times. -/
def fxSquare : Nat → Nat → Nat
  | 0, v => v
  | k + 1, v => fxSquare k (v * v / fxOne)

/-- e^(−num/den) in fixed point, for an exponent below 1,024. Log entry 9 (DESIGN CHOICE). -/
def expNeg (num den : Nat) : Nat :=
  let x := num * fxOne / den / 2 ^ 11
  let r := expTerms x 30 1 fxOne fxOne 0
  fxSquare 11 (r.1 - r.2)

/-- Terms of atanh z = Σ z^(2i+1) / (2i+1). -/
def atanhTerms (z2 : Nat) : Nat → Nat → Nat → Nat → Nat
  | 0, _, _, acc => acc
  | k + 1, i, a, acc => atanhTerms z2 k (i + 1) (a * z2 / fxOne) (acc + a / (2 * i + 1))

/-- ln of m/d for d ≤ m < 2d, as 2 atanh((m − d)/(m + d)). -/
def lnUnit (m d : Nat) : Nat :=
  let z := (m - d) * fxOne / (m + d)
  2 * atanhTerms (z * z / fxOne) 48 0 z 0

/-- ln 2 in fixed point. -/
def ln2 : Nat :=
  let z := fxOne / 3
  2 * atanhTerms (z * z / fxOne) 48 0 z 0

/-- ln(num/den) in fixed point, for num ≥ den > 0. Log entry 9 (DESIGN CHOICE). -/
def lnRat (num den : Nat) : Nat :=
  let e := Nat.log2 (num / den)
  e * ln2 + lnUnit num (den * 2 ^ e)

/-- ppass of R94 in fixed point: 1 − Σ_{i ≤ k−2} e^(−μ) μ^i / i!, μ = num/den; 1 for k ≤ 1.
Log entries 9 (DESIGN CHOICE), 43 (DESIGN CHOICE). -/
def ppass (k num den : Nat) : Nat :=
  if k ≤ 1 then fxOne
  else
    let mu := num * fxOne / den
    let e := expNeg num den
    let p1 := e * mu / fxOne
    let p2 := p1 * mu / fxOne / 2
    let sum := e + (if 3 ≤ k then p1 else 0) + (if 4 ≤ k then p2 else 0)
    fxOne - sum

/-- round(12 log2(num/den)) clamped to 0 … 255: the largest n ≥ 1 with (num/den)^24 ≥ 2^(2n − 1) (R84). Log entry 9 (DESIGN CHOICE). -/
def log12 (num den : Nat) : Nat :=
  let a := num ^ 24
  let b := den ^ 24
  go a b 8 0
where
  /-- Binary search from the top bit. -/
  go (a b : Nat) : Nat → Nat → Nat
    | 0, v => v
    | k + 1, v => if 2 ^ (2 * (v + 2 ^ k) - 1) * b ≤ a then go a b k (v + 2 ^ k) else go a b k v

/-- min(255, floor(32 log2(num/den))) for num ≥ den (R163). Log entry 9 (DESIGN CHOICE). -/
def log32 (num den : Nat) : Nat :=
  let a := num ^ 32
  let b := den ^ 32
  go a b 8 0
where
  /-- Binary search from the top bit. -/
  go (a b : Nat) : Nat → Nat → Nat
    | 0, v => v
    | k + 1, v => if 2 ^ (v + 2 ^ k) * b ≤ a then go a b k (v + 2 ^ k) else go a b k v

/-- π in fixed point: floor(π × 2^96). -/
def fxPi : Nat := 248902613312231085230521944622

/-- Terms of Σ (−1)^i x^(2i+k) / (2i+k)! from term `i` with value `a` on: (positive sum, negative sum). -/
def trigTerms (x : Nat) (k : Nat) : Nat → Nat → Nat → Nat → Nat → Nat × Nat
  | 0, _, _, p, n => (p, n)
  | m + 1, i, a, p, n =>
    let a' := a * x / fxOne * x / fxOne / ((2 * i + 1 + k) * (2 * i + 2 + k))
    if i % 2 = 0 then trigTerms x k m (i + 1) a' p (n + a') else trigTerms x k m (i + 1) a' (p + a') n

/-- sin(π num / den) in fixed point for 0 ≤ num ≤ den / 2. -/
def sinQuarter (num den : Nat) : Int :=
  let x := fxPi * num / den
  let r := trigTerms x 1 24 0 x x 0
  (r.1 : Int) - r.2

/-- sin(π num / den) in fixed point. Log entry 9 (DESIGN CHOICE). -/
def sinPi (num : Int) (den : Nat) : Int :=
  let a := (num % (2 * den : Nat)).toNat
  let h := if den ≤ a then a - den else a
  let q := if den < 2 * h then den - h else h
  if den ≤ a then -sinQuarter q den else sinQuarter q den

/-- cos(π num / den) in fixed point. Log entry 9 (DESIGN CHOICE). -/
def cosPi (num : Int) (den : Nat) : Int := sinPi (2 * num + den) (2 * den)

/-- round(γ √x / 32,768) for a Q1.15 gain γ, ties up. Log entry 9 (DESIGN CHOICE). -/
def gainSqrt (g x : Nat) : Nat := (isqrt (4 * g * g * x) / 32768 + 1) / 2

/-- round(√(n) · 2^15 / d): a template's gain (R151). -/
def tmplGain (sq sum : Nat) : Nat :=
  if sum = 0 then 0 else (isqrt (4 * sq * 2 ^ 30) / sum + 1) / 2

end Sys2Proof.Machine
end

