-- ==== Sys2Proof/Machine/TimeMotion.lean ====
section
/-! DEFINITION. Machine/TimeMotion.lean: the time service (R363, R364) and the motion service (R365, R366, R371). -/

namespace Sys2Proof.Machine

/-! ### Time service -/

/-- Logs TIME_SYNC (R364). Log entry 53 (PRESUMED). -/
def timeSync (s : State) : State := logEv 0x0805 (le 1 s.tim.st ++ le 8 s.tim.gm) s

/-- Enters a time state; each change is logged (R364). -/
def timeState (n : Nat) (s : State) : State := if s.tim.st = n then s else timeSync { s with tim.st := n }

/-- The mapping continues from now at ρ = 0 and the service is free-running (R364). -/
def timeFree (s : State) : State :=
  timeState 0 { s with tim.mapP := (gptpAt s s.dev).toNat, tim.mapD := s.dev, tim.rho := 0, tim.lastRx := none }

/-- Holdover keeps ρ (R364). -/
def timeHoldover (s : State) : State :=
  if s.tim.st = 1 then timeState 2 { s with tim.holdAt := s.dev } else s

/-- ρ from two corrected Syncs, its rounding open (log entry 1); s32 (R354). -/
def rhoOf (d0 p0 d1 : Nat) (p1 : Int) (s : State) : Int × State :=
  let dt := (d1 - d0) * 512
  if dt = 0 then (s.tim.rho, s)
  else let r := freeRound ((p1 - p0 - dt) * 2 ^ 41) dt s; (clamp (-2147483648) 2147483647 r.1, r.2)

/-- A Sync that can be corrected with a valid peer delay (R363, R364). The mapping lies within 20 ns of the time received;
where in that span is open. Log entry 53 (PRESUMED). -/
def timeCorrect (rx originNs : Nat) (corr : Int) (s : State) : State :=
  match s.tim.delay with
  | none => s
  | some d =>
    let p : Int := (originNs : Int) * 65536 + corr + d
    let r := match s.tim.lastRx with
      | some (d0, p0) => rhoOf d0 p0 rx p s
      | none => (s.tim.rho, s)
    let e := freeVal (40 * 65536 + 1) r.2
    timeState 1 { e.2 with
      tim.mapD := rx, tim.mapP := (p + e.1 - 20 * 65536).toNat, tim.rho := r.1, tim.lastRx := some (rx, p.toNat), tim.sync := none }

/-- A received priority vector in the standard's order of comparison (R363). -/
def annVector (a : Announce) : List Nat := [a.prio1, a.clkClass, a.accuracy, a.variance, a.prio2, a.gm, a.steps, a.src]

/-- Whether the first of two vectors is the better: the smaller at the first place where they differ. -/
def vecBetter : List Nat → List Nat → Bool
  | a :: l, b :: m => decide (a < b) || (a == b && vecBetter l m)
  | _, _ => false

/-- Ticks after which an Announce of this interval times out: three intervals, the standard's announceReceiptTimeout. Log entry 53 (PRESUMED). -/
def annTimeout (a : Announce) : Nat :=
  if 0 ≤ a.interval then 3 * tSec * 2 ^ a.interval.natAbs else 3 * tSec / 2 ^ a.interval.natAbs

/-- The best master, while its Announce messages have not timed out. -/
def masterNow (s : State) : Option Announce :=
  match s.tim.master with
  | some (a, t) => if s.dev < t + annTimeout a then some a else none
  | none => none

/-- An Announce (R363): the master's own replaces its last one, another's takes its place when better. A change of grandmaster is counted
and logged (R364). Log entry 53 (PRESUMED). -/
def timeAnnounce (a : Announce) (s : State) : State :=
  let take := match masterNow s with
    | none => true
    | some b => a.src == b.src || vecBetter (annVector a) (annVector b)
  if take = false ∨ 255 ≤ a.steps then s
  else
    let s := { s with tim.master := some (a, s.dev) }
    if a.gm = s.tim.gm then s else timeSync { s with tim.gm := a.gm, tim.changes := s.tim.changes.add 1 }

/-- Whether a Sync or Follow_Up of the domain comes from the best master (R363). Log entry 53 (PRESUMED). -/
def fromMaster (d src : Nat) (s : State) : Bool :=
  d == par0 s pTimeDomain && (match masterNow s with | some a => a.src == src | none => false)

/-- A gPTP frame (R330, R363): taken on TIME.PORT's link, of the domain, unless TIME.SOURCE is free-running. Peer delay is
half the round trip less the responder's turnaround. Log entry 53 (PRESUMED). -/
def gptpFrame (l : Nat) (m : Gptp) (s : State) : State :=
  if servicesOff s || par0 s pTimeSource == 1 || l != par0 s pTimePort || !linkUp s l then s
  else
    let s := irq 229 s
    match m with
    | .announce d a => if d = par0 s pTimeDomain then timeAnnounce a s else s
    | .sync d src sq two o corr =>
      if fromMaster d src s = false then s
      else if two then { s with tim.sync := some (src, sq, s.dev, corr) }
      else timeCorrect s.dev o corr s
    | .followUp d src sq o corr =>
      (match s.tim.sync with
        | some (from_, q, rx, c) => if fromMaster d src s && from_ == src && q == sq then timeCorrect rx o (c + corr) s else s
        | none => s)
    | .pdelayReq sq => { s with tim.answer := some (sq, s.dev, s.dev) }
    | .pdelayResp sq t2 corr =>
      (match s.tim.pdReq with
        | some (q, _) => if q = sq then { s with tim.pdResp := some (sq, t2, s.dev, corr) } else s
        | none => s)
    | .pdelayRespFollowUp sq t3 corr =>
      (match s.tim.pdReq, s.tim.pdResp with
        | some (q, t1), some (q', t2, t4, c2) =>
          if q = sq ∧ q' = sq then
            let trip : Int := (((t4 - t1) * 512 : Nat) : Int) - (((t3 : Int) - t2) * 65536 + corr - c2)
            let r := freeRound trip 2 s
            { r.2 with tim.delay := some r.1, tim.pdReq := none, tim.pdResp := none }
          else s
        | _, _ => s)
where
  /-- Services stop in RESET, BOOT and FROZEN (R37). -/
  servicesOff (s : State) : Bool := s.desk.st == 0 || s.desk.st == 1 || s.desk.st == 7

/-- The link of TIME.PORT is lost or TIME.PORT names another: peer delay, master and messages under way belong to the old link (R363, R364). -/
def timeLink (s : State) : State :=
  { s with tim.delay := none, tim.master := none, tim.sync := none, tim.pdReq := none, tim.pdResp := none, tim.lastRx := none }

/-- No Sync for syncReceiptTimeout (R364): holdover; the master has aged out. Log entry 53 (PRESUMED). -/
def syncTimeout (s : State) : State := timeHoldover { s with tim.master := none, tim.sync := none }

/-- The initiator's periodic peer-delay request (R363). Log entry 52 (DEDUCED). -/
def peerDelayRequest (s : State) : State :=
  if s.desk.st < 2 ∨ s.desk.st = 7 ∨ par0 s pTimeSource = 1 ∨ linkUp s (par0 s pTimePort) = false then s
  else { s with tim.pdReq := some (s.tim.pdSeq, s.dev), tim.pdSeq := (s.tim.pdSeq + 1) % 65536, tim.pdResp := none }

/-- Ten seconds of holdover end (R364). -/
def holdoverExpiry (s : State) : State :=
  if s.tim.st = 2 ∧ s.tim.holdAt + 10 * tSec ≤ s.dev then timeFree s else s

/-! ### Motion service -/

/-- Whether motion is integrated (R365). -/
def motionOn (s : State) : Bool := decide (1 ≤ par0 s pMotionMode)

/-- The trapezoid of one axis from device tick `ta` to `tb`, only its part after `f` (R365), as twice the value; the value at `f` inside an
interval is interpolated, its rounding open. Log entry 52 (DEDUCED). -/
def trapezoid (ta tb f : Int) (wa wb : Int) (s : State) : Int × State :=
  if tb ≤ f then (0, s)
  else if f ≤ ta then ((wa + wb) * (tb - ta), s)
  else freeRound (((wa + wb) * (tb - ta) + (wb - wa) * (f - ta)) * (tb - f)) (max 1 (tb - ta).toNat) s

/-- Adds the trapezoids of the three axes. -/
def trap3 (ta tb f : Int) : List Int → List Int → List Int → State → List Int × State
  | x :: xs, a :: as, b :: bs, s =>
    let r := trapezoid ta tb f a b s
    let q := trap3 ta tb f xs as bs r.2
    ((x + r.1) :: q.1, q.2)
  | _, _, _, s => ([], s)

/-- Brings the integrals of the frames up to a new sample (R365). -/
def motionFrames (o m : MSample) : List MotFr → State → List MotFr × State
  | [], s => ([], s)
  | g :: l, s =>
    let r := trap3 o.tick m.tick g.start g.rot o.rate m.rate s
    let t := trap3 o.tick m.tick g.start g.trans o.vel m.vel r.2
    let q := motionFrames o m l t.2
    ({ g with rot := r.1, trans := t.1 } :: q.1, q.2)

/-- The newest frame has used one more sample. -/
def motionUsed : List MotFr → List MotFr
  | [] => []
  | g :: l => { g with used := min 65535 (g.used + 1) } :: l

/-- Takes a new sample; with MOTION.MODE 1 or 2 it is integrated (R365). Log entry 52 (DEDUCED). -/
def motionSample (m : MSample) (s : State) : State :=
  let s' := if motionOn s = false then s
    else
      let r := match s.mot.newest with
        | some o => motionFrames o m s.mot.frames s
        | none => (s.mot.frames, s)
      { r.2 with mot.frames := motionUsed r.1 }
  { s' with mot.newest := some m, mot.lastAt := s.dev, mot.back := s.mot.stale || s.mot.back }

/-- The integrals start anew at a frame start (R365), those of the frame before serve its points still to come; a stale service resumes there
once samples are back. Log entry 52 (DEDUCED). -/
def motionFrameStart (s : State) : State :=
  let back := s.mot.stale && s.mot.back
  { s with
    mot.frames := { frame := s.sch.frameNo.val.toNat, start := coarse s * 64 } :: s.mot.frames.take 1
    mot.stale := s.mot.stale && !back, mot.back := s.mot.back && !back }

/-- The integrals of a scan frame. -/
def motionOf (s : State) (f : Nat) : MotFr := (s.mot.frames.find? (fun g => g.frame == f)).getD { frame := f, start := s.sch.frameStart }

/-- Twice the ticks of a second: what an integral is divided by. -/
def motUnit : Nat := 2 * tSec

/-- An axis at a device tick: the integral, and from the newest sample or the frame's start, whichever is later, its rate extrapolated. -/
def motionAt (s : State) (g : MotFr) (acc w : Int) (tick : Nat) : Int :=
  match s.mot.newest with
  | some m => acc + 2 * w * ((tick : Int) - max m.tick g.start)
  | none => acc

/-- ψ × 65,536 / Φ at a device tick of a scan frame, rounded (R366). -/
def motionShift (s : State) (f tick : Nat) : Int :=
  let g := motionOf s f
  let w := match s.mot.newest with | some m => m.rate.getD 2 0 | none => 0
  let fi := parI s pMotionField 0
  let n := motionAt s g (g.rot.getD 2 0) w tick
  rnd ((if fi < 0 then -n else n) * 65536) (max 1 (motUnit * fi.natAbs))

/-- Whether points are corrected (R366). -/
def motionCorrects (s : State) : Bool := decide (par0 s pMotionMode = 2) && !s.mot.stale && s.mot.newest.isSome

/-- The corrected azimuth code of a point of scan frame `f`, and whether it was corrected (R366). -/
def motionAz (s : State) (f a tick : Nat) : Nat × Bool :=
  if motionCorrects s && decide (a ≠ 0xFFFF) then ((clamp 0 0xFFFE ((a : Int) + motionShift s f tick)).toNat, true) else (a, false)

/-- The axes of a record in whole units, their rounding open. -/
def axes3 (g : MotFr) (tick : Nat) : List Int → List Int → State → List Byte × State
  | a :: as, w :: ws, s =>
    let r := freeRound (motionAt s g a w tick) motUnit s
    let q := axes3 g tick as ws r.2
    (leI 4 r.1 ++ q.1, q.2)
  | _, _, s => ([], s)

/-- The MOTION record of a line (R355, R365). -/
def motionRecord (line tls : Nat) (s : State) : State :=
  if motionOn s = false then s
  else
    let v := s.mot.newest.isSome && !s.mot.stale && decide (s.tim.st ≠ 0)
    let c := motionCorrects s
    let z := [0, 0, 0]
    let g := motionOf s s.sch.frameNo.val.toNat
    let sh := if c then motionShift s g.frame (tls * 64) else 0
    let r := axes3 g (tls * 64) g.rot (match s.mot.newest with | some m => m.rate | none => z) s
    let t := axes3 g (tls * 64) g.trans (match s.mot.newest with | some m => m.vel | none => z) r.2
    ownRec 0x60 2 0 (le 1 line ++ le 1 (b2n v + 2 * b2n c + 4 * b2n s.mot.stale) ++ le 2 g.used ++ le 8 tls ++ r.1 ++ t.1
      ++ leI 2 (clamp (-32768) 32767 sh) ++ zeros 6) t.2

/-- No sample for MOTION.STALE ms (R365). -/
def motionStale (s : State) : State :=
  if motionOn s = false ∨ s.mot.stale = true ∨ s.desk.st < 2 ∨ s.desk.st = 7 ∨ s.dev < s.mot.lastAt + par0 s pMotionStale * tMs then s
  else logEv 0x0808 (le 4 ((s.dev - s.mot.lastAt) / tMs)) { s with mot.stale := true, mot.back := false }

/-- A sample of a MOTION_FEED, its time converted to device time by the mapping now in force (R365). -/
def feedSample (s : State) (p : List Byte) (i : Nat) : MSample :=
  let o := 8 + 32 * i
  { time := fld p o 8, tick := devOfGptp s (fld p o 8), rate := (List.range 3).map (fun k => fldI p (o + 8 + 4 * k) 4)
    vel := (List.range 3).map (fun k => fldI p (o + 20 + 4 * k) 4) }

/-- Whether samples never go back in time from an instant. -/
def inOrder : Nat → List MSample → Bool
  | _, [] => true
  | t, m :: l => decide (t ≤ m.time) && inOrder m.time l

/-- MOTION_FEED (R371). Log entry 52 (DEDUCED). -/
def motionFeedBody (_op : Nat) (r : Req) (s : State) : CmdOut :=
  let n := fld r.payload 0 1
  let ms := (List.range n).map (feedSample s r.payload)
  let t0 := match s.mot.newest with | some m => m.time | none => 0
  if n = 0 ∨ 7 < n ∨ allZero ((r.payload.drop 1).take 7) = false ∨ s.tim.st = 0 ∨ inOrder t0 ms = false then .done rBadParam [] s
  else .done rOK [] (ms.foldl (fun s m => motionSample m s) s)

def execMotionFeed (t : Nat) (r : Req) (s : State) : Host.Outcome State Fault Refusal :=
  .next (command { op := 0x0813 } (fun p => decide (8 ≤ p.length) && p.length == 8 + 32 * fld p 0 1) motionFeedBody t r s)
def execMotionStale (t : Nat) (s : State) : Host.Outcome State Fault Refusal := .next (live t motionStale s)
def execGptpFrame (t l : Nat) (m : Gptp) (s : State) : Host.Outcome State Fault Refusal := .next (live t (gptpFrame l m) s)
def execSyncReceiptTimeout (t : Nat) (s : State) : Host.Outcome State Fault Refusal := .next (live t syncTimeout s)
def execTimeHoldoverExpiry (t : Nat) (s : State) : Host.Outcome State Fault Refusal := .next (live t holdoverExpiry s)
def execPeerDelayRequest (t : Nat) (s : State) : Host.Outcome State Fault Refusal := .next (live t peerDelayRequest s)

end Sys2Proof.Machine
end

