-- ==== Sys2Proof/Machine/TwinOps.lean ====
section
/-! DEFINITION. Machine/TwinOps.lean: passport registers and seeds (R97 to R102), the set a commit results in (R92, R554), the line
copy of twins (R411 to R413, R231) and the sequence bases and line keys of keyed frames (R414, R415), which line starts and line ends
use. -/

namespace Sys2Proof.Machine

/-! ### Passport registers (R97 to R101) -/

/-- One Galois step: the output bit and the new state (R97). -/
def lfsrStep (mask st : Nat) : Nat × Nat :=
  let out := st / 2 ^ 23 % 2
  let n := st * 2 % 2 ^ 24
  (out, if out = 1 then n ^^^ mask else n)

/-- `n` output bits, the first one most significant (R97). -/
def lfsrBits (mask : Nat) : Nat → Nat → Nat → Nat × Nat
  | 0, st, v => (v, st)
  | n + 1, st, v => let r := lfsrStep mask st; lfsrBits mask n r.2 (2 * v + r.1)

/-- Advances a register by `n` steps. -/
def lfsrRun (mask : Nat) : Nat → Nat → Nat
  | 0, st => st
  | n + 1, st => lfsrRun mask n (lfsrStep mask st).2

abbrev orderMask : Nat := 0xC20001
abbrev ditherMask : Nat := 0x000087

/-- Swaps two positions of a list. -/
def swapAt (l : List Nat) (i j : Nat) : List Nat := (l.set i (l.getD j 0)).set j (l.getD i 0)

/-- Draws a permutation (R98), from position `i` down to 1. -/
def drawPerm : Nat → List Nat → Nat → List Nat × Nat
  | 0, p, st => (p, st)
  | i + 1, p, st =>
    let r := lfsrBits orderMask 8 st 0
    drawPerm i (swapAt p (i + 1) (r.1 * (i + 2) / 256)) r.2

/-- The seed word x of R101. -/
def seedX (n fam str f : Nat) : Nat := n * 2 ^ 20 + fam * 2 ^ 16 + str * 2 ^ 12 + 2048 + f % 2048

/-- The seeds of a string and frame (R101): order, dither. -/
def seeds (n fam salt str f : Nat) : Nat × Nat :=
  (lfsrRun orderMask (64 + salt) (seedX n fam str f), lfsrRun ditherMask (64 + salt) (seedX n fam str f))

/-- Source of N and SALT: the ring while engaged with SEED_SOURCE 0, else the parameters (R102). -/
def seedSource (s : State) : Bool × Nat × Nat :=
  if par0 s pPassportSeedSource = 0 ∧ s.rng.engaged then (true, s.rng.node, s.rng.salt)
  else (false, par0 s pPassportNode, par0 s pPassportSalt)

/-! ### The set that results (R92, R554) -/

/-- Whether a host set carries the parameter of a key (R554). -/
def carries (h : Sealed) (key : Nat) : Bool :=
  if key / 65536 = pCoincWindow ∨ key / 65536 = pCoincDepth then h.coinc
  else if key / 65536 = pPassportFamily then h.family else true

/-- A service set over the set in force. -/
def applySvc (v : SvcSealed) (m : SetImg) : SetImg :=
  { m with
    vals := v.vals.foldl (fun t p => tput none t p.1 p.2) m.vals
    itin := match v.image with | some i => i | none => m.itin
    itinHas := v.image.isSome || m.itinHas }

/-- Whether a host set carries an image (R180, R201). -/
def hostImage (h : Sealed) : Bool := h.plan && h.img.itinHas

/-- A host set over the set in force: owned parameters it does not carry stay; an empty shadow image leaves the image. -/
def applyHost (h : Sealed) (m : SetImg) : SetImg :=
  { vals := (m.vals.filter (fun p => !carries h p.1)).foldl (fun t p => tput none t p.1 p.2) (h.img.vals.filter (fun p => carries h p.1))
    chmap := h.img.chmap, tmpl := h.img.tmpl, curves := h.img.curves
    itin := if hostImage h then h.img.itin else m.itin
    itinHas := hostImage h || m.itinHas, fades := 0 }

/-- The service set first, the host set after it (R554). -/
def newSet (host : Option Sealed) (svc : Option SvcSealed) (m : SetImg) : SetImg :=
  let m := match svc with | some v => applySvc v m | none => m
  match host with | some h => applyHost h m | none => m

/-! ### Line keys and sequence bases (R414) -/

/-- Advances every slot's base by the key counts of the keyed classes it carries (R414). -/
def basesAfter (s : State) (k : LineKey) (b : Tab Nat) : Tab Nat :=
  (List.range 8).foldl (fun b sl =>
    let n := sumN (([1, 3, 4].filter (fun c => slotOf s c == sl)).map (keyCount k))
    tmod 0 b sl (fun e => (e + n) % 2 ^ 32)) b

/-- The key data of a line of an image, without its start. -/
def keyOf (s : State) (frame line : Nat) (b : Tab Nat) : LineKey :=
  { frame := frame, line := line, tls := 0, p := linePeriod s.par.inForce.itin line, w := par0 s pChRangeWindow
    cells := (lineCells (pvForce s) s.par.inForce.itin line).map (fun c => (c.k, c.n)), bases := b }

/-- Whether a line's keys are still wanted: the last of them has not closed, or a keyed frame of it is open (R415). -/
def keyWanted (s : State) (k : LineKey) : Bool :=
  decide (refOf s (coarse s) < tClose s k (sumN (k.cells.map (·.1))))
    || s.str.opens.any (fun o => o.key.isSome && o.frame == k.frame && o.line == k.line)

/-- At a line start E advances for the line just run (R414) and the new line's keys are known, in reference time (R415). -/
def pushLineKey (l : LineRun) (moved : Bool) (s : State) : State :=
  let img := s.par.inForce.itin
  let last : Option LineKey :=
    if moved then some (keyOf s 0 (if l.line = 0 then imLines img - 1 else l.line - 1) []) else s.twn.lines.head?
  let b := match last with | some k => basesAfter s k s.twn.bases | none => s.twn.bases
  let k : LineKey := { keyOf s s.sch.frameNo.val.toNat l.line b with tls := refOf s l.tls }
  { s with twn.bases := b, twn.lines := k :: (s.twn.lines.take 2 ++ (s.twn.lines.drop 2).filter (keyWanted s)) }

/-! ### The line copy (R412) -/

/-- The frame number of the line run next, at a line's end (R412). -/
def nextFrameNo (s : State) : Nat := if s.sch.nextLine = 0 then (s.sch.frameNo.val.toNat + 1) % 2 ^ 32 else s.sch.frameNo.val.toNat

/-- The passport states of a string as they stand for the next slot (R412): those of the registers, and before line 0 those the FBE seeds
for the next frame from the set it commits (R101, R102). -/
def nextPassport (s : State) (i : Nat) : Nat × Nat :=
  if s.sch.nextLine ≠ 0 then ((strng s i).order, (strng s i).dither)
  else
    let u := { s with par.inForce := newSet s.par.timely s.par.svcTimely s.par.inForce }
    let src := seedSource u
    seeds src.2.1 (par0 u pPassportFamily) src.2.2 i (nextFrameNo s)

/-- A passport state, a fade and a servo as the copy carries them. -/
def copyString (s : State) (i : Nat) : List Byte :=
  let q := nextPassport s i
  le 4 (q.1 % 2 ^ 24) ++ le 4 (q.2 % 2 ^ 24)
def copyFade (s : State) (i : Nat) : List Byte :=
  let x := strng s i
  match x.fade with
  | some f => le 1 x.lvl ++ le 1 f.et ++ le 1 f.l ++ le 1 f.j
  | none => le 1 x.lvl ++ le 1 x.lvl ++ le 1 0 ++ le 1 0
def copyServo (s : State) (n : Nat) : List Byte :=
  let v := servo s n
  le 1 v.mode ++ le 1 (b2n v.slewing) ++ leI 2 v.ramp ++ leI 2 v.target ++ (List.range 3).flatMap (fun i => leI 2 (v.us.getD i 0))
    ++ (List.range 3).flatMap (fun i => leI 2 (v.ys.getD i 0)) ++ leI 2 v.goal ++ le 4 0
def copyRod (s : State) (r : Nat) : List Byte :=
  le 1 (par s pCoincDepth r) ++ le 1 (par s pCoincWindow r) ++ le 1 (ambRod s r).cur ++ le 1 0

/-- The copy's first 604 bytes. -/
def lineCopyBody (s : State) : List Byte :=
  let img := s.par.inForce.itin
  le 2 1 ++ le 2 608 ++ le 4 (nextFrameNo s) ++ le 1 s.sch.nextLine ++ le 1 s.par.gen ++ le 1 (par0 s pPassportFamily)
    ++ le 1 s.amb.seedN ++ le 4 (imId img) ++ le 4 (imf img 16 4) ++ le 4 (s.nv.serial % 2 ^ 32)
    ++ (List.range 16).flatMap (copyString s) ++ (List.range 64).flatMap (copyRod s) ++ (List.range 16).flatMap (copyFade s)
    ++ (List.range 4).flatMap (copyServo s) ++ (List.range 8).flatMap (fun i => le 4 (tget 0 s.twn.bases i)) ++ le 4 0

/-- The line copy with its check (R412). Log entries 35 (DEDUCED), 93 (DEDUCED). -/
def lineCopyBytes (s : State) : List Byte := let b := lineCopyBody s; b ++ le 4 (crc32 b)

/-- Whether a copy's check is valid. Log entry 35 (DEDUCED). -/
def copyCheckOk (b : List Byte) : Bool :=
  b.length == 608 && fld b 0 2 == 1 && fld b 2 2 == 608 && fld b 604 4 == crc32 (b.take 604)

/-- Whether a copy names the line the standby runs next, or a later one (R411). Log entry 35 (DEDUCED). -/
def copyAhead (s : State) (b : List Byte) : Bool :=
  let d := sdiff32 (fld b 4 4) s.sch.frameNo.val.toNat
  decide (0 < d) || (d == 0 && decide (s.sch.nextLine ≤ fld b 8 1))

/-- Why the copy held is not good at this line start, by the reasons of TWIN_STALE; 0 when it is good (R411).
Log entries 35 (DEDUCED), 36 (DEDUCED). -/
def copyReason (s : State) : Nat :=
  match s.twn.copy with
  | none => if s.twn.copyBad then 3 else 1
  | some (b, at_) =>
    if fld b 12 4 ≠ imId s.par.inForce.itin ∨ fld b 16 4 ≠ imf s.par.inForce.itin 16 4 then 4
    else if s.dev < at_ + 10 * tUs then 2
    else if copyAhead s b then 0 else 1

/-- The fade a copy carries. The copy holds no E0: a fade the standby knows keeps its own, any other runs its remaining
steps from the level copied. Log entry 34 (DEDUCED). -/
def adoptFade (b : List Byte) (i : Nat) (x : Strng) : Strng :=
  let o := 408 + 4 * i
  let l := fld b (o + 2) 1
  let j := fld b (o + 3) 1
  let et := fld b (o + 1) 1
  let f : Option Fade := if l ≤ j then none else match x.fade with
    | some f => if f.et = et ∧ f.l = l then some { f with j := j } else some { e0 := fld b o 1, et := et, l := l - j, j := 0 }
    | none => some { e0 := fld b o 1, et := et, l := l - j, j := 0 }
  { x with order := fld b (24 + 8 * i) 4 % 2 ^ 24, dither := fld b (28 + 8 * i) 4 % 2 ^ 24, lvl := fld b o 1, fade := f }

/-- A servo's entry of a copy waits for the servo's next sample (R215, R231). Log entry 34 (DEDUCED). -/
def adoptServo (b : List Byte) (n : Nat) (v : Servo) : Servo := { v with adopt := (b.drop (472 + 24 * n)).take 24 }

/-- The parameter values a copy carries: the depth and window of each rod and the passport family, in force at once. Log entry 34 (DEDUCED). -/
def adoptVals (b : List Byte) (m : Tab (Option Nat)) : Tab (Option Nat) :=
  (List.range 64).foldl (fun m r =>
    tput none (tput none m (pKey pCoincDepth r) (some (fld b (152 + 4 * r) 1))) (pKey pCoincWindow r) (some (fld b (153 + 4 * r) 1)))
    (tput none m (pKey pPassportFamily 0) (some (fld b 10 1)))

/-- A change of the source or value of N or SALT is logged with the first frame it governs (R102). -/
def seedSourceEv (first : Nat) (s : State) : State :=
  logEv 0x0207 (le 1 (b2n s.amb.seedRing) ++ le 1 s.amb.seedN ++ le 2 s.amb.seedSalt ++ le 4 first) s

/-- Adopts a good copy (R411): it moves to the copy's frame and line and takes its contents. A copy with another N logs
PASSPORT_SEED_SOURCE; the specification does not say whether it does. Log entries 34 (DEDUCED), 101 (DESIGN CHOICE). -/
def adoptCopy (b : List Byte) (s : State) : State :=
  let s := { s with
    sch.nextLine := fld b 8 1
    sch.frameNo := { s.sch.frameNo with val := BitVec.ofNat 32 (fld b 4 4) }
    par.inForce := { s.par.inForce with vals := adoptVals b s.par.inForce.vals }, par.gen := fld b 9 1 % 2
    twn.bases := (List.range 8).foldl (fun t i => tput 0 t i (fld b (568 + 4 * i) 4)) [] }
  let s := (List.range 16).foldl (fun s i => setStrng s i (adoptFade b i (strng s i))) s
  let s := (List.range 4).foldl (fun s n => setServo s n (adoptServo b n (servo s n))) s
  let s := (List.range 64).foldl (fun s r => setAmbRod s r { ambRod s r with cur := fld b (154 + 4 * r) 1 }) s
  if fld b 11 1 = s.amb.seedN then s else seedSourceEv s.sch.frameNo.val.toNat { s with amb.seedN := fld b 11 1 }

/-- Enters or leaves the stale state (R411); the reason on leaving is open. Log entry 35 (DEDUCED). -/
def staleEv (on : Bool) (reason : Nat) (s : State) : State :=
  let r := freeVal 256 s
  let s := if on then s else r.2
  updScore (logEv 0x0A02 (le 1 (b2n on) ++ le 1 (if on then reason else r.1)) { s with twn.stale := on })

/-- The standby's line start (R411): a good copy is adopted and counts toward freshness, anything else makes it stale. Answers
whether the standby moved to another line. Log entry 36 (DEDUCED). -/
def copyAtLineStart (s : State) : Bool × State :=
  let r := copyReason s
  let clear := fun (s : State) => { s with twn.copy := none, twn.copyBad := false }
  match s.twn.copy with
  | some (b, _) =>
    if r = 0 then
      let moved := decide (fld b 8 1 ≠ s.sch.nextLine)
      let s := adoptCopy b { clear s with twn.good := s.twn.good + 1 }
      (moved, if s.twn.stale && decide (par0 s pTwinFreshLines ≤ s.twn.good) then staleEv false 0 s else s)
    else
      let s := if r = 4 then logEv 0x0A04 (le 4 (imId s.par.inForce.itin) ++ le 4 (fld b 12 4)) s else s
      (false, bad r (clear s))
  | none => (false, bad r (clear s))
where
  /-- A line start without a good copy. -/
  bad (r : Nat) (s : State) : State :=
    let c := s.twn.staleC
    let s := wrapEv c 1 0x0A0B (le 1 2) { s with twn.good := 0, twn.staleC := c.add 1 }
    if s.twn.stale then s else staleEv true r s

/-- The standby's part of LINE_COPY (R411): the first copy whose check is valid is held, with its arrival. Log entry 35 (DEDUCED). -/
def takeCopy (b : List Byte) (s : State) : State :=
  if twinMode s = false ∨ s.twn.owner = true ∨ s.desk.st < 2 ∨ s.desk.st = 7 then s
  else if s.twn.copy.isSome then s
  else if copyCheckOk b then { s with twn.copy := some (b, s.dev), twn.copyBad := false }
  else { s with twn.copyBad := true }

/-- Log entry 93 (DEDUCED). -/
def execLineCopy (t : Nat) (b : List Byte) (s : State) : Host.Outcome State Fault Refusal := .next (live t (takeCopy b) s)

end Sys2Proof.Machine
end

