-- ==== Sys2Proof/Machine/Shots.lean ====
section
/-! DEFINITION. Machine/Shots.lean: the shot scheduler's lines and shots (R182 to R200): line starts and ends, set instants,
fire edges, passports (R96 to R101). -/

namespace Sys2Proof.Machine

/-! ### Emission -/

/-- Whether shots may be fired now: the state, both enables high, the head's turn not withdrawn (R25). -/
def emitting (s : State) : Bool := stEmits s && s.pins.lsrA && s.pins.lsrB && !s.sch.turnStop

/-- Whether this device is the standby of a twin head (R408, R409). -/
def standby (s : State) : Bool := twinMode s && !s.twn.owner

/-- The emitter mask of a present string. -/
def present (s : State) (i : Nat) : Nat := par s pEmitPresent i

/-- Range window W in ticks. -/
def winTicks (s : State) : Nat := par0 s pChRangeWindow * 64

/-- Number of lines of the itinerary in force. -/
def lineCount (s : State) : Nat := imLines s.par.inForce.itin

/-! ### The end of a line (R182, R349, R411) -/

/-- The kind 2 SHED record of a rod whose channels shed in the line (R349); their line counts start again. -/
def shedLine (line r : Nat) (s : State) : State :=
  let cs := (List.range 16).map (fun i => 16 * r + i)
  let s' := if cs.any (fun c => decide ((ch s c).lnShed ≠ 0)) then
      pushLoss { kind := 2, frame := s.sch.frameNo.val.toNat, index := r, start := s.dev, stop := s.dev, line := line
                 chans := cs.map (fun c => (min (2 ^ 32 - 1) (ch s c).lnQueued, min (2 ^ 32 - 1) (ch s c).lnShed)) } s
    else s
  cs.foldl (fun s c => if (ch s c).lnQueued = 0 ∧ (ch s c).lnShed = 0 then s else setCh s c { ch s c with lnQueued := 0, lnShed := 0 }) s'

/-- What follows a line's last slot: the next line's elevation is handed unless that line is line 0 (R182), the line's shed
counts are sent, and the owner of a twin head sends its line copy (R411). Done once per line. -/
def lineEndWork (s : State) : State :=
  match s.sch.line with
  | none => s
  | some l =>
    if s.sch.elevSent then s
    else
      let s := { s with sch.elevSent := true }
      let s := if s.sch.nextLine = 0 then s else handElev s.sch.nextLine s
      let s := (List.range 64).foldl (fun s r => shedLine l.line r s) s
      if twinMode s && s.twn.owner then { s with twn.sent := lineCopyBytes s } else s

/-- LINE_END: the last slot of the running line has ended (R182, R183). -/
def lineEnd (s : State) : State :=
  match s.sch.line with
  | some l => if l.tls + l.slots * l.p ≤ coarse s then lineEndWork s else s
  | none => s

/-! ### Line starts -/

/-- Whether a string's placed edge is still to be driven. -/
def edgeDue (s : State) (i : Nat) : Bool := match (strng s i).placed with | some p => p.drive | none => false

/-- Slots of the running line not fired for the strings present (R185), a placed edge not yet fired among them. Log entry 37
(DEDUCED). -/
def slotsLeft (s : State) (l : LineRun) : Nat :=
  sumN ((List.range 16).map (fun i => if present s i = 0 then 0 else l.slots - (strng s i).nextSlot + b2n (edgeDue s i)))

/-- Draws what the slot draws (R96, R99, R100): a permutation at the first slot of a cycle, then the dither. -/
def drawSlot (s : State) (x : Strng) (q : Nat) : Strng × Nat :=
  let x := if q % 8 = 0 then
      let r := drawPerm 7 (List.range 8) x.order
      { x with order := r.2, perm := if par0 s pPassportOrderEnable = 1 then r.1 else List.range 8 }
    else x
  let d := lfsrBits ditherMask 5 x.dither 0
  ({ x with dither := d.2, nextSlot := q + 1 }, if par0 s pPassportDitherEnable = 1 then d.1 else 0)

/-- Draws what `n` further slots draw: the registers advance for slots that are never fired, too (R96, R99, R197). -/
def drawRest (s : State) : Nat → Strng → Strng
  | 0, x => x
  | n + 1, x => drawRest s n (drawSlot s x x.nextSlot).1

/-- Ends the running line early (R185): its remaining slots draw their passports, are counted, and LINE_OVERRUN is logged; an edge
placed and not driven is taken back and is no previous edge (R188). Log entry 37 (DEDUCED). -/
def overrunLine (l : LineRun) (s : State) : State :=
  let n := slotsLeft s l
  let c := s.sch.overrun
  let s := { s with
    sch.strs := (List.range 16).foldl (fun m i => tmod {} m i (fun x =>
      let y := drawRest s (l.slots - x.nextSlot) x
      { y with nextSlot := l.slots, placed := none, shunt := if x.placed.isSome then 0 else x.shunt })) s.sch.strs }
  let s := lineEndWork s
  let s := { s with sch.overrun := c.add n, sch.line := none, sch.lastEdge := s.sch.firedEdge }
  let s := wrapEv c n 0x0509 (le 1 2) s
  logEv 0x0502 (le 1 l.line ++ le 4 n ++ le 4 s.sch.frameNo.val.toNat) s

/-- Whether strings still have slots of the line. -/
def lineOpen (s : State) (l : LineRun) : Bool :=
  (List.range 16).any (fun i => decide (present s i ≠ 0) && (decide ((strng s i).nextSlot < l.slots) || edgeDue s i))

/-- Fixes the FBE of a frame in which no slot can fire any more (R24): the close of the window of the frame's last shot, `close` that of
a shot placed and still to be fired (0 none); with no shot fired in the frame, W after the start of the last line's last slot, `l`
being that line then. Log entry 38 (DEDUCED). -/
def fixFbe (l : LineRun) (close : Nat) (s : State) : State :=
  judgeSeals { s with
    sch.fbeAt := some (if s.sch.frameShots = 0 ∧ close = 0 then (l.tls + (l.slots - 1) * l.p + par0 s pChRangeWindow) * 64
      else max (if s.sch.frameShots = 0 then 0 else s.sch.winClose) close) }

/-- Whether a cell fires something of string `i`: a present emitter in its mask (R184). -/
def cellFires (s : State) (i : Nat) (c : Cell) : Bool := decide (c.masks.getD i 0 &&& present s i ≠ 0)

/-- Whether string `i` fires in a cycle from `c0` on of a line with the cells `cs`: a cycle the rate cap in force does not skip, in a
cell that fires something of it (R96, R184, R197). -/
def cyclesFire (s : State) (cs : List Cell) (i c0 : Nat) : Bool :=
  cs.zipIdx.any (fun p =>
    decide (cdiv (max c0 (cellCycles (cs.take p.2))) s.sch.rdiv * s.sch.rdiv < cellCycles (cs.take (p.2 + 1))) && cellFires s i p.1)

/-- Whether any later slot of string `i` in the line can still fire: the rest of its cycle by its permutation, later
cycles by their cells' masks (each emitter has one slot per cycle, R96). -/
def mayFireLater (s : State) (l : LineRun) (i : Nat) (x : Strng) : Bool :=
  let cs := lineCells (pvForce s) s.par.inForce.itin l.line
  let q := x.nextSlot
  let rest := if q % 8 = 0 ∨ q / 8 % s.sch.rdiv ≠ 0 then false else
    match cellAt cs 0 0 0 (q / 8) with
    | some (_, cell, _, _) =>
      (List.range (8 - q % 8)).any (fun j => bit (cell.masks.getD i 0 &&& present s i) (x.perm.getD (q % 8 + j) 0))
    | none => false
  rest || cyclesFire s cs i (cdiv q 8)

/-- The latest close of a window of an edge placed and not yet fired, 0 without one. -/
def placedClose (s : State) : Nat :=
  (List.range 16).foldl (fun m i => match (strng s i).placed with | some p => max m (p.edge + winTicks s) | none => m) 0

/-- Whether some slot of the line not yet reached can fire; none can once the head's turn is withdrawn (R25). -/
def lineMayFire (s : State) (l : LineRun) : Bool :=
  !s.sch.turnStop && (List.range 16).any (fun i => mayFireLater s l i (strng s i))

/-- Whether a line of the frame after `l` can fire a shot. -/
def laterLineFires (s : State) (l : LineRun) : Bool :=
  (List.range (lineCount s)).any (fun j => decide (l.line < j) &&
    (List.range 16).any (fun i => cyclesFire s (lineCells (pvForce s) s.par.inForce.itin j) i 0))

/-- Fixes the FBE as soon as the frame's last shot has been placed: no slot of this line or a later one of the frame can fire any more
(R24). A frame that has no shot by then waits for its last line. Log entry 38 (DEDUCED). -/
def fixIfLast (l : LineRun) (s : State) : State :=
  if s.sch.fbeAt.isSome ∨ lineMayFire s l = true ∨ laterLineFires s l = true then s
  else if l.line + 1 ≠ lineCount s ∧ s.sch.frameShots = 0 ∧ placedClose s = 0 then s
  else fixFbe l (placedClose s) s

/-- The records of a line start (R345, R346, R354, R355), a frame's first line starting the frame (R24). -/
def lineRecords (l : LineRun) (s : State) : State :=
  let img := s.par.inForce.itin
  let s := if l.line = 0 then
      timeRecord (ownRec 0x20 2 0 (le 4 (imId img) ++ le 8 l.tls ++ le 1 (imLines img) ++ le 1 (par0 s pPassportFamily)
        ++ le 1 s.amb.seedN ++ le 1 s.desk.st ++ le 1 (par0 s pStreamPathMode) ++ le 3 0 ++ le 4 (par0 s pAzOrigin)
        ++ le 4 (par0 s pAzSpan)) (motionFrameStart { s with
          str.starts := ((s.sch.frameNo.val.toNat, l.tls * 64) :: s.str.starts).take 16 }))
    else s
  let s := ownRec 0x22 2 0 (le 1 l.line ++ le 1 l.facet ++ le 2 (lineAngle img l.line) ++ le 8 l.tls ++ le 2 (lineElev img l.line)
    ++ le 2 l.p ++ le 4 0) s
  motionRecord l.line l.tls s

/-- The itinerary line after `l`, line 0 of the next frame after the last. -/
def lineAfter (s : State) (l : Nat) : Nat := if l + 1 < lineCount s then l + 1 else 0

/-- Begins a line at this event (R182, R183). Line 0 starts the frame (R24). -/
def beginLine (facet : Nat) (moved : Bool) (s : State) : State :=
  let l := s.sch.nextLine
  let img := s.par.inForce.itin
  let run : LineRun := { line := l, tls := coarse s, facet := facet, p := linePeriod img l,
                         slots := lineSlots (pvForce s) img l }
  let s := if l = 0 then
      { s with
        sch.frameStart := coarse s * 64, sch.linesRun := 0
        sch.strs := s.sch.strs.map (fun p => (p.1, { p.2 with emPt := [] }))
        ch := s.ch.map (fun p => (p.1, { p.2 with frStamped := false })) }
    else s
  let s := { s with
    sch.line := some run, sch.lineClose := 0, sch.lastTls := coarse s * 64, sch.linesRun := s.sch.linesRun + 1, sch.lastLine := l
    sch.strs := (List.range 16).foldl (fun m i => tmod {} m i (fun x => { x with nextSlot := 0, perm := [], placed := none })) s.sch.strs
    sch.nextLine := lineAfter s l
    sch.elevSent := false
    twn.notice := none, twn.ownInst := none
    amb.nextIdx := 0 }
  let s := if twinMode s then pushLineKey run moved s else s
  irq 18 (giveAngle (lineAngle img s.sch.nextLine) (lineRecords run s))

/-- Whether the charge lead of R200 has passed since the latest rise of every bank that holds a present string; the first frame after a command also waits for every bank's rise (R556). The
standby of a twin head drives no CHG_EN (R403) and starts with its owner (R409). Log entry 39 (DEDUCED). -/
def chargeLeadOk (s : State) : Bool :=
  standby s || ((!s.sch.fresh || decide (s.sch.chgReq = s.sch.chgEn))
    && (bitList 8 0 (chgRequest s)).all (fun k => decide (tget 0 s.sch.chgRise k + par0 s pEmitChargeLead * tUs ≤ s.dev)))

/-- Whether the turn at this instant is this head's (R424). Log entry 39 (DEDUCED). -/
def turnOk (s : State) : Bool :=
  if s.rng.locked then (par0 s pRingTurnMask).testBit (turnPos s (coarse s)) else par0 s pRingTurnRequired == 0

/-- The facet test of the next line (R182). Log entry 39 (DEDUCED). -/
def facetOk (facet : Nat) (s : State) : Bool :=
  lineFacet s.par.inForce.itin s.sch.nextLine == 255 || lineFacet s.par.inForce.itin s.sch.nextLine == facet

/-- An event of another facet is passed and counted (R182). Log entry 39 (DEDUCED). -/
def facetWait (s : State) : State := wrapEv s.sch.facetW 1 0x0509 (le 1 3) { s with sch.facetW := s.sch.facetW.add 1 }

/-- An event of another head's turn is passed and counted (R424). Log entry 39 (DEDUCED). -/
def turnPass (s : State) : State := wrapEv s.twn.turnC 1 0x0A0B (le 1 5) { s with twn.turnC := s.twn.turnC.add 1 }

/-- Whether the scheduler may use a line-start event now (R186, R200, R556): emission permitted, the committed set in force,
and for the first frame after a command 20 µs after the idle commit. -/
def lineReady (s : State) : Bool :=
  emitting s && decide (s.sch.ready ≤ s.dev) && chargeLeadOk s && (!s.sch.fresh || decide (s.sch.notBefore ≤ s.dev))

/-- Line 0's elevation is handed at the first line-start event after a truncated FBE (R182). -/
def rehandElev (s : State) : State :=
  if s.sch.rehand && emitting s then handElev 0 { s with sch.rehand := false } else s

/-- A line-start event while slots of the frame's last line remain (R185, R186): the line ends at its last fired shot, whose window's
close is the FBE, and the event is passed. Log entries 37 (DEDUCED), 38 (DEDUCED). -/
def lastOverrun (l : LineRun) (s : State) : State := fixFbe l 0 (overrunLine l s)

/-- A line-start event while slots of another line remain (R185): the line ends at its last fired shot. An FBE time that rested on a
shot so taken back is computed again (R24). Log entries 37 (DEDUCED), 38 (DEDUCED). -/
def lineOverrun (l : LineRun) (s : State) : State := fixIfLast l { overrunLine l s with sch.fbeAt := none }

/-- A line-start event reaches the scheduler with its facet index (R182, R185, R186, R424). No line starts between a frame that has
ended, truncated or in its last line, and its FBE. Log entry 39 (DEDUCED). -/
def lineEvent (facet : Nat) (s : State) : State :=
  let s := rehandElev s
  if lineReady s = false ∨ s.sch.truncated then s
  else
    let c := if standby s then copyAtLineStart s else (false, s)
    match s.sch.line with
    | some l =>
      if lineOpen s l then
        (if facetOk facet c.2 = false then facetWait s
         else if turnOk s = false then turnPass s
         else if l.line + 1 = lineCount s then lastOverrun l s
         else
           let s := lineOverrun l s
           let c := if standby s then copyAtLineStart s else (false, s)
           beginLine facet c.1 c.2)
      else if l.line + 1 = lineCount s then s
      else start facet c s
    | none => if s.sch.fbeAt.isSome then s else start facet c s
where
  /-- Runs the next line at this event, or passes it. -/
  start (facet : Nat) (c : Bool × State) (s : State) : State :=
    if facetOk facet c.2 = false then facetWait s
    else if turnOk s = false then turnPass s
    else beginLine facet c.1 (lineEndWork c.2)

/-- Whether a twin's standby raises its line start now (R409): at the noticed instant of reference time, or at its own after a
miss. -/
def standbyStart (s : State) (facet : Nat) : Bool :=
  (match s.twn.notice with
    | some (_, _, f, inst) => f == facet && refOf s (coarse s) == (inst : Int)
    | none => false)
  || (s.twn.ownInst == some (coarse s) && lineHanded s facet)

/-- The owner's line notice (R409): frame, line, facet and instant in reference time. It leaves when the instant is handed over, 2 µs
ahead; State shows it from the instant on. Log entry 93 (DEDUCED). -/
def sendNotice (facet : Nat) (s : State) : State :=
  if twinMode s && s.twn.owner then
    { s with twn.sentNotice := some (s.sch.frameNo.val.toNat, s.sch.nextLine, facet, refOf s (coarse s)) }
  else s

/-- LINE_START: a standby's notice is used up by its instant (R409). The servo raises the event at the instant it handed over (R227), not before the elevation has settled (R229).
Log entry 36 (DEDUCED). -/
def lineStart (facet : Nat) (s : State) : State :=
  if servosRun s = false ∨ s.par.inForce.itinHas = false then s
  else if standby s then
    (if standbyStart s facet then lineEvent facet (passUsed facet { s with twn.notice := none, twn.ownInst := none }) else s)
  else if lineHanded s facet = false then s
  else
    let s := sendNotice facet (rehandElev (passUsed facet s))
    if elevSettled s = false then settleLate s else lineEvent facet s

/-! ### Set instants -/

/-- Nominal edge of a slot in ticks (R187). -/
def nominalEdge (s : State) (l : LineRun) (i q : Nat) : Nat := (l.tls + q * l.p) * 64 + par s pEmitStagger i

/-- Set instant of a slot in coarse cycles (R192). -/
def setCycle (s : State) (l : LineRun) (i q : Nat) : Nat := nominalEdge s l i q / 64 - par0 s pEmitSetupLead

/-- ISET code of a shot and whether it was capped (R195, R196). -/
def isetOf (s : State) (i code lvl : Nat) : Nat × Bool :=
  let v := curveVal (setCurve s.par.inForce (par s pEmitCurve i)) (code - (255 - lvl))
  (min v s.sch.ceil, decide (s.sch.ceil < v))

/-- Whether this device drives a string's outputs (R403, R408): always outside twin mode. -/
def drivesString (s : State) (i : Nat) : Bool :=
  !twinMode s || (s.twn.own.testBit i && s.pins.lsrA && s.pins.lsrB && !s.twn.conflict && !s.twn.faultNow)

/-- The separation shift of an edge in 0.5 ns steps (R188): to the first position 15 ns after the edge placed before. -/
def sepShift (s : State) (edge0 : Nat) : Nat := match s.sch.lastEdge with | some p => cdiv (p + 1920 - edge0) 64 | none => 0

/-- Places the edge of a slot that fires (R187, R188, R192, R195, R196, R316): nominal edge plus dither `edge0`, moved later by `sh`
steps. Log entry 37 (DEDUCED). -/
def placeShot (i q em code edge0 sh : Nat) (s : State) : State :=
  let x := strng s i
  let edge := edge0 + sh * 64
  let v := isetOf s i code x.lvl
  let d := drivesString s i
  setStrng { s with sch.lastEdge := some edge } i { x with
    placed := some { slot := q, em := em, edge := edge, launch := 16 * (edge : Int) - tget 0 s.cal.fire i, iset := v.1, drive := d
                     shift := decide (sh ≠ 0), capped := v.2 }
    iset := if d then v.1 else 0, shunt := if d then 2 ^ em else 0, holdEdge := edge }

/-- The set instant of a string's next slot (R183, R184, R188, R192, R193, R195 to R197, R408); a device that may not drive the string
releases its outputs (R403). R26 and R33 test the edge where it would be placed. Log entry 37 (DEDUCED). -/
def setInstant (i : Nat) (s : State) : State :=
  match s.sch.line with
  | none => s
  | some l =>
    let x := strng s i
    let q := x.nextSlot
    if 15 < i ∨ l.slots ≤ q ∨ coarse s < setCycle s l i q then s
    else
      let s := { s with twn.own := if s.twn.owner then s.twn.own ||| 2 ^ i else s.twn.own &&& (65535 - 2 ^ i) }
      let dr := drawSlot s x q
      let x := { dr.1 with placed := none, shunt := 0, iset := if drivesString s i then dr.1.iset else 0 }
      let s := setStrng s i x
      match cellAt (lineCells (pvForce s) s.par.inForce.itin l.line) 0 0 0 (q / 8) with
      | none => fixIfLast l s
      | some (_, cell, _, _) =>
        let e := x.perm.getD (q % 8) 0
        let e0 := nominalEdge s l i q + dr.2 * 64
        let sel := bit (cell.masks.getD i 0) e && bit (present s i) e
        if sel = false ∨ emitting s = false then fixIfLast l s
        else if e0 + sepShift s e0 * 64 < s.sch.notBefore then
          let c := s.sch.gap
          fixIfLast l (wrapEv c 1 0x0509 (le 1 1) { s with sch.gap := c.add 1, sch.gapFr := s.sch.gapFr + 1 })
        else if (q / 8) % s.sch.rdiv ≠ 0 then fixIfLast l { s with sch.rateSkip := s.sch.rateSkip + 1 }
        else fixIfLast l (placeShot i q e (cell.codes.getD i 0) e0 (sepShift s e0) s)

/-! ### Fire edges -/

/-- Whether a channel receives the shot's window under the set that governed the shot (R32, R57, R178): lit by its emitter,
enabled, gated on, the shot's point not begun before the end of the rod's last reselection outage (R313). -/
def litBy (s : State) (c : Nat) (sh : Shot) : Bool :=
  let m := setMap (genImg s sh.gen) c
  m.str == sh.str && m.em == sh.em && gPar s sh.gen pChEnable c == 1 && decide (tget 0 s.cal.outEnd (c / 16) ≤ sh.first) &&
    (match sh.gate with | none => true | some g => g.testBit c)

/-- Counts a shot into a channel's point when the point is already known there (R120). -/
def countShot (sh : Shot) (c : Nat) (s : State) : State :=
  let x := ch s c
  let mine := fun (p : PtRef) => p.frame == sh.frame && p.line == sh.line && p.point == sh.point
  match x.pts.find? mine with
  | none => s
  | some p =>
    let s := setCh s c { x with pts := x.pts.map (fun r => if mine r then { r with shots := r.shots + 1, last := sh.stamp, ended := false } else r) }
    match p.page with
    | none => s
    | some k =>
      let g := page s k
      let fills := if p.merged then decide (g.d.zoom ≠ 2)
        else if g.d.zoom = 1 then true else if g.d.zoom = 2 then false else decide (g.seff < sh.nth)
      if g.st = 3 then s else setPage s k { g with
        st := if g.st = 2 then 1 else g.st
        d := { g.d with shots := min 255 (g.d.shots + 1), last := sh.stamp, fineShots := min 255 (g.d.fineShots + b2n fills) }
        scout := if g.d.zoom = 0 ∧ p.merged = false ∧ g.scout = 0 ∧ 0 < g.seff ∧ sh.nth = g.seff + 1 then 1 else g.scout
        scoutAt := if sh.nth = g.seff + 1 ∧ p.merged = false then sh.stamp else g.scoutAt }

/-- Shots kept: those a queued event may still be attributed to, and those whose windows reach the open ambient interval (R64, R83). -/
def keepShot (s : State) (now : Nat) (r : Shot) : Bool :=
  decide (now < r.stamp + 2 ^ 23) || (match s.amb.interval with | some iv => decide (iv.start < r.stamp + 2 ^ 20) | none => false)

/-- Sends the shot's fire record to Nerrak: one record over both links, with one sequence number (R184, R269, R410). -/
def sendRecord (i : Nat) (p : Placed) (s : State) : State :=
  { s with
    nk.links := s.nk.links ++ [{ str := i, em := p.em, stamp := p.edge, iset := p.iset, seq := s.nk.sendSeq }]
    nk.sendSeq := s.nk.sendSeq + 1 }

/-- Adds a fired shot to the frame (R60, R120, R184): its fire record, recent shots, window close, the points of its channels. -/
def addShot (i : Nat) (p : Placed) (s : State) : State :=
  match s.sch.line with
  | none => s
  | some l =>
    let x := strng s i
    match cellAt (lineCells (pvForce s) s.par.inForce.itin l.line) 0 0 0 (p.slot / 8) with
    | none => s
    | some (ci, cell, pt, _) =>
      let old := tget (0, 0, 0, 0) x.emPt p.em
      let on := decide (old.1 = l.line + 1) && decide (old.2.1 = pt)
      let n := if on then old.2.2.1 + 1 else 1
      let p0 := if on then old.2.2.2 else p.edge
      let sh : Shot :=
        { str := i, em := p.em, stamp := p.edge, first := p0, frame := s.sch.frameNo.val.toNat, line := l.line, point := pt,
          nth := n, cell := ci, n := cell.n, zoom := cell.zoom, b := cell.b, f := cell.f, o := cell.o,
          raw := cell.raw, gate := gateMask s.par.inForce.itin cell.gating, gen := s.par.gen }
      let s := sendRecord i p (setStrng s i { x with emPt := tput (0, 0, 0, 0) x.emPt p.em (l.line + 1, pt, n, p0), placed := none })
      let s := { s with
        sch.shots := sh :: s.sch.shots.filter (keepShot s p.edge)
        sch.winClose := max s.sch.winClose (p.edge + winTicks s), sch.lineClose := max s.sch.lineClose (p.edge + winTicks s)
        sch.firedEdge := some (match s.sch.firedEdge with | some o => max o p.edge | none => p.edge)
        amb.interval := s.amb.interval.map (fun (iv : Interval) => { iv with close := max iv.close (p.edge + winTicks s) })
        sch.frameShots := s.sch.frameShots + 1
        sch.running := true, sch.fresh := false
        sch.fired := s.sch.fired + 1, sch.shifts := s.sch.shifts + b2n p.shift, sch.capped := s.sch.capped + b2n p.capped }
      s.par.inForce.chmap.foldl (fun s (r : Nat × Option ChMap) => if litBy s r.1 sh then countShot sh r.1 s else s) s

/-- FRAME_GAP_SHORT at the first fired shot of a frame with earlier slots skipped (R26, R211). -/
def gapShortEv (s : State) : State :=
  if s.sch.frameShots = 0 ∧ s.sch.gapFr ≠ 0 ∧ s.sch.gapLogged = false then
    logEv 0x0501 (le 4 s.sch.frameNo.val.toNat ++ le 4 s.sch.gapFr) { s with sch.gapLogged := true }
  else s

/-- The commanded edge of a string's placed shot (R187, R190, R191); one this device does not drive awaits the owner's stamp
(R410). A shot whose outputs have been let go since its set instant (R406) is not fired. -/
def fireEdge (i : Nat) (s : State) : State :=
  match (strng s i).placed with
  | none => s
  | some p =>
    if s.dev < p.edge ∨ p.drive = false ∨ s.sch.line = none then s
    else if drivesString s i = false then setStrng s i { strng s i with placed := none }
    else
      let s := addShot i p (gapShortEv s)
      setStrng s i { strng s i with fire := true, fireEdge := p.edge }

/-- FIRE falls EMIT.FIRE_WIDTH after the edge (R191). -/
def fireWidthEnd (i : Nat) (s : State) : State :=
  let x := strng s i
  if x.fire && decide (x.fireEdge + par0 s pEmitFireWidth * 64 ≤ s.dev) then setStrng s i { x with fire := false } else s

/-- The shunts return high 50 ns after the commanded edge (R192); ISET holds its value (R193). -/
def shuntHoldEnd (i : Nat) (s : State) : State :=
  let x := strng s i
  if x.shunt ≠ 0 ∧ x.holdEdge + 6400 ≤ s.dev then setStrng s i { x with shunt := 0 } else s

def execLineStart (t facet : Nat) (s : State) : Host.Outcome State Fault Refusal := .next (live t (lineStart facet) s)
def execLineEnd (t : Nat) (s : State) : Host.Outcome State Fault Refusal := .next (live t lineEnd s)
def execSetInstant (t i : Nat) (s : State) : Host.Outcome State Fault Refusal := .next (live t (setInstant i) s)
def execFireEdge (t i : Nat) (s : State) : Host.Outcome State Fault Refusal := .next (live t (fireEdge i) s)
def execFireWidthEnd (t i : Nat) (s : State) : Host.Outcome State Fault Refusal := .next (live t (fireWidthEnd i) s)
def execShuntHoldEnd (t i : Nat) (s : State) : Host.Outcome State Fault Refusal := .next (live t (shuntHoldEnd i) s)

end Sys2Proof.Machine
end

