-- ==== Sys2Proof/Machine/Channels.lean ====
section
/-! DEFINITION. Machine/Channels.lean: detector events, time conversion, coincidence and the channel commands
(spec 02, R88 to R91 of spec 03, R305 to R309 of spec 10). -/

namespace Sys2Proof.Machine

/-! ### Channel map (R54, R55, R77) -/

/-- Reads one 24-byte entry; the second part is the reason code of CHMAP_WRITE, that of the first failing field in field order
(R454 step 5), 0 when the entry passes. -/
def parseMap (c : Nat) (p : List Byte) : ChMap × Nat :=
  let cnt := fld p 6 1
  let nb := (List.range 8).map (fun i => fld p (8 + 2 * i) 2)
  let used := nb.take cnt
  let st := fld p 4 1
  let em := fld p 5 1
  let e : ChMap := { row := fld p 0 2, col := fld p 2 2, str := st, em := em, nbr := used }
  let r :=
    if 1023 < e.row ∨ 1023 < e.col then 1
    else if ¬ ((st ≤ 15 ∧ em ≤ 7) ∨ (st = 255 ∧ em = 255)) then 2
    else if 8 < cnt then 3
    else if fld p 7 1 ≠ 0 then 8
    else nbrReason c (c / 16) [] used (nb.drop cnt)
  (e, r)
where
  /-- The reason of the first failing neighbour field, in field order (R55, R454): the used ones, then the unused. -/
  nbrReason (c rod : Nat) (seen : List Nat) : List Nat → List Nat → Nat
    | [], rest => if rest.any (fun n => decide (n ≠ 0)) then 8 else 0
    | n :: l, rest =>
      if 1023 < n then 4 else if n = c then 5 else if seen.contains n then 6
      else if n / 16 + 1 < rod ∨ rod + 1 < n / 16 then 7
      else nbrReason c rod (n :: seen) l rest

/-- An entry as its 24 bytes (R54). -/
def mapBytes (m : ChMap) : List Byte :=
  le 2 m.row ++ le 2 m.col ++ le 1 m.str ++ le 1 m.em ++ le 1 m.nbr.length ++ le 1 0
    ++ (m.nbr ++ List.replicate (8 - m.nbr.length) 0).flatMap (le 2)

/-- The first failing entry of a write. -/
def mapFail (first : Nat) (p : List Byte) : Nat → Nat → Option (Nat × Nat)
  | 0, _ => none
  | n + 1, i =>
    let r := (parseMap (first + i) ((p.drop (4 + 24 * i)).take 24)).2
    if r = 0 then mapFail first p n (i + 1) else some (first + i, r)

/-- CHMAP_WRITE (R77): checks every entry, then writes all of them into the shadow. The specification names no entry and no reason for a
count outside 1 to 10 (here 0xFFFF and 0), no channel for reason 9 (here the first one outside the range) and no condition for BUSY
(never answered). Log entry 94 (DESIGN CHOICE). -/
def chmapWriteBody (_op : Nat) (r : Req) (s : State) : CmdOut :=
  let p := r.payload
  let first := fld p 0 2
  let n := fld p 2 2
  let bad := fun (c why : Nat) => CmdOut.done rBadParam (le 2 c ++ le 1 why ++ le 1 0) s
  if n = 0 ∨ 10 < n then bad 65535 0
  else if 1024 < first + n then bad (max first 1024) 9
  else match mapFail first p n 0 with
    | some (c, why) => bad c why
    | none =>
      let m := (List.range n).foldl (fun m i =>
        let c := first + i
        let e := (parseMap c ((p.drop (4 + 24 * i)).take 24)).1
        tput none m c (if e = bootMap c then none else some e)) s.par.shadow.chmap
      .done rOK (le 2 65535 ++ le 1 0 ++ le 1 0) { s with par.shadow.chmap := m }

/-- CHMAP_READ (R54); a refused read echoes the first channel and the count and carries no entry. Log entry 95 (DESIGN CHOICE). -/
def chmapReadBody (_op : Nat) (r : Req) (s : State) : CmdOut :=
  let p := r.payload
  let first := fld p 0 2
  let n := fld p 2 2
  if n = 0 ∨ 10 < n ∨ 1024 < first + n ∨ 1 < fld p 4 1 ∨ allZero (p.drop 5) = false then
    .done rBadParam (le 2 first ++ le 2 n) s
  else
    let img := if fld p 4 1 = 0 then s.par.shadow else s.par.inForce
    .done rOK (le 2 first ++ le 2 n ++ (List.range n).flatMap (fun i => mapBytes (setMap img (first + i)))) s

/-- Whether an enabled channel's input has stayed in the detect condition for 10 µs since it was enabled (R53). -/
def stuckNow (s : State) (c : Nat) : Bool :=
  let x := ch s c
  chEnabled s c && x.det && decide (max x.detSince x.enSince + 10 * tUs ≤ s.dev)

/-- CH_COUNTERS_READ (R78): one snapshot, then the clears asked for (R9). -/
def chCountersBody (_op : Nat) (r : Req) (s : State) : CmdOut :=
  let p := r.payload
  let c := fld p 0 2
  let cl := fld p 2 2
  if 1023 < c ∨ clearOk cl = false then refuse rBadParam [.lit (le 2 c), .mask 2 0x307, .free 28] s
  else
    let x := ch s c
    let fl := b2n x.shedTotal.wrap + 2 * b2n x.attrOver.wrap + 4 * b2n x.satPoints.sat
      + 256 * b2n (stuckNow s c) + 512 * b2n x.silent
    let out := le 2 c ++ le 2 fl ++ le 4 x.shedTotal.val.toNat ++ le 8 x.stamped ++ le 8 x.queued
      ++ le 4 x.attrOver.val.toNat ++ le 4 x.satPoints.val
    let a := bit cl 0
    let b := bit cl 1
    .done rOK out (setCh s c { x with
      shedTotal := x.shedTotal.clear a b, attrOver := x.attrOver.clear a b, satPoints := x.satPoints.clear a b
      stamped := if a then 0 else x.stamped, queued := if a then 0 else x.queued })

/-- CH_EVENT_CAPTURE (R79): starts the one capture of the device; the mailbox stays BUSY until it ends. -/
def chCaptureBody (_op : Nat) (r : Req) (s : State) : CmdOut :=
  let p := r.payload
  let c := fld p 0 2
  let n := fld p 2 2
  let us := fld p 4 4
  if 1023 < c ∨ n = 0 ∨ 29 < n ∨ us = 0 ∨ 1000000 < us then refuse rBadParam [.lit (le 2 c ++ le 2 0 ++ le 4 0)] s
  else if s.capture.isSome then .done rBUSY [] s
  else
    let k : Capture := { chan := c, count := n, until_ := s.dev + us * tUs, stamps := [], mb := r.mb, tag := r.tag }
    .pending { s with capture := some k }

/-- A capture entry (R61): C in bits 63:6, F in bits 5:0. -/
def captureEntry (stamp : Nat) : List Byte := le 8 stamp

/-- A capture that has its events, or whose timeout has come, ends and responds (R79). -/
def captureEnd (s : State) : State :=
  match s.capture with
  | none => s
  | some k =>
    let full := decide (k.count ≤ k.stamps.length)
    if full = false ∧ s.dev < k.until_ then s
    else mbDone k.mb 0x0113 (if full then rOK else rTimeout) k.tag
      (le 2 k.chan ++ le 2 k.stamps.length ++ le 4 0 ++ k.stamps.flatMap captureEntry) { s with capture := none }

/-! ### Calibration state of a channel -/

/-- Log entry 87 (DEDUCED). -/
def calCh (s : State) (c : Nat) : CalCh := tget {} s.cal.ch c
def setCalCh (s : State) (c : Nat) (v : CalCh) : State := { s with cal.ch := tput {} s.cal.ch c v }

/-- Whether a channel is in a calibration outage: reselection of its rod (R313), or the factory sequence (R314). -/
def inOutage (s : State) (c : Nat) : Bool :=
  s.cal.factory.isSome ||
    (match s.cal.outage with | some o => o.rod == c / 16 && o.start.isSome | none => false)

/-- Whether a device instant lies in a reselection outage of a channel's rod, the one running or the last one (R313). -/
def outageAt (s : State) (c t : Nat) : Bool :=
  (match s.cal.outage with
    | some o => o.rod == c / 16 && (match o.start with | some t0 => decide (t0 ≤ t) | none => false)
    | none => false)
  || (decide (tget 0 s.cal.outFrom (c / 16) ≤ t) && decide (t < tget 0 s.cal.outEnd (c / 16)))

/-- The raw code of an event whose edge has passed `passed` taps: the selected ones among them, tap 95 apart (R305). -/
def rawCode (mask passed : Nat) : Nat := popc (min passed 95) mask

/-- Edges of a width table: E_j = floor(16,384 × Σ(i < j) w_i / Σ w_i) (R307). Log entry 87 (DEDUCED). -/
def edgesOf (w : List Nat) : List Nat :=
  let t := max 1 (sumN w)
  (List.range 65).map (fun j => 16384 * sumN (w.take j) / t)

/-- Histograms a raw code for the in-field code density (R309). -/
def cdCount (c j : Nat) (s : State) : State :=
  if par0 s pCalCdEnable = 0 then s
  else
    let x := calCh s c
    setCalCh s c { x with hist := tmod 0 x.hist j (· + 1), fill := x.fill + 1 }

/-! ### Attribution geometry (R62, R65, R82) -/

/-- The fire stamp used for attribution: as standby, TWIN_SKEW is added (R318). -/
def useStamp (s : State) (sh : Shot) : Nat :=
  if twinMode s && !s.twn.owner then ((sh.stamp : Int) + rnd (sgn 64 (gPar s sh.gen pCalTwinSkew 0)) 256).toNat
  else sh.stamp

/-- The shots whose windows on channel `c` cover time `te`, most recent first (R57, R62). -/
def covering (s : State) (c te : Nat) : List Shot :=
  s.sch.shots.filter (fun sh => litBy s c sh && !inOutage s c && decide (useStamp s sh ≤ te)
    && decide (te < useStamp s sh + gPar s sh.gen pChRangeWindow 0 * 64))

/-- The covering shots an event at `te` is attributed to (R65). -/
def attributed (s : State) (c te : Nat) : List Shot :=
  match covering s c te with
  | [] => []
  | sh :: l => (sh :: l).take (gPar s sh.gen pChAttribution 0)

/-- Whether time `te` lies in the channel's return region (R82). -/
def inRegion (s : State) (c te : Nat) (region : List Nat) : Bool :=
  let g := par0 s pAmbGuard
  (attributed s c te).any (fun sh =>
    let d := (te - useStamp s sh) / 64
    region.any (fun r => decide (r ≤ d + g) && decide (d ≤ r + g)))

/-! ### Detector events (R50 to R53, R59, R63, R83, R105) -/

/-- Whether detector events are formed (R37): in READY everything but emission runs, in SAFE_STOP only streams, health and logbook. -/
def detectorsRun (s : State) : Bool := decide (2 ≤ s.desk.st) && decide (s.desk.st ≤ 5)

/-- Forms F from a raw code: u = E_j + floor(r (E_(j+1) − E_j) / 256) with a free r (R308). Log entry 87 (DEDUCED). -/
def fineCode (x : CalCh) (j r : Nat) : Nat :=
  let e := x.edges.getD j 0
  ((e + r * (x.edges.getD (j + 1) 0 - e) / 256) / 256) % 64

/-- Coarse cycle at which point `idx` of the running line starts, and whether there is one. -/
def pointStartCycle (s : State) (l : LineRun) (idx : Nat) : Option Nat :=
  go (lineCells (pvForce s) s.par.inForce.itin l.line) idx 0
where
  /-- Walks the cells. -/
  go : List Cell → Nat → Nat → Option Nat
    | [], _, _ => none
    | c :: cs, i, cyc =>
      if i < c.k then some (l.tls + 8 * l.p * (cyc + i * c.n)) else go cs (i - c.k) (cyc + c.k * c.n)

/-- Whether a placed shot of a string may still be fired, by this device or, within 2 ns and the skew, by the owner (R410). -/
def shotDue (s : State) (i : Nat) : Bool :=
  match (strng s i).placed with | some p => p.drive || decide (s.dev < p.edge + 512) | none => false

/-- The close of the running line's last range window, once no shot of the line is still to come; with no window in the line, the end
of its last slot. Log entry 97 (DESIGN CHOICE). -/
def lineShut (s : State) (l : LineRun) : Option Nat :=
  if lineMayFire s l || (List.range 16).any (shotDue s) then none
  else if s.sch.lineClose = 0 then some ((l.tls + l.slots * l.p) * 64)
  else some s.sch.lineClose

/-- The end of the open interval in ticks (R81), as far as it is known at this instant: the next point start or the close of the line's
last range window, whichever comes first; later than any stamp of now while neither is known. -/
def ivEnd (s : State) (iv : Interval) : Nat :=
  let now := s.dev + 64
  let shut := if iv.close = 0 then now else iv.close
  match s.sch.line with
  | none => shut
  | some l =>
    if l.line ≠ iv.line ∨ s.sch.frameNo.val.toNat ≠ iv.frame then min shut (l.tls * 64)
    else
      let e := (lineShut s l).getD now
      match pointStartCycle s l (iv.idx + 1) with
      | some c => min e (c * 64)
      | none => e

/-- Counts an event for the ambient figures (R83) and keeps a covered one for the gate with the set that governs it (R88, R91). An event
after every window of the line so far is kept by its stamp: it counts when the interval turns out to reach it (R81). -/
def windowTest (c j stamp : Nat) (s : State) : State :=
  let x := ch s c
  let out := !inRegion s c stamp x.region
  let x := match s.amb.interval with
    | some iv =>
      if out && decide (iv.start ≤ stamp) && decide (stamp < ivEnd s iv) && !inOutage s c then
        (if stamp < iv.close then { x with ambA := x.ambA + 1 } else { x with ambLate := stamp :: x.ambLate })
      else x
    | none => x
  match covering s c stamp with
  | [] => cdCount c j (setCh s c x)
  | sh :: _ => setCh s c { x with pend := x.pend ++ [{ stamp := stamp, gen := sh.gen, out := out }] }

/-- Appends a stamp to a running capture of the channel (R79). -/
def capture (c stamp : Nat) (s : State) : State :=
  match s.capture with
  | some k =>
    if k.chan = c ∧ k.stamps.length < k.count ∧ s.dev < k.until_ then
      { s with capture := some { k with stamps := k.stamps ++ [stamp] } }
    else s
  | none => s

/-- A detector input crosses into the detect condition, its edge having passed a number of taps (R50, R52, R59, R308). -/
def detectorEvent (c passed : Nat) (s : State) : State :=
  let x := ch s c
  let j := rawCode (calCh s c).mask passed
  if 1023 < c ∨ detectorsRun s = false then s
  else
    let x' := { x with det := true, detSince := s.dev }
    if x.armed = false ∨ chEnabled s c = false ∨ inOutage s c then setCh s c x'
    else
      let fv := freeVal 256 s
      let s := fv.2
      let stamp := coarse s * 64 + fineCode (calCh s c) j fv.1
      let s := setCh s c { x' with
        armed := false, last := stamp, stamped := x.stamped + 1, frStamped := true
        recent := stamp :: x.recent.filter (fun q => decide (stamp < q + 4096)) }
      windowTest c j stamp (capture c stamp s)

/-- Re-arming (R50): the dead time has elapsed and the input has left the detect condition at this instant. The
disarmed span is kept for live time (R83). -/
def rearm (c : Nat) (s : State) : State :=
  let x := ch s c
  if 1023 < c ∨ detectorsRun s = false then s
  else
    let x := { x with det := false }
    if x.armed then setCh s c x
    else if s.dev < x.last + par s pChDeadTime c * 64 then setCh s c x
    else setCh s c { x with armed := true, offs := (x.last, s.dev) :: x.offs }

/-- Stuck high for 10 µs (R53): logged once per channel and frame. -/
def stuckHigh (c : Nat) (s : State) : State :=
  let x := ch s c
  if 1023 < c ∨ detectorsRun s = false ∨ stuckNow s c = false ∨ x.stuckFr then s
  else logEv 0x0104 (le 2 c) (setCh s c { x with stuckFr := true })

/-! ### The gate, the queue and shedding (R69 to R72, R88 to R91) -/

/-- Enabled kernel channels of `c` under the set of a generation (R52, R89, R91). -/
def kernelG (s : State) (g c : Nat) : List Nat := (setMap (genImg s g) c).nbr.filter (fun n => gPar s g pChEnable n == 1)

/-- Enabled kernel channels of `c` under the set in force. -/
def kernel (s : State) (c : Nat) : List Nat := kernelG s s.par.gen c

/-- Effective depth (R90) under the set of a generation. -/
def depthG (s : State) (g c : Nat) : Nat := min (gPar s g pCoincDepth (c / 16)) (1 + (kernelG s g c).length)

/-- Effective depth under the set in force. -/
def effDepth (s : State) (c : Nat) : Nat := depthG s s.par.gen c

/-- Coincidence count of an event at `te` (R89) under the set of a generation; a channel in an outage gives no events (R313). -/
def coincCount (s : State) (g c te : Nat) : Nat :=
  let tc := gPar s g pCoincWindow (c / 16) * 32
  1 + sumN ((kernelG s g c).map (fun n => if inOutage s n then 0 else
    ((ch s n).recent.filter (fun q => decide (q < te + tc) && decide (te < q + tc))).length))

/-- A point's shed count of 255 is reached: the channel's saturated points, CH_SHED_SATURATED at the first of a frame (R71, R72). -/
def shedSat (c : Nat) (s : State) : State :=
  let x := ch s c
  let s := setCh s c { x with satPoints := x.satPoints.add (2 ^ 32 - 1) 1, frSatLog := true }
  if x.frSatLog then s else logEv 0x0102 (le 2 c ++ le 4 s.sch.frameNo.val.toNat) s

/-- Sheds a covered event (R70 to R72): the point of its most recent covering shot, binned or not, and the channel's counters. -/
def shed (c te : Nat) (s : State) : State :=
  let x := ch s c
  let s := wrapEv x.shedTotal 1 0x0106 (le 2 c) (setCh s c { x with
    shedding := true, shedTotal := x.shedTotal.add 1, frShed := x.frShed.add (2 ^ 32 - 1) 1, lnShed := x.lnShed + 1 })
  match covering s c te with
  | [] => s
  | sh :: _ =>
    match (ch s c).pts.find? (fun p => p.frame == sh.frame && p.line == sh.line && p.point == sh.point) with
    | some p => (match p.page with
      | some k =>
        let g := page s k
        let s := setPage s k { g with d := { g.d with shed := min 255 (g.d.shed + 1) } }
        if g.d.shed = 254 then shedSat c s else s
      | none =>
        let y := ch s c
        let s := setCh s c { y with pts := y.pts.map (fun r =>
          if r.frame = p.frame ∧ r.line = p.line ∧ r.point = p.point then { r with shed := min 255 (r.shed + 1) } else r) }
        if p.shed = 254 then shedSat c s else s)
    | none => s

/-- A stamp as the 22-bit entry of the event queue (R61): C[15:0] and F. -/
def queueWord (te : Nat) : Nat := te % 2 ^ 22

/-- Queues a passed event, or sheds it: full queue starts shedding, occupancy of 4 or less ends it (R69, R70). -/
def enqueue (c te : Nat) (s : State) : State :=
  let x := ch s c
  if (if x.shedding then decide (4 < x.queue.length) else decide (8 ≤ x.queue.length)) then shed c te s
  else setCh s c { x with
    shedding := false, queue := x.queue ++ [queueWord te], queued := x.queued + 1, lnQueued := x.lnQueued + 1 }

/-- The gate's decision on the channel's oldest pending event, from the end of cycle C_e + ceil(m/2) + 1 on, under the set that governs
it (R91). An event counts in V_r, and in U_r when it passes, at its decision (R105). Log entry 96 (DESIGN CHOICE). -/
def coincidence (c : Nat) (s : State) : State :=
  let x := ch s c
  match x.pend with
  | [] => s
  | e :: rest =>
    let m := gPar s e.gen pCoincWindow (c / 16)
    if s.dev < (e.stamp / 64 + cdiv m 2 + 2) * 64 then s
    else
      let s' := setCh s c { x with pend := rest }
      let pass := decide (depthG s e.gen c ≤ coincCount s e.gen c e.stamp)
      let r := ambRod s' (c / 16)
      let s' := setAmbRod s' (c / 16) { r with
        rejects := r.rejects + b2n (!pass)
        v := r.v.add (2 ^ 32 - 1) (b2n e.out), u := r.u.add (2 ^ 32 - 1) (b2n (e.out && pass)) }
      if pass then enqueue c e.stamp s' else s'

/-! ### Rows -/

def execChmapWrite (t : Nat) (r : Req) (s : State) : Host.Outcome State Fault Refusal :=
  .next (command { op := 0x0110 } (fun p => decide (4 ≤ p.length) && p.length == 4 + 24 * fld p 2 2) chmapWriteBody t r s)

def execChmapRead (t : Nat) (r : Req) (s : State) : Host.Outcome State Fault Refusal :=
  .next (command { op := 0x0111 } (lenEq 8) chmapReadBody t r s)

def execChCountersRead (t : Nat) (r : Req) (s : State) : Host.Outcome State Fault Refusal :=
  .next (command { op := 0x0112 } (lenEq 4) chCountersBody t r s)

def execChEventCapture (t : Nat) (r : Req) (s : State) : Host.Outcome State Fault Refusal :=
  .next (command { op := 0x0113 } (lenEq 8) chCaptureBody t r s)

def execCaptureDone (t : Nat) (s : State) : Host.Outcome State Fault Refusal := .next (live t captureEnd s)

def execDetectorEvent (t chan passed : Nat) (s : State) : Host.Outcome State Fault Refusal :=
  .next (live t (detectorEvent chan passed) s)

def execRearm (t chan : Nat) (s : State) : Host.Outcome State Fault Refusal := .next (live t (rearm chan) s)

def execChStuckHigh (t chan : Nat) (s : State) : Host.Outcome State Fault Refusal := .next (live t (stuckHigh chan) s)

def execCoincidenceDecision (t chan : Nat) (s : State) : Host.Outcome State Fault Refusal :=
  .next (live t (coincidence chan) s)

end Sys2Proof.Machine
end

