-- ==== Sys2Proof/Machine/Ambient.lean ====
section
/-! DEFINITION. Machine/Ambient.lean: ambient intervals and figures (R81 to R87), adaptation (R94, R95), strangers and
the interference manager (R105 to R107), passport seeds (R101, R102, R110). -/

namespace Sys2Proof.Machine

/-! ### Live time and rates (R82 to R86) -/

/-- Whether a channel was armed at an instant: not inside a disarmed span, nor disarmed since its last event (R50). -/
def armedAt (x : Chan) (t : Nat) : Bool :=
  (x.armed || decide (t ≤ x.last)) && x.offs.all (fun p => decide (t ≤ p.1) || decide (p.2 ≤ t))

/-- L_c: T cycles from `c0` for `n` cycles whose start instant passes both tests of R83, those of a reselection outage left out (R313). -/
def liveCycles (s : State) (c : Nat) (x : Chan) : Nat → Nat → Nat
  | 0, _ => 0
  | n + 1, c0 =>
    b2n (armedAt x (c0 * 64) && !outageAt s c (c0 * 64) && !inRegion s c (c0 * 64) x.region) + liveCycles s c x n (c0 + 1)

/-- A_c and L_c of a channel over the open interval up to now; a disabled channel has L_c = 0. -/
def chanFigures (s : State) (iv : Interval) (c : Nat) : Nat × Nat :=
  let x := ch s c
  if chEnabled s c = false then (0, 0)
  else
    let c0 := cdiv iv.start 64
    (x.ambA + (x.ambLate.filter (fun q => decide (q < ivEnd s iv))).length, liveCycles s c x (cdiv (min s.dev (ivEnd s iv)) 64 - c0) c0)

/-- λ rounded to whole events/s, and D in Q8.8 saturating, over contributing channels (R85). Log entry 46 (DEDUCED). -/
def figures (l : List (Nat × Nat)) : Nat × Nat :=
  let cs := l.filter (fun p => decide (0 < p.2))
  let k := cs.length
  let a := sumN (cs.map (·.1))
  let t := sumN (cs.map (·.2))
  let lam := if t = 0 then 0 else rndN (a * 2000000000) t
  let prod := cs.foldl (fun m p => m * p.2) 1
  let ns := cs.map (fun p => p.1 * t * (prod / p.2))
  let sm := sumN ns
  let sq := sumN (ns.map (fun n => ((k * n : Int) - sm).natAbs ^ 2))
  let d := if k < 2 ∨ sm = 0 then 256 else min 65535 (rndN (256 * sq) (k * k * (k - 1) * prod * sm))
  (lam, d)

/-! ### Intervals -/

/-- Publishes a rod's figures of an interval (R86, R87): the deck's below AMB.MIN_COUNT; smoothed but at a line's first.
Log entry 46 (DEDUCED). -/
def publishRod (first : Bool) (own deck : List (Nat × Nat)) (r : Nat) (s : State) : State :=
  let mn := par0 s pAmbMinCount
  let fb := decide (sumN (own.map (·.1)) < mn)
  let lc := fb && decide (sumN (deck.map (·.1)) < mn)
  let f := if fb then figures deck else figures own
  let x := ambRod s r
  let a := par s pAmbSmoothShift r
  let lam := if first then f.1 else ((x.lam : Int) + asr ((f.1 : Int) - x.lam) a).toNat
  let d := if first then f.2 else ((x.disp : Int) + asr ((f.2 : Int) - x.disp) a).toNat
  irq (105 + r) <| setAmbRod s r { x with
    lam := lam % 2 ^ 32, disp := d % 2 ^ 16, fb := fb, lc := lc, fbFr := x.fbFr + b2n fb
    lamMax := max x.lamMax lam, lamSum := x.lamSum + lam, lamN := x.lamN + 1 }

/-- Whether an interval is one that the page's point spans, merged points included (R84): its indices lie from the page's first point to
the last one merged. -/
def spannedBy (g : Page) (frame line idx : Nat) : Bool :=
  g.d.frame == frame && (decide (g.d.line < line) || (g.d.line == line && decide (g.d.point ≤ idx)))
    && (decide (line < g.lastLine) || (g.lastLine == line && decide (idx ≤ g.lastPt)))

/-- Whether a finished interval's sums may still be asked for: it is one of the latest, or a page in use began at it or before. -/
def histNeeded (s : State) (c : Nat) (h : AmbHist) : Bool :=
  [2 * c, 2 * c + 1].any (fun k =>
    let g := page s k
    g.st != 0 && g.d.frame == h.frame && (decide (g.d.line < h.line) || (g.d.line == h.line && decide (g.d.point ≤ h.idx))))

/-- Ends the open interval: every rod publishes (R85 to R87), the channels' sums are kept for R84. -/
def publish (s : State) : State :=
  match s.amb.interval with
  | none => s
  | some iv =>
    let fs := (List.range 1024).map (chanFigures s iv)
    let s := (List.range 64).foldl (fun s r =>
      publishRod (iv.idx == 0) ((fs.drop (16 * r)).take 16) ((fs.drop (128 * (r / 8))).take 128) r s) s
    let mn := par0 s pAmbMinCount
    let s := (List.range 8).foldl (fun s d =>
      if sumN (((fs.drop (128 * d)).take 128).map (·.1)) < mn then
        { s with amb.lcDeck := tmod 0 s.amb.lcDeck d (· + 1) } else s) s
    let s := (List.range 1024).foldl (fun s c =>
      let f := fs.getD c (0, 0)
      let x := ch s c
      if x = {} ∧ f.2 = 0 then s else
      setCh s c { x with
        ambA := 0, ambLate := [], offs := x.offs.filter (fun p => decide (s.dev < p.2 + 2 ^ 22))
        hist := ({ frame := iv.frame, line := iv.line, idx := iv.idx, a := f.1, l := f.2 } ::
          (x.hist.take 8 ++ (x.hist.drop 8).filter (histNeeded s c))) }) s
    { s with amb.interval := none, amb.pubFrame := iv.frame, amb.pubIdx := iv.idx }

/-- The end of an interval (R81, R87): the next point start, or the close of the line's last range window, whichever comes first. -/
def ambientPublish (s : State) : State :=
  match s.amb.interval with
  | none => s
  | some iv => if ivEnd s iv ≤ s.dev ∨ s.sch.line = none ∧ iv.close = 0 then publish s else s

/-- A point start of the cell in force starts an interval: every channel's return region is set (R81, R82). One that comes after the
line's last range window has closed starts an empty interval. Log entry 126 (DESIGN CHOICE). -/
def intervalStart (s : State) : State :=
  match s.sch.line with
  | none => s
  | some l =>
    match pointStartCycle s l s.amb.nextIdx with
    | none => s
    | some c =>
      if coarse s < c then s
      else
        let s := publish s
        let s := s.ext.last.foldl (fun s p =>
          let reg := match p.2.find? (fun e => decide (e.done < s.dev)) with
            | some e => (e.rep ++ e.sup).map (· / 64)
            | none => []
          setCh s p.1 { ch s p.1 with region := reg }) s
        let cell := cellAt (lineCells (pvForce s) s.par.inForce.itin l.line) 0 0 0 ((coarse s - l.tls) / (8 * max 1 l.p))
        let s := match cell with
          | some (_, cl, _, _) =>
            let g := gateMask s.par.inForce.itin cl.gating
            (List.range 64).foldl (fun s r =>
              if (match g with | none => true | some m => decide (m / 2 ^ (16 * r) % 2 ^ 16 ≠ 0)) then
                let x := ambRod s r
                setAmbRod s r { x with cellN := max x.cellN cl.n, cellB := max x.cellB cl.b }
              else s) s
          | none => s
        { s with
          amb.interval := some { start := s.dev, frame := s.sch.frameNo.val.toNat, line := l.line, idx := s.amb.nextIdx, close := s.sch.lineClose }
          amb.nextIdx := s.amb.nextIdx + 1 }

/-! ### Ambient adaptation (R94, R95) -/

/-- The candidate settings for a base m, a candidate equal to its predecessor dropped (R94). -/
def candidates (mbase : Nat) : List (Nat × Nat) :=
  let c := [(1, mbase), (2, mbase), (3, mbase), (4, mbase), (4, max 1 (mbase / 2)), (4, max 1 (mbase / 4))]
  go c
where
  /-- Drops an entry equal to the one before it. -/
  go : List (Nat × Nat) → List (Nat × Nat)
    | a :: b :: l => if a = b then go (b :: l) else a :: go (b :: l)
    | l => l

/-- Mapped channels of a rod. -/
def rodMapped (s : State) (r : Nat) : List Nat := ((List.range 16).map (16 * r + ·)).filter (chMapped s)

/-- Whether pred(k, m) ≤ target × num / den for the rod's figures (R94). -/
def predAtMost (n b lam kn : Nat) (km : Nat × Nat) (target num den : Nat) : Bool :=
  decide (n * 2 ^ b * lam * ppass km.1 (kn * lam * km.2) 2000000000 * 4096 * den ≤ target * num * 128000000000 * fxOne)

/-- The rule of R94 for one rod: the new candidate index. -/
def adaptIdx (s : State) (r : Nat) : Nat :=
  let x := ambRod s r
  let cs := candidates (par s pCoincTcBase r)
  let kn := maxL ((rodMapped s r).map (fun c => (kernel s c).length))
  let tg := par0 s pCoincAdaptTarget
  let need := (cs.findIdx? (fun km => predAtMost x.cellN x.cellB x.lamMax kn km tg 1 1)).getD (cs.length - 1)
  if x.cur < need then need
  else if need < x.cur ∧ predAtMost x.cellN x.cellB x.lamMax kn (cs.getD (x.cur - 1) (1, 1)) tg 1 2 then x.cur - 1
  else x.cur

/-- Seals the service set for the next boundary (R92): it is judged when the FBE time of the running or next frame is fixed.
Log entries 26 (DEDUCED), 45 (DEDUCED). -/
def svcSeal (v : SvcSealed) (s : State) : State :=
  { s with par.awaiting := s.par.awaiting ++ [{ mb := none, tag := 0, at_ := s.dev, host := none, svc := some v }] }

/-- Puts parameter values into a service set. -/
def SvcSealed.put (v : SvcSealed) (l : List (Nat × Nat)) : SvcSealed :=
  { v with vals := l.foldl (fun m p => tput none m p.1 (some p.2)) v.vals }

/-- The adaptation service for one rod (R94, R95): the candidate from the frame just ended, whose state is `o`, goes into the boundary's
service set. `f` is the frame just ended. When COINC.TC_BASE was lowered so that cur lies beyond the shorter list of candidates, the
setting is (1, 1), the gate off: the specification says nothing of it. Log entry 98 (DESIGN CHOICE). -/
def adaptRod (o : State) (f r : Nat) (q : SvcSealed × State) : SvcSealed × State :=
  let s := q.2
  let x := ambRod o r
  if x.cellN = 0 ∨ x.lamN = 0 then q
  else
    let i := adaptIdx o r
    let km := (candidates (par s pCoincTcBase r)).getD i (1, 1)
    let s := setAmbRod s r { ambRod s r with cur := i }
    let ok := svcNow s (pKey pCoincDepth r) (par s pCoincDepth r)
    let om := svcNow s (pKey pCoincWindow r) (par s pCoincWindow r)
    let v := q.1.put [(pKey pCoincWindow r, km.2), (pKey pCoincDepth r, km.1)]
    if ok = km.1 ∧ om = km.2 then (v, s)
    else (v, logEv 0x0203 (le 1 r ++ le 1 ok ++ le 1 km.1 ++ le 1 om ++ le 1 km.2 ++ le 4 (f + 2)) s)
where
  /-- A service's latest value of a key: its newest waiting set, or the value in force. -/
  svcNow (s : State) (key dflt : Nat) : Nat :=
    match s.par.svcLate.bind (fun v => tget none v.vals key) with
    | some v => v
    | none => (s.par.svcTimely.bind (fun v => tget none v.vals key)).getD dflt

/-- R94 runs at every FBE while COINC.ADAPT_MODE is automatic; a twin's standby seals nothing of its own (R413). Log entry 45 (DEDUCED). -/
def adaptEval (o : State) (f : Nat) (q : SvcSealed × State) : SvcSealed × State :=
  if par0 q.2 pCoincAdaptMode ≠ 0 ∨ standby q.2 then q else (List.range 64).foldl (fun q r => adaptRod o f r q) q

/-! ### Strangers (R105 to R107) -/

/-- Whether a rod is flagged with strangers in the frame just ended (R106). A rod without a mapped channel or without a published
figure in the frame has no mean: the model takes the mean 0. Log entry 99 (DESIGN CHOICE). -/
def stranger (s : State) (r : Nat) : Bool :=
  let x := ambRod s r
  let k := par s pCoincDepth r
  let mp := rodMapped s r
  let kn := sumN (mp.map (fun c => (kernel s c).length))
  let cnt := mp.length
  decide (2 ≤ k) && decide (par0 s pStrangerMinCount ≤ x.u.val)
    && decide (par0 s pStrangerRatio * x.v.val *
        (if cnt = 0 ∨ x.lamN = 0 then ppass k 0 1 else ppass k (kn * x.lamSum * par s pCoincWindow r) (cnt * x.lamN * 2000000000))
        ≤ x.u.val * 16 * fxOne)

/-- The rods flagged with strangers, by the settings that governed the frame just ended (R106). Log entry 45 (DEDUCED). -/
def strangers (s : State) : List Nat := (List.range 64).filter (stranger s)

/-- STRANGER_SEEN and, in automatic mode, the family switch for the set of FBE f + 1 (R106, R107). A switch lies within the last DWELL
frames of frame f while the first frame it governs plus DWELL is above f. Log entries 45 (DEDUCED), 100 (DESIGN CHOICE). -/
def strangerEval (fl : List Nat) (f : Nat) (q : SvcSealed × State) : SvcSealed × State :=
  let s := q.2
  let s := if fl = [] then s else logEv 0x0205 (le 8 (bitsOf fl) ++ le 4 f) s
  let dwellOk := match s.amb.lastSwitch with
    | none => true
    | some g => decide (g + par0 s pIfmDwell ≤ f)
  if par0 s pIfmMode ≠ 0 ∨ standby s ∨ fl.length < par0 s pIfmMinRods ∨ dwellOk = false then (q.1, s)
  else
    let o := par0 s pPassportFamily
    let n := (o + 5) % 16
    (q.1.put [(pKey pPassportFamily 0, n)], logEv 0x0206 (le 1 o ++ le 1 n ++ le 4 (f + 2)) s)

/-! ### Seeds (R101, R102) -/

/-- Takes N and SALT, logging a change of source or of ring values (R102, R111), and derives the seeds of frame `f`. Log entry 12 (DEDUCED). -/
def deriveSeeds (f : Nat) (s : State) : State :=
  let src := seedSource s
  let chg := decide (s.amb.seedRing ≠ src.1) || (src.1 && (decide (s.amb.seedN ≠ src.2.1) || decide (s.amb.seedSalt ≠ src.2.2)))
  let s := { s with amb.seedRing := src.1, amb.seedN := src.2.1, amb.seedSalt := src.2.2, amb.seeded := true }
  let fam := par0 s pPassportFamily
  let s := { s with sch.strs := (List.range 16).foldl (fun m i =>
    tmod {} m i (fun x =>
      let q := seeds src.2.1 fam src.2.2 i f
      { x with order := q.1, dither := q.2, perm := [] })) s.sch.strs }
  if chg then seedSourceEv f s else s

/-! ### Commands -/

/-- AMBIENT_READ (R109). -/
def ambientReadBody (_op : Nat) (r : Req) (s : State) : CmdOut :=
  let d := fld r.payload 0 1
  let head := le 1 d ++ zeros 3 ++ le 4 s.amb.pubFrame ++ le 2 s.amb.pubIdx ++ le 2 0
  if 7 < d ∨ allZero (r.payload.drop 1) = false then
    refuse rBadParam (.lit head :: (List.range 8).flatMap (fun _ => [.free 6, .below 2 4, .free 8])) s
  else
    .done rOK (head ++ (List.range 8).flatMap (fun i =>
        let x := ambRod s (8 * d + i)
        le 4 x.lam ++ le 2 x.disp ++ le 2 (b2n x.fb + 2 * b2n x.lc) ++ le 8 x.rejects)) s

/-- N and SALT in force: those latched at the last FBE or idle commit, before any those of the source in use (R101, R102, R110). -/
def seedInForce (s : State) : Nat × Nat := if s.amb.seeded then (s.amb.seedN, s.amb.seedSalt) else (seedSource s).2

/-- PASSPORT_READ (R110): computed by R101 from N, F and SALT in force; the string is judged before the reserved bytes (R454). -/
def passportReadBody (_op : Nat) (r : Req) (s : State) : CmdOut :=
  let i := fld r.payload 0 1
  let f := fld r.payload 4 4
  let f := if f = 0xFFFFFFFF then s.sch.frameNo.val.toNat else f
  let fam := par0 s pPassportFamily
  let n := seedInForce s
  let head := le 1 i ++ le 1 fam ++ le 1 n.1 ++ le 1 0 ++ le 4 f ++ le 2 n.2 ++ le 2 0
  let seed : RField := .below 4 (2 ^ 24)
  if 15 < i then refuse rRange [.lit head, seed, seed, seed] s
  else if allZero ((r.payload.drop 1).take 3) = false then refuse rBadParam [.lit head, seed, seed, seed] s
  else
    let q := seeds n.1 fam n.2 i f
    .done rOK (head ++ le 4 (seedX n.1 fam i f) ++ le 4 q.1 ++ le 4 q.2) s

/-! ### Rows -/

def execAmbientRead (t : Nat) (r : Req) (s : State) : Host.Outcome State Fault Refusal :=
  .next (command { op := 0x0210 } (lenEq 4) ambientReadBody t r s)

def execPassportRead (t : Nat) (r : Req) (s : State) : Host.Outcome State Fault Refusal :=
  .next (command { op := 0x0211 } (lenEq 8) passportReadBody t r s)

def execAmbientIntervalStart (t : Nat) (s : State) : Host.Outcome State Fault Refusal :=
  .next (live t intervalStart s)

def execAmbientPublish (t : Nat) (s : State) : Host.Outcome State Fault Refusal :=
  .next (live t ambientPublish s)

end Sys2Proof.Machine
end

