-- ==== Sys2Proof/Machine/TallyEng.lean ====
section
/-! DEFINITION. Machine/TallyEng.lean: pages, points, increments, the scout, carry-forward and stacking (spec 04). -/

namespace Sys2Proof.Machine

/-! ### Bins (R115, R116, R118) -/

/-- Nb: coarse bins inside the range window (R115). -/
def coarseBins (w b o : Nat) : Nat := min 2048 (cdiv (w * 64) (2 ^ b) - o)

/-- Packs counts of `width` bits, `n` of them, little-endian at bit level (R118). -/
def packBits (width : Nat) (get : Nat → Nat) : Nat → Nat
  | 0 => 0
  | n + 1 => packBits width get n + get n * 2 ^ (width * n)

/-- First byte of a page in its rod's 112,640-byte SRAM (R118): page key 2c + p, local channel index c mod 16. -/
def pageBase (k : Nat) : Nat := k % 32 * 3520

/-- First byte of a page's fine window there (R118). -/
def fineBase (k w : Nat) : Nat := pageBase k + 3072 + 112 * w

/-- The 3,072 bytes of a page's coarse bins (R118). -/
def coarseBytes (p : Page) : List Byte := le 3072 (packBits 12 (tget 0 p.coarse) 2048)

/-- The 112 bytes of a page's fine window (R118). -/
def fineBytes (p : Page) (w : Nat) : List Byte := le 112 (packBits 14 (fun j => tget 0 p.fine (64 * w + j)) 64)

/-- The 3,520 bytes of a page (R118). -/
def pageBytes (p : Page) : List Byte := coarseBytes p ++ (List.range 4).flatMap (fineBytes p)

/-- A rod's SRAM (R118): page p of the channel with local index i at byte `pageBase`. -/
def rodSram (s : State) (rod : Nat) : List Byte := (List.range 32).flatMap (fun j => pageBytes (page s (32 * rod + j)))

/-- The window and bin of Δ among placed starts (R116). -/
def fineBin (f delta : Nat) : List Nat → Nat → Option Nat
  | [], _ => none
  | st :: l, w =>
    if st ≤ delta ∧ delta < st + 64 * 2 ^ f then some (64 * w + (delta - st) / 2 ^ f) else fineBin f delta l (w + 1)

/-- Raises a bin up to its maximum; true when it was already there (R131). -/
def raise (mx : Nat) (m : Tab Nat) (i : Nat) : Tab Nat × Bool :=
  if mx ≤ tget 0 m i then (m, true) else (tput 0 m i (tget 0 m i + 1), false)

/-- Marks a page saturated; the first time counts it (R131, R139). -/
def markSat (k : Nat) (s : State) : State :=
  let g := page s k
  if g.d.sat then s
  else
    let r := k / 32
    let x := talRod s r
    wrapEv x.satPages 1 0x0306 (le 1 r ++ le 1 3)
      (setTalRod (setPage s k { g with d := { g.d with sat := true } }) r { x with satPages := x.satPages.add 1, frSat := x.frSat + 1 })

/-- The coarse part of an increment (R112, R115). -/
def coarsePart (k delta : Nat) (s : State) : State :=
  let g := page s k
  let i := delta / 2 ^ g.d.b
  if i < g.d.o ∨ g.d.o + 2047 < i then s
  else
    let r := raise 4095 g.coarse (i - g.d.o)
    let s := setPage s k { g with coarse := r.1 }
    if r.2 then markSat k s else s

/-- The fine part of an increment (R112, R116). -/
def finePart (k delta : Nat) (s : State) : State :=
  let g := page s k
  match fineBin g.d.f delta g.d.win 0 with
  | none => s
  | some j =>
    let r := raise 16383 g.fine j
    let s := setPage s k { g with fine := r.1 }
    if r.2 then markSat k s else s

/-- One attribution (R112, R126, R128): its coarse part, and its fine part when the shot fills the fine windows; held
while the page's scout run is due or running. -/
def increment (c : Nat) (sh : Shot) (te : Nat) (s : State) : State :=
  let rod := c / 16
  let x := talRod s rod
  let s := setTalRod s rod { x with incs := x.incs + 1 }
  let delta := te - useStamp s sh
  match (ch s c).pts.find? (fun p => p.frame == sh.frame && p.line == sh.line && p.point == sh.point) with
  | none => s
  | some p =>
    match p.page with
    | none => s
    | some k =>
      let s := coarsePart k delta s
      let g := page s k
      let fills := decide (g.d.zoom ≠ 2) && (p.merged || decide (g.d.zoom = 1) || decide (g.seff < sh.nth))
      if fills = false then s
      else if g.scout = 1 ∨ g.scout = 2 then
        let x := talRod s rod
        setTalRod s rod { x with hold := x.hold ++ [{ page := k, delta := delta }] }
      else finePart k delta s

/-- The full coarse time and fine code of a 22-bit entry (R64): the latest one at or before `now` that has its C[15:0] and F. The engine
takes entries made before the instant it serves them, up to 65,536 cycles old. -/
def rebuild (now w : Nat) : Nat := now - (now + 2 ^ 22 - w % 2 ^ 22) % 2 ^ 22

/-- The first channel of a rod with a queued event, from local index `i` on, round-robin (R15). -/
def nextQueue (s : State) (rod i : Nat) : Option Nat :=
  ((List.range 16).map (fun j => 16 * rod + (i + j) % 16)).find? (fun c => decide ((ch s c).queue ≠ []))

/-- The engine takes the next queued event of its rod and applies its attributions (R15, R64 to R67, R112). -/
def tallyService (rod : Nat) (s : State) : State :=
  if 63 < rod then s
  else
    let x := talRod s rod
    match nextQueue s rod x.rr with
    | none => s
    | some c =>
      match (ch s c).queue with
      | [] => s
      | w :: rest =>
        let s := setTalRod (setCh s c { ch s c with queue := rest }) rod { x with rr := (c + 1) % 16 }
        let te := rebuild (s.dev - 1) w
        let cov := covering s c te
        let att := attributed s c te
        let s := irqOpen (25 + rod) (att.foldl (fun s sh => increment c sh te s) s)
        if att.length < cov.length then
          let y := ch s c
          wrapEv y.attrOver 1 0x0107 (le 2 c)
            (setCh s c { y with attrOver := y.attrOver.add 1, frAttr := y.frAttr.add (2 ^ 32 - 1) 1 })
        else s

/-! ### Points (R120 to R125, R129, R130) -/

/-- Placed starts of carry-forward in record order, overlaps skipped, at most four (R129). -/
def placeAll (f : Nat) : List Nat → List Nat → List Nat
  | [], acc => acc
  | st :: l, acc =>
    if acc.length < 4 ∧ acc.all (fun a => decide (a + 64 * 2 ^ f ≤ st) || decide (st + 64 * 2 ^ f ≤ a)) then
      placeAll f l (acc ++ [st])
    else placeAll f l acc

/-- Carry-forward start for a returned Δ_R (R129); W in coarse cycles. -/
def carryStart (w f dr : Nat) : Nat := min (dr / 2 ^ f * 2 ^ f - 32 * 2 ^ f) (w * 64 - 64 * 2 ^ f)

/-- The channel's latest point whose extraction completed before now (R82, R129). -/
def lastPoint (s : State) (c : Nat) : Option LastPt :=
  (tget [] s.ext.last c).find? (fun e => decide (e.done < s.dev))

/-- Opens a page for a point (R121, R122, R126, R129, R130). -/
def openPage (c : Nat) (sh : Shot) (s : State) : Page :=
  let w := gPar s sh.gen pChRangeWindow 0
  let carried := match lastPoint s c with
    | some e => if e.frame = sh.frame ∧ e.line = sh.line then e.rep else []
    | none => []
  let fb := decide (sh.zoom = 1) && carried.isEmpty
  let zoom := if fb then (if gPar s sh.gen pTallyCarryFallback 0 = 0 then 0 else 2) else sh.zoom
  let seff := if zoom = 0 then min (gPar s sh.gen pTallySurveyShots 0) (sh.n - 1) else 0
  let win := if zoom = 1 then placeAll sh.f (carried.map (carryStart w sh.f)) [] else []
  { st := 1
    d := { gen := sh.gen, frame := sh.frame, line := sh.line, point := sh.point, first := sh.stamp, last := sh.stamp
           b := sh.b, f := sh.f, o := sh.o, zoom := zoom, carryFb := fb, win := win }
    raw := sh.raw, seff := seff, lastPt := sh.point, lastLine := sh.line, points := 1, cellKey := sh.line * 65536 + sh.cell }

/-- Adds the point's first shot to its page. -/
def firstShot (k : Nat) (merged : Bool) (sh : Shot) (s : State) : State :=
  let g := page s k
  let fills := if merged then decide (g.d.zoom ≠ 2)
    else if g.d.zoom = 1 then true else if g.d.zoom = 2 then false else decide (g.seff < sh.nth)
  setPage s k { g with
    d := { g.d with shots := min 255 (g.d.shots + 1), last := sh.stamp, fineShots := min 255 (g.d.fineShots + b2n fills) } }

/-- The shots lighting a channel whose points began after every point it has known, oldest first. -/
def newShots (s : State) (c : Nat) : List Shot :=
  (s.sch.shots.filter (fun sh => litBy s c sh && !inOutage s c && decide ((ch s c).ptNew ≤ sh.first))).reverse

/-- Records a TALLY_SHOTS_DROPPED once per channel and frame (R125): frame `f` is that of the dropped shots. -/
def dropLog (c cause f : Nat) (s : State) : State :=
  let x := ch s c
  if x.dropLogs.contains f then s else logEv 0x0302 (le 2 c ++ le 1 cause ++ le 4 f) (setCh s c { x with dropLogs := f :: x.dropLogs })

/-- H cycle of the present instant (1 ns). Log entry 10 (DESIGN CHOICE). -/
def hCycle (s : State) : Nat := s.dev / 128

/-- Page groups of a rod waiting at its extractor (R144), the group forming in this H cycle left out. -/
def groupsWaiting (s : State) (rod : Nat) : Nat :=
  ((extDeck s (rod / 8)).queue.filter (fun g => g.rod == rod && !(g.at_ == hCycle s))).length

/-- The group condition of R123 for a page closing now. -/
def groupFree (s : State) (rod : Nat) : Bool := decide (groupsWaiting s rod < 4)

/-- The other page of a page's channel. -/
def otherPage (k : Nat) : Nat := if k % 2 = 0 then k + 1 else k - 1

/-- Whether page `o` is older than page `k`: its point ended first, or both ended at one instant and its point began first (R123). -/
def olderPage (s : State) (o k : Nat) : Bool :=
  let a := page s o
  let b := page s k
  decide (a.endedAt < b.endedAt) || (a.endedAt == b.endedAt && decide (a.d.first < b.d.first))

/-- The other conditions of R123: the channel's other page is not CLOSED, no older page of it is HELD. -/
def pageFree (s : State) (k : Nat) : Bool :=
  let o := otherPage k
  decide ((page s o).st ≠ 3) && !(decide ((page s o).st = 2) && olderPage s o k)

/-- Whether a page is HELD by the four-group condition alone (R17). -/
def groupHeld (s : State) (k : Nat) : Bool := decide ((page s k).st = 2) && pageFree s k && !groupFree s (k / 32)

/-- The page of a channel's most recent point (R122). Log entry 128 (DESIGN CHOICE). -/
def latestPage (x : Chan) : Option Nat := (x.pts.find? (fun p => p.page.isSome)).bind (·.page)

/-- The page a point opens: a FREE one, but none while the channel's latest page is HELD by the four-group limit, since its point
goes on there as if no page were free (R17, R43, R122). Log entry 102 (DEDUCED). -/
def openable (s : State) (c : Nat) : Option Nat :=
  if (match latestPage (ch s c) with | some k => groupHeld s k | none => false) then none
  else [2 * c, 2 * c + 1].find? (fun k => (page s k).st == 0)

/-- The first fire stamp of a point on a channel (R17, R122): open a page, merge, or leave the point unbinned. -/
def pointStart (c : Nat) (s : State) : State :=
  let x := ch s c
  match newShots s c with
  | [] => s
  | sh :: rest =>
    if sh.nth ≠ 1 then s
    else
      let x := { x with ptNew := sh.first + 1 }
      let mk := fun (pg : Option Nat) (m : Bool) (cause : Nat) =>
        ({ frame := sh.frame, line := sh.line, point := sh.point, page := pg, merged := m, shots := 1,
           first := sh.stamp, last := sh.stamp, cause := cause, ended := false, gen := sh.gen, cell := sh.cell } : PtRef)
      let extra := rest.filter (fun r => r.frame == sh.frame && r.line == sh.line && r.point == sh.point)
      let fin := fun (s : State) => extra.foldl (fun s r => countShot r c s) s
      match openable s c with
      | some k =>
        let s := setPage s k (openPage c sh s)
        let s := firstShot k false sh s
        fin (setCh s c { x with pts := mk (some k) false 0 :: x.pts })
      | none =>
        match latestPage x with
        | none => fin (dropLog c 1 sh.frame (setCh s c { x with pts := mk none false 1 :: x.pts }))
        | some k =>
          let g := page s k
          let same := decide (g.st = 1 ∨ g.st = 2) && decide (g.d.frame = sh.frame) && decide (g.d.gen = sh.gen)
            && decide (g.d.b = sh.b) && decide (g.d.f = sh.f) && decide (g.d.o = sh.o)
          if same ∧ g.d.shots + sh.n ≤ 255 then
            let s := setPage s k { g with
              st := 1, d := { g.d with merged := true }, lastPt := sh.point, lastLine := sh.line, points := g.points + 1 }
            let s := firstShot k true sh s
            let r := talRod s (c / 16)
            let s := wrapEv r.mergedC 1 0x0306 (le 1 (c / 16) ++ le 1 1)
              (setTalRod s (c / 16) { r with mergedC := r.mergedC.add 1, frMerged := r.frMerged + 1 })
            fin (setCh s c { x with pts := mk (some k) true 0 :: x.pts })
          else
            let cause := if same then 2 else 1
            fin (dropLog c cause sh.frame (setCh s c { x with pts := mk none false cause :: x.pts }))

/-! ### Admission to stacking (R132 to R135) -/

/-- Whether a stack entry is that of a page's point. -/
def stackKey (c : Nat) (d : Desc) (e : StackEnt) : Bool := e.chan == c && e.line == d.line && e.point == d.point

/-- The entry a contribution adds to: that of its point, of the running stack unless the contribution starts a stack. -/
def stackEntry (s : State) (c : Nat) (d : Desc) : Option StackEnt :=
  let dd := gPar s d.gen pTallyStackDepth 0
  (s.tal.stack.find? (stackKey c d)).filter (fun e => decide (d.frame % dd = 0) || decide (e.first = d.frame - d.frame % dd))

/-- Bytes of the stack store in use or allocated to contributions whose read is still due. -/
def stackUsed (s : State) : Nat := (s.tal.stack.length + (s.tal.pages.filter (fun p => p.2.newEnt)).length) * 1040

/-- Whether frame `f` lies before the one stacking resumes at (R136); `tal.resume` is cleared once no older frame's page is left. -/
def stackWaits (s : State) (f : Nat) : Bool := match s.tal.resume with | some q => decide (sdiff32 f q < 0) | none => false

/-- A contribution's refusal (R134, R135). -/
def stackRefuse (deck cls : Nat) (s : State) : State :=
  let x := talDeck s deck
  setTalDeck s deck (if cls = 0 then { x with refused0 := x.refused0 + 1, first0 := if x.refused0 = 0 then s.dev else x.first0 }
    else { x with refused1 := x.refused1 + 1, first1 := if x.refused1 = 0 then s.dev else x.first1 })

/-- Admits or refuses a page's contribution as the page becomes CLOSED: contributions are judged in that order, against the allowance of the
frame in which the page closes (R134, R135). A refused one has no stacking read. A contribution outside a start frame whose entry does not
exist has nothing to act on: it is neither charged, admitted nor refused. A full store's refusal (class 1) refuses that contribution alone.
Log entries 104 (DESIGN CHOICE), 105 (DESIGN CHOICE), 127 (DESIGN CHOICE). -/
def stackAdmit (k : Nat) (s : State) : State :=
  let g := page s k
  let c := k / 2
  let deck := c / 128
  let x := talDeck s deck
  let lead := decide (g.d.frame % gPar s g.d.gen pTallyStackDepth 0 = 0)
  let old := stackEntry s c g.d
  if gPar s g.d.gen pTallyStackMask c ≠ 1 ∨ stackWaits s g.d.frame = true then s
  else if lead = false ∧ old = none then s
  else if 0 < x.refused0 ∨ x.allow < x.charged + 2080 then stackRefuse deck 0 s
  else if lead ∧ old = none ∧ s.mem.stackMB * 1048576 < stackUsed s + 1040 then stackRefuse deck 1 s
  else setPage (setTalDeck s deck { x with charged := x.charged + 2080, admitted := x.admitted + 1 }) k
    { g with stackDue := true, newEnt := lead && old.isNone }

/-! ### Closing (R16, R17, R123, R124) -/

/-- Makes a page CLOSED: its stacking contribution is judged, and it joins the group of its H cycle at the deck extractor (R16, R123, R134). -/
def closePage (k : Nat) (s : State) : State :=
  let rod := k / 32
  let d := rod / 8
  let g := page s k
  let s := stackAdmit k (setPage s k { g with st := 3, slotEnd := none })
  let r := talRod s rod
  let s := setTalRod s rod { r with closed := r.closed + 1 }
  let e := extDeck s d
  let q := if e.queue.any (fun y => y.rod == rod && y.at_ == hCycle s)
    then e.queue.map (fun y => if y.rod == rod && y.at_ == hCycle s then { y with pages := insertBy id k y.pages } else y)
    else e.queue ++ [{ rod := rod, at_ := hCycle s, pages := [k] }]
  let n := (q.filter (fun y => y.rod == rod)).length
  let s := setExtDeck s d { e with queue := q, peak := max e.peak (min 4 n) }
  if 4 ≤ n then { s with ext.frLimit := s.ext.frLimit ||| 2 ^ rod } else s

/-- A page at its end: CLOSED when the conditions of R123 hold, else HELD; a page HELD only by the four-group condition is
counted (R172). -/
def endPage (k : Nat) (s : State) : State :=
  let g := page s k
  let s := setPage s k { g with endedAt := s.dev }
  if pageFree s k = false then setPage s k { page s k with st := 2 }
  else if groupFree s (k / 32) then closePage k s
  else
    let d := k / 256
    let e := extDeck s d
    wrapEv e.holds 1 0x0405 (le 1 d ++ le 1 3)
      { setExtDeck (setPage s k { page s k with st := 2 }) d { e with holds := e.holds.add 1 } with
        ext.frHolds := s.ext.frHolds + 1 }

/-- First cycle and last cycle + 1 of a point of a line, with its cell. -/
def pointCycles : List Cell → Nat → Nat → Option (Nat × Nat × Cell)
  | [], _, _ => none
  | c :: cs, i, cyc => if i < c.k then some (cyc + i * c.n, cyc + (i + 1) * c.n, c) else pointCycles cs (i - c.k) (cyc + c.k * c.n)

/-- Whether emitter `e` of a string may still fire in the cycles `a` to `z` − 1: its slot of the present cycle is still to come, or a
later cycle is not skipped by the rate cap in force (R96, R197). Log entry 103 (DEDUCED). -/
def emitterDue (s : State) (x : Strng) (e a z : Nat) : Bool :=
  let cyc := x.nextSlot / 8
  !s.sch.turnStop && (decide (x.nextSlot % 8 ≠ 0) && decide (a ≤ cyc) && decide (cyc < z) && decide (cyc % s.sch.rdiv = 0)
      && decide (x.nextSlot % 8 ≤ x.perm.idxOf e)
    || decide (cdiv (max a (cdiv x.nextSlot 8)) s.sch.rdiv * s.sch.rdiv < z))

/-- Whether a point can get no further shot on its channel (R120): no slot of the channel's emitter is still to fire in the point's
cycles, nor is an edge placed there waiting. Log entry 103 (DEDUCED). -/
def pointOver (s : State) (c : Nat) (p : PtRef) : Bool :=
  match s.sch.line with
  | none => true
  | some l =>
    if l.line ≠ p.line ∨ s.sch.frameNo.val.toNat ≠ p.frame then true
    else
      match pointCycles (lineCells (pvForce s) s.par.inForce.itin l.line) p.point 0 with
      | none => true
      | some (a, z, cell) =>
        let m := setMap (genImg s p.gen) c
        let x := strng s m.str
        !(bit (cell.masks.getD m.str 0) m.em && emitterDue s x m.em a z)
          && (match x.placed with
              | some q => decide (q.em ≠ m.em) || decide (q.slot / 8 < a) || decide (z ≤ q.slot / 8) || !shotDue s m.str
              | none => true)

/-- Whether a page's scout run and held fine parts are done (R128). -/
def scoutDone (s : State) (k : Nat) : Bool :=
  let g := page s k
  g.scout ≠ 1 && g.scout ≠ 2 && (talRod s (k / 32)).hold.all (fun h => !(h.page == k))

/-- Range window W in ticks of the set of a generation (R62, R137). -/
def genWin (s : State) (g : Nat) : Nat := gPar s g pChRangeWindow 0 * 64

/-- The oldest point of a channel that ends now: its last window closed, no shot to come, its scout run done. -/
def endedPoint (s : State) (c : Nat) : Option PtRef :=
  (ch s c).pts.reverse.find? (fun p => !p.ended && decide (p.last + genWin s p.gen ≤ s.dev) && pointOver s c p
    && (match p.page with | some k => scoutDone s k | none => true))

/-- Keeps for the planner where a point of the running frame was (R204): the channel's row and the azimuth code in the middle of the
point's first and last shot, for the pair of its cell and its string. -/
def planMark (c : Nat) (s : State) (p : PtRef) : State :=
  let m := setMap (genImg s p.gen) c
  let q := (azimuthAt s p.gen ((p.first + p.last) / 2), m.row)
  let key := (p.line * 65536 + p.cell) * 16 + m.str
  let x := tget {} s.sch.planStat key
  if p.frame = s.sch.frameNo.val.toNat ∧ x.pts.contains q = false then
    { s with sch.planStat := tput {} s.sch.planStat key { x with pts := q :: x.pts } }
  else s

/-- A point ends (R120, R123, R125, R128): the window of its last fired shot has closed. -/
def pointEnd (c : Nat) (s : State) : State :=
  let x := ch s c
  match endedPoint s c with
  | none => s
  | some p =>
    let s := planMark c s p
    let same := fun (r : PtRef) => r.frame == p.frame && r.line == p.line && r.point == p.point
    match p.page with
    | none =>
      let s := setCh s c { x with pts := x.pts.filter (fun r => !same r) }
      let r := talRod s (c / 16)
      let s := wrapEv r.dropped p.shots 0x0306 (le 1 (c / 16) ++ le 1 2)
        (setTalRod s (c / 16) { r with dropped := r.dropped.add p.shots })
      gap 2 p.cause c p.first (p.last + genWin s p.gen) p.shots s
    | some k =>
      let s := setCh s c { x with pts := x.pts.map (fun r => if same r then { r with ended := true } else r) }
      if (ch s c).pts.any (fun r => r.page == some k && !r.ended) then s else endPage k s

/-- A channel's oldest HELD page. -/
def heldPage (s : State) (c : Nat) : Option Nat :=
  [2 * c, 2 * c + 1].find? (fun k => decide ((page s k).st = 2) && !(decide ((page s (otherPage k)).st = 2) && olderPage s (otherPage k) k))

/-- A HELD page closes once its three conditions hold (R123): the channel's oldest HELD page. -/
def pageClose (c : Nat) (s : State) : State :=
  match heldPage s c with
  | none => s
  | some k => if pageFree s k && groupFree s (k / 32) then closePage k s else s

/-! ### The scout (R127, R128) -/

/-- The scout's threshold (R127): max(SCOUT_MIN, ceil(μ + K r)), r the least multiple of 1/16 with r ≥ √μ, μ = Σ/Nb. -/
def scoutThreshold (smin kq sum nb : Nat) : Nat :=
  let r16 := go 16 0 (256 * sum) nb
  max smin (cdiv (256 * sum + kq * r16 * nb) (256 * nb))
where
  /-- Least v with v² nb ≥ 256 Σ, that is 16 √μ rounded up, by binary search over 16 bits. -/
  go : Nat → Nat → Nat → Nat → Nat
    | 0, v, x, nb => if v * v * nb < x then v + 1 else v
    | n + 1, v, x, nb => if (v + 2 ^ n) * (v + 2 ^ n) * nb < x then go n (v + 2 ^ n) x nb else go n v x nb

/-- Window start for a coarse bin (R127). -/
def scoutPlace (w b f o i : Nat) : Nat :=
  min ((i + o) * 2 ^ b + 2 ^ (b - 1) - 32 * 2 ^ f) (w * 64 - 64 * 2 ^ f)

/-- The window starts a scout run places (R127). Log entry 42 (DEDUCED). -/
def scoutWindows (w nb smin kq : Nat) (g : Page) : List Nat :=
  let h := fun i => if i < nb then tget 0 g.coarse i else 0
  let idx := (g.coarse.map (·.1)).filter (fun i => decide (i < nb))
  let sum := sumN (idx.map h)
  let t := scoutThreshold smin kq sum nb
  let cand := idx.filter (fun i => decide (t ≤ h i) && (decide (i = 0) && decide (0 < h i) || decide (0 < i) && decide (h (i - 1) < h i))
    && decide (h (i + 1) ≤ h i))
  let ord := sortBy (fun i => (4096 - h i) * 4096 + i) cand
  placeAll g.d.f (ord.map (scoutPlace w g.d.b g.d.f g.d.o)) []

/-- The page of a rod whose scout run is due next: the earliest stamp, the lower channel first. -/
def scoutNext (s : State) (rod : Nat) : Option Nat :=
  argmax (fun k => -((page s k).scoutAt : Int))
    (((List.range 32).map (32 * rod + ·)).filter (fun k => (page s k).scout == 1 && decide ((page s k).scoutAt ≤ s.dev)))

/-- A scout run starts: the waiting page of the rod with the earliest stamp, lower channel first (R128). -/
def scoutStart (rod : Nat) (s : State) : State :=
  let x := talRod s rod
  match x.run, scoutNext s rod with
  | none, some k => setTalRod (setPage s k { page s k with scout := 2 }) rod { x with run := some (k, s.dev) }
  | _, _ => s

/-- A scout run ends, 80 H cycles after its start, and places the windows (R127, R128). Log entry 42 (DEDUCED). -/
def scoutEnd (rod : Nat) (s : State) : State :=
  let x := talRod s rod
  match x.run with
  | none => s
  | some (k, at_) =>
    if s.dev < at_ + 80 * tNs then s
    else
      let g := page s k
      let w := gPar s g.d.gen pChRangeWindow 0
      let nb := coarseBins w g.d.b g.d.o
      let win := if nb = 0 then [] else
        scoutWindows w nb (gPar s g.d.gen pTallyScoutMin rod) (gPar s g.d.gen pTallyScoutK rod) g
      let s := setPage s k { g with scout := 3, d := { g.d with win := win } }
      let s := setTalRod s rod { x with run := none, empty := if win = [] then x.empty.add 1 else x.empty }
      if win = [] then wrapEv x.empty 1 0x0306 (le 1 rod ++ le 1 4) s else s

/-- The held fine parts of pages whose run has finished are replayed or discarded (R128). -/
def fineReplay (rod : Nat) (s : State) : State :=
  let x := talRod s rod
  let due := x.hold.filter (fun h => (page s h.page).scout ≠ 1 && (page s h.page).scout ≠ 2)
  let s := setTalRod s rod { x with hold := x.hold.filter (fun h => (page s h.page).scout == 1 || (page s h.page).scout == 2) }
  due.foldl (fun s h => finePart h.page h.delta s) s

/-! ### Release (R145) and stacking (R132 to R136) -/

/-- Frees a page and forgets its points. -/
def freePage (k : Nat) (s : State) : State :=
  let c := k / 2
  let s := setPage s k {}
  setCh s c { ch s c with pts := (ch s c).pts.filter (fun p => !(p.page == some k)) }

/-- A channel's served page that may be freed: its slot has ended and no stacking read is due. -/
def servedPage (s : State) (c : Nat) : Option Nat :=
  [2 * c, 2 * c + 1].find? (fun k => (page s k).st == 3 && !(page s k).stackDue &&
    (match (page s k).slotEnd with | some e => decide (e ≤ s.dev) | none => false))

/-- A channel's page with a stacking read due. -/
def stackPage (s : State) (c : Nat) : Option Nat :=
  [2 * c, 2 * c + 1].find? (fun k => (page s k).st == 3 && (page s k).stackDue && (page s k).slotEnd.isSome)

/-- A page returns to FREE at the later of its slot end and its stacking read (R145). -/
def pageRelease (c : Nat) (s : State) : State :=
  match servedPage s c with
  | none => s
  | some k => if 1023 < c then s else freePage k s

/-- The 512 stacked counts of a page (R132). -/
def stackCounts (start : Nat) (g : Page) : Tab Nat :=
  (g.coarse.filter (fun p => decide (start ≤ p.1) && decide (p.1 < start + 512))).map (fun p => (p.1 - start, p.2))

/-- Adds two tables of counts. -/
def addCounts (a b : Tab Nat) : Tab Nat := b.foldl (fun m p => tmod 0 m p.1 (· + p.2)) a

/-- Counts a restart of `n` entries of a deck and logs it (R136, R141). The restart counter rises by one per entry, as its table counts
entries (R140), where R136's words could also mean the contributions dropped. `first` is the event's first frame.
Log entries 106 (DESIGN CHOICE), 130 (DESIGN CHOICE). -/
def stackRestart (deck reason n first : Nat) (s : State) : State :=
  let x := talDeck s deck
  let s := wrapEv x.restarts n 0x0306 (le 1 deck ++ le 1 5) (setTalDeck s deck { x with restarts := x.restarts.add n })
  logEv 0x0305 (le 1 reason ++ le 4 n ++ le 4 first) s

/-- The stacking read of a served page ends: an admitted contribution is added to its entry (R132, R133, R136); a channel whose mask was
cleared meanwhile contributes nothing. An exported entry leaves the store. Log entries 104 (DESIGN CHOICE), 131 (DESIGN CHOICE). -/
def stackRead (c : Nat) (s : State) : State :=
  match stackPage s c with
  | none => s
  | some k =>
    let g := page s k
    let deck := c / 128
    let s := irqOpen (97 + deck) (setPage s k { g with stackDue := false, newEnt := false })
    let dd := gPar s g.d.gen pTallyStackDepth 0
    let f := g.d.frame
    let cs := stackCounts (gPar s g.d.gen pTallyStackStart 0) g
    let old := stackEntry s c g.d
    let lead := decide (f % dd = 0)
    let fresh : StackEnt := { chan := c, line := g.d.line, point := g.d.point, first := f - f % dd, frames := 1,
                              shots := g.d.shots, b := g.d.b, o := g.d.o, counts := cs }
    if par s pTallyStackMask c ≠ 1 ∨ stackWaits s f = true ∨ (lead = false ∧ old = none) then s
    else
      let differs : Bool := match old with | some e => decide (e.b ≠ g.d.b ∨ e.o ≠ g.d.o) | none => false
      let ent : StackEnt := match old with
        | some e =>
          if lead || differs then fresh
          else { e with frames := e.frames + 1, shots := e.shots + g.d.shots, counts := addCounts e.counts cs }
        | none => fresh
      let s := if !lead && differs then stackRestart deck 3 1 f s else s
      let rest := s.tal.stack.filter (fun e => !stackKey c g.d e)
      if (f + 1) % dd = 0 then
        let y := talDeck s deck
        let s := setTalDeck s deck { y with exported := y.exported + 1 }
        stackedRecord ent g.d.gen f { s with tal.stack := rest }
      else { s with tal.stack := rest ++ [ent] }

/-! ### Commands -/

/-- TALLY_COUNTERS_READ (R139). -/
def tallyCountersBody (_op : Nat) (r : Req) (s : State) : CmdOut :=
  let rod := fld r.payload 0 1
  let cl := fld r.payload 1 1
  if 63 < rod ∨ clearOk cl = false ∨ fld r.payload 2 2 ≠ 0 then
    refuse rBadParam [.lit (le 1 rod), .below 1 33, .below 2 16, .free 32] s
  else
    let x := talRod s rod
    let held := (((List.range 32).map (32 * rod + ·)).filter (fun k => (page s k).st == 2)).length
    let fl := b2n x.mergedC.wrap + 2 * b2n x.dropped.wrap + 4 * b2n x.satPages.wrap + 8 * b2n x.empty.wrap
    let a := bit cl 0
    let b := bit cl 1
    .done rOK (le 1 rod ++ le 1 held ++ le 2 fl ++ le 8 x.closed ++ le 8 x.incs ++ le 4 x.mergedC.val.toNat
      ++ le 4 x.dropped.val.toNat ++ le 4 x.satPages.val.toNat ++ le 4 x.empty.val.toNat)
      (setTalRod s rod { x with
        closed := if a then 0 else x.closed, incs := if a then 0 else x.incs
        mergedC := x.mergedC.clear a b, dropped := x.dropped.clear a b, satPages := x.satPages.clear a b
        empty := x.empty.clear a b })

/-- STACK_STATUS_READ (R140). -/
def stackStatusBody (_op : Nat) (r : Req) (s : State) : CmdOut :=
  let d := fld r.payload 0 1
  if 7 < d ∨ allZero (r.payload.drop 1) = false then refuse rBadParam [.lit (le 1 d ++ zeros 3), .free 40, .zero 4] s
  else
    let x := talDeck s d
    let n := (s.tal.stack.filter (fun e => e.chan / 128 == d)).length
    .done rOK (le 1 d ++ zeros 3 ++ le 4 x.lFrame ++ le 8 x.lAllow ++ le 8 x.lCharged ++ le 4 x.lAdmitted
      ++ le 4 x.lRefused ++ le 4 x.lExported ++ le 4 n ++ le 4 x.restarts.val.toNat ++ le 4 0) s

/-! ### Rows -/

def execTallyCountersRead (t : Nat) (r : Req) (s : State) : Host.Outcome State Fault Refusal :=
  .next (command { op := 0x0310 } (lenEq 4) tallyCountersBody t r s)

def execStackStatusRead (t : Nat) (r : Req) (s : State) : Host.Outcome State Fault Refusal :=
  .next (command { op := 0x0311 } (lenEq 4) stackStatusBody t r s)

def execTallyService (t rod : Nat) (s : State) : Host.Outcome State Fault Refusal := .next (live t (tallyService rod) s)
def execPointStart (t chan : Nat) (s : State) : Host.Outcome State Fault Refusal := .next (live t (pointStart chan) s)
def execScoutRunStart (t rod : Nat) (s : State) : Host.Outcome State Fault Refusal := .next (live t (scoutStart rod) s)
def execScoutRunEnd (t rod : Nat) (s : State) : Host.Outcome State Fault Refusal := .next (live t (scoutEnd rod) s)
def execFineReplayDone (t rod : Nat) (s : State) : Host.Outcome State Fault Refusal := .next (live t (fineReplay rod) s)
def execPointEnd (t chan : Nat) (s : State) : Host.Outcome State Fault Refusal := .next (live t (pointEnd chan) s)
def execPageClose (t chan : Nat) (s : State) : Host.Outcome State Fault Refusal := .next (live t (pageClose chan) s)
def execStackReadDone (t chan : Nat) (s : State) : Host.Outcome State Fault Refusal := .next (live t (stackRead chan) s)
def execPageRelease (t chan : Nat) (s : State) : Host.Outcome State Fault Refusal := .next (live t (pageRelease chan) s)

end Sys2Proof.Machine
end

