-- ==== Sys2Proof/Machine/Records.lean ====
section
/-! DEFINITION. Machine/Records.lean: the records of a served page (R166, R167, R338 to R343), its ambient code (R84) and the
raw exports it is selected for (R340, R369). -/

namespace Sys2Proof.Machine

/-- What the open interval gives a page so far, when it is one of its points' (R83, R84). -/
def openFigures (s : State) (k : Nat) : Nat × Nat :=
  match s.amb.interval with
  | some iv => if spannedBy (page s k) iv.frame iv.line iv.idx then chanFigures s iv (k / 2) else (0, 0)
  | none => (0, 0)

/-- The ambient code of a page (R84): the sums over the intervals of its points, published or still open. Log entry 46 (DEDUCED). -/
def ambientCode (s : State) (k : Nat) : Nat :=
  let g := page s k
  let hs := (ch s (k / 2)).hist.filter (fun h => spannedBy g h.frame h.line h.idx)
  let o := openFigures s k
  let a := sumN (hs.map (·.a)) + o.1
  let l := sumN (hs.map (·.l)) + o.2
  if a = 0 ∨ l = 0 then 0 else log12 (a * 2000000) l

/-- One return as its 8 bytes (R339). -/
def retBytes (r : Ret) : List Byte := le 4 (r.range + r.quality * 2 ^ 24) ++ le 2 r.intens ++ le 1 r.width ++ le 1 r.flags

/-- Nanoseconds from frame start to the page's first fire stamp (R167). -/
def pageTime (s : State) (k : Nat) : Nat :=
  let d := (page s k).d
  (d.first - frameStartOf s d.frame) / 128 % 2 ^ 32

/-- The middle of a page's first and last fire stamps (R167), half a tick rounded down. Log entry 132 (DESIGN CHOICE). -/
def pageMid (s : State) (k : Nat) : Nat := ((page s k).d.first + (page s k).d.last) / 2

/-- A record of a page. -/
def pageRec (s : State) (k typ cls nrec items : Nat) (b : List Byte) : Rec :=
  let d := (page s k).d
  { typ := typ, cls := cls, frame := d.frame, gen := d.gen, line := d.line, point := d.point, chan := k / 2, nrec := nrec
    items := items, bytes := b }

/-- The POINT or POINT4 record (R166, R167, R338), its azimuth corrected under R366. -/
def pointRec (s : State) (k az : Nat) (rep : List Ret) : Rec :=
  let d := (page s k).d
  let n := if gPar s d.gen pExtMaxReturns (k / 32) ≤ 2 then 2 else 4
  let m := motionAz s d.frame az (pageMid s k)
  let rs := (List.range n).flatMap (fun i => match rep[i]? with | some r => retBytes r | none => zeros 8)
  let typ := if n = 2 then 0x01 else 0x02
  pageRec s k typ 1 1 1
    (le 1 typ ++ le 1 (b2n d.merged + 2 * b2n d.sat + 4 * b2n (decide (1 ≤ d.shed)) + 8 * b2n m.2) ++ le 2 (16 + 8 * n)
      ++ le 2 (k / 2 + rep.length * 2048) ++ le 2 (d.shots + d.shed * 256) ++ le 4 (pageTime s k) ++ le 2 m.1 ++ le 1 d.line
      ++ le 1 (ambientCode s k) ++ rs)

/-- The request that governs a frame (R369): the last whose first frame is not later. -/
def rawReqOf (s : State) (frame : Nat) : Option RawReq :=
  s.str.raws.find? (fun r => decide (sdiff32 r.first frame ≤ 0))

/-- Whether a region of the request that asks for a kind holds the page (R340). -/
def inRegions (r : RawReq) (row az kindBit : Nat) : Bool :=
  r.regions.any (fun x => decide (x.getD 0 0 ≤ az) && decide (az ≤ x.getD 1 0) && decide (x.getD 2 0 ≤ row) && decide (row ≤ x.getD 3 0)
    && bit (x.getD 4 0) kindBit)

/-- Whether a page exports fine windows and its coarse histogram (R177, R340). Log entry 44 (DEDUCED). -/
def rawSelect (s : State) (k az : Nat) : Bool × Bool :=
  let g := page s k
  let row := (setMap (genImg s g.d.gen) (k / 2)).row
  match rawReqOf s g.d.frame with
  | some r => (bit g.raw 0 || r.fine || inRegions r row az 0, bit g.raw 1 || inRegions r row az 1)
  | none => (bit g.raw 0, bit g.raw 1)

/-- The windows a selected page exports (R340): those of reported returns, or every placed one. Log entry 44 (DEDUCED). -/
def fineExports (s : State) (k : Nat) (rep : List Ret) : List (Nat × Bool) :=
  let used := rep.filterMap (·.win)
  ((List.range (page s k).d.win.length).map (fun w => (w, used.contains w))).filter
    (fun p => par0 s pStreamFineSelect == 1 || p.2)

/-- A FINE_WINDOW record (R342). -/
def fineRecBytes (s : State) (k : Nat) (w : Nat × Bool) : List Byte :=
  let g := page s k
  le 1 0x10 ++ le 1 (w.1 + 4 * g.d.f + 32 * b2n w.2) ++ le 2 120
    ++ le 4 (g.d.win.getD w.1 0 % 2 ^ 19 + g.d.fineShots * 2 ^ 19) ++ fineBytes g w.1

/-- The RAW_KEY with its windows, one unit in the stream (R341); nothing when no window is to be exported. -/
def rawKeyRecs (s : State) (k : Nat) (rep : List Ret) : List Rec :=
  let ws := fineExports s k rep
  let d := (page s k).d
  if ws = [] then []
  else [pageRec s k 0x13 3 (ws.length + 1) ws.length
    (le 1 0x13 ++ le 1 ws.length ++ le 2 16 ++ le 2 (k / 2) ++ le 2 d.point ++ le 1 d.line ++ le 1 d.shots ++ le 2 0
      ++ le 4 (pageTime s k) ++ ws.flatMap (fineRecBytes s k))]

/-- The COARSE_HIST record (R343). -/
def coarseRec (s : State) (k : Nat) : Rec :=
  let g := page s k
  let d := g.d
  pageRec s k 0x11 4 1 1
    (le 1 0x11 ++ le 1 (b2n d.merged + 2 * b2n d.sat) ++ le 2 3088 ++ le 2 (k / 2 + (d.b - 5) * 2048) ++ le 2 d.point ++ le 1 d.line
      ++ le 1 d.shots ++ le 2 d.o ++ le 4 (pageTime s k) ++ coarseBytes g)

/-- The records of a served page with its reported returns (R166, R337, R340). -/
def pointRecs (s : State) (k : Nat) (rep : List Ret) : List Rec :=
  let d := (page s k).d
  let az := azimuthAt s d.gen (pageMid s k)
  let sel := rawSelect s k az
  (if rep = [] ∧ gPar s d.gen pExtEmptyPoints 0 = 0 then [] else [pointRec s k az rep])
    ++ (if sel.1 then rawKeyRecs s k rep else []) ++ (if sel.2 then [coarseRec s k] else [])

end Sys2Proof.Machine
end

