-- ==== Sys2Proof/Machine/Extract.lean ====
section
/-! DEFINITION. Machine/Extract.lean: the peak extractors (spec 05). Counts are held in units of 1/256 (R148). -/

namespace Sys2Proof.Machine

/-! ### Templates (R151, R153) -/

/-- The boot templates (R153). -/
def bootTmpl (k : Nat) : Tmpl :=
  if k = 0 then { taps := [32, 96, 128, 96, 32], anchor := 2 }
  else if k = 1 then { taps := [128], anchor := 0 }
  else if k = 2 then { taps := [64, 128, 64], anchor := 1 }
  else { taps := [16, 64, 112, 128, 112, 64, 16], anchor := 3 }

def setTmpl (img : SetImg) (k : Nat) : Tmpl := (tget none img.tmpl k).getD (bootTmpl k)

/-- γ of a template in Q1.15 (R151). -/
def tmplGamma (t : Tmpl) : Nat := tmplGain (sumN (t.taps.map (fun g => g * g))) (sumN t.taps)

/-- n_h: taps not less than half of the largest (R151). -/
def tmplHalf (t : Tmpl) : Nat := (t.taps.filter (fun g => decide (maxL t.taps ≤ 2 * g))).length

/-! ### One page's chain -/

/-- What the chain works with for one page (R149 to R154). Counts are in 1/256: `c` corrected, `y` filtered. -/
structure Chain where
  w     : Nat
  nb    : Nat
  mu    : Nat
  muF   : Nat
  sig   : Nat
  tmpl  : Tmpl
  c     : List Nat
  y     : List Int
  limit : List Bool
  deriving DecidableEq, Repr

/-- Applies the bounded deviation of ppass (R149: within 1 % of its exact value): the exact value for k ≤ 1. Log entry 43 (DESIGN CHOICE). -/
def ppassHeld (k num den fv : Nat) : Nat :=
  if k ≤ 1 then fxOne
  else
    let p := ppass k num den
    min fxOne (p - p / 100 + fv % (2 * (p / 100) + 1))

/-- Background counts in 1/256: N · 2^b · 7.8125 ps · λ · ppass, rounded (R148, R149). -/
def background (n b lam pp : Nat) : Nat := rndN (256 * n * 2 ^ b * lam * pp) (128000000000 * fxOne)

/-- Pile-up correction of bin i in 1/256 (R150): corrected count and the pile-up limit mark. -/
def pileup (n h : Nat) (before : Nat) : Nat × Bool :=
  if n ≤ before then (256 * h, true)
  else
    let a := n - before
    if a ≤ h then (rndN (256 * n * lnRat (2 * a) 1) fxOne, true)
    else (rndN (256 * n * lnRat a (a - h)) fxOne, false)

/-- Filter output at bin i in 1/256 (R152). -/
def filterAt (t : Tmpl) (nb mu : Nat) (c : Nat → Nat) (i : Nat) : Int :=
  let acc := sumN ((List.range t.taps.length).map (fun j =>
    t.taps.getD j 0 * (if t.anchor ≤ i + j ∧ i + j - t.anchor < nb then c (i + j - t.anchor) else mu)))
  (rndN acc (sumN t.taps) : Int)

/-- The chain of a page up to the filter (R149 to R152). `fv` is the free value of ppass's deviation. Log entry 43 (DESIGN CHOICE). -/
def chain (s : State) (k fv : Nat) : Chain :=
  let g := page s k
  let d := g.d
  let c := k / 2
  let rod := k / 32
  let x := ambRod s rod
  let w := gPar s d.gen pChRangeWindow 0
  let nb := coarseBins w d.b d.o
  let kn := ((setMap (genImg s d.gen) c).nbr.filter (fun n => gPar s d.gen pChEnable n == 1)).length
  let kd := min (gPar s d.gen pCoincDepth rod) (1 + kn)
  let pp := ppassHeld kd (kn * x.lam * gPar s d.gen pCoincWindow rod) 2000000000 fv
  let mu := background d.shots d.b x.lam pp
  let muF := background d.fineShots d.f x.lam pp
  let t := setTmpl (genImg s d.gen) (gPar s d.gen pExtTemplate rod)
  let sig := gainSqrt (tmplGamma t) (mu * x.disp)
  let h := fun i => tget 0 g.coarse i
  let dd := cdiv (gPar s d.gen pChDeadTime c * 64) (2 ^ d.b)
  let cl := if gPar s d.gen pExtPileup rod = 1 then
      (List.range nb).map (fun i => pileup d.shots (h i) (sumN ((List.range (min i dd)).map (fun j => h (i - 1 - j)))))
    else (List.range nb).map (fun i => (256 * h i, false))
  let cs := cl.map (·.1)
  { w := w, nb := nb, mu := mu, muF := muF, sig := sig, tmpl := t, c := cs
    y := (List.range nb).map (filterAt t nb mu (fun i => cs.getD i 0)), limit := cl.map (·.2) }

/-- y with μ_b outside the bins (R154). -/
def Chain.yAt (q : Chain) (i : Int) : Int := if i < 0 ∨ (q.nb : Int) ≤ i then q.mu else q.y.getD i.toNat 0

/-- CFAR candidates, rising (R154). -/
def Chain.cands (q : Chain) (kq : Nat) : List Nat :=
  (List.range q.nb).filter (fun i =>
    let y := q.yAt i
    decide (16 * (q.mu : Int) + kq * q.sig < 16 * y) && decide (q.yAt (i - 1) < y) && decide (q.yAt (i + 1) ≤ y))

/-- Minimum separation during the scan, from the lowest bin upward (R155): the kept ones, last first. -/
def Chain.separate (q : Chain) (sep : Nat) (l : List Nat) : List Nat :=
  (l.foldl (fun (acc : List Nat) i => match acc with
    | j :: r => if i < j + sep then (if q.yAt j < q.yAt i then i :: r else acc) else i :: acc
    | [] => [i]) []).reverse

/-- Rank order of the policy (R156). -/
def Chain.rank (q : Chain) (policy : Nat) (l : List Nat) : List Nat :=
  let byY := fun (l : List Nat) => sortBy (fun i => ((2 ^ 40 - q.yAt i).toNat) * 4096 + i) l
  if policy = 1 then l
  else if policy = 2 then
    (match l.getLast? with | some z => z :: byY (l.filter (fun i => decide (i ≠ z))) | none => [])
  else byY l

/-- Fine windows assigned in rank order (R157): the covering window nearest in centre, not yet taken. -/
def assignWins (d : Desc) : List Nat → List Nat → List (Nat × Option Nat)
  | [], _ => []
  | i :: l, taken =>
    let lo := (i + d.o) * 2 ^ d.b
    let hi := lo + 2 ^ d.b
    let cov := (List.range d.win.length).filter (fun w =>
      !taken.contains w && decide (d.win.getD w 0 < hi) && decide (lo < d.win.getD w 0 + 64 * 2 ^ d.f))
    let dist := fun w => (((d.win.getD w 0 : Int) + 32 * 2 ^ d.f) - (lo + 2 ^ (d.b - 1))).natAbs
    match argmax (fun w => -(dist w : Int)) cov with
    | some w => (i, some w) :: assignWins d l (w :: taken)
    | none => (i, none) :: assignWins d l taken

/-- δ of three points in 1/65,536, clamped to ±0.5 and exact enough to round t_R (R159): (a − c) / (2 (a − 2b + c)). -/
def delta3 (a b c : Int) (scale : Int) : Int × Int :=
  let den := 2 * (a - 2 * b + c)
  if den = 0 then (0, 1)
  else
    let num := a - c
    let num := if den < 0 then -num else num
    let den := if den < 0 then -den else den
    if den < 2 * num then (scale, 2 * scale) else if 2 * num < -den then (-scale, 2 * scale) else (num, den)

/-- A fine fit (R158): t_R in 1/256 tick, a tie rounded up, and the sum of v over the extent, if that sum suffices.
Log entry 133 (DESIGN CHOICE). -/
def fineFit (s : State) (k : Nat) (q : Chain) (w : Nat) : Option (Int × Nat × Nat × Nat) :=
  let g := page s k
  let d := g.d
  let rod := k / 32
  let v := fun j => 256 * tget 0 g.fine (64 * w + j) - q.muF
  let js := (argmax (fun j => (v j : Int)) (List.range 64)).getD 0
  let rr := gPar s d.gen pExtCentroidHalf 0
  let lo := js - rr
  let hi := min 63 (js + rr)
  let ext := (List.range (hi + 1 - lo)).map (· + lo)
  let sv := sumN (ext.map v)
  let st := d.win.getD w 0
  if sv < 256 * gPar s d.gen pExtFineMin 0 then none
  else
    let tq : Int :=
      if gPar s d.gen pExtFitMethod rod = 0 then
        256 * st + rnd (128 * 2 ^ d.f * sumN (ext.map (fun j => (2 * j + 1) * v j))) sv
      else
        let dl := if js = 0 ∨ js = 63 then ((0 : Int), (1 : Int)) else delta3 (v (js - 1)) (v js) (v (js + 1)) 1
        256 * st + rnd (128 * 2 ^ d.f * ((2 * js + 1) * dl.2 + 2 * dl.1)) dl.2.toNat
    some (tq, sv, js, v js)

/-- A coarse fit (R159): t_R in 1/256 tick, a tie rounded up. Log entry 133 (DESIGN CHOICE). -/
def coarseFit (d : Desc) (q : Chain) (i : Nat) : Int :=
  let dl := delta3 (q.yAt (i - 1)) (q.yAt i) (q.yAt (i + 1)) 1
  rnd (128 * 2 ^ d.b * ((2 * (i + d.o) + 1) * dl.2 + 2 * dl.1)) dl.2.toNat

/-- First index from `p`, going down, whose value is below half; none at the limit (R162). -/
def scanDown (val : Nat → Nat) (half2 lim : Nat) : Nat → Nat → Option Nat
  | 0, _ => none
  | n + 1, p => if p ≤ lim then none else if 2 * val (p - 1) < half2 then some (p - 1) else scanDown val half2 lim n (p - 1)

/-- First index from `p`, going up below `lim`, whose value is below half; none at the limit (R162). -/
def scanUp (val : Nat → Nat) (half2 lim : Nat) : Nat → Nat → Option Nat
  | 0, _ => none
  | n + 1, p => if lim ≤ p + 1 then none else if 2 * val (p + 1) < half2 then some (p + 1) else scanUp val half2 lim n (p + 1)

/-- The width in 62.5 ps units and its truncated mark (R162): bins of `ticks` ticks in `[lo, hi)`. -/
def widthOf (val : Nat → Nat) (p lo hi ticks : Nat) : Nat × Bool :=
  let vp := val p
  let l := scanDown val vp lo 64 p
  let r := scanUp val vp hi 64 p
  let left : Int × Nat := match l with
    | some a => let dn := val (a + 1) - val a
      ((2 * a + 1) * (2 * dn) + 2 * ((vp : Int) - 2 * val a), 4 * dn)
    | none => ((lo : Int), 1)
  let right : Int × Nat := match r with
    | some a => let dn := val (a - 1) - val a
      ((2 * a + 1) * (2 * dn) - 2 * ((vp : Int) - 2 * val a), 4 * dn)
    | none => ((hi : Int), 1)
  let num := right.1 * left.2 - left.1 * right.2
  let wd := rnd (num * ticks) (8 * left.2 * right.2)
  (min 255 wd.toNat, l.isNone || r.isNone)

/-- One kept candidate's return (R157 to R164, R168); half a count of intensity is rounded up. Log entry 134 (DESIGN CHOICE). -/
def makeRet (s : State) (k : Nat) (q : Chain) (i : Nat) (win : Option Nat) : Ret :=
  let g := page s k
  let d := g.d
  let c := k / 2
  let fit := win.bind (fineFit s k q)
  let tq : Int := match fit with | some f => f.1 | none => coarseFit d q i
  let tqn := tq.toNat
  let raw : Int := ((tqn * gPar s d.gen pExtRangeScale 0 + 2 ^ 27) / 2 ^ 28 : Nat) - sgn 64 (gPar s d.gen pExtRangeOffset c)
  let rng := (clamp 0 0xFFFFFF raw).toNat
  let clamped := decide (raw < 0) || decide (0xFFFFFF < raw)
  let z := q.tmpl.anchor
  let ext := ((List.range q.tmpl.taps.length).filter (fun j => decide (z ≤ i + j) && decide (i + j - z < q.nb))).map (fun j => i + j - z)
  let sum : Int := sumI (ext.map (fun a => (q.c.getD a 0 : Int) - q.mu))
  let intens := (clamp 0 65535 (rnd sum 256)).toNat
  let satC := ext.any (fun a => decide (4095 ≤ tget 0 g.coarse a))
  let rr := gPar s d.gen pExtCentroidHalf 0
  let satF := match fit, win with
    | some f, some w => (List.range (2 * rr + 1)).any (fun j => decide (rr ≤ f.2.2.1 + j) && decide (f.2.2.1 + j - rr < 64)
        && decide (16383 ≤ tget 0 g.fine (64 * w + (f.2.2.1 + j - rr))))
    | _, _ => false
  let wd := match fit, win with
    | some f, some w =>
      if 256 * gPar s d.gen pExtWidthFineMin 0 ≤ f.2.1 then
        widthOf (fun j => 256 * tget 0 g.fine (64 * w + j) - q.muF) f.2.2.1 0 64 (2 ^ d.f)
      else widthOf (fun j => q.c.getD j 0 - q.mu) i (i - 32) (min q.nb (i + 33)) (2 ^ d.b)
    | _, _ => widthOf (fun j => q.c.getD j 0 - q.mu) i (i - 32) (min q.nb (i + 33)) (2 ^ d.b)
  let ex := (q.yAt i - q.mu).toNat
  let qual := if q.sig = 0 then 255 else min 255 (log32 (q.sig + ex) q.sig)
  let wd4 := gPar s d.gen pExtDiffuseWidth 0
  let tw8 := tmplHalf q.tmpl * 2 ^ d.b
  let peak : Int := (q.c.getD i 0 : Int) - q.mu
  let clutter := gPar s d.gen pExtClutterRange 0
  let diffuse := decide (clutter ≠ 0) && decide (rng < clutter * 400) && decide (wd4 * tw8 < 128 * wd.1)
    && decide (intens ≠ 0) && decide (peak < gPar s d.gen pExtDiffuseRatio 0 * intens)
  let fl := 128 * b2n clamped + 64 * b2n (ambRod s (k / 32)).lc + 32 * b2n wd.2 + 16 * b2n (satC || satF)
    + 8 * b2n (ext.any (fun a => q.limit.getD a false))
    + 4 * b2n (match fit with | some _ => decide (gPar s d.gen pExtFitMethod (k / 32) = 1) | none => true)
    + 2 * b2n fit.isSome + b2n diffuse
  { bin := i, win := win, tq := tqn, range := rng, intens := intens, width := wd.1,
    quality := qual, flags := fl, diffuse := diffuse }

/-- The returns of a page: kept candidates, reported and suppressed ones, whether candidates were dropped (R148 to R165). -/
def extract (s : State) (k fv : Nat) : List Ret × List Ret × Bool :=
  let g := page s k
  let rod := k / 32
  let q := chain s k fv
  let cs := q.separate (gPar s g.d.gen pExtMinSep rod) (q.cands (gPar s g.d.gen pExtCfarK rod))
  let ranked := q.rank (gPar s g.d.gen pExtPolicy rod) cs
  let kept := ranked.take 8
  let rets := (assignWins g.d kept []).map (fun p => makeRet s k q p.1 p.2)
  let m := gPar s g.d.gen pExtMaxReturns rod
  let rep := if gPar s g.d.gen pExtDiffuseAction 0 = 1 then rets.take m else (rets.filter (fun r => !r.diffuse)).take m
  let sup := if gPar s g.d.gen pExtDiffuseAction 0 = 1 then [] else rets.filter (·.diffuse)
  (sortBy (fun r => r.range * 4096 + r.bin) rep, sup, decide (8 < ranked.length))

/-! ### Service (R16, R142 to R144) -/

/-- The next group of a deck: first closed first served in P cycles, the lower rod on a tie (R16). -/
def nextGroup (q : List Group) : Option Group := argmax (fun g => -(((g.at_ * 5 / 4) * 64 + g.rod : Nat) : Int)) q

/-- The start of a service slot in 1/5 tick: now, or the end of the slot before, when that lies within a tick of now (R142). -/
def slotStart (s : State) (e : ExtDeck) : Nat := if 5 * s.dev < e.busyUntil + 5 then e.busyUntil else 5 * s.dev

/-- A service slot starts on the next waiting page (R142 to R144, R148); 156 P cycles are 15,974.4 ticks. Log entry 42 (DEDUCED). -/
def extractorService (dk : Nat) (s : State) : State :=
  let e := extDeck s dk
  if 7 < dk ∨ 5 * s.dev + 4 < e.busyUntil then s
  else match nextGroup e.queue with
    | none => s
    | some gr =>
      match gr.pages with
      | [] => setExtDeck s dk { e with queue := e.queue.filter (fun x => x ≠ gr) }
      | k :: rest =>
        let fv := freeVal 0 s
        let s := fv.2
        let x := extract s k fv.1
        let q := if rest = [] then e.queue.filter (fun y => y ≠ gr)
          else e.queue.map (fun y => if y = gr then { y with pages := rest } else y)
        let pile := (x.1.filter (fun r => r.flags / 8 % 2 == 1)).length
        let recs := pointRecs s k x.1
        let fin := slotStart s e + 79872
        let s := setPage s k { page s k with slotEnd := some (fin / 5) }
        let d := (page s k).d
        let v : Service := { page := k, frame := d.frame, line := d.line, first := d.first, last := d.last, gen := d.gen, chan := k / 2, cellKey := (page s k).cellKey, start := s.dev, rep := x.1, sup := x.2.1, recs := recs }
        let s := setExtDeck s dk { e with
          queue := q, busyUntil := fin, served := e.served + 1, services := e.services ++ [v]
          reported := e.reported + x.1.length, suppr := e.suppr.add x.2.1.length
          candDrop := e.candDrop.add (b2n x.2.2), pileup := e.pileup.add pile
          frCand := e.frCand + b2n x.2.2, frPile := e.frPile + pile }
        let s := wrapEv e.suppr x.2.1.length 0x0405 (le 1 dk ++ le 1 1) s
        let s := wrapEv e.candDrop (b2n x.2.2) 0x0405 (le 1 dk ++ le 1 2) s
        wrapEv e.pileup pile 0x0405 (le 1 dk ++ le 1 5) s

/-- Planner statistics of a served point (R203): a point whose extraction completes after its frame's FBE has no returns at the
evaluation. Log entry 63 (DEDUCED). -/
def planCount (v : Service) (s : State) : State :=
  let key := v.cellKey * 16 + (setMap (genImg s v.gen) v.chan).str
  if v.frame ≠ s.sch.frameNo.val.toNat then s else
  let p := tget {} s.sch.planStat key
  { s with sch.planStat := tput {} s.sch.planStat key { p with
      rets := p.rets + v.rep.length, sat := p.sat + (v.rep.filter (fun r => r.flags / 16 % 2 == 1)).length
      qsum := p.qsum + sumN (v.rep.map (·.quality)) } }

/-- Offsets measurement of R317: reported returns of the channel inside the gate, by frame until the frame has ended. -/
def offsetCount (v : Service) (s : State) : State :=
  match s.cal.meas with
  | none => s
  | some m =>
    if m.skew ∨ sdiff32 v.frame m.frame0 < 0 ∨ m.n ≤ m.done ∨ v.chan < m.first ∨ m.first + m.count ≤ v.chan then s
    else
      let off := sgn 64 (gPar s v.gen pExtRangeOffset v.chan)
      let gate := par0 s pCalOffsetGate
      let rs := (v.rep.map (fun r => (r.range : Int) + off)).filter (fun (x : Int) => decide ((x - (m.target : Int)).natAbs ≤ gate))
      let q := tget [] m.cur v.frame
      let p := tget (0, 0) q v.chan
      { s with cal.meas := some { m with cur := tput [] m.cur v.frame (tput (0, 0) q v.chan (p.1 + sumI rs, p.2 + rs.length)) } }

/-- A frame has ended (R317): a complete one counts toward the measurement with its returns, a truncated one (R25) does not. -/
def offsetFrame (frame : Nat) (trunc : Bool) (s : State) : State :=
  match s.cal.meas with
  | none => s
  | some m =>
    if m.skew ∨ sdiff32 frame m.frame0 < 0 ∨ m.n ≤ m.done then s
    else
      let rest := { m with cur := tput [] m.cur frame [] }
      if trunc then { s with cal.meas := some rest }
      else { s with cal.meas := some { rest with
        done := m.done + 1
        sums := (tget [] m.cur frame).foldl (fun t p => let o := tget (0, 0) t p.1; tput (0, 0) t p.1 (o.1 + p.2.1, o.2 + p.2.2)) m.sums } }

/-- Extraction completion (R143, R165 to R167): the record goes to the assembler, the returns are handed back. Log entry 42 (DEDUCED). -/
def extractionComplete (dk : Nat) (s : State) : State :=
  let e := extDeck s dk
  match e.services with
  | [] => s
  | v :: rest =>
    let s := setExtDeck s dk { e with services := rest }
    let lp : LastPt := { frame := v.frame, line := v.line, done := s.dev, rep := v.rep.map (fun r => r.tq / 256), sup := v.sup.map (fun r => r.tq / 256) }
    let s := { s with ext.last := tput [] s.ext.last v.chan ((lp :: tget [] s.ext.last v.chan).take 3) }
    let d := talDeck s dk
    let s := setTalDeck s dk { d with points := d.points + 1 }
    let s := planCount v (offsetCount v s)
    irqOpen (89 + dk) (v.recs.foldl (fun s r => deckRec (v.chan / 128) r s) s)

/-! ### Commands -/

/-- TEMPLATE_WRITE (R151, R171). -/
def templateWriteBody (_op : Nat) (r : Req) (s : State) : CmdOut :=
  let p := r.payload
  let k := fld p 0 1
  let l := fld p 1 1
  let z := fld p 2 1
  let taps := (List.range l).map (fun i => fld p (4 + i) 1)
  if 3 < k ∨ l = 0 ∨ 16 < l ∨ l ≤ z ∨ fld p 3 1 ≠ 0 ∨ allZero (p.drop (4 + l)) = false ∨ sumN taps = 0 then
    refuse rBadParam [.lit (le 1 k), .free 5, .zero 2] s
  else
    let t : Tmpl := { taps := taps, anchor := z }
    .done rOK (le 1 k ++ le 1 (tmplHalf t) ++ le 2 (tmplGamma t) ++ le 2 (sumN taps) ++ le 2 0)
      { s with par.shadow.tmpl := tput none s.par.shadow.tmpl k (if t = bootTmpl k then none else some t) }

/-- EXT_COUNTERS_READ (R172). -/
def extCountersBody (_op : Nat) (r : Req) (s : State) : CmdOut :=
  let d := fld r.payload 0 1
  let cl := fld r.payload 1 1
  if 7 < d ∨ clearOk cl = false ∨ fld r.payload 2 2 ≠ 0 then
    refuse rBadParam [.lit (le 1 d), .below 1 5, .mask 2 31, .free 36] s
  else
    let x := extDeck s d
    let fl := b2n x.suppr.wrap + 2 * b2n x.candDrop.wrap + 4 * b2n x.holds.wrap + 8 * b2n x.discarded.wrap + 16 * b2n x.pileup.wrap
    let a := bit cl 0
    let b := bit cl 1
    .done rOK (le 1 d ++ le 1 x.peak ++ le 2 fl ++ le 8 x.served ++ le 8 x.reported ++ le 4 x.suppr.val.toNat
      ++ le 4 x.candDrop.val.toNat ++ le 4 x.holds.val.toNat ++ le 4 x.discarded.val.toNat ++ le 4 x.pileup.val.toNat)
      (setExtDeck s d { x with
        served := if a then 0 else x.served, reported := if a then 0 else x.reported, peak := if a then 0 else x.peak
        suppr := x.suppr.clear a b, candDrop := x.candDrop.clear a b, holds := x.holds.clear a b
        discarded := x.discarded.clear a b, pileup := x.pileup.clear a b })

def execTemplateWrite (t : Nat) (r : Req) (s : State) : Host.Outcome State Fault Refusal :=
  .next (command { op := 0x0410 } (lenEq 20) templateWriteBody t r s)

def execExtCountersRead (t : Nat) (r : Req) (s : State) : Host.Outcome State Fault Refusal :=
  .next (command { op := 0x0411 } (lenEq 4) extCountersBody t r s)

def execExtractorService (t deck : Nat) (s : State) : Host.Outcome State Fault Refusal :=
  .next (live t (extractorService deck) s)

def execExtractionComplete (t deck : Nat) (s : State) : Host.Outcome State Fault Refusal :=
  .next (live t (extractionComplete deck) s)

end Sys2Proof.Machine
end

