-- ==== Sys2Proof/Machine/Emission.lean ====
section
/-! DEFINITION. Machine/Emission.lean: itineraries, curves, regions of interest and emission counters as the host
commands them (R179 to R181, R194, R201, R202, R206 to R210, R555). -/

namespace Sys2Proof.Machine

/-- ITIN_WRITE (R201, R206): the shadow is the planner's in automatic mode, and busy while the image in force is being copied
into it (R179); a write to the base disarms it. -/
def itinWriteBody (_op : Nat) (r : Req) (s : State) : CmdOut :=
  let tg := fld r.payload 0 1
  let n := fld r.payload 2 2
  let o := fld r.payload 4 4
  let ans := fun (w : Nat) => le 4 o ++ le 2 w ++ le 2 0
  if tg = 0 ∧ par0 s pPlanMode = 0 then .done rNotPermitted [] s
  else if 1 < tg ∨ fld r.payload 1 1 ≠ 0 ∨ n = 0 ∨ 240 < n ∨ 131072 < o + n then .done rBadParam (ans 0) s
  else if tg = 0 then
    (if s.dev < s.sch.copyBack then .done rBUSY [] s
     else .done rOK (ans n) { s with par.shadow.itin := cputs 0 s.par.shadow.itin o (r.payload.drop 8), par.shadow.itinHas := true })
  else .done rOK (ans n)
    { s with sch.base := cputs 0 s.sch.base o (r.payload.drop 8), sch.baseArmed := false, sch.planFrom := none }

/-- The image a target number names: 0 shadow, 1 base, 2 in force. -/
def itinTarget (s : State) (tg : Nat) : List Host.Cell :=
  if tg = 0 then s.par.shadow.itin else if tg = 1 then s.sch.base else s.par.inForce.itin

/-- ITIN_READ. -/
def itinReadBody (_op : Nat) (r : Req) (s : State) : CmdOut :=
  let tg := fld r.payload 0 1
  let n := fld r.payload 2 2
  let o := fld r.payload 4 4
  if 2 < tg ∨ fld r.payload 1 1 ≠ 0 ∨ n = 0 ∨ 236 < n ∨ 131072 < o + n then
    .done rBadParam (le 4 o ++ le 2 n ++ zeros 2) s
  else .done rOK (le 4 o ++ le 2 n ++ le 2 0 ++ cgets 0 (itinTarget s tg) o n) s

/-- ITIN_VALIDATE (R207, R555): the named image against the shadow parameters and curves; OK with `arm` arms the base. -/
def itinValidateBody (_op : Nat) (r : Req) (s : State) : CmdOut :=
  let tg := fld r.payload 0 1
  let arm := fld r.payload 1 1
  if 1 < tg ∨ 1 < arm ∨ (arm = 1 ∧ tg = 0) ∨ fld r.payload 2 2 ≠ 0 then refuse rBadParam [.free 12] s
  else
    let img := itinTarget s tg
    let v := validate s s.par.shadow img
    let res := if v.reason = 0 then rOK else if v.reason = 2 then rCheckMismatch else rBadParam
    let len := if v.reason = 0 then frameLength (pvShadow s) img else 0
    let s := if arm = 1 ∧ v.reason = 0 then { s with sch.baseArmed := true, sch.planFrom := none } else s
    .done res (le 1 v.reason ++ le 1 v.line ++ le 2 v.cell ++ le 4 (imId img) ++ le 4 len) s

/-- The curve slot after a CURVE_WRITE (R208). -/
def writeCurve (typ shape first : Nat) (es : List Nat) (c : Curve) : Curve :=
  if typ = 1 then { gamma := false, shape := shape, ovr := [] }
  else if typ = 2 then { gamma := true, shape := shape, ovr := [] }
  else { c with ovr := (es.zip (List.range es.length)).foldl (fun m p => tput none m (first + p.2) (some p.1)) c.ovr }

/-- CURVE_WRITE (R208). -/
def curveWriteBody (_op : Nat) (r : Req) (s : State) : CmdOut :=
  let k := fld r.payload 0 1
  let typ := fld r.payload 1 1
  let shape := fld r.payload 2 2
  let first := fld r.payload 4 1
  let n := fld r.payload 5 1
  let es := (List.range n).map (fun i => fld r.payload (8 + 2 * i) 2)
  let bad := decide (3 < k) || decide (2 < typ) || decide (fld r.payload 6 2 ≠ 0)
    || (if typ = 0 then decide (shape ≠ 0) || decide (n = 0) || decide (112 < n) || decide (256 < first + n) || es.any (fun e => decide (4095 < e))
        else decide (first ≠ 0) || decide (n ≠ 0))
    || (typ == 1 && (decide (shape < 10) || decide (600 < shape)))
    || (typ == 2 && (decide (shape < 0x400) || decide (0x4000 < shape)))
  let ans := fun (c : Curve) => le 2 (curveVal c 0) ++ le 2 (curveVal c 255)
  if bad then (if 3 < k then refuse rBadParam [.free 4] s else .done rBadParam (ans (setCurve s.par.shadow k)) s)
  else
    let c := writeCurve typ shape first es (setCurve s.par.shadow k)
    .done rOK (ans c) { s with par.shadow.curves := tput {} s.par.shadow.curves k c }

/-- PLAN_ROI_SET (R209). -/
def planRoiBody (_op : Nat) (r : Req) (s : State) : CmdOut :=
  let n := fld r.payload 0 1
  let rs : List Roi := (List.range n).map (fun i =>
    { azLo := fld r.payload (4 + 8 * i) 2, azHi := fld r.payload (6 + 8 * i) 2
      rowLo := fld r.payload (8 + 8 * i) 2, rowHi := fld r.payload (10 + 8 * i) 2 })
  let bad := decide (4 < n) || !allZero ((r.payload.drop 1).take 3)
    || rs.any (fun q => decide (q.azHi < q.azLo) || decide (q.rowHi < q.rowLo) || decide (1023 < q.rowHi))
  if bad then .done rBadParam (le 1 s.sch.rois.length ++ zeros 3) s
  else .done rOK (le 1 n ++ zeros 3) { s with sch.rois := rs }

/-- EMIT_COUNTERS_READ (R210). -/
def emitCountersBody (_op : Nat) (r : Req) (s : State) : CmdOut :=
  let c := fld r.payload 0 1
  let e := s.sch
  let p := le 2 (b2n e.gap.wrap + 2 * b2n e.overrun.wrap + 4 * b2n e.facetW.wrap) ++ le 2 0 ++ le 8 e.fired ++ le 8 e.shifts
    ++ le 8 e.capped ++ le 8 e.rateSkip ++ le 4 e.gap.val.toNat ++ le 4 e.overrun.val.toNat ++ le 4 e.facetW.val.toNat
    ++ (List.range 16).flatMap (fun i => le 1 (strng s i).lvl) ++ le 2 e.ceil ++ le 1 e.rdiv ++ le 1 e.chgEn
  if clearOk c = false ∨ allZero (r.payload.drop 1) = false then .done rBadParam p s
  else
    let c0 := c.testBit 0
    let c1 := c.testBit 1
    let s := if c0 then { s with sch.fired := 0, sch.shifts := 0, sch.capped := 0, sch.rateSkip := 0 } else s
    .done rOK p { s with
      sch.gap := s.sch.gap.clear c0 c1, sch.overrun := s.sch.overrun.clear c0 c1, sch.facetW := s.sch.facetW.clear c0 c1 }

def execItinWrite (t : Nat) (r : Req) (s : State) : Host.Outcome State Fault Refusal :=
  .next (command { op := 0x0510 } (fun p => decide (8 ≤ p.length) && p.length == 8 + fld p 2 2) itinWriteBody t r s)
def execItinRead (t : Nat) (r : Req) (s : State) : Host.Outcome State Fault Refusal :=
  .next (command { op := 0x0511 } (lenEq 8) itinReadBody t r s)
def execItinValidate (t : Nat) (r : Req) (s : State) : Host.Outcome State Fault Refusal :=
  .next (command { op := 0x0512 } (lenEq 4) itinValidateBody t r s)
def execCurveWrite (t : Nat) (r : Req) (s : State) : Host.Outcome State Fault Refusal :=
  .next (command { op := 0x0513 } (fun p => decide (8 ≤ p.length) && p.length == 8 + (if fld p 1 1 = 0 then 2 * fld p 5 1 else 0))
    curveWriteBody t r s)
def execPlanRoiSet (t : Nat) (r : Req) (s : State) : Host.Outcome State Fault Refusal :=
  .next (command { op := 0x0514 } (fun p => decide (4 ≤ p.length) && p.length == 4 + 8 * fld p 0 1) planRoiBody t r s)
def execEmitCountersRead (t : Nat) (r : Req) (s : State) : Host.Outcome State Fault Refusal :=
  .next (command { op := 0x0515 } (lenEq 4) emitCountersBody t r s)

end Sys2Proof.Machine
end

