-- ==== Sys2Proof/Machine/Calib.lean ====
section
/-! DEFINITION. Machine/Calib.lean: code density and blending (R309 to R312), tap reselection (R313), factory calibration
(R314, R315), measurements (R317, R318), the calibration file (R319) and the calibration commands (R322 to R327). -/

namespace Sys2Proof.Machine

/-! ### Width tables (R307, R310) -/

/-- The width table of 64 counts: w_j = round(16,384 × n_j / n), clamped to 1 … 1,023 (R307, R310). -/
def widthsOf (count : Nat → Nat) (n : Nat) : List Nat :=
  (List.range 64).map (fun j => clampN 1 1023 (rndN (16384 * count j) (max 1 n)))

/-- The candidate of a histogram (R310). -/
def candidateOf (hist : Tab Nat) (n : Nat) : List Nat := widthsOf (tget 0 hist) n

/-! ### Tap selection (R306) -/

/-- Events of a scan that passed at most `t` taps: B_t is 64 × this / n in units of 7.8125 ps. -/
def tapSum (ns : List Nat) (t : Nat) : Nat := sumN (ns.take (t + 1))

/-- The tap t_k: the one whose B_t lies nearest k × 7.8125 ps, the lower one on ties (R306). Tap 95 lies beyond the cycle (R305).
Log entry 116 (DEDUCED). -/
def tapFor (ns : List Nat) (k : Nat) : Nat :=
  (argmax (fun t => -(((64 * tapSum ns t : Nat) : Int) - (k * sumN ns : Nat)).natAbs) (List.range 95)).getD 0

/-- The mask a tap scan selects; none where the scan fails: two values of k pick one tap, or fewer than 64 counts are not 0 (R306). -/
def scanMask (ns : List Nat) : Option Nat :=
  let ts := (List.range 63).map (fun i => tapFor ns (i + 1))
  if (ns.filter (fun n => decide (n ≠ 0))).length < 64 ∨ ts.dedup.length < 63 then none else some (bitsOf ts + 2 ^ 95)

/-- The counts of the 64 raw codes that a scan's counts give under a mask (R305, R313). -/
def scanCodes (mask : Nat) (ns : List Nat) : List Nat :=
  (List.range 64).map (fun j => sumN ((List.range 96).map (fun p => if rawCode mask p = j then ns.getD p 0 else 0)))

/-- Largest edge difference between two edge lists. -/
def edgeStep (a b : List Nat) : Nat := maxL ((a.zip b).map (fun p => ((p.1 : Int) - p.2).natAbs))

/-- Widths that a list of edges spans, within their 10 bits. -/
def spanWidths (e : List Nat) : List Nat := (List.range 64).map (fun j => clampN 1 1023 (e.getD (j + 1) 0 - e.getD j 0))

/-- A full histogram gives a candidate, accepted or rejected (R310, R311). -/
def cdCandidate (c : Nat) (s : State) : State :=
  let x := calCh s c
  if x.fill < 2 ^ par0 s pCalCdEvents then s
  else
    let w := candidateOf x.hist x.fill
    let d := edgeStep (edgesOf w) x.edges
    let y := { x with hist := [], fill := 0 }
    if par0 s pCalCdMaxStep < d then
      let log := match x.lastRej with | some t => decide (t + 60 * tSec ≤ s.dev) | none => true
      let s := setCalCh s c { y with rejected := x.rejected.add 1, lastRej := if log then some s.dev else x.lastRej }
      let s := wrapEv x.rejected 1 0x0D09 (le 2 c ++ le 1 2) s
      if log then logEv 0x0D01 (le 2 c ++ le 2 d) s else s
    else
      let s := if s.cal.ch.all (fun p => p.2.blend.isNone) then { s with cal.blendAt := s.dev } else s
      wrapEv x.accepted 1 0x0D09 (le 2 c ++ le 1 1)
        (setCalCh s c { y with accepted := x.accepted.add 1, blend := some { start := x.edges, cand := w, k := 0 } })

/-- One blend step of a channel (R311). Log entry 62 (DEDUCED). -/
def blendStep (x : CalCh) : CalCh :=
  match x.blend with
  | none => x
  | some b =>
    let k := b.k + 1
    let ce := edgesOf b.cand
    if 16 ≤ k then { x with edges := ce, widths := b.cand, blend := none }
    else
      let e := (List.range 65).map (fun j =>
        ((b.start.getD j 0 : Int) + tdiv (((ce.getD j 0 : Int) - b.start.getD j 0) * k) 16).toNat)
      { x with edges := e, widths := spanWidths e, blend := some { b with k := k } }

/-- Whether a channel's mask or table differs between two states (R312). -/
def tableDiffers (o s : State) (c : Nat) : Bool :=
  decide ((calCh s c).mask ≠ (calCh o c).mask) || decide ((calCh s c).widths ≠ (calCh o c).widths) || decide ((calCh s c).edges ≠ (calCh o c).edges)

/-- Notes that a table in force differs from what it was in `o` (R312). -/
def noteChanged (o s : State) : State :=
  { s with cal.changed := s.cal.changed || (o.cal.ch ++ s.cal.ch).any (fun p => tableDiffers o s p.1) }

/-- A step of every blend; CAL_CD_UPDATE when channels began theirs (R311). Log entry 62 (DEDUCED). -/
def blendAll (s : State) : State :=
  let n := (s.cal.ch.filter (fun p => match p.2.blend with | some b => b.k == 0 | none => false)).length
  if s.cal.ch.all (fun p => p.2.blend.isNone) then s
  else
    let s := noteChanged s (s.cal.ch.foldl (fun s p => setCalCh s p.1 (blendStep p.2)) s)
    let s := { s with cal.blendAt := s.dev }
    if n = 0 then s else logEv 0x0D02 (le 2 n ++ le 4 s.sch.frameNo.val.toNat) s

/-- While no frame runs the steps are taken every 40 ms (R311). -/
def cdBlendStep (s : State) : State :=
  if s.sch.running ∨ s.dev < s.cal.blendAt + 40 * tMs then s else blendAll s

/-! ### The calibration file (R312, R319) -/

/-- 64 widths packed 10 bits each (R118). Log entry 62 (DEDUCED). -/
def packWidths (w : List Nat) : List Byte := le 80 ((List.range 64).foldl (fun a j => a + w.getD j 0 % 1024 * 2 ^ (10 * j)) 0)

/-- The figures of a channel that the file holds. -/
def fileCh (x : CalCh) : CalCh := { mask := x.mask, widths := x.widths, edges := edgesOf x.widths }

/-- The file's bytes after its header (R319). -/
def calBody (f : CalFile) : List Byte :=
  (List.range 1024).flatMap (fun c => le 12 (tget {} f.ch c : CalCh).mask)
    ++ (List.range 1024).flatMap (fun c => packWidths (tget {} f.ch c : CalCh).widths)
    ++ (List.range 16).flatMap (fun i => leI 2 (tget 0 f.fire i)) ++ (List.range 4).flatMap (fun i => le 4 (tget (2 ^ 30) f.pmon i))
    ++ (List.range 64).flatMap (fun i => leI 4 (tget 0 f.senseO i) ++ le 4 (tget (2 ^ 30) f.senseM i))
    ++ (List.range 1024).flatMap (fun c => le 2 (tget 0 f.offs c)) ++ leI 4 f.skew ++ le 4 0

/-- Bytes of the calibration file (R319). -/
def calLen : Nat := 96856

/-- The file's header with a check word (R319). -/
def calHead (f : CalFile) (check : Nat) : List Byte :=
  le 2 1 ++ le 2 32 ++ le 4 calLen ++ le 8 f.serial ++ le 4 f.gen ++ le 4 f.present ++ le 4 0 ++ le 4 check

/-- The calibration file's image (R319). -/
def calImage (f : CalFile) : List Byte :=
  let b := calBody f
  calHead f (crc32 (calHead f 0 ++ b)) ++ b

/-- Why a stored file is not loaded (R320), 0 when it is: absent 1, format 4, check 2, serial 3. Log entry 77 (DEDUCED). -/
def calReason (serial : Nat) (b : List Byte) : Nat :=
  if b = [] then 1
  else if b.length ≠ calLen ∨ fld b 0 2 ≠ 1 ∨ fld b 2 2 ≠ 32 ∨ fld b 4 4 ≠ calLen then 4
  else if crc32 (b.take 28 ++ zeros 4 ++ b.drop 32) ≠ fld b 28 4 then 2
  else if fld b 8 8 ≠ serial then 3
  else 0

/-- A channel's mask and table in a stored file. -/
def calLoadCh (b : List Byte) (c : Nat) : CalCh :=
  let w := fld b (12320 + 80 * c) 80
  let ws := (List.range 64).map (fun j => w / 2 ^ (10 * j) % 1024)
  { mask := fld b (32 + 12 * c) 12, widths := ws, edges := edgesOf ws }

/-- The contents of a stored file (R319). -/
def calLoad (b : List Byte) : CalFile :=
  { gen := fld b 16 4, present := fld b 20 4, serial := fld b 8 8
    ch := (List.range 1024).foldl (fun m c => tput {} m c (calLoadCh b c)) []
    fire := (List.range 16).foldl (fun m i => tput 0 m i (fldI b (94240 + 2 * i) 2)) []
    pmon := (List.range 4).foldl (fun m i => tput (2 ^ 30) m i (fld b (94272 + 4 * i) 4)) []
    senseO := (List.range 64).foldl (fun m i => tput 0 m i (fldI b (94288 + 8 * i) 4)) []
    senseM := (List.range 64).foldl (fun m i => tput (2 ^ 30) m i (fld b (94292 + 8 * i) 4)) []
    offs := (List.range 1024).foldl (fun m c => tput 0 m c (fld b (94800 + 2 * c) 2)) [], skew := fldI b 96848 4 }

/-- A copy of the calibration file in flash, and its contents where it is valid (R320, R465). -/
def calCopy (s : State) (k : Nat) : List Byte := if k = 0 then s.nv.calFile else s.nv.calFile1
def calValid (s : State) (k : Nat) : Option CalFile := if calReason s.nv.serial (calCopy s k) = 0 then some (calLoad (calCopy s k)) else none

/-- The copy in force (R465): the valid one of higher generation; none when neither is valid. Log entry 139 (DEDUCED). -/
def calGov (s : State) : Option Nat :=
  match calValid s 0, calValid s 1 with
  | some a, some b => some (if a.gen < b.gen then 1 else 0)
  | some _, none => some 0
  | none, some _ => some 1
  | none, none => none

/-- The stored file, where one is valid (R320). -/
def calStored (s : State) : Option CalFile := (calGov s).bind (calValid s)

/-- Why no stored file is loaded (R320): the first copy's reason, or where it is absent the second's. Log entry 139 (DEDUCED). -/
def calBad (s : State) : Nat := calReason s.nv.serial (if s.nv.calFile = [] then s.nv.calFile1 else s.nv.calFile)

/-- Writes a file into the copy that is not in force (R465). Log entry 139 (DEDUCED). -/
def calStore (b : List Byte) (s : State) : State :=
  if calGov s = some 0 then { s with nv.calFile1 := b } else { s with nv.calFile := b }

/-- The file with the tables and trims now in force; offsets and skew stay those of a valid file (R312, R319). Log entry 61 (DEDUCED). -/
def fileNow (s : State) : CalFile :=
  let o := calStored s
  { gen := (match o with | some f => f.gen | none => 0) + 1, serial := s.nv.serial
    present := 31 + (match o with | some f => f.present % 128 / 32 * 32 | none => 0)
    ch := s.cal.ch.map (fun p => (p.1, fileCh p.2)), fire := s.cal.fire, pmon := s.cal.pmon
    senseO := s.cal.senseO, senseM := s.cal.senseM
    offs := (match o with | some f => f.offs | none => []), skew := match o with | some f => f.skew | none => 0 }

/-- The save interval expires (R312). -/
def calSave (s : State) : State :=
  let iv := par0 s pCalSaveInterval
  if iv = 0 ∨ s.dev < s.cal.saveTry + iv * 60 * tSec then s
  else
    let s := { s with cal.saveTry := s.dev }
    if s.cal.changed = false then s
    else if s.nk.wrHeld then logEv 0x0D06 (le 4 ((s.dev - s.cal.lastSave) / (60 * tSec))) s
    else { calStore (calImage (fileNow s)) s with cal.changed := false, cal.lastSave := s.dev }

/-! ### Tap reselection and the factory sequence (R313 to R315) -/

/-- Takes a scan's mask and the width table of its code counts at once; a blend ends and the histogram is cleared. A failed scan keeps mask
and table (R306, R313); with no counts of their own (`codes` empty) the codes are counted in the scan itself. -/
def takeTaps (c : Nat) (ns codes : List Nat) (s : State) : State :=
  let x := { calCh s c with blend := none, hist := [], fill := 0 }
  setCalCh s c (match scanMask ns with
    | none => x
    | some m =>
      let n := if codes = [] then scanCodes m ns else codes
      let w := widthsOf (fun j => n.getD j 0) (sumN n)
      { x with mask := m, widths := w, edges := edgesOf w })

/-- CAL_TAP_RESELECT (R313, R323). -/
def reselectBody (_op : Nat) (r : Req) (s : State) : CmdOut :=
  let rod := fld r.payload 0 1
  if s.desk.st = 1 ∨ s.desk.st = 6 then .done rNotPermitted [] s
  else if 63 < rod ∨ allZero (r.payload.drop 1) = false then .done rBadParam [] s
  else if s.cal.outage.isSome then .done rBUSY [] s
  else .done rOK [] { s with cal.outage := some { rod := rod, start := if s.desk.st = 2 then some s.dev else none } }

/-- The outage ends, within 4 ms (R313): `scans` holds each channel's counts n_0 … n_95. -/
def reselectDone (scans : Tab (List Nat)) (s : State) : State :=
  match s.cal.outage with
  | none => s
  | some o =>
    match o.start with
    | none => s
    | some t0 =>
      let cs := (List.range 16).map (16 * o.rod + ·)
      let bad := (cs.filter (fun c => (scanMask (tget [] scans c)).isNone)).length
      let s := noteChanged s (cs.foldl (fun s c => takeTaps c (tget [] scans c) [] s) s)
      logEv 0x0D03 (le 1 o.rod ++ le 1 bad ++ le 8 (t0 / 64) ++ le 8 (coarse s)) { s with
        cal.outage := none
        cal.outFrom := tput 0 s.cal.outFrom o.rod t0, cal.outEnd := tput 0 s.cal.outEnd o.rod s.dev }

/-- CAL_FACTORY_RUN (R314, R322). -/
def factoryRunBody (_op : Nat) (_r : Req) (s : State) : CmdOut :=
  if s.desk.st ≠ 2 then .done rNotPermitted [] s
  else if s.cal.factory.isSome then .done rBUSY [] s
  else .done rOK [] { s with cal.factory := some s.dev }

/-- Step 7 of the factory sequence (R314, R315): results of a passing run are taken in the trims' widths (R316), OTP is programmed while blank. Log entry 61 (DEDUCED). -/
def factoryDone (f : FactoryResult) (s : State) : State :=
  if s.cal.factory.isNone ∨ f.failStep = 1 ∨ 7 < f.failStep then s
  else
    let s := { s with cal.factory := none }
    if f.failStep ≠ 0 then logEv 0x0D04 (le 1 f.failStep ++ le 1 0) s
    else
      let s := f.scans.foldl (fun s p => takeTaps p.1 p.2 (tget [] f.codes p.1) s) s
      let s := { s with
        cal.fire := (List.range 16).foldl (fun m i => tput 0 m i (sgn 16 (pat 16 (f.fire.getD i 0)))) []
        cal.pmon := (List.range 4).foldl (fun m i => tput (2 ^ 30) m i (f.pmon.getD i (2 ^ 30) % 2 ^ 32)) []
        cal.senseO := (List.range 64).foldl (fun m i => tput 0 m i (sgn 32 (pat 32 (f.senseO.getD i 0)))) []
        cal.senseM := (List.range 64).foldl (fun m i => tput (2 ^ 30) m i (f.senseM.getD i (2 ^ 30) % 2 ^ 32)) [] }
      let img := fileNow s
      let blank := s.nv.otpCal.isNone
      let s := if blank then { s with nv.otpCal := some { img with gen := 0, present := 31, offs := [], skew := 0 } } else s
      let s := if s.nk.wrHeld then { s with cal.changed := true } else { calStore (calImage img) s with cal.changed := false, cal.lastSave := s.dev }
      logEv 0x0D04 (le 1 0 ++ le 1 (b2n blank)) s

/-! ### Measurements (R317, R318, R324, R325) -/

/-- CAL_OFFSET_MEASURE: it covers the next complete frames, from the next frame start on. Log entry 61 (DEDUCED). -/
def offsetMeasureBody (_op : Nat) (r : Req) (s : State) : CmdOut :=
  let c0 := fld r.payload 0 2
  let n := fld r.payload 2 2
  let d := fld r.payload 4 4
  let fr := fld r.payload 8 2
  let st := fld r.payload 10 1
  if stEmits s = false then .done rNotPermitted [] s
  else if 1023 < c0 ∨ n = 0 ∨ 1024 < c0 + n ∨ d = 0 ∨ 0xFFFFFF < d ∨ fr = 0 ∨ 250 < fr ∨ 1 < st ∨ fld r.payload 11 1 ≠ 0 then .done rBadParam [] s
  else if s.cal.meas.isSome then .done rBUSY [] s
  else
    let f0 := s.sch.frameNo.val.toNat + b2n (decide (s.sch.linesRun ≠ 0))
    .done rOK [] { s with cal.meas := some { skew := false, first := c0, count := n, target := d, frame0 := f0, n := fr, store := st == 1, sums := [] } }

/-- Whether the owner emits, as the standby sees it: the partner's claim carries its priority (R404). -/
def ownerEmits (s : State) : Bool := decide (s.twn.partner / 4096 % 16 ≠ 0)

/-- CAL_TWIN_SKEW_MEASURE: as standby of a twin head whose owner emits. Log entry 61 (DEDUCED). -/
def skewMeasureBody (_op : Nat) (r : Req) (s : State) : CmdOut :=
  let n := fld r.payload 0 4
  let st := fld r.payload 4 1
  if standby s = false ∨ ownerEmits s = false then .done rNotPermitted [] s
  else if n < 1024 ∨ 1048576 < n ∨ 1 < st ∨ allZero (r.payload.drop 5) = false then .done rBadParam [] s
  else if s.cal.meas.isSome then .done rBUSY [] s
  else .done rOK [] { s with cal.meas := some { skew := true, first := 0, count := 0, target := 0, frame0 := 0, n := n, store := st == 1, sums := [] } }

/-- A stamped owner edge counts toward the skew (R318): the observed edge and the own fire stamp, in ticks. -/
def skewCount (seen own : Nat) (s : State) : State :=
  match s.cal.meas with
  | none => s
  | some m =>
    let p := tget (0, 0) m.sums 0
    if m.skew = false ∨ m.n ≤ p.2 then s
    else { s with cal.meas := some { m with sums := [(0, (p.1 + ((seen : Int) - own), p.2 + 1))] } }

/-- Writes measured offsets and skew to the file; a blocked write is deferred (R294, R312, R317). Log entry 61 (DEDUCED). -/
def storeFile (store : Bool) (offs : Tab Nat) (skew : Option Int) (s : State) : State :=
  if store = false then s
  else if s.nk.wrHeld then logEv 0x0D06 (le 4 ((s.dev - s.cal.lastSave) / (60 * tSec))) s
  else
    let f := fileNow s
    let f := { f with
      offs := offs.foldl (fun m p => tput 0 m p.1 p.2) f.offs, skew := skew.getD f.skew
      present := f.present ||| (if offs = [] then 0 else 32) ||| (if skew.isSome then 64 else 0) }
    { calStore (calImage f) s with cal.changed := false, cal.lastSave := s.dev }

/-- CAL_MEASURE_DONE's data (R327); the figures of the other kind are open. Log entry 61 (DEDUCED). -/
def measureEv (kind : Nat) (upd short : Option Nat) (skew : Option Int) (s : State) : State :=
  let a := freeVal 65536 s
  let b := freeVal 65536 a.2
  let c := freeVal (2 ^ 32) b.2
  logEv 0x0D07 (le 1 kind ++ le 2 (upd.getD a.1) ++ le 2 (short.getD b.1) ++ (match skew with | some v => leI 4 v | none => le 4 c.1)) c.2

/-- Ends the offset measurement: the shadow takes round(m − D) of each channel with 16 returns (R317). Log entry 61 (DEDUCED). -/
def offsetsDone (m : Measure) (s : State) : State :=
  let rs := (List.range m.count).map (fun i => let p := tget (0, 0) m.sums (m.first + i); (m.first + i, p.1, p.2))
  let good := (rs.filter (fun p => decide (16 ≤ p.2.2))).map (fun p =>
    (p.1, pat 64 (clamp (-32768) 32767 (rnd (p.2.1 - m.target * p.2.2) p.2.2))))
  let s := { s with
    cal.meas := none
    par.shadow.vals := good.foldl (fun v p => tput none v (pKey pExtRangeOffset p.1) (some p.2)) s.par.shadow.vals }
  measureEv 1 (some good.length) (some (m.count - good.length)) none (storeFile m.store good none s)

/-- Ends the skew measurement: beyond ±64 ticks it is not stored (R318). Log entry 61 (DEDUCED). -/
def skewDone (m : Measure) (s : State) : State :=
  let p := tget (0, 0) m.sums 0
  let q := freeRound (p.1 * 256) (max 1 p.2) { s with cal.meas := none }
  let s := if q.1 < -16384 ∨ 16384 < q.1 then logEv 0x0D08 (leI 4 q.1) q.2
    else storeFile m.store [] (some q.1)
      { q.2 with par.shadow.vals := tput none q.2.par.shadow.vals (pKey pCalTwinSkew 0) (some (pat 64 q.1)) }
  measureEv 2 none none (some q.1) s

/-- A measurement ends: its frames have been extracted and delivered, or its shots stamped. Log entry 62 (DEDUCED). -/
def measureDone (s : State) : State :=
  match s.cal.meas with
  | none => s
  | some m =>
    if m.skew then (if (tget (0, 0) m.sums 0).2 < m.n then s else skewDone m s)
    else if m.done < m.n then s
    else offsetsDone m s

/-! ### CAL_STATUS_READ (R326) -/

/-- Log entry 62 (DEDUCED). -/
def calStatusBody (_op : Nat) (r : Req) (s : State) : CmdOut :=
  let c := fld r.payload 0 2
  let k := fld r.payload 2 2
  if 1023 < c ∨ clearOk k = false then 
    refuse rBadParam [.lit (le 2 c), .below 1 17, .mask 1 7, .free 14, .zero 2, .free 92] s
  else
    let x := calCh s c
    let p := le 2 c ++ le 1 (match x.blend with | some b => b.k | none => 0)
      ++ le 1 (b2n x.accepted.wrap + 2 * b2n x.rejected.wrap + 4 * b2n (inOutage s c)) ++ le 4 x.fill ++ le 4 x.accepted.val.toNat
      ++ le 4 x.rejected.val.toNat ++ le 2 (maxL (x.widths.map (fun w => ((w : Int) - 256).natAbs))) ++ le 2 0 ++ le 12 x.mask
      ++ packWidths x.widths
    .done rOK p (setCalCh s c { x with
      accepted := x.accepted.clear (k.testBit 0) (k.testBit 1), rejected := x.rejected.clear (k.testBit 0) (k.testBit 1) })

/-! ### Rows -/

def execCdCandidate (t c : Nat) (s : State) : Host.Outcome State Fault Refusal := .next (live t (cdCandidate c) s)
def execCdBlendStep (t : Nat) (s : State) : Host.Outcome State Fault Refusal := .next (live t cdBlendStep s)
def execCalSave (t : Nat) (s : State) : Host.Outcome State Fault Refusal := .next (live t calSave s)
def execCalFactoryRun (t : Nat) (r : Req) (s : State) : Host.Outcome State Fault Refusal :=
  .next (command { op := 0x0D10, mbLo := 5, mbHi := 5, level := 1 } (lenEq 0) factoryRunBody t r s)
def execCalFactoryDone (t : Nat) (f : FactoryResult) (s : State) : Host.Outcome State Fault Refusal := .next (live t (factoryDone f) s)
def execCalTapReselect (t : Nat) (r : Req) (s : State) : Host.Outcome State Fault Refusal :=
  .next (command { op := 0x0D11 } (lenEq 4) reselectBody t r s)
def execCalReselectDone (t : Nat) (scans : Tab (List Nat)) (s : State) : Host.Outcome State Fault Refusal :=
  .next (live t (reselectDone scans) s)
def execCalOffsetMeasure (t : Nat) (r : Req) (s : State) : Host.Outcome State Fault Refusal :=
  .next (command { op := 0x0D12 } (lenEq 12) offsetMeasureBody t r s)
def execCalTwinSkewMeasure (t : Nat) (r : Req) (s : State) : Host.Outcome State Fault Refusal :=
  .next (command { op := 0x0D13 } (lenEq 8) skewMeasureBody t r s)
def execCalMeasureDone (t : Nat) (s : State) : Host.Outcome State Fault Refusal := .next (live t measureDone s)
def execCalStatusRead (t : Nat) (r : Req) (s : State) : Host.Outcome State Fault Refusal :=
  .next (command { op := 0x0D14 } (lenEq 4) calStatusBody t r s)

end Sys2Proof.Machine
end

