-- ==== Sys2Proof/Machine/Commit.lean ====
section
/-! DEFINITION. Machine/Commit.lean: the commit of sealed sets (R29 to R33, R92, R179, R554), fades (R35, R36, R195), and
the discard of work two set generations old (R32, R137, R147, R362). -/

namespace Sys2Proof.Machine

/-! ### Fades (R35, R36, R195) -/

/-- Starts the fades of the strings a host set names. -/
def startFades (mask : Nat) (s : State) : State :=
  (bitList 16 0 mask).foldl (fun s i =>
    let x := strng s i
    setStrng s i { x with fade := some { e0 := x.lvl, et := par s pEmitLevelTarget i, l := par s pEmitFadeFrames i, j := 0 } }) s

/-- The step a fade takes at a boundary: the level, and the fade that remains (R35). -/
def fadeStep (f : Fade) : Nat × Option Fade :=
  if f.l ≤ f.j + 1 then (f.et, none)
  else (((f.e0 : Int) + tdiv (((f.et : Int) - f.e0) * (f.j + 1 : Nat)) f.l).toNat, some { f with j := f.j + 1 })

/-- Every fade takes its step at a boundary; FADE_COMPLETE at the last one (R195). -/
def stepFades (first : Nat) (s : State) : State :=
  (List.range 16).foldl (fun s i =>
    let x := strng s i
    match x.fade with
    | none => s
    | some f =>
      let r := fadeStep f
      let s := setStrng s i { x with lvl := r.1, fade := r.2 }
      if r.2.isNone then logEv 0x0503 (le 1 i ++ le 1 r.1 ++ le 4 first) s else s) s

/-! ### Stacking at a commit (R136) -/

/-- Drops the stack entries that satisfy a test, counted per deck; one STACK_RESTART names them. -/
def dropStack (reason first : Nat) (p : StackEnt → Bool) (s : State) : State :=
  let d := s.tal.stack.filter p
  if d = [] then s
  else
    let s := { s with tal.stack := s.tal.stack.filter (fun e => !p e) }
    let s := (List.range 8).foldl (fun s k =>
      let n := (d.filter (fun e => e.chan / 128 == k)).length
      if n = 0 then s
      else
        let x := talDeck s k
        wrapEv x.restarts n 0x0306 (le 1 k ++ le 1 5) (setTalDeck s k { x with restarts := x.restarts.add n })) s
    logEv 0x0305 (le 1 reason ++ le 4 d.length ++ le 4 first) s

/-- What a commit does to stacking: the set before it is the previous one (R136). -/
def commitStack (first : Nat) (s : State) : State :=
  let old := fun id i => setVal s s.par.prev id i
  let s := if old pTallyStackDepth 0 ≠ par0 s pTallyStackDepth ∨ old pTallyStackStart 0 ≠ par0 s pTallyStackStart then
      dropStack 1 first (fun _ => true) { s with tal.resume := some first }
    else s
  dropStack 2 first (fun e => old pTallyStackMask e.chan == 1 && par s pTallyStackMask e.chan != 1) s

/-! ### Stale work (R32, R125, R137, R147, R362) -/

/-- HELD pages of the generation now committed are discarded: GAP stage 2 class 3 each. -/
def staleHeld (s : State) : State :=
  (s.tal.pages.filter (fun p => p.2.st == 2 && p.2.d.gen == s.par.gen)).foldl (fun s p =>
    let c := p.1 / 2
    let r := c / 16
    let x := talRod s r
    let s := wrapEv x.dropped p.2.d.shots 0x0306 (le 1 r ++ le 1 2) (setTalRod s r { x with dropped := x.dropped.add p.2.d.shots })
    let s := dropLog c 3 p.2.d.frame s
    freePage p.1 (gap 2 3 c p.2.d.first s.dev p.2.d.shots s)) s

/-- Pages queued at the extractors under that generation return to FREE: GAP stage 3 class 1 per rod. -/
def staleQueued (s : State) : State :=
  (List.range 64).foldl (fun s r =>
    let d := r / 8
    let e := extDeck s d
    let old := (e.queue.filter (fun g => g.rod == r)).flatMap (fun g => g.pages.filter (fun k => (page s k).d.gen == s.par.gen))
    if old = [] then s
    else
      let n := old.length
      let start := (old.map (fun k => (page s k).d.first)).foldl min ((page s (old.headD 0)).d.first)
      let q := (e.queue.map (fun g => { g with pages := g.pages.filter (fun k => !old.contains k) })).filter (fun g => !g.pages.isEmpty)
      let s := wrapEv e.discarded n 0x0405 (le 1 d ++ le 1 4) (setExtDeck s d { e with queue := q, discarded := e.discarded.add n })
      let s := old.foldl (fun s k => freePage k s) s
      logEv 0x0402 (le 1 r ++ le 4 n ++ le 4 s.sch.frameNo.val.toNat) (gap 3 1 r start s.dev n s)) s

/-- Closed frames queued under that generation are discarded: GAP stage 4 classes 9 to 13. Log entry 56 (DEDUCED). -/
def staleFrames (s : State) : State :=
  ((List.range 3).flatMap (fun q => (List.range 5).map (fun c => (q, c + 1)))).foldl (fun s p =>
    let x := queue s p.1 p.2
    let old := x.frames.filter (fun f => f.gen == s.par.gen)
    if old = [] then s
    else
      let b := x.bytes - sumN (old.map (·.charged))
      let s := old.foldl (fun s f => segBack false f s)
        (setQueue s p.1 p.2 { x with frames := x.frames.filter (fun f => f.gen != s.par.gen), bytes := b })
      let s := if x.shedding && decide (b ≤ 65536) then
          closeEp p.1 p.2 (setQueue s p.1 p.2 { queue s p.1 p.2 with shedding := false })
        else s
      gap 4 (8 + p.2) p.1 s.dev s.dev (sumN (old.map (·.items))) s) s

/-! ### The commit -/

/-- COINC_DEPTH_CLAMPED (R90). -/
def depthClamped (s : State) : State :=
  let cs := (List.range 1024).filter (fun c => chMapped s c && chEnabled s c && decide (effDepth s c < par s pCoincDepth (c / 16)))
  match cs with
  | [] => s
  | c :: _ => logEv 0x0204 (le 2 cs.length ++ le 2 c) s

/-- The swap of the image buffers: the image in force is copied to the shadow within 200 µs (R179); ITIN_COMMITTED when its id or
source changes (R211). Log entry 26 (DEDUCED). -/
def swapImage (planner : Bool) (first : Nat) (s : State) : State :=
  let id := imId s.par.inForce.itin
  let s := { s with
    par.shadow.itin := s.par.inForce.itin, par.shadow.itinHas := true, sch.copyBack := s.dev + 200 * tUs }
  if s.sch.itinId = some id ∧ s.sch.itinPlan = planner then s
  else logEv 0x0504 (le 4 id ++ le 1 (b2n planner) ++ le 4 first) { s with sch.itinId := some id, sch.itinPlan := planner }

/-- A channel that a commit enables is watched from then on (R53). -/
def watchNew (s : State) : State :=
  (List.range 1024).foldl (fun s c =>
    if chEnabled s c && !(setVal s s.par.prev pChEnable c == 1) then setCh s c { ch s c with enSince := s.dev } else s) s

/-- Discards the work two set generations old, just after the commit of an FBE (R32). -/
def staleWork (s : State) : State := staleFrames (staleQueued (staleHeld s))

/-- Puts a new set in force: the one before it becomes the previous set, the generation bit turns (R32). -/
def putSet (host : Option Sealed) (svc : Option SvcSealed) (s : State) : State :=
  { s with
    par.prev := s.par.inForce, par.inForce := newSet host svc s.par.inForce, par.gen := 1 - s.par.gen
    amb.lastSwitch := match svc with
      | some v => if (tget none v.vals (pKey pPassportFamily 0)).isSome then some v.first else s.amb.lastSwitch
      | none => s.amb.lastSwitch }

/-- Commits the sets of a boundary whose next frame is `first`, an FBE or an idle commit; without one only the fades step. Log entry 10 (DESIGN CHOICE). -/
def commitSets (first : Nat) (host : Option Sealed) (svc : Option SvcSealed) (s : State) : State :=
  if host.isNone ∧ svc.isNone then stepFades first s
  else
    let s := putSet host svc (polyChange s)
    let s := stepFades first (match host with | some h => startFades h.img.fades s | none => s)
    let hImg := match host with | some h => hostImage h | none => false
    let sImg := match svc with | some v => v.image.isSome | none => false
    let s := if hImg then swapImage false first s else if sImg then swapImage true first s else s
    updCharge (depthClamped (commitStack first (watchNew s)))

/-- Gives the servo line 0's start angle and elevation of the image in force (R182, R186). -/
def handLine0 (s : State) : State :=
  if stEmits s ∧ s.par.inForce.itinHas then handElev 0 (giveAngle (lineAngle s.par.inForce.itin 0) s) else s

/-- A set sealed while no frame runs commits at once (R33): sets that waited are in its snapshot or are superseded; the
first shot follows 20 µs later at the earliest. Log entries 12 (DEDUCED), 25 (DEDUCED). -/
def idleCommit (host : Sealed) (s : State) : State :=
  let f := s.sch.frameNo.val.toNat
  let h := match s.par.timely with | some o => sealMerge (some o) host | none => host
  let h := match s.par.late with | some o => sealMerge (some o) h | none => h
  let s := deriveSeeds f (commitSets f (some h) none { s with par.timely := none, par.late := none })
  let s := if stEmits s then setAllow (nominalFrame s) s else s
  irq 20 (handLine0 { s with sch.notBefore := max s.sch.notBefore (s.dev + 20 * tUs), sch.ready := s.dev })

end Sys2Proof.Machine
end

