-- ==== Sys2Proof/Machine/Plan.lean ====
section
/-! DEFINITION. Machine/Plan.lean: the scan planner (R201 to R204). -/

namespace Sys2Proof.Machine

/-- Whether a point of the pair lies in a region of interest as the regions stand now (R204, R209). -/
def inRoi (s : State) (st : PlanStat) : Bool :=
  st.pts.any (fun q => s.sch.rois.any (fun r =>
    decide (r.azLo ≤ q.1) && decide (q.1 ≤ r.azHi) && decide (r.rowLo ≤ q.2) && decide (q.2 ≤ r.rowHi)))

/-- What the planner decides for one cell and string: the new code, and whether a ledger reduction was made (R203). Log entry 63 (DEDUCED). -/
def planCode (s : State) (st : PlanStat) (ledger base cur : Nat) : Nat × Bool :=
  let step := par0 s pPlanStep
  let q := par0 s pPlanQHigh
  let lo := min (par0 s pPlanFloor) base
  let led := decide (par0 s pPlanLedgerMargin < ledger)
  let satHi := decide (par0 s pPlanSatHigh * st.rets < st.sat * 256)
  let satLo := if st.rets = 0 then decide (0 < par0 s pPlanSatLow) else decide (st.sat * 256 < par0 s pPlanSatLow * st.rets)
  let qHi := decide (q * st.rets < st.qsum)
  let qLo := if st.rets = 0 then decide (32 < q) else decide (st.qsum < (q - 32) * st.rets)
  let new : Int :=
    if satHi || led then (cur : Int) - step
    else if qHi && !inRoi s st then (cur : Int) - step
    else if satLo && qLo then (cur : Int) + step
    else cur
  let v := (min (base : Int) (max lo new)).toNat
  (v, led && decide (v < cur))

/-- The code of a cell and string in an image. -/
def codeAt (img : List Host.Cell) (l i x : Nat) : Nat := imf img (cellOff img l i + 28 + x) 1

/-- Plans one cell: its codes, carry-forward and raw bit 0 where a region of interest was met (R204); the mask of ledger
reductions grows. Log entry 63 (DEDUCED). -/
def planCell (s o : State) (curImg : List Host.Cell) (l i : Nat) (r : List Host.Cell × Nat) : List Host.Cell × Nat :=
  let stat := fun x => tget {} s.sch.planStat ((l * 65536 + i) * 16 + x)
  let strs := (List.range 16).filter (fun x => decide (par o pEmitPresent x ≠ 0))
  let r := strs.foldl (fun (r : List Host.Cell × Nat) x =>
    let v := planCode s (stat x) (tget 0 s.nk.publish x) (codeAt s.sch.base l i x) (codeAt curImg l i x)
    (cput 0 r.1 (cellOff s.sch.base l i + 28 + x) (BitVec.ofNat 8 v.1), if v.2 then r.2 ||| 2 ^ x else r.2)) r
  if strs.any (fun x => inRoi s (stat x)) then
    let c := cellOff s.sch.base l i
    let df := imf s.sch.base (c + 2) 1
    (cput 0 (cput 0 (cput 0 r.1 (c + 2) (BitVec.ofNat 8 (df &&& 0xFD))) (c + 4) 1#8) (c + 7)
      (BitVec.ofNat 8 (imf s.sch.base (c + 7) 1 ||| 1)), r.2)
  else r

/-- The planner's image from the base, with its check rewritten (R175), and the strings whose energy a ledger lowered.
Log entry 63 (DEDUCED). -/
def planImage (s o : State) (curImg : List Host.Cell) : List Host.Cell × Nat :=
  let r := (List.range (imLines s.sch.base)).foldl (fun r l =>
    (List.range (lineCellCount s.sch.base l)).foldl (fun r i => planCell s o curImg l i r) r) (s.sch.base, 0)
  (cputs 0 r.1 16 (le 4 (crc32 (imCheckBytes r.1))), r.2)

/-- The points of the frame that end at the FBE itself count, too (R204). -/
def planOpen (o : State) : State :=
  (List.range 1024).foldl (fun s c => ((ch o c).pts.filter (fun p => !p.ended)).foldl (planMark c) s) o

/-- R203 at the FBE of frame `f`; `o` is the state before the commit. The result goes into the boundary's service set; an image that
fails R180 is not sealed. Log entry 63 (DEDUCED). -/
def planEval (o : State) (f : Nat) (q : SvcSealed × State) : SvcSealed × State :=
  let fin := fun (s : State) => { s with sch.planStat := [] }
  let s := { q.2 with sch.planStat := (planOpen o).sch.planStat }
  if par0 s pPlanMode ≠ 0 ∨ s.sch.baseArmed = false ∨ standby s then (q.1, fin s)
  else
    let own := o.sch.itinPlan && (match s.sch.planFrom with | some g => decide (0 ≤ sdiff32 f g) | none => false)
    let r := planImage s o (if own then o.par.inForce.itin else s.sch.base)
    let s := if r.2 = 0 then s else logEv 0x0507 (le 2 r.2 ++ le 4 f) s
    let v := validate s s.par.inForce r.1
    if v.reason ≠ 0 then (q.1, fin (logEv 0x0508 (le 1 1 ++ le 1 v.reason ++ le 1 v.line ++ le 2 v.cell) s))
    else
      let first := (f + 2) % 2 ^ 32
      ({ q.1 with image := some r.1 },
        fin { s with sch.planFrom := some (match s.sch.planFrom with | some g => g | none => first) })

end Sys2Proof.Machine
end

