-- ==== Sys2Proof/Machine/Frame.lean ====
section
/-! DEFINITION. Machine/Frame.lean: the frame boundary event with everything that happens at it (R24 to R40), FRAME_END (R347)
and the seal deadline (R28). -/

namespace Sys2Proof.Machine

/-! ### Channels, ambient, tally and extraction at an FBE -/

/-- Whether a channel may still drop shots of a frame after the FBE of frame `f`, so that its TALLY_SHOTS_DROPPED must stay known (R125):
the frame just ended, the next one, or that of a page in use. -/
def dropKept (f : Nat) (s : State) (c g : Nat) : Bool :=
  g == f || g == (f + 1) % 2 ^ 32 || [2 * c, 2 * c + 1].any (fun k => (page s k).st != 0 && (page s k).d.frame == g)

/-- Channel events of the frame just ended (R53, R66, R72, R80). Log entry 64 (DEDUCED). -/
def chanFrame (f : Nat) (s : State) : State :=
  let cs := List.range 1024
  let sh := cs.filter (fun c => decide ((ch s c).frShed.val ≠ 0))
  let at_ := cs.filter (fun c => decide ((ch s c).frAttr.val ≠ 0))
  let sil := if s.sch.linesRun = 0 then [] else
    cs.filter (fun c => chMapped s c && chEnabled s c && par s pChSilentCheck c == 1 && !(ch s c).frStamped)
  let stuck := (cs.filter (fun c => (ch s c).stuckFr)).length
  let tot := fun (l : List Nat) (g : Chan → Nat) => min (2 ^ 32 - 1) (sumN (l.map (fun c => g (ch s c))))
  let s1 := match sh with | [] => s | c :: _ => logEv 0x0101 (le 2 sh.length ++ le 2 c ++ le 4 (tot sh (·.frShed.val))) s
  let s1 := match at_ with | [] => s1 | _ => logEv 0x0103 (le 2 at_.length ++ le 4 (tot at_ (·.frAttr.val))) s1
  let s1 := sil.foldl (fun s c => logEv 0x0105 (le 2 c ++ le 4 f) s) s1
  let s1 := cs.foldl (fun s c =>
    setCh s c { ch s c with
      frShed := {}, frAttr := {}, frSatLog := false, frStamped := false
      dropLogs := (ch s c).dropLogs.filter (dropKept f s c)
      stuckFr := false, silent := sil.contains c }) s1
  { s1 with hlt.stuckN := stuck, hlt.silentN := sil.length }

/-- Ambient events of the frame (R86), and the next frame's sums cleared (R94, R105). -/
def ambFrame (s : State) : State :=
  let fb := (List.range 64).filter (fun r => decide ((ambRod s r).fbFr ≠ 0))
  let n := min (2 ^ 32 - 1) (sumN (fb.map (fun r => (ambRod s r).fbFr)))
  let lc := (List.range 8).filter (fun d => decide (tget 0 s.amb.lcDeck d ≠ 0))
  let m := min (2 ^ 32 - 1) (sumN (lc.map (tget 0 s.amb.lcDeck)))
  let s := if fb = [] then s else logEv 0x0201 (le 8 (bitsOf fb) ++ le 4 n) s
  let s := if lc = [] then s else logEv 0x0202 (le 1 (bitsOf lc) ++ le 4 m) s
  (List.range 64).foldl (fun s r =>
    setAmbRod s r { ambRod s r with fbFr := 0, v := {}, u := {}, lamMax := 0, lamSum := 0, lamN := 0, cellN := 0, cellB := 0 })
    { s with amb.lcDeck := [] }

/-- A refusal class of a deck's stacking: its GAP record and STACK_REFUSED (R135). Log entry 64 (DEDUCED). -/
def stackGap (f d cls n first : Nat) (s : State) : State :=
  if n = 0 then s else logEv 0x0304 (le 1 d ++ le 1 cls ++ le 4 n ++ le 4 f) (gap 7 cls d first s.dev n s)

/-- Tally events of the frame (R131, R135, R141); a deck's figures are kept for STACK_STATUS_READ (R140), weights set (R18). -/
def tallyFrame (f : Nat) (s : State) : State :=
  let mg := (List.range 64).filter (fun r => decide ((talRod s r).frMerged ≠ 0))
  let st := (List.range 64).filter (fun r => decide ((talRod s r).frSat ≠ 0))
  let nm := min (2 ^ 32 - 1) (sumN (mg.map (fun r => (talRod s r).frMerged)))
  let ns := min (2 ^ 32 - 1) (sumN (st.map (fun r => (talRod s r).frSat)))
  let s := if mg = [] then s else logEv 0x0301 (le 8 (bitsOf mg) ++ le 4 nm) s
  let s := if st = [] then s else logEv 0x0303 (le 8 (bitsOf st) ++ le 4 ns) s
  let s := (List.range 64).foldl (fun s r => setTalRod s r { talRod s r with frMerged := 0, frSat := 0 }) s
  let s := (List.range 8).foldl (fun s d =>
    let y := talDeck s d
    stackGap f d 1 y.refused1 y.first1 (stackGap f d 0 y.refused0 y.first0 s)) s
  (List.range 8).foldl (fun s d =>
    let y := talDeck s d
    setTalDeck s d { y with
      lFrame := f, lAllow := y.allow, lCharged := y.charged, lAdmitted := y.admitted, lRefused := y.refused0 + y.refused1
      lExported := y.exported, charged := 0, admitted := 0, refused0 := 0, refused1 := 0, first0 := 0, first1 := 0, exported := 0
      weight := max y.points 1, points := 0 }) s

/-- The stacking allowances of the next frame at the FBE at `x` (R134), after the commit: by the time since the FBE before, or the nominal
frame of the set now in force after a truncated FBE or with no FBE before. Log entry 129 (DESIGN CHOICE). -/
def allowFrame (trunc : Bool) (x : Nat) (s : State) : State :=
  let p := if trunc then nominalFrame s else match s.tal.prevFbe with | some q => x - q | none => nominalFrame s
  setAllow p { s with tal.prevFbe := some x }

/-- Extraction events of the frame (R173). -/
def extFrame (s : State) : State :=
  let cd := (List.range 8).filter (fun d => decide ((extDeck s d).frCand ≠ 0))
  let pl := (List.range 8).filter (fun d => decide ((extDeck s d).frPile ≠ 0))
  let nc := min (2 ^ 32 - 1) (sumN (cd.map (fun d => (extDeck s d).frCand)))
  let np := min (2 ^ 32 - 1) (sumN (pl.map (fun d => (extDeck s d).frPile)))
  let s := if s.ext.frLimit = 0 then s else logEv 0x0401 (le 8 s.ext.frLimit ++ le 4 (min (2 ^ 32 - 1) s.ext.frHolds)) s
  let s := if cd = [] then s else logEv 0x0403 (le 1 (bitsOf cd) ++ le 4 nc) s
  let s := if pl = [] then s else logEv 0x0404 (le 1 (bitsOf pl) ++ le 4 np) s
  (List.range 8).foldl (fun s d => setExtDeck s d { extDeck s d with frCand := 0, frPile := 0 }) { s with ext.frLimit := 0, ext.frHolds := 0 }

/-! ### The stream at an FBE (R348, R349, R361, R373, R415) -/

/-- Closes every stage-4 episode of the classes (R348). -/
def closeEps (s : State) : State :=
  ((List.range 3).flatMap (fun q => (List.range 5).map (fun c => (q, c + 1)))).foldl (fun s p => closeEp p.1 p.2 s) s

/-- Closes the episode of late keys (R415). -/
def closeLate (f : Nat) (s : State) : State :=
  let s := match s.str.lateEp with
    | none => s
    | some e => gap 4 18 0xFFFF e.1 s.dev e.2 { s with str.lateEp := none }
  if s.str.lateFr = 0 then s
  else logEv 0x0A05 (le 4 (min (2 ^ 32 - 1) s.str.lateFr) ++ le 4 f) { s with str.lateFr := 0 }

/-- The kind 1 SHED record and STREAM_SHEDDING of a path that shed in the frame. -/
def shedRecord (f q : Nat) (s : State) : State :=
  let ns := (List.range 5).map (fun c => (queue s q (c + 1)).frRecs)
  let p := path s q
  let mask := bitsOf ((List.range 5).filter (fun c => decide (ns.getD c 0 ≠ 0)))
  let s := (List.range 5).foldl (fun s c => setQueue s q (c + 1) { queue s q (c + 1) with frRecs := 0 }) s
  let s := setPath s q { p with offered := 0, shedB := 0 }
  if mask = 0 then s
  else
    let s := pushLoss { kind := 1, frame := f, cls := mask, index := q, start := s.dev, stop := s.dev, recs := ns.map (min (2 ^ 32 - 1))
                        offered := p.offered, shed := p.shedB } s
    logEv 0x0801 (le 1 q ++ le 1 mask ++ le 4 (min (2 ^ 32 - 1) (sumN ns))) s

/-- What the stream reports at an FBE. -/
def streamFrame (f : Nat) (s : State) : State :=
  let s := closeLate f (closeCeil (closeEps s))
  let s := if s.str.ceilFr = 0 then s else logEv 0x0802 (le 4 (min (2 ^ 32 - 1) s.str.ceilFr)) { s with str.ceilFr := 0 }
  (List.range 3).foldl (fun s q => shedRecord f q s) s

/-! ### The FBE -/

/-- The throttle step takes effect (R513). -/
def applyThrottle (s : State) : State := updCaps { s with hlt.applied := s.hlt.target }

/-- Transitions that act at the FBE (R38, R39). Log entry 27 (DEDUCED). -/
def fbeState (s : State) : State :=
  if s.desk.pendStop then setSt 2 1 (dropPend s)
  else if s.desk.pendExit then setSt 2 1 (dropPend s)
  else if s.desk.pendRun ∧ s.desk.st = 5 then setSt 4 2 (dropPend s)
  else dropPend s

/-- A blend step at each FBE, and a waiting reselection outage starts when the commit completes (R311, R313). -/
def calFrame (s : State) : State :=
  let s := blendAll s
  match s.cal.outage with
  | some o => if o.start.isNone then { s with cal.outage := some { o with start := some s.dev } } else s
  | none => s

/-- The end of the frame: figures and records of what ran in it, before the commit. Log entry 88 (DEDUCED). -/
def fbeReport (f x : Nat) (trunc : Bool) (s : State) : State :=
  let s := if s.sch.elevSent then s
    else if s.sch.line.isSome then lineEndWork s
    else (List.range 64).foldl (fun s r => shedLine s.sch.lastLine r s) s
  let e : EndRec := { frame := f, gen := s.par.gen, trunc := trunc, lines := s.sch.linesRun, fbe := x / 64, shots := s.sch.frameShots }
  let s := { s with str.ends := s.str.ends ++ [e] }
  let s := extFrame (tallyFrame f (chanFrame f s))
  closeSegGaps ((List.range 32).foldl (fun s n => dmaShedClose n s) (streamFrame f s))

/-- The raw requests as frame `f` begins (R369): the one that governs goes on to, however long ago it was made; older ones are done with. -/
def rawAge (f : Nat) (l : List RawReq) : List RawReq :=
  let b := (f + 2 ^ 32 - 64) % 2 ^ 32
  l.takeWhile (fun r => decide (0 < sdiff32 r.first b))
    ++ ((l.dropWhile (fun r => decide (0 < sdiff32 r.first b))).head?.toList.map (fun r => { r with first := b }))

/-- The scheduler after the FBE: the next frame number, the frame's figures cleared, the frame gap (R26, R33). A wrap of the frame number
sets its flag and raises no event (R8). Log entries 38 (DEDUCED), 88 (DEDUCED), 123 (DESIGN CHOICE). -/
def fbeAdvance (f x : Nat) (s : State) : State :=
  { s with
    sch.frameNo := s.sch.frameNo.add 1
    sch.fbeAt := none, sch.truncated := false, sch.frameShots := 0, sch.gapFr := 0, sch.gapLogged := false, sch.turnStop := false
    sch.line := none, sch.nextLine := 0, sch.linesRun := 0
    sch.notBefore := max s.sch.notBefore (x + 20 * tUs), sch.ready := s.dev
    str.raws := rawAge ((f + 1) % 2 ^ 32) s.str.raws
    tal.resume := s.tal.resume.filter (fun q => decide (sdiff32 (f + 1) q < 4))
    str.frHist := ((x / 64, (f + 1) % 2 ^ 32) :: s.str.frHist).take 64 }

/-- The sets that commit at this FBE, and the late ones that become those of the next (R29); after a commit the work of the set generation
now reused is discarded (R32). Log entry 88 (DEDUCED). -/
def fbeCommit (f1 : Nat) (s : State) : State :=
  let h := s.par.timely
  let v := s.par.svcTimely
  let s := { s with par.timely := s.par.late, par.late := none, par.svcTimely := s.par.svcLate, par.svcLate := none }
  let s := commitSets f1 h v s
  irq 20 (deriveSeeds f1 (if h.isSome || v.isSome then staleWork s else s))

/-- The service set of the boundary after FBE `f` (R92, R94, R107, R203): the results of every service in automatic mode, sealed as one;
it governs frame f + 2. `o` is the state before the commit, `fl` the rods flagged with strangers. Log entry 45 (DEDUCED). -/
def services (o : State) (fl : List Nat) (f : Nat) (s : State) : State :=
  let q := planEval o f (strangerEval fl f (adaptEval o f ({ first := (f + 2) % 2 ^ 32 }, s)))
  if q.1.vals = [] ∧ q.1.image = none then q.2 else svcSeal q.1 { q.2 with twn.sentSet := if twinMode q.2 && q.2.twn.owner then some q.1 else q.2.twn.sentSet }

/-- What the scheduler hands the servos at the commit (R182, R186): line 0's start angle, and its elevation but after a truncated FBE,
when it is handed at the next line start. -/
def handFrame (trunc : Bool) (s : State) : State :=
  if trunc = false then handLine0 s
  else if stEmits s ∧ s.par.inForce.itinHas then giveAngle (lineAngle s.par.inForce.itin 0) s else s

/-- FRAME_BOUNDARY_EVENT (R24, R25): at the instant the scheduler has computed.
Log entries 10 (DESIGN CHOICE), 38 (DEDUCED), 45 (DEDUCED), 88 (DEDUCED). -/
def frameBoundary (s : State) : State :=
  match s.sch.fbeAt with
  | none => s
  | some x =>
    if s.dev < x then s
    else
      let f := s.sch.frameNo.val.toNat
      let f1 := (f + 1) % 2 ^ 32
      let trunc := s.sch.truncated
      let o := s
      let fl := strangers o
      let s := irq (if trunc then 21 else 17) (fbeReport f x trunc (assemble s))
      let s := publishFills (allowFrame trunc x (fbeCommit f1 (fbeAdvance f x s)))
      let s := applyThrottle (calFrame s)
      let s := fbeState s
      let s := { s with sch.running := stEmits s && !trunc, sch.rehand := trunc }
      let s := updScore (updCharge (handFrame trunc s))
      healthRecord (services o fl f (ambFrame s))

/-! ### FRAME_END (R347) -/

/-- Whether every page of a frame has been served or discarded and its extraction is complete. -/
def frameDone (s : State) (f : Nat) : Bool :=
  s.tal.pages.all (fun p => !(p.2.st != 0 && p.2.d.frame == f && !p.2.slotEnd.isSome)) &&
  (List.range 8).all (fun d => (extDeck s d).services.all (fun v => v.frame != f))

/-- FRAME_END of the oldest frame that waits for it; it closes every frame of its scan frame (R335, R415). -/
def frameEnd (s : State) : State :=
  match s.str.ends with
  | [] => s
  | e :: rest =>
    if frameDone s e.frame = false then s
    else
      let s := offsetFrame e.frame e.trunc (assemble s)
      let c := tget (0, 0, 0) s.str.forms e.frame
      let s := { s with str.ends := rest, str.forms := tput (0, 0, 0) s.str.forms e.frame (0, 0, 0) }
      let s := closeAll (fun o => o.frame == e.frame && o.cls == 1) s
      let s := pushRec { typ := 0x21, cls := 2, frame := e.frame, gen := e.gen
                         bytes := le 1 0x21 ++ le 1 (b2n e.trunc) ++ le 2 40 ++ le 1 e.lines ++ le 3 0 ++ le 8 e.fbe ++ le 4 e.shots
                           ++ le 4 c.1 ++ le 4 c.2.1 ++ le 4 c.2.2 ++ le 8 0 } s
      closeAll (fun o => o.frame == e.frame) s

/-- The seal deadline of the running frame passes (R28): interrupt source 19. Log entry 25 (DEDUCED). -/
def deadlinePass (s : State) : State :=
  match sealDeadline s with
  | some d => if d ≤ s.dev then irq 19 (judgeSeals s) else s
  | none => s

def execFrameBoundaryEvent (t : Nat) (s : State) : Host.Outcome State Fault Refusal := .next (live t frameBoundary s)
def execFrameEnd (t : Nat) (s : State) : Host.Outcome State Fault Refusal := .next (live t frameEnd s)
def execSealDeadline (t : Nat) (s : State) : Host.Outcome State Fault Refusal := .next (live t deadlinePass s)

end Sys2Proof.Machine
end

