-- ==== Sys2Proof/Machine/Health.lean ====
section
/-! DEFINITION. Machine/Health.lean: die sensors (R508 to R510), rails (R511), ageing (R512), the thermal throttle (R513 to
R515), the temperature interlock of writes (R294), HEALTH_READ (R530) and HEALTH_SENSOR_RETIRE (R531). -/

namespace Sys2Proof.Machine

/-! ### The throttle target (R513, R515) -/

/-- Changes the target step (R513): counted, logged, taken at the next FBE or at once while no frame runs. -/
def setTarget (n : Nat) (s : State) : State :=
  if n = s.hlt.target then s
  else
    let c := s.hlt.steps
    let s := logEv 0x0B01 (le 1 n ++ le 1 (hottestAt s) ++ leI 2 (hottest s)) { s with hlt.target := n, hlt.steps := c.add 1 }
    let s := wrapEv c 1 0x0B07 (le 1 1) s
    if s.sch.running then s else applyThrottle s

/-- Whether a failed sensor bars a release (R513). Log entry 69 (DEDUCED). -/
def substituted (s : State) : Bool := s.hlt.sens.any (fun p => p.2.subst.isSome)

/-- Limits in 0.1 °C. -/
def throttleLimit (s : State) : Int := 10 * (par0 s pHealthThrottleLimit : Int)
def criticalLimit (s : State) : Int := 10 * (par0 s pHealthTempCritical : Int)

/-- The step of host mode (R513, R515). Log entry 70 (DEDUCED). -/
def hostStep (s : State) : State :=
  if par0 s pHealthThermalMode = 0 then s
  else setTarget (if s.hlt.barred then 8 else par0 s pHealthThrottleStep) { s with hlt.riseAt := none, hlt.coolAt := none }

/-- The reported maximum against HEALTH.TEMP_CRITICAL (R515). Log entry 70 (DEDUCED). -/
def criticalCheck (m : Nat × Int) (s : State) : State :=
  let hot := decide (criticalLimit s < m.2)
  let s := if hot && !s.hlt.critical then logEv 0x0B02 (le 1 m.1 ++ leI 2 m.2) s else s
  let s := { s with hlt.critical := hot, hlt.barred := hot || (s.hlt.barred && !decide (m.2 < throttleLimit s - 30)) }
  if hot then setTarget 8 s else s

/-- The automatic throttle at a sample (R513): the first excess raises at once and starts the 100 ms interval; the first sample
below the release threshold starts the second. -/
def throttleSample (m : Nat × Int) (s : State) : State :=
  if throttleLimit s < m.2 then
    (if s.hlt.riseAt.isSome then s
     else setTarget (min 8 (s.hlt.target + 1)) { s with hlt.riseAt := some (s.dev + 100 * tMs), hlt.coolAt := none })
  else if m.2 < throttleLimit s - 30 then
    { s with hlt.riseAt := none, hlt.coolAt := some (s.hlt.coolAt.getD (s.dev + tSec)) }
  else { s with hlt.riseAt := none, hlt.coolAt := none }

/-- The thermal manager at a sample. Log entry 70 (DEDUCED). -/
def throttleEval (s : State) : State :=
  match reported s with
  | none => { s with hlt.riseAt := none, hlt.coolAt := none }
  | some m =>
    let s := criticalCheck m s
    if par0 s pHealthThermalMode = 0 then throttleSample m s else hostStep s

/-- An interval of the throttle expires (R513). Log entry 70 (DEDUCED). -/
def throttleTimer (s : State) : State :=
  if par0 s pHealthThermalMode ≠ 0 then s
  else
    match s.hlt.riseAt, s.hlt.coolAt with
    | some a, _ =>
      if s.dev < a then s
      else setTarget (min 8 (s.hlt.target + 1)) { s with hlt.riseAt := some (a + 100 * tMs) }
    | none, some a =>
      if s.dev < a then s
      else
        let s := { s with hlt.coolAt := some (a + tSec) }
        if s.hlt.barred || substituted s then s else setTarget (s.hlt.target - 1) s
    | none, none => s

/-! ### Die sensors (R509, R510, R513) -/

/-- The failure condition a conversion meets (R510): 1 range, 2 no conversion, 3 jump, 0 none. -/
def sensorCond (x : DieSensor) : Option Int → Nat
  | none => if 2 ≤ x.misses then 2 else 0
  | some v => if v < -550 ∨ 1500 < v then 1 else if x.seen = true ∧ 100 < (v - x.t).natAbs then 3 else 0

/-- A sensor's fields after a conversion, its status apart. Log entry 69 (DEDUCED). -/
def DieSensor.take (x : DieSensor) : Option Int → DieSensor
  | none => { x with misses := x.misses + 1 }
  | some v => { x with t := v, misses := 0, seen := true }

/-- One conversion of a sensor; `held` says that it holds the reported maximum (R510, R513). Log entry 69 (DEDUCED). -/
def sampleSensor (held : Bool) (n : Nat) (r : Option Int) (s : State) : State :=
  let x := dieSensor s n
  let c := sensorCond x r
  let y := x.take r
  if x.retired then setDieSensor s n y
  else if x.ok then
    (if c = 0 then setDieSensor s n { y with lastOk := if r.isSome then y.t else x.lastOk }
     else
      let sub := held && decide (1 ≤ s.hlt.applied)
      logEv 0x0B03 (le 1 n ++ le 1 c ++ le 1 (b2n sub))
        (setDieSensor s n { y with ok := false, good := 0, subst := if sub then some x.lastOk else none }))
  else if c ≠ 0 then setDieSensor s n { y with good := 0 }
  else if r.isNone then setDieSensor s n y
  else if x.good + 1 < 1000 then setDieSensor s n { y with good := x.good + 1 }
  else logEv 0x0B04 (le 1 n ++ le 1 1) (setDieSensor s n { y with ok := true, good := 0, subst := none, lastOk := y.t })

/-- Substitutes are recomputed: max(last valid reading, maximum of the other valid sensors) + 5 °C (R513). Log entry 69 (DEDUCED). -/
def substitutes (s : State) : State :=
  let v := (List.range 24).filterMap (fun n => let x := dieSensor s n; if x.valid then some x.t else none)
  (List.range 24).foldl (fun s n =>
    let x := dieSensor s n
    if x.subst.isSome then setDieSensor s n { x with subst := some (v.foldl max x.lastOk + 50) } else s) s

/-- Whether THERMAL_SENSOR has a cause (R287, R513): a substituted sensor, or the guard sensor failed. Log entry 70 (DEDUCED). -/
def thermalCause (s : State) : Bool :=
  let g := dieSensor s 14
  substituted s || (!g.ok && !g.retired)

/-- Whether Nerrak blocks writes (R294). -/
def writeHold (s : State) : Bool :=
  !(dieSensor s 14).valid ||
    (List.range 24).any (fun n => let x := dieSensor s n; x.valid && x.seen && (decide (x.t < -400) || decide (1050 < x.t)))

/-- Takes the write interlock; NK_TEMP_INTERLOCK kind 2 where it starts (R294). -/
def writeInterlock (s : State) : State :=
  let h := writeHold s
  let s := if h && !s.nk.wrHeld then logEv 0x0C08 (le 1 2) s else s
  { s with nk.wrHeld := h }

/-- Whether a sampling interval has passed since the last sample; the first is due at once. Log entry 121 (DEDUCED). -/
def intervalOver (last : Option Nat) (period : Nat) (s : State) : Bool :=
  match last with
  | some a => decide (a + period ≤ s.wall)
  | none => true

/-- The die sensors' sampling interval (R509): 50 µs while the reported maximum is within 5 °C of a limit. -/
def tempPeriod (s : State) : Nat :=
  match reported s with
  | some m => if [throttleLimit s, criticalLimit s, -400, 1050].any (fun l => decide ((m.2 - l).natAbs ≤ 50)) then 50 * tUs else tMs
  | none => tMs

/-- TEMP_SAMPLE (R509): in RESET and FROZEN Nerrak reads the guard sensor alone; the thermal manager, a firmware service, runs from
READY on. Log entry 69 (DEDUCED). -/
def tempSample (rs : List (Option Int)) (s : State) : State :=
  if intervalOver s.hlt.tempAt (tempPeriod s) s = false then s else
  let s := { s with hlt.tempAt := some s.wall }
  let quiet := s.desk.st == 0 || s.desk.st == 7
  let held := (reported s).map (·.1)
  let s := (if quiet then [14] else List.range 24).foldl (fun s n => irqOpen (289 + n) (sampleSensor (held == some n) n (rs.getD n none) s)) s
  let s := writeInterlock (levelFault 18 (thermalCause (substitutes s)) (substitutes s))
  if quiet || s.desk.st == 1 then s else throttleEval s

/-! ### Rails and oscillators (R511, R512, R518) -/

/-- Nominal voltages in mV, in the order of R518. -/
def railNominal (i : Nat) : Nat := [800, 750, 800, 850, 750, 1800, 1800, 1200, 1050, 900, 500, 3300].getD i 0

/-- Whether a value lies more than `pc` per cent from nominal. -/
def railOff (i mv pc : Nat) : Bool := decide (pc * railNominal i < 100 * ((mv : Int) - railNominal i).natAbs)

/-- One rail's sample: the start of its stay outside each window; VDD_NK has no fault window here. Log entry 71 (DEDUCED). -/
def sampleRail (i mv : Nat) (s : State) : State :=
  let x := tget {} s.hlt.rails i
  let out := if railOff i mv 4 then some (x.out.getD s.wall) else none
  let ft := if i ≠ 0 ∧ railOff i mv 8 = true then some (x.fault.getD s.wall) else none
  { s with hlt.rails := tput {} s.hlt.rails i { mv := some mv, out := out, logged := x.logged && out.isSome, fault := ft } }

/-- VOLTAGE_SAMPLE, every 10 µs (R511): a rail outside its fault window holds a voltage reset for another millisecond (R522). Log entry 71 (DEDUCED). -/
def voltageSample (mvs : List Nat) (s : State) : State :=
  if intervalOver s.hlt.voltAt (10 * tUs) s = false then s else
  let s := { s with hlt.voltAt := some s.wall }
  let s := (List.range (min 12 mvs.length)).foldl (fun s i => irqOpen (313 + i) (sampleRail i (mvs.getD i 0) s)) s
  let s := match mvs.head? with | some mv => if nkWindow mv = s.pins.vddNk then s else vddNkChange mv s | none => s
  if s.rst.causes.testBit 6 && s.desk.st == 0 && s.hlt.rails.any (fun p => p.2.fault.isSome) then
    { s with rst.cmdUntil := some (s.wall + tMs) }
  else s

/-- A rail has been outside its warning window for 100 µs (R511). Log entry 71 (DEDUCED). -/
def railWarning (i : Nat) (s : State) : State :=
  let x := tget {} s.hlt.rails i
  match x.out, x.mv with
  | some a, some mv =>
    if x.logged ∨ s.wall < a + 100 * tUs then s
    else
      let c := s.hlt.warns
      wrapEv c 1 0x0B07 (le 1 2) (logEv 0x0B05 (le 1 i ++ le 2 mv)
        { s with hlt.rails := tput {} s.hlt.rails i { x with logged := true }, hlt.warns := c.add 1 })
  | _, _ => s

/-- An oscillator's ratio to its value in OTP, Q1.15 (R512), cut to 16 bits; free while OTP holds no value. Log entry 71 (DEDUCED). -/
def ageRatio (i count : Nat) (s : State) : Nat × State :=
  let o := tget 0 s.nv.osc i
  if o = 0 then freeVal 65536 s else (min 65535 (count * 32768 / o), s)

/-- AGEING_MEASURE, once per second (R512): HEALTH_AGEING where a ratio first falls below 0.95. Log entry 71 (DEDUCED). -/
def ageing (cs : List Nat) (s : State) : State :=
  if intervalOver s.hlt.ageAt tSec s = false then s else
  (List.range (min 16 cs.length)).foldl (fun s i =>
    let v := ageRatio i (cs.getD i 0) s
    let r := v.1
    let s := v.2
    let s := irqOpen (325 + i) { s with hlt.osc := tput 0 s.hlt.osc i r }
    if 100 * r < 95 * 32768 ∧ s.hlt.oscLow.testBit i = false then
      logEv 0x0B06 (le 1 i ++ le 2 r) { s with hlt.oscLow := s.hlt.oscLow ||| 2 ^ i }
    else s) { s with hlt.ageAt := some s.wall }

/-! ### Commands (R530, R531) -/

/-- The retired mask. -/
def retiredMask (s : State) : Nat := bitsOf ((List.range 24).filter (fun n => (dieSensor s n).retired))

/-- The payload of HEALTH_READ (R530). -/
def healthPayload (s : State) : List Byte :=
  let ns := List.range 24
  le 1 s.desk.st ++ le 1 s.hlt.applied ++ le 1 s.hlt.score ++ le 1 (hottestAt s) ++ leI 2 (hottest s)
    ++ le 2 (b2n (substituted s) + 2 * b2n s.hlt.critical + 4 * b2n (substituted s) + 8 * b2n s.hlt.steps.wrap + 16 * b2n s.hlt.warns.wrap)
    ++ le 4 (bitsOf (ns.filter (fun n => (dieSensor s n).valid))) ++ le 4 (retiredMask s) ++ le 4 s.hlt.penal
    ++ ns.flatMap (fun n => let x := dieSensor s n; if x.valid then leI 2 x.t else le 2 0x8000)
    ++ (List.range 12).flatMap (fun i => le 2 ((tget {} s.hlt.rails i).mv.getD 0))
    ++ (List.range 16).flatMap (fun i => le 2 (tget 0 s.hlt.osc i)) ++ le 4 s.hlt.steps.val.toNat ++ le 4 s.hlt.warns.val.toNat

/-- HEALTH_READ: one snapshot, then the clears (R9, R530). -/
def healthReadBody (_op : Nat) (r : Req) (s : State) : CmdOut :=
  let c := fld r.payload 0 1
  if clearOk c = false ∨ allZero (r.payload.drop 1) = false then .done rBadParam (healthPayload s) s
  else .done rOK (healthPayload s) { s with
    hlt.steps := s.hlt.steps.clear (c.testBit 0) (c.testBit 1), hlt.warns := s.hlt.warns.clear (c.testBit 0) (c.testBit 1) }

/-- HEALTH_SENSOR_RETIRE (R531). -/
def sensorRetireBody (_op : Nat) (r : Req) (s : State) : CmdOut :=
  let n := fld r.payload 0 1
  let left := ((List.range 24).filter (fun k => (dieSensor s k).valid && k != n)).length
  if n < 24 ∧ left < 12 then .done rNotPermitted [] s
  else if 23 < n ∨ allZero (r.payload.drop 1) = false then .done rBadParam (le 4 (retiredMask s)) s
  else
    let x := dieSensor s n
    let s := setDieSensor s n { x with retired := true, subst := none }
    let s := if x.retired then s else logEv 0x0B04 (le 1 n ++ le 1 2) s
    let s := writeInterlock (levelFault 18 (thermalCause s) s)
    .done rOK (le 4 (retiredMask s)) s

def execTempSample (t : Nat) (rs : List (Option Int)) (s : State) : Host.Outcome State Fault Refusal := .next (tempSample rs (advance t s))
def execThrottleStepTimer (t : Nat) (s : State) : Host.Outcome State Fault Refusal := .next (live t throttleTimer s)
def execVoltageSample (t : Nat) (mvs : List Nat) (s : State) : Host.Outcome State Fault Refusal := .next (voltageSample mvs (advance t s))
def execHealthVoltage (t i : Nat) (s : State) : Host.Outcome State Fault Refusal := .next (live t (railWarning i) s)
def execAgeingMeasure (t : Nat) (rs : List Nat) (s : State) : Host.Outcome State Fault Refusal := .next (live t (ageing rs) s)
def execHealthScoreUpdate (t : Nat) (s : State) : Host.Outcome State Fault Refusal := .next (live t updScore s)
def execHealthRead (t : Nat) (r : Req) (s : State) : Host.Outcome State Fault Refusal :=
  .next (command { op := 0x0B10 } (lenEq 4) healthReadBody t r s)
def execHealthSensorRetire (t : Nat) (r : Req) (s : State) : Host.Outcome State Fault Refusal :=
  .next (command { op := 0x0B11 } (lenEq 4) sensorRetireBody t r s)

end Sys2Proof.Machine
end

