-- ==== Sys2Proof/Machine/Lanes.lean ====
section
/-! DEFINITION. Machine/Lanes.lean: serial lanes: bring-up (R377 to R384), the twin handshake (R386, R387), test modes, checker and
injection (R388 to R392), eye scans (R393), the lane commands (R395 to R398) and events (R399). -/

namespace Sys2Proof.Machine

/-! ### Rates (R375, R379) -/

/-- Lane rates in 1/32 Gbit/s by code. -/
def rate32 (code : Nat) : Nat := [330, 825, 1700, 3400, 3600].getD code 3600

/-- Bits that pass at a rate in a span of ticks: 7.8125 ps × rate. -/
def bitsIn (code ticks : Nat) : Nat := ticks * rate32 code / 4096

/-- Mask of the rate codes a lane supports. -/
def laneMask (l : Nat) : Nat := if l < 8 then 15 else 31

/-- The highest rate code of the negotiation that runs: LANE.MAX_RATE, where a raise since its start counts only at the next (R382). -/
def laneTop (l : Nat) (s : State) : Nat := min (par s pLaneMaxRate l) (lane s l).top

/-- Rate codes a lane may use now: supported, from MIN_RATE to MAX_RATE, not struck out. -/
def laneRates (l : Nat) (s : State) : List Nat :=
  (List.range 5).filter (fun c => (laneMask l).testBit c && decide (par s pLaneMinRate l ≤ c) && decide (c ≤ laneTop l s)
    && !(lane s l).struck.testBit c)

/-- Rate codes two twin devices have in common: supported by both and above neither's LANE.MAX_RATE (R379). -/
def twinRates (l : Nat) (h : Hello) (s : State) : List Nat :=
  (List.range 5).filter (fun c => (laneMask l).testBit c && h.mask.testBit c && decide (c ≤ laneTop l s) && decide (c ≤ h.maxRate))

/-- The Clause 73 base page of a host lane: technology abilities, the 25G RS-FEC request and the pause bits (R376). -/
structure BasePage where
  kr10  : Bool
  kr25  : Bool
  kr50  : Bool
  kr100 : Bool
  rsFec : Bool
  c0    : Bool
  c1    : Bool
  deriving DecidableEq, Repr

/-- The base page a host lane sends while it negotiates under Clause 73 (R376, R379): every rate it offers, no pause. -/
def basePage (s : State) (l : Nat) : BasePage :=
  let o := laneRates l s
  { kr10 := o.contains 0, kr25 := o.contains 1, kr50 := o.contains 2, kr100 := o.contains 3
    rsFec := par s pLaneFec25g l == 1, c0 := false, c1 := false }

/-- FEC code of a rate (R375, R379): 0 none, 1 RS(528,514), 2 RS(544,514). At code 1 under Clause 73 the partner's request, which
no command carries, may also select it: open without an own request, and the same for every attempt of one negotiation.
Log entry 72 (DEDUCED). -/
def laneFec (l code : Nat) (s : State) : Nat × State :=
  if code = 0 then (0, s)
  else if 2 ≤ code then (2, s)
  else if 8 ≤ l ∨ par s pLaneFec25g l = 1 then (1, s)
  else if (lane s l).an = 1 then (0, s)
  else
    match (lane s l).fec25 with
    | some f => (f, s)
    | none =>
      let v := freeVal 2 s
      (v.1, setLane v.2 l { lane v.2 l with fec25 := some v.1 })

/-! ### Counters that run with the bits (R391, R392, R397) -/

/-- Whether a lane sends bits that injection acts on. -/
def laneSends (x : Lane) : Bool := (x.st == 5 && x.mode == 1) || (x.st == 4 && x.mode == 0)

/-- The checker's phase in 1/4096 bit: what its counts last left over and what passed since (R391). -/
def chkPhase (s : State) (x : Lane) : Nat := if x.locked then x.chkRem + (s.dev - x.lockAt) * rate32 x.rate else x.chkRem
/-- 64-bit words and bits checked since they were last brought up. Log entry 73 (DESIGN CHOICE). -/
def wordsDue (s : State) (x : Lane) : Nat := chkPhase s x / (64 * 4096)
def bitsDue (s : State) (x : Lane) : Nat := chkPhase s x / 4096 - x.chkRem / 4096
/-- The phase of rate injection in 1/4096 bit, and bits injected at the end of every 10^n since they were last brought up (R392). -/
def injPhase (s : State) (x : Lane) : Nat :=
  if laneSends x && x.inject == 3 then x.injRem + (s.dev - x.injAt) * rate32 x.rate else x.injRem
def injDue (s : State) (x : Lane) : Nat := if laneSends x && x.inject == 3 then injPhase s x / (4096 * 10 ^ x.injN) else 0

/-- Brings the counts of time up to now: words checked and bits injected, whose unfinished word and interval stay begun. -/
def laneClock (s : State) (x : Lane) : Lane :=
  { x with
    words := x.words + wordsDue s x, chkRem := chkPhase s x % (64 * 4096), lockAt := s.dev
    injected := x.injected + injDue s x, injAt := s.dev
    injRem := if laneSends x && x.inject == 3 then injPhase s x % (4096 * 10 ^ x.injN) else x.injRem }

/-- Code word counts of the time since they were last brought up: open, and only in UP with FEC. Log entry 73 (DESIGN CHOICE). -/
def laneWords (l : Nat) (s : State) : State :=
  let x := lane s l
  if x.st ≠ 4 ∨ x.fec = 0 then s
  else
    let a := freeVal 0 s
    let b := freeVal 0 a.2
    let c := freeVal 0 b.2
    setLane c.2 l { x with corrected := x.corrected + a.1, uncorr := x.uncorr + b.1, symbols := x.symbols + c.1 }

/-- Checker errors of the bits checked since they were last brought up: open, at least `lo` and at most `hi`. -/
def laneErrors (l lo hi : Nat) (s : State) : State :=
  let x := lane s l
  let e := freeVal (hi - lo + 1) s
  setLane e.2 l { x with errors := x.errors.add (2 ^ 48 - 1) (lo + e.1) }

/-- Brings a lane's counts up to now, before they are read and before the lane's state, mode or injection changes (R391, R392, R397).
Log entry 73 (DESIGN CHOICE). -/
def laneSettle (l : Nat) (s : State) : State :=
  let b := bitsDue s (lane s l)
  let s := laneWords l s
  let s := if (lane s l).locked && b != 0 then laneErrors l 0 b s else s
  setLane s l (laneClock s (lane s l))

/-- A single bit or a burst is injected as soon as bits are sent; the kind then returns to 0 (R392). -/
def laneInject (l : Nat) (s : State) : State :=
  let x := lane s l
  if laneSends x && (x.inject == 1 || x.inject == 2) then
    setLane s l { x with injected := x.injected + (if x.inject = 1 then 1 else x.injN), inject := 0, injN := 0 }
  else s

/-! ### State changes (R378, R384, R399) -/

/-- A change of B_p of a path is logged as STREAM_CAPACITY (R333, R384). -/
def updCapacity (s : State) : State :=
  [0, 1].foldl (fun s p =>
    let x := path s p
    let c := capacity s p
    if c = x.capN then s
    else irqOpen (227 + p) (logEv 0x0803 (le 1 p ++ le 1 (linksUp s p) ++ le 2 c) (setPath s p { x with capN := c }))) s

/-- LANE_DOWN (R399): the reason is open where the specification names none. Log entry 72 (DEDUCED). -/
def laneDownEv (l : Nat) (reason : Option Nat) (s : State) : State :=
  let v := freeVal 256 s
  let s := match reason with | some _ => s | none => v.2
  let x := lane s l
  wrapEv x.downs 1 0x0907 (le 1 l ++ le 1 1)
    (logEv 0x0902 (le 1 l ++ le 1 (reason.getD v.1)) (setLane s l { x with downs := x.downs.add 1 }))

/-- Takes a lane to a state with an update of its fields; leaving UP is LANE_DOWN, and holdover for TIME.PORT's lane; a change of test mode
is logged (R396). Log entry 72 (DEDUCED). -/
def laneTo (l : Nat) (reason : Option Nat) (f : Lane → Lane) (s : State) : State :=
  let was := (lane s l).st == 4
  let m := (lane s l).mode
  let s := laneSettle l s
  let s := setLane s l (f (lane s l))
  let s := if (lane s l).mode = m then s else logEv 0x0905 (le 1 l ++ le 1 (lane s l).mode) s
  let left := was && (lane s l).st != 4
  let s := irqOpen (217 + l) (if left then laneDownEv l reason s else s)
  let s := if left && l == par0 s pTimePort then timeHoldover (timeLink s) else s
  updCapacity s

/-- Training at a rate begins or is repeated (R380). -/
def laneTrain (l code : Nat) (reason : Option Nat) (s : State) : State :=
  let v := laneFec l code s
  laneTo l reason (fun x => { x with st := 3, rate := 255, target := code, fec := v.1, mode := 0, since := s.dev, locked := false }) v.2

/-- Step 2 of R377 (R379): forced mode trains at LANE.MAX_RATE at once, less what a step down has struck out; the other modes wait for
their partner. LANE.AN_MODE acts here (R394) and is held for the bring-up, as is LANE.MAX_RATE (R382). Log entry 72 (DEDUCED). -/
def laneNegotiate (l : Nat) (reason : Option Nat) (s : State) : State :=
  let s := laneTo l reason (fun x => { x with
    st := 2, rate := 255, tries := 0, mode := 0, anDone := false, helloN := 0, lastHello := none, crossLog := false
    since := s.dev, locked := false, an := par s pLaneAnMode l, fec25 := none, top := min (par s pLaneMaxRate l) x.cap }) s
  if l < 8 ∧ par s pLaneAnMode l = 1 then
    laneTrain l ((laneRates l s).getLast?.getD (laneTop l s)) none s
  else s

/-- Restarts a lane at step 2 with no struck rates (R381, R382, R395). -/
def laneRestart (l : Nat) (s : State) : State := laneNegotiate l none (setLane s l { lane s l with struck := 0, cap := 7 })

/-- Step 1 of R377. -/
def laneSelfCheck (l : Nat) (s : State) : State :=
  laneTo l none (fun x => { x with st := 1, rate := 255, struck := 0, tries := 0, everUp := false, failed := false, cap := 7, mode := 0, since := s.dev, locked := false }) s

/-- Every enabled lane starts bring-up when the device enters READY (R377). -/
def lanesStart (s : State) : State :=
  (List.range 10).foldl (fun s l => if par s pLaneEnable l = 1 then laneSelfCheck l s else s) s

/-- A bring-up ends in WAIT (R381, R386, R387). -/
def laneWait (l reason : Nat) (s : State) : State :=
  let s := laneDownEv l (some reason) s
  laneTo l none (fun x => { x with st := 6, rate := 255, since := s.dev, locked := false }) s

/-- The self-check ends (R377 step 1): with a pass after 1 ms of PRBS31 at the earliest, with a failure at its first bit error. -/
def selfCheckDone (l : Nat) (passed : Bool) (s : State) : State :=
  if 9 < l ∨ (lane s l).st ≠ 1 ∨ (passed = true ∧ s.dev < (lane s l).since + tMs) then s
  else if passed then laneNegotiate l none s
  else logEv 0x0904 (le 1 l) (laneTo l none (fun x => { x with st := 0, failed := true }) s)

/-- Clause 73 agrees on the highest common rate (R379). Log entry 72 (DEDUCED). -/
def negotiated (l partner : Nat) (s : State) : State :=
  if 7 < l ∨ (lane s l).st ≠ 2 ∨ (lane s l).an ≠ 0 then s
  else
    let s := setLane s l { lane s l with partner := partner, anDone := true }
    match ((laneRates l s).filter (fun c => partner.testBit c)).getLast? with
    | some c => laneTrain l c none s
    | none => s

/-- A twin lane receives a hello (R386, R387): three identical ones with the own serial acknowledged complete the handshake. -/
def twinHello (l : Nat) (h : Hello) (s : State) : State :=
  let x := lane s l
  let me := s.nv.serial % 2 ^ 24
  if l < 8 ∨ 9 < l ∨ x.st ≠ 2 then s
  else if h.serial = me then laneWait l 4 s
  else
    let n := if x.lastHello = some h then x.helloN + 1 else 1
    let cross := decide (h.laneNo ≠ l - 8)
    let s := setLane s l { x with
      helloN := n, lastHello := some h, since := s.dev, partner := h.mask, crossed := cross, crossLog := x.crossLog || cross }
    let s := if cross && !x.crossLog then logEv 0x0906 (le 1 l ++ le 1 h.laneNo) s else s
    if n < 3 ∨ h.ack ≠ me then s
    else
      match (twinRates l h s).getLast? with
      | some c => laneTrain l c none (setLane s l { lane s l with anDone := true })
      | none => s

/-- A failed attempt (R380, R381): another one, a step down, or WAIT at the lowest rate. -/
def laneFailed (l : Nat) (s : State) : State :=
  let x := lane s l
  if x.tries + 1 < par s pLaneTrainAttempts l then laneTrain l x.target none (setLane s l { x with tries := x.tries + 1 })
  else
    match ((laneRates l s).filter (fun c => decide (c < x.target))).getLast? with
    | none => laneWait l 2 s
    | some c =>
      let s := setLane s l { x with struck := x.struck ||| 2 ^ x.target, tries := 0, steps := x.steps.add 1 }
      let s := wrapEv x.steps 1 0x0907 (le 1 l ++ le 1 3) (logEv 0x0903 (le 1 l ++ le 1 x.target ++ le 1 c) s)
      if l < 8 ∧ x.an = 0 then laneNegotiate l none s else laneTrain l c none s

/-- TRAIN_TIMEOUT (R380, R386): of LANE.TRAIN_TIMEOUT in forced mode and on twin lanes, of its clause's timers under Clause 73. -/
def trainTimeout (l : Nat) (s : State) : State :=
  let x := lane s l
  let own := 8 ≤ l ∨ x.an = 1
  if 9 < l ∨ (own ∧ s.dev < x.since + par s pLaneTrainTimeout l * tMs) then s
  else if x.st = 3 then laneFailed l s
  else if x.st = 2 ∧ 8 ≤ l then laneWait l 2 s
  else s

/-- A trained lane enters UP (R377 step 4). -/
def laneUp (l : Nat) (s : State) : State :=
  if 9 < l ∨ (lane s l).st ≠ 3 then s
  else
    let s := laneTo l none (fun x => { x with st := 4, rate := x.target, everUp := true, mode := 0, since := s.dev }) s
    let x := lane s l
    laneInject l (logEv 0x0901 (le 1 l ++ le 1 x.rate ++ le 1 x.fec) s)

/-- Uncorrectable code words that a failure for reason 3 adds to the count: open, and more than LANE.UCW_LIMIT where the count was last
brought up before the aligned second that runs, or when the lane came UP. Log entry 73 (DESIGN CHOICE). -/
def ucwAtFailure (l : Nat) (s : State) : State :=
  let x := lane s l
  let v := freeVal 0 s
  let n := if x.lockAt ≤ x.since ∨ x.lockAt / tSec < s.dev / tSec then par s pLaneUcwLimit l + 1 + v.1 else v.1
  setLane v.2 l { x with uncorr := x.uncorr + n }

/-- An UP lane fails and retrains at its rate (R383), and may not exceed it until a restart: for lock lost for 1 ms, or with FEC for
uncorrectable code words. The frame in transmission is lost on the wire. Log entry 73 (DESIGN CHOICE). -/
def laneDown (l reason : Nat) (s : State) : State :=
  let x := lane s l
  if 9 < l ∨ x.st ≠ 4 ∨ (reason ≠ 1 ∧ reason ≠ 3) ∨ (reason = 1 ∧ s.dev < x.since + tMs) ∨ (reason = 3 ∧ x.fec = 0) then s
  else
    let s := if reason = 3 then ucwAtFailure l s else s
    laneTrain l x.rate (some reason)
      (setLane { s with str.tx := tput {} s.str.tx l {} } l { lane s l with tries := 0, cap := x.rate, top := min x.top x.rate })

/-- RETRY_INTERVAL expires in WAIT (R381). -/
def laneRetry (l : Nat) (s : State) : State :=
  let x := lane s l
  if 9 < l ∨ x.st ≠ 6 ∨ s.dev < x.since + par s pLaneRetryInterval l * tMs then s else laneRestart l s

/-! ### Parameter writes (R382, R394) -/

/-- LANE.ENABLE acts at once; a lane that failed its self-check stays OFF until LANE_RETRAIN (R377). -/
def laneEnable (l : Nat) (same : Bool) (s : State) : State :=
  let x := lane s l
  if par s pLaneEnable l = 0 then
    (if x.st = 0 then s else laneTo l none (fun x => { x with st := 0, rate := 255, mode := 0, locked := false }) s)
  else if same = false ∧ x.failed = false ∧ x.st = 0 ∧ 2 ≤ s.desk.st ∧ s.desk.st ≤ 6 then laneSelfCheck l s else s

/-- A rate limit that excludes the rate in use, in UP or TEST, restarts the lane (R382). -/
def laneLimits (l : Nat) (s : State) : State :=
  let x := lane s l
  if (x.st = 4 ∨ x.st = 5) ∧ (par s pLaneMaxRate l < x.rate ∨ x.rate < par s pLaneMinRate l) then laneRestart l s else s

/-! ### Transmitters and hellos (R378, R384, R386, R388, R394) -/

/-- What a lane's transmitter sends. -/
inductive LaneTx where
  /-- Squelched. -/
  | squelched
  /-- Negotiation or training, or idle, at a rate. -/
  | bringUp (rate : Nat)
  /-- Data from the PCS. -/
  | data (rate : Nat)
  /-- The pattern generator's bits. -/
  | pattern (code rate : Nat)
  /-- The received bits, retimed by the CDR. -/
  | farLoop (rate : Nat)
  deriving DecidableEq, Repr

/-- A lane's transmitter (R377, R378, R384, R388): squelched in RESET, BOOT and FROZEN. -/
def laneTx (s : State) (l : Nat) : LaneTx :=
  let x := lane s l
  if s.desk.st = 0 ∨ s.desk.st = 1 ∨ s.desk.st = 7 then .squelched
  else match x.st with
    | 2 => .bringUp 0
    | 3 => .bringUp x.target
    | 4 => .data x.rate
    | 5 => if x.mode = 1 then .pattern x.pattern x.rate else if x.mode = 3 then .farLoop x.rate else .squelched
    | _ => .squelched

/-- A bit of a lane on its balls and back (R376, R394): inverted by LANE.TX_POLARITY and LANE.RX_POLARITY. -/
def txBit (s : State) (l : Nat) (b : Bool) : Bool := b ^^ (par s pLaneTxPolarity l == 1)
def rxBit (s : State) (l : Nat) (b : Bool) : Bool := b ^^ (par s pLaneRxPolarity l == 1)

/-! ### Test patterns (R390, R391) -/

/-- Taps of a pattern's polynomial: the next bit is the exclusive or of the bits sent so many bits before. -/
def prbsTaps (code : Nat) : List Nat := [[7, 6], [9, 5], [13, 12, 2, 1], [31, 28]].getD code []

/-- The bit that follows the bits sent or received so far, newest first: what the generator sends and the checker predicts. -/
def prbsNext (code : Nat) (past : List Bool) : Bool := (prbsTaps code).foldl (fun b k => b ^^ past.getD (k - 1) false) false

/-- The generator's next `n` bits, newest first, after those sent. -/
def prbsRun (code : Nat) : Nat → List Bool → List Bool
  | 0, past => past
  | n + 1, past => prbsRun code n (prbsNext code past :: past)

/-- The PAM4 level of a Gray-coded bit pair, and the pair of a level. -/
def grayLevel (a b : Bool) : Nat := if a then (if b then 2 else 3) else b2n b
def grayBits (v : Nat) : Bool × Bool := (decide (2 ≤ v), v == 1 || v == 2)

/-- The levels a lane sends for bits in sending order: one bit a symbol at the NRZ rates, a Gray-coded pair at the PAM4 rates. PRBS13Q and
PRBS31Q are the Gray-coded sequences of their polynomials. Log entry 138 (PRESUMED). -/
def symbolsOf (rate : Nat) : List Bool → List Nat
  | a :: b :: r => if rate ≤ 1 then (3 * b2n a) :: (3 * b2n b) :: symbolsOf rate r else grayLevel a b :: symbolsOf rate r
  | [a] => if rate ≤ 1 then [3 * b2n a] else []
  | [] => []

/-- Symbol `i` of the pattern generator: SSPRQ is the sequence of IEEE 802.3 Clause 120, which the specification names and does not list;
the others run from the bits sent before, oldest first. Inversion turns a level over. Log entry 138 (PRESUMED). -/
def patternSymbol (s : State) (l code rate : Nat) (past : List Bool) (i : Nat) : Nat :=
  let v := if code = 4 then Config.ssprq i % 4 else (symbolsOf rate ((prbsRun code (2 * (i + 1)) past).reverse.drop past.length)).getD i 0
  if par s pLaneTxPolarity l = 1 then 3 - v else v

/-- The checker locks after 64 received bits in a row that match its prediction, bits newest first (R391). -/
def checkerFits (code : Nat) (bits : List Bool) : Bool :=
  (List.range 64).all (fun i => bits.getD i false == prbsNext code (bits.drop (i + 1)))

/-- The main tap of a lane's transmitter in 1/64 of full swing (R394 TX_FFE). -/
def mainTap (s : State) (l : Nat) : Int :=
  64 - sumN ((List.range 4).map (fun i => (sgn 8 (par s pLaneTxFfe l / 256 ^ i % 256)).natAbs))

/-- The hello a twin lane sends once per microsecond while it negotiates (R386); the acknowledgement carries the partner's serial, 0 before
one is received. Log entry 72 (DEDUCED). -/
def ownHello (s : State) (l : Nat) : Hello :=
  { laneNo := l - 8, mask := laneMask l, maxRate := laneTop l s, serial := s.nv.serial % 2 ^ 24
    ack := match (lane s l).lastHello with | some h => h.serial | none => 0 }

/-! ### Checker (R391) -/

/-- The checker locks. -/
def checkerLock (l : Nat) (s : State) : State :=
  let x := lane s l
  if 9 < l ∨ x.st ≠ 5 ∨ x.mode = 3 ∨ x.locked then s else setLane s l { x with locked := true, lockFrom := s.dev, lockAt := s.dev }

/-- Least and most errors that the bits checked since the counts were last brought up may hold, with `errors` of the last 65,536. -/
def lossLow (bits errors : Nat) : Nat := errors - (65536 - min bits 65536)
def lossHigh (bits errors : Nat) : Nat := (bits - 65536) + min bits errors

/-- The checker loses lock: `errors` of an aligned 65,536 bits since it locked. Log entry 73 (DESIGN CHOICE). -/
def checkerLoss (l errors : Nat) (s : State) : State :=
  let x := lane s l
  if 9 < l ∨ x.locked = false ∨ errors < 16384 ∨ 65536 < errors ∨ bitsIn x.rate (s.dev - x.lockFrom) < 65536 then s
  else
    let b := bitsDue s x
    let s := laneErrors l (lossLow b errors) (lossHigh b errors) s
    let s := setLane s l (laneClock s (lane s l))
    wrapEv x.losses 1 0x0907 (le 1 l ++ le 1 2) (setLane s l { lane s l with locked := false, losses := x.losses.add 1 })

/-! ### Commands (R395 to R398) -/

/-- LANE_RETRAIN (R389, R395). -/
def retrainBody (_op : Nat) (r : Req) (s : State) : CmdOut :=
  let m := fld r.payload 0 2
  if 1023 < m ∨ fld r.payload 2 2 ≠ 0 then .done rBadParam [] s
  else .done rOK [] ((List.range 10).foldl (fun s l =>
    if m.testBit l && par s pLaneEnable l == 1 then (if (lane s l).st = 0 then laneSelfCheck l s else laneRestart l s) else s) s)

/-- Whether an injection's kind and n fit (R392). Log entry 74 (DEDUCED). -/
def injectOk (kind n : Nat) : Bool :=
  if kind ≤ 1 then n == 0 else if kind = 2 then decide (1 ≤ n ∧ n ≤ 255) else kind == 3 && decide (3 ≤ n ∧ n ≤ 12)

/-- The rate a lane tests at (R388): the one it uses or trains at; the base rate in WAIT, NEGOTIATE and SELF_CHECK. -/
def testRate (x : Lane) : Nat := if x.st = 4 ∨ x.st = 5 then x.rate else if x.st = 3 ∨ x.everUp then x.target else 0

/-- LANE_TEST (R388, R389, R392, R396). Log entries 72 (DEDUCED), 74 (DEDUCED). -/
def laneTestBody (_op : Nat) (r : Req) (s : State) : CmdOut :=
  let l := fld r.payload 0 1
  let mode := fld r.payload 1 1
  let pt := fld r.payload 2 1
  let kind := fld r.payload 3 1
  let n := fld r.payload 4 1
  let x := lane s l
  let rate := if mode = 2 ∧ (x.st = 6 ∨ x.st = 2) then 0 else testRate x
  if l < 10 ∧ 1 ≤ mode ∧ mode ≤ 3 ∧ (if mode = 2 then x.st = 0 else x.everUp = false) then .done rNotPermitted [] s
  else if 9 < l ∨ 3 < mode ∨ ((mode = 1 ∨ mode = 2) ∧ (4 < pt ∨ (pt = 4 ∧ rate ≤ 1))) ∨ injectOk kind n = false
      ∨ (2 ≤ mode ∧ kind ≠ 0) ∨ allZero (r.payload.drop 5) = false then
    refuse rBadParam [.lit (le 1 l), (if l < 10 then .lit (le 1 x.mode) else .below 1 4), .zero 2] s
  else
    let ch := mode ≠ x.mode
    let s := if mode = 0 then
        (if x.st = 5 then laneTrain l x.rate none (setLane s l { x with tries := 0 }) else laneSettle l s)
      else laneTo l none (fun x => { x with
        st := 5, rate := rate, fec := if rate = 0 then 0 else x.fec, mode := mode, pattern := if mode = 3 then x.pattern else pt
        locked := x.locked && !decide ch && (decide (mode = 3) || pt == x.pattern) }) s
    let s := setLane s l { lane s l with inject := kind, injN := n, injRem := 0 }
    .done rOK (le 1 l ++ le 1 mode ++ le 2 0) (laneInject l s)

/-- LANE_STATUS_READ (R397). -/
def laneStatusBody (_op : Nat) (r : Req) (s : State) : CmdOut :=
  let l := fld r.payload 0 1
  let c := fld r.payload 1 1
  if 9 < l ∨ clearOk c = false ∨ fld r.payload 2 2 ≠ 0 then
    refuse rBadParam [.lit (le 1 l), .below 1 7, .free 1, .below 1 3, .mask 2 0x7F, .free 1, .below 1 4, .free 30, .zero 2, .free 28] s
  else
    let s := laneSettle l s
    let x := lane s l
    let p := le 1 l ++ le 1 x.st ++ le 1 (if x.st = 4 ∨ x.st = 5 then x.rate else 255) ++ le 1 x.fec
      ++ le 2 (b2n x.locked + 2 * b2n x.errors.sat + 4 * b2n x.downs.wrap + 8 * b2n x.losses.wrap + 16 * b2n x.steps.wrap
        + 32 * b2n x.crossed + 64 * b2n x.anDone)
      ++ le 1 x.partner ++ le 1 x.mode ++ le 8 x.corrected ++ le 8 x.uncorr ++ le 8 x.symbols ++ le 8 x.errors.val
      ++ le 8 x.words ++ le 8 x.injected ++ le 4 x.downs.val.toNat ++ le 4 x.losses.val.toNat
      ++ le 4 x.steps.val.toNat
    let k := c.testBit 0
    let g := c.testBit 1
    .done rOK p (setLane s l { x with
      corrected := if k then 0 else x.corrected, uncorr := if k then 0 else x.uncorr, symbols := if k then 0 else x.symbols
      errors := x.errors.clear k g, words := if k then 0 else x.words, injected := if k then 0 else x.injected
      downs := x.downs.clear k g, losses := x.losses.clear k g, steps := x.steps.clear k g })

/-- Offsets a scan may visit (R393). Log entry 74 (DEDUCED). -/
def scanOffsets (kind : Nat) : Nat := if kind = 0 then 64 else if kind = 1 then 255 else 1

/-- A refusal of LANE_EYE_SCAN: lane as requested, the rest open but for the reserved bytes. -/
def eyeRefuse (result l kind : Nat) (s : State) : CmdOut :=
  refuse result ([.lit (le 1 l), .free 1, .zero 2]
    ++ (List.range 3).flatMap (fun _ => if kind < 2 then [RField.free 4, .zero 4] else [.free 8])) s

/-- LANE_EYE_SCAN (R393, R398): the response comes at the end of the scan. Log entry 74 (DEDUCED). -/
def eyeScanBody (_op : Nat) (r : Req) (s : State) : CmdOut :=
  let l := fld r.payload 0 1
  let kind := fld r.payload 1 1
  let d := fld r.payload 2 1
  let h := fldI r.payload 4 1
  let v := fldI r.payload 5 1
  let x := lane s l
  if l < 10 ∧ !(x.st == 4 || (x.st == 5 && x.mode == 1 && x.locked)) then .done rNotPermitted [] s
  else if 9 < l ∨ 2 < kind then eyeRefuse rBadParam l kind s
  else if d < 20 ∨ 40 < d then eyeRefuse rRange l kind s
  else if fld r.payload 3 1 ≠ 0 then eyeRefuse rBadParam l kind s
  else if kind = 2 ∧ (h < -32 ∨ 31 < h ∨ v < -127) then eyeRefuse rRange l kind s
  else if kind < 2 ∧ fld r.payload 6 2 = 0 then eyeRefuse rRange l kind s
  else if 60000000000 * rate32 x.rate < scanOffsets kind * 2 ^ d * 32 then eyeRefuse rRange l kind s
  else if s.lan.scan.isSome then .done rBUSY [] s
  else .pending { s with lan.scan := some {
      lane := l, kind := kind, d := d, h := h, v := v, thr := fld r.payload 6 2, eyes := if x.rate ≤ 1 then 1 else 3
      mb := r.mb, tag := r.tag } }

/-- Offsets of one side that a scan may step to after offset 0, downward and upward (R393). -/
def scanSide (kind : Nat) (up : Bool) : Nat := if kind = 0 then (if up then 31 else 32) else 127

/-- A scan's offsets of one eye: from 0 outward to the last whose count is at or below the threshold; where offset 0 itself is above it no
offset is, and both are open. The counts are those of offset 0 and upward, and of -1 and downward. Log entry 74 (DEDUCED). -/
def eyeReach (e : EyeScan) (low high : List Nat) : Option (Int × Int) :=
  let ok (c : Nat) : Bool := decide (min c (2 ^ e.d) ≤ e.thr)
  match (high.take (scanSide e.kind true + 1)).takeWhile ok with
  | [] => none
  | _ :: up => some (-(((low.take (scanSide e.kind false)).takeWhile ok).length : Int), (up.length : Int))

/-- The answer's bytes of one eye (R398): the count of a point, at most the 2^d decisions, or the offsets reached. -/
def eyeBytes (e : EyeScan) (low high : List Nat) (count : Nat) (s : State) : List Byte × State :=
  if e.kind = 2 then (le 8 (min count (2 ^ e.d)), s)
  else
    match eyeReach e low high with
    | some p => (leI 2 p.1 ++ leI 2 p.2 ++ le 4 0, s)
    | none =>
      let f := freeBytes 4 s
      (f.1 ++ le 4 0, f.2)

/-- The scan ends with the counts it took in each eye (R393, R398); the eyes an NRZ lane has not are open. Log entry 73 (DESIGN CHOICE). -/
def eyeScanDone (low high : List (List Nat)) (count : List Nat) (s : State) : State :=
  match s.lan.scan with
  | none => s
  | some e =>
    let o := (List.range e.eyes).foldl (fun (a : List Byte × State) i =>
      let r := eyeBytes e (low.getD i []) (high.getD i []) (count.getD i 0) a.2
      (a.1 ++ r.1, r.2)) ([], { s with lan.scan := none })
    let f := freeBytes (24 - o.1.length) o.2
    mbDone e.mb 0x0913 rOK e.tag (le 1 e.lane ++ le 1 e.eyes ++ le 2 0 ++ o.1 ++ f.1) f.2

def execLaneRetrain (t : Nat) (r : Req) (s : State) : Host.Outcome State Fault Refusal :=
  .next (command { op := 0x0910 } (lenEq 4) retrainBody t r s)
def execLaneTest (t : Nat) (r : Req) (s : State) : Host.Outcome State Fault Refusal :=
  .next (command { op := 0x0911 } (lenEq 8) laneTestBody t r s)
def execLaneStatusRead (t : Nat) (r : Req) (s : State) : Host.Outcome State Fault Refusal :=
  .next (command { op := 0x0912 } (lenEq 4) laneStatusBody t r s)
def execLaneEyeScan (t : Nat) (r : Req) (s : State) : Host.Outcome State Fault Refusal :=
  .next (command { op := 0x0913 } (lenEq 8) eyeScanBody t r s)
def execEyeScanDone (t : Nat) (low high : List (List Nat)) (count : List Nat) (s : State) : Host.Outcome State Fault Refusal :=
  .next (live t (eyeScanDone low high count) s)
def execLaneSelfCheckDone (t l : Nat) (passed : Bool) (s : State) : Host.Outcome State Fault Refusal :=
  .next (live t (selfCheckDone l passed) s)
def execNegotiationComplete (t l partner : Nat) (s : State) : Host.Outcome State Fault Refusal := .next (live t (negotiated l partner) s)
def execTwinHello (t l : Nat) (h : Hello) (s : State) : Host.Outcome State Fault Refusal := .next (live t (twinHello l h) s)
def execTrainTimeout (t l : Nat) (s : State) : Host.Outcome State Fault Refusal := .next (live t (trainTimeout l) s)
def execLaneUp (t l : Nat) (s : State) : Host.Outcome State Fault Refusal := .next (live t (laneUp l) s)
def execLaneDown (t l reason : Nat) (s : State) : Host.Outcome State Fault Refusal := .next (live t (laneDown l reason) s)
def execLaneRetry (t l : Nat) (s : State) : Host.Outcome State Fault Refusal := .next (live t (laneRetry l) s)
def execCheckerLock (t l : Nat) (s : State) : Host.Outcome State Fault Refusal := .next (live t (checkerLock l) s)
def execCheckerLockLoss (t l errors : Nat) (s : State) : Host.Outcome State Fault Refusal := .next (live t (checkerLoss l errors) s)

end Sys2Proof.Machine
end

