-- ==== Sys2Proof/Machine/StreamCmd.lean ====
section
/-! DEFINITION. Machine/StreamCmd.lean: the stream's commands (R368 to R372) and its events: flush and key close (R335, R415),
a link that becomes free (R358), point tokens (R361), received frames (R330). -/

namespace Sys2Proof.Machine

/-! ### Commands -/

/-- STREAM_CONFIG (R368); a new stream id restarts the slot's sequence. The TCI counts only with the tag present. Log entry 55 (DEDUCED). -/
def streamConfigBody (_op : Nat) (r : Req) (s : State) : CmdOut :=
  let k := fld r.payload 0 1
  let en := fld r.payload 1 1
  let pa := fld r.payload 2 1
  let vl := fld r.payload 3 1
  let id := fld r.payload 4 2
  let tci := fld r.payload 6 2
  let bad := vl = 1 ∧ (tci % 4096 = 0 ∨ tci % 4096 = 4095 ∨ tci.testBit 12 = true)
  if 7 < k ∨ 1 < en ∨ 1 < pa ∨ 1 < vl ∨ bad ∨ fld r.payload 14 2 ≠ 0 then .done rBadParam [] s
  else
    let x := slot s k
    let cfg : SlotCfg := { enable := en == 1, path := pa, vlan := vl == 1, id := id, tci := tci, dest := fld r.payload 8 6 }
    .done rOK [] (setSlot s k { x with cfg := cfg, epoch := x.epoch + b2n (decide (id ≠ x.cfg.id)) })

/-- A region of a RAW_REQUEST. -/
def rawRegion (p : List Byte) (i : Nat) : List Nat :=
  let o := 4 + 12 * i
  [fld p o 2, fld p (o + 2) 2, fld p (o + 4) 2, fld p (o + 6) 2, fld p (o + 8) 1]

/-- RAW_REQUEST (R369): it governs from the next frame start on. Log entry 55 (DEDUCED). -/
def rawRequestBody (_op : Nat) (r : Req) (s : State) : CmdOut :=
  let fine := fld r.payload 0 1
  let n := fld r.payload 1 1
  let ok := (List.range n).all (fun i => decide (fld r.payload (12 + 12 * i) 1 ≤ 3) && decide (fld r.payload (13 + 12 * i) 3 = 0))
  if 1 < fine ∨ 8 < n ∨ fld r.payload 2 2 ≠ 0 ∨ ok = false then refuse rBadParam [.free 4] s
  else
    let first := (s.sch.frameNo.val.toNat + b2n (decide (s.sch.linesRun ≠ 0))) % 2 ^ 32
    let q : RawReq := { first := first, fine := fine == 1, regions := (List.range n).map (rawRegion r.payload) }
    .done rOK (le 4 first) { s with str.raws := (q :: s.str.raws.filter (fun x => x.first != first)).take 64 }

/-- MACSEC_KEY_SET (R370): an active SA is in use and cannot be installed over. Log entry 54 (DEDUCED). -/
def keySetBody (_op : Nat) (r : Req) (s : State) : CmdOut :=
  let p := fld r.payload 0 1
  let d := fld r.payload 1 1
  let an := fld r.payload 2 1
  let act := fld r.payload 3 1
  let pn := fld r.payload 12 8
  let k := p * 8 + d * 4 + an
  let old := tget none s.str.sas k
  let key := r.payload.drop 36
  let short := par0 s pMacsecCipher % 2 = 0
  if 1 < p ∨ 1 < d ∨ 3 < an ∨ act = 0 ∨ 3 < act then .done rBadParam [] s
  else if act = 1 then
    (if pnSpace s ≤ pn ∨ (short ∧ allZero (key.drop 16) = false) then .done rBadParam [] s
     else if (match old with | some a => a.active | none => false) then .done rBUSY [] s
     else
      let a : Sa := { sci := fld r.payload 4 8, pn := pn, ssci := fld r.payload 20 4, salt := (r.payload.drop 24).take 12, key := key }
      .done rOK [] { s with str.sas := tput none s.str.sas k (some a) })
  else match old with
    | none => .done rBadParam [] s
    | some a =>
      if act = 3 then .done rOK [] { s with str.sas := tput none s.str.sas k none }
      else if d = 1 then .done rOK [] { s with str.sas := tput none s.str.sas k (some { a with active := true }) }
      else
        let off := (List.range 4).foldl (fun m n => tput none m (p * 8 + n) ((tget none m (p * 8 + n)).map (fun b => { b with active := n == an }))) s.str.sas
        .done rOK [] (pnCheck p (setPath { s with str.sas := off } p { path s p with stopTx := false }))

/-- STREAM_STATUS_READ (R372). -/
def streamStatusBody (_op : Nat) (r : Req) (s : State) : CmdOut :=
  let p := fld r.payload 0 1
  let c := fld r.payload 1 1
  if 1 < p ∨ clearOk c = false ∨ fld r.payload 2 2 ≠ 0 then
    refuse rBadParam [.lit (le 1 p), .below 1 16, .free 2, .mask 1 31, .lit (le 1 s.tim.st), .mask 2 0xFF, .free 48] s
  else
    let s := assemble s
    let x := path s p
    let sh := (List.range 5).map (fun i => (tget {} x.shed (i + 1) : CntW))
    let shed := bitsOf ((List.range 5).filter (fun i => (queue s p (i + 1)).shedding || (queue s 2 (i + 1)).shedding))
    let wraps := bitsOf ((List.range 8).filter (fun i => ((sh ++ [x.repl, x.lossC, x.ceil]).getD i {}).wrap))
    let b := le 1 p ++ le 1 (linksUp s p) ++ le 2 (capacity s p) ++ le 1 shed ++ le 1 s.tim.st ++ le 2 wraps ++ le 8 x.frames ++ le 8 x.bytes
      ++ sh.flatMap (fun w => le 4 w.val.toNat) ++ le 4 x.repl.val.toNat ++ le 4 x.lossC.val.toNat ++ le 4 x.ceil.val.toNat
    let k := c.testBit 0
    let g := c.testBit 1
    .done rOK b (setPath s p { x with
      frames := if k then 0 else x.frames, bytes := if k then 0 else x.bytes
      shed := (List.range 5).foldl (fun m i => tput {} m (i + 1) ((tget {} m (i + 1) : CntW).clear k g)) x.shed
      repl := x.repl.clear k g, lossC := x.lossC.clear k g, ceil := x.ceil.clear k g })

/-! ### Events -/

/-- Whether STREAM.FLUSH has passed since a frame's first record (R335). -/
def flushDue (s : State) (k cls : Nat) (o : OpenF) : Bool :=
  o.slot == k && o.cls == cls && o.key.isNone && decide (o.start + par0 s pStreamFlush * tUs ≤ s.dev)

/-- STREAM.FLUSH after a frame's first record it closes (R335). -/
def bluwardFlush (k cls : Nat) (s : State) : State := let s := assemble s; closeAll (flushDue s k cls) s

/-- Whether a keyed frame's close instant has come (R415); one whose line is no longer known closes too. -/
def keyDue (s : State) (k cls : Nat) (o : OpenF) : Bool :=
  o.slot == k && o.cls == cls && o.key.isSome && (match lineKey s o.frame o.line, o.recs.head? with
    | some lk, some r => decide (tClose s lk r.point ≤ refOf s (coarse s))
    | _, _ => true)

/-- Keyed frames whose close instant has come leave for their class queue. -/
def keyClose (k cls : Nat) (s : State) : State := let s := assemble s; closeAll (keyDue s k cls) s

/-- A class 1 token falls due (R361). -/
def pointToken (s : State) : State := accrue (assemble s)

/-- Whether a receive SA of the path, installed and activated, protects a frame (R330, R370). Log entry 54 (DEDUCED). -/
def rxProtected (f : Frame) (s : State) : Bool :=
  match f.secured with
  | some an => (match tget none s.str.sas (f.lane / 4 * 8 + 4 + an) with | some a => a.active | none => false)
  | none => false

/-- Whether a received frame is a management frame the device accepts (R330, R434). -/
def mgmtOk (f : Frame) (s : State) : Bool :=
  let p := f.lane / 4
  decide (f.lane < 8) && decide (f.etherType = par0 s pMgmtEthertype) && (par0 s pMgmtEnable).testBit p
    && decide (f.dst = par s pStreamSrcMac p) && (rxProtected f s || !(par0 s pMacsecEnable).testBit 1)
    && decide (2 ≤ s.desk.st) && decide (s.desk.st ≤ 6)

/-- A received frame of no accepted kind (R330). -/
def frameDropped (f : Frame) (s : State) : State :=
  if 7 < f.lane ∨ mgmtOk f s ∨ (f.etherType = 0x88F7 ∧ f.lane = par0 s pTimePort) then s
  else { s with str.rxDrop := s.str.rxDrop + 1 }

def execStreamConfig (t : Nat) (r : Req) (s : State) : Host.Outcome State Fault Refusal :=
  .next (command { op := 0x0810 } (lenEq 16) streamConfigBody t r s)
def execRawRequest (t : Nat) (r : Req) (s : State) : Host.Outcome State Fault Refusal :=
  .next (command { op := 0x0811 } (fun p => decide (4 ≤ p.length) && p.length == 4 + 12 * fld p 1 1) rawRequestBody t r s)
def execMacsecKeySet (t : Nat) (r : Req) (s : State) : Host.Outcome State Fault Refusal :=
  .next (command { op := 0x0812 } (lenEq 68) keySetBody t r s)
def execStreamStatusRead (t : Nat) (r : Req) (s : State) : Host.Outcome State Fault Refusal :=
  .next (command { op := 0x0814 } (lenEq 4) streamStatusBody t r s)
def execBluwardFlush (t k cls : Nat) (s : State) : Host.Outcome State Fault Refusal := .next (live t (bluwardFlush k cls) s)
def execKeyClose (t k cls : Nat) (s : State) : Host.Outcome State Fault Refusal := .next (live t (keyClose k cls) s)
def execLinkFree (t l : Nat) (s : State) : Host.Outcome State Fault Refusal := .next (live t (linkFree l) s)
def execPointToken (t : Nat) (s : State) : Host.Outcome State Fault Refusal := .next (live t pointToken s)
def execReceivedFrameDropped (t : Nat) (f : Frame) (s : State) : Host.Outcome State Fault Refusal := .next (live t (frameDropped f) s)

end Sys2Proof.Machine
end

