-- ==== Sys2Proof/Machine/Freeze.lean ====
section
/-! DEFINITION. Machine/Freeze.lean: the front-desk registers as a host reads them (R439 to R446) and the freeze and thaw (R433,
R443, R524 to R526). -/

namespace Sys2Proof.Machine

/-! ### Register reads (R432, R433, R439 to R446) -/

/-- A register of a mailbox's control block (R446); MB_DOORBELL is write-only. -/
def mbReg (s : State) (k o : Nat) : Nat :=
  let m := mb s k
  if o = 4 then m.st + 256 * b2n m.overrun + 1024 * b2n m.writeIgnored + 2048 * b2n m.inBand
  else if o = 8 then m.completed.val.toNat
  else if o = 12 then m.lastResult * 65536 + m.lastOpcode
  else 0

/-- The front desk's word at an offset outside FROZEN; reserved offsets and write-only registers read 0. -/
def deskWord (s : State) (a : Nat) : Nat :=
  if a = 0x000 then 0x0EC11024
  else if a = 0x004 then s.nv.grade * 256 + 0xB0
  else if a = 0x008 then s.desk.fwVersion.toNat
  else if a = 0x00C then s.nv.serial % 2 ^ 32
  else if a = 0x010 then s.nv.serial / 2 ^ 32 % 2 ^ 32
  else if a = 0x020 then stateWord s
  else if a = 0x024 then s.desk.attention.toNat
  else if a = 0x028 then s.desk.attnEnable.toNat
  else if a = 0x02C then s.desk.attnDelay
  else if a = 0x034 then s.desk.held.val * 65536 + s.desk.resetCause
  else if a = 0x040 then s.desk.eventCount.val.toNat
  else if 0x100 ≤ a ∧ a < 0x200 then mbReg s (a / 32 % 8) (a % 32)
  else if 0x800 ≤ a ∧ a < 0x1000 then cgetLE 0 (mb s (a / 256 % 8)).buf (a % 256) 4
  else 0

/-- What a read of the front desk answers (R433): in FROZEN the values held at the freeze below 0x040, and 0 above. -/
def deskRead (s : State) (a : Nat) : Nat :=
  if s.desk.st = 7 then (if a < 0x40 then (s.desk.snap.getD (a / 4) 0).toNat else 0) else deskWord s (a / 4 * 4)

/-! ### Freeze (R524, R525) -/

/-- Outputs that FROZEN and RESET let go (R418, R520, R525): ring bypass closed, shared lines released. -/
def releasePins (s : State) : State := { s with pins.ringEng := false, pins.trigIo := none, pins.claimLo := false }

/-- FROZEN is entered, to leave it for a state; the registers below 0x040 keep their values. -/
def freezeNow (to_ : Nat) (s : State) : State :=
  let s := setSt 7 4 (releasePins { s with rst.from_ := to_, mem.refresh := true, rng.engaged := false })
  { s with desk.snap := (List.range 16).map (fun i => BitVec.ofNat 32 (deskWord s (4 * i))) }

/-- Enters FROZEN; a request in RESET is held, one in FROZEN ignored (R525). Log entry 60 (DEDUCED). -/
def doFreeze (s : State) : State :=
  if s.desk.st = 7 then s
  else if s.desk.st = 0 then { s with rst.frzHeld := true }
  else freezeNow s.desk.st s

/-! ### Thaw (R526) -/

/-- The running frame ends with a truncated FBE at the thaw (R25, R526). -/
def thawFrame (s : State) : State :=
  if s.sch.running then
    judgeSeals { s with
      sch.strs := s.sch.strs.map (fun p => (p.1, { p.2 with placed := none }))
      sch.line := none, sch.nextLine := 0, sch.truncated := true, sch.fbeAt := some s.dev }
  else
    { s with
      sch.strs := s.sch.strs.map (fun p => (p.1, { p.2 with placed := none }))
      sch.line := none, sch.nextLine := 0
      sch.linesRun := if s.sch.fbeAt.isNone then 0 else s.sch.linesRun }

/-- Lanes that were UP restart at step 3 at their rate (R384). -/
def thawLanes (s : State) : State :=
  (List.range 10).foldl (fun s l =>
    let x := lane s l
    if x.st = 4 then laneTrain l x.rate none (setLane s l { x with tries := 0 }) else s) s

/-- Leaves FROZEN by a lab thaw: READY from an emitting state, else the state held at the freeze. STATE_CHANGE names no cause for it
(log entry 1). The ring node engages anew. Log entries 13 (DESIGN CHOICE), 60 (DEDUCED). -/
def doThaw (s : State) : State :=
  if s.desk.st ≠ 7 ∨ s.desk.lab = false then s
  else
    let f := s.rst.from_
    let emit := f = 3 ∨ f = 4 ∨ f = 5
    let c := freeVal 256 s
    let s := { c.2 with mem.refresh := false, rng.beats := 0, rng.locked := false, rng.leader := false, rng.holdover := false }
    let s := setSt (if emit then 2 else f) c.1 (dropPend s)
    let s := if emit then thawFrame s else s
    thawLanes (timeHoldover s)

/-- A write to FREEZE_CTL (R433, R443): it acts only with its key. Log entry 60 (DEDUCED). -/
def freezeCtl (v : Word) (s : State) : State :=
  if v.toNat / 65536 ≠ 0xA5C3 then s
  else if s.desk.st = 7 then (if v.getLsbD 1 then doThaw s else s)
  else if v.getLsbD 0 ∧ s.desk.st ≠ 0 then doFreeze s
  else s

/-- FREEZE_N low for 10 ns (R524). -/
def freezeN (w : Nat) (s : State) : State := if w < 10 then s else doFreeze s

/-- FREEZE: a keyed write with the FREEZE bit. -/
def freezeWrite (v : Word) (s : State) : State := if v.getLsbD 0 then freezeCtl v s else s

/-- THAW: a keyed write with the THAW bit. -/
def thawWrite (v : Word) (s : State) : State := if v.getLsbD 1 then freezeCtl v s else s

def execFreeze (t : Nat) (v : Word) (s : State) : Host.Outcome State Fault Refusal := .next (freezeWrite v (advance t s))
def execThaw (t : Nat) (v : Word) (s : State) : Host.Outcome State Fault Refusal := .next (thawWrite v (advance t s))
def execFreezeN (t w : Nat) (s : State) : Host.Outcome State Fault Refusal := .next (freezeN w (advance t s))

end Sys2Proof.Machine
end

