-- ==== Sys2Proof/Machine/Twin.lean ====
section
/-! DEFINITION. Machine/Twin.lean: claim rounds (R404 to R408), the twin status exchange (R407), line notices (R409), owner fire
stamps (R410), service sets of the owner (R413). -/

namespace Sys2Proof.Machine

/-- The claim number (R404). -/
def claimNumber (s : State) : Nat :=
  let p := if stEmits s && s.pins.lsrA && s.pins.lsrB then par0 s pTwinPriority else 0
  let h := if s.twn.stale then 0 else min 255 (s.hlt.score + if s.twn.owner then par0 s pTwinOwnerBias else 0)
  p % 16 * 4096 + h * 16 + s.twn.strap % 16

/-- A claim fault is logged as it is detected (R406): once while it lasts over successive rounds. Log entry 57 (DEDUCED). -/
def claimFault (reason : Nat) (s : State) : State :=
  if s.twn.faultNow && s.twn.faultWhy == reason then s
  else logEv 0x0A03 (le 1 reason) { s with twn.faultNow := true, twn.faultWhy := reason }

/-- Takes or gives up the head (R408); joined CHG_EN lines are driven only while owner (R403). Log entry 57 (DEDUCED). -/
def setOwner (o : Bool) (s : State) : State :=
  if o = s.twn.owner then s
  else
    let c := s.twn.ownerC
    let s := logEv 0x0A01 (le 1 (b2n o) ++ le 2 s.twn.claim ++ le 2 s.twn.partner) { s with twn.owner := o, twn.ownerC := c.add 1 }
    wrapEv c 1 0x0A0B (le 1 1) s

/-- The microsecond of reference time (R405, R407). -/
def refMicro (s : State) : Int := refOf s (coarse s) / 2000

/-- A claim round starts, one at every multiple of 2,000 coarse cycles of reference time: the claim number is latched, and the device
sends on CLAIM_LINE (R405). -/
def claimStart (s : State) : State :=
  if twinMode s = false ∨ refOf s (coarse s) % 2000 ≠ 0 ∨ s.twn.roundNo = some (refMicro s) then s
  else { s with
    twn.claim := claimNumber s, twn.round := true, twn.roundNo := some (refMicro s), twn.roundAt := s.dev, pins.claimLo := true }

/-- The outcome of a round's cells from bit 15 down: the device still sends its own bits until it loses; (lost, stuck high). -/
def claimCells (claim read : Nat) : Nat → Bool → Bool → Bool × Bool
  | 0, lost, stuck => (lost, stuck)
  | i + 1, lost, stuck =>
    let sent := claim.testBit i && !lost
    claimCells claim read i (lost || (!sent && read.testBit i)) (stuck || (sent && !read.testBit i))

/-- A claim round ends, 1 µs after its start (R405, R406, R408): interrupt source 232. Log entry 57 (DEDUCED). -/
def claimEnd (syncLow : Bool) (read : Nat) (s : State) : State :=
  if twinMode s = false ∨ s.twn.round = false ∨ s.dev < s.twn.roundAt + tUs then s
  else
    let r := claimCells s.twn.claim read 16 false false
    let alone := (lane s 8).st ≠ 4 ∧ (lane s 9).st ≠ 4
    let s := irq 232 { s with
      twn.round := false, pins.claimLo := false
      twn.partner := if r.1 then read % 65536 else if alone then 0 else s.twn.partner }
    if syncLow then setOwner false (claimFault 1 s)
    else if r.2 then setOwner false (claimFault 2 s)
    else setOwner (!r.1 && !s.twn.conflict) { s with twn.faultNow := false }

/-- A twin status exchange (R406, R407): Δ of the listening twin from its stamps t1, t4 and the partner's t2, t3 in ticks; a strap
conflict releases every joined output until RESET_N. Interrupt source 231. Log entry 57 (DEDUCED). -/
def twinStatus (strap headId t1 t2 t3 t4 : Nat) (s : State) : State :=
  if twinMode s = false then s
  else
    let s := irq 231 { s with twn.lastX := some s.dev, twn.held := false }
    let s := if s.twn.strap % 2 = 1 then { s with twn.delta := sgn 32 (pat 32 (128 * (((t2 : Int) - t1) - ((t4 : Int) - t3)))) } else s
    if strap % 2 = s.twn.strap % 2 ∨ headId ≠ par0 s pTwinHeadId then
      (if s.twn.conflict then s
       else setOwner false (logEv 0x0A03 (le 1 3) { s with twn.conflict := true, twn.faultNow := true, twn.faultWhy := 3, twn.own := 0, twn.srvOwn := 0 }))
    else s

/-- No exchange for 1 ms: the listening twin holds Δ (R407). -/
def statusTimeout (s : State) : State :=
  if twinMode s && decide (s.twn.lastX.getD 0 + tMs ≤ s.dev) then { s with twn.held := true } else s

/-- The standby receives a line notice (R409). -/
def lineNotice (f l facet inst : Nat) (s : State) : State := if standby s then { s with twn.notice := some (f, l, facet, inst) } else s

/-- Whether a line notice stands whose instant has not passed (R409). -/
def noticed (s : State) : Bool :=
  match s.twn.notice with | some (_, _, _, inst) => decide (refOf s (coarse s) ≤ inst) | none => false

/-- No notice has arrived 1 µs before the instant that the standby's own servo has computed (R409). -/
def noticeMiss (s : State) : State :=
  if standby s && !noticed s && (List.range (par0 s pPolyFacets)).any (fun f => (handedAt s f (coarse s + 2000)).isSome) then
    let c := s.twn.missC
    wrapEv c 1 0x0A0B (le 1 3) { s with twn.ownInst := some (coarse s + 2000), twn.missC := c.add 1 }
  else s

/-- Whether a key belongs to a service (R92), and whether that service is automatic. -/
def svcOwns (kind key : Nat) : Bool :=
  if kind = 0 then key / 65536 == pCoincWindow || key / 65536 == pCoincDepth
  else kind == 1 && key / 65536 == pPassportFamily
def svcAuto (s : State) (kind : Nat) : Bool :=
  if kind = 0 then par0 s pCoincAdaptMode == 0 else if kind = 1 then par0 s pIfmMode == 0 else par0 s pPlanMode == 0

/-- The standby seals a set its owner sealed, for the same boundary (R92, R413). Log entries 26 (DEDUCED), 93 (DEDUCED). -/
def serviceSet (v : SvcSet) (s : State) : State :=
  if standby s = false ∨ 2 < v.kind ∨ svcAuto s v.kind = false then s
  else
    let img := v.image.foldl (fun m p => cput 0 m p.1 p.2) []
    let vals := (v.values.filter (fun p => svcOwns v.kind p.1)).foldl (fun m p => tput none m p.1 (some p.2)) []
    let s := svcSeal { vals := vals, image := if v.kind = 2 then some img else none } s
    judgeSeals s

/-- The device stamps a FIRE edge of the owner (R318, R410): within 2 ns of its own fire stamp plus the skew, the shot counts as fired. So
do the shots that the old owner set before the round and fires after it (R408). While standby the edge counts for a skew measurement. -/
def ownerFireStamp (i : Nat) (s : State) : State :=
  match (strng s i).placed with
  | none => s
  | some p =>
    let d : Int := ((s.dev : Int) - p.edge) * 256 - parI s pCalTwinSkew 0
    if twinMode s = false ∨ p.drive = true then s
    else
      let s := if standby s then skewCount s.dev p.edge s else s
      if d < -65536 ∨ 65536 < d then s else addShot i p (gapShortEv s)

def execClaimRoundStart (t : Nat) (s : State) : Host.Outcome State Fault Refusal := .next (live t claimStart s)
def execClaimRoundEnd (t : Nat) (syncLow : Bool) (read : Nat) (s : State) : Host.Outcome State Fault Refusal :=
  .next (live t (claimEnd syncLow read) s)
def execTwinStatus (t strap headId t1 t2 t3 t4 : Nat) (s : State) : Host.Outcome State Fault Refusal :=
  .next (live t (twinStatus strap headId t1 t2 t3 t4) s)
def execTwinStatusTimeout (t : Nat) (s : State) : Host.Outcome State Fault Refusal := .next (live t statusTimeout s)
def execLineNotice (t f l facet inst : Nat) (s : State) : Host.Outcome State Fault Refusal := .next (live t (lineNotice f l facet inst) s)
def execNoticeMiss (t : Nat) (s : State) : Host.Outcome State Fault Refusal := .next (live t noticeMiss s)
def execServiceSetReceived (t : Nat) (v : SvcSet) (s : State) : Host.Outcome State Fault Refusal := .next (live t (serviceSet v) s)
def execOwnerFireStamp (t i : Nat) (s : State) : Host.Outcome State Fault Refusal := .next (live t (ownerFireStamp i) s)

end Sys2Proof.Machine
end

