-- ==== Sys2Proof/Machine/RingNode.lean ====
section
/-! DEFINITION. Machine/RingNode.lean: the caravan ring (R418 to R425), triggers (R426 to R428) and TWIN_RING_STATUS_READ (R429). -/

namespace Sys2Proof.Machine

/-! ### Slots, position and delay (R419, R420, R425) -/

/-- Slots of other nodes. -/
def others (s : State) (l : List RingSlot) : List RingSlot := l.filter (fun x => x.serial != s.nv.serial % 2 ^ 32)

/-- This node's position: the least one from 1 that no slot of another node holds (R419). -/
def myPos (s : State) (l : List RingSlot) : Nat :=
  ((List.range 16).find? (fun p => p != 0 && (others s l).all (fun x => x.position != p))).getD 15

/-- The residence this node's own slot reports; its value is measured and open. Log entry 58 (DEDUCED). -/
def ownResidence (s : State) : Nat := match s.rng.outSlot with | some x => x.residence | none => 0

/-- Residence of the node at a position, this node's own at its own. -/
def resAt (s : State) (l : List RingSlot) (k p : Nat) : Nat :=
  if p = k then ownResidence s else match l.find? (fun x => x.position == p) with | some x => x.residence | none => 0

/-- Stated length of the hop into a position. -/
def lenAt (s : State) (l : List RingSlot) (k p : Nat) : Nat :=
  if p = k then par0 s pRingLinkLength else match l.find? (fun x => x.position == p) with | some x => x.linkLen | none => 0

/-- D_k in ticks (R420) as a numerator over Σ lengths: link delays apportioned by length, residences of the nodes between. -/
def ringDelay (s : State) (l : List RingSlot) (k loop : Nat) : Int × Nat :=
  let ps := k :: ((others s l).map (·.position)).filter (· != k)
  let total := sumN (ps.map (lenAt s l k))
  let res := sumN ((ps.filter (· != 0)).map (resAt s l k))
  let upto := sumN ((ps.filter (fun p => p != 0 && decide (p ≤ k))).map (lenAt s l k))
  let between := sumN ((ps.filter (fun p => p != 0 && decide (p < k))).map (resAt s l k))
  (((loop : Int) - res) * upto + (between * total : Nat), max 1 total)

/-- Whether two slots are of one head (R425): equal non-zero head ids. -/
def sameHead (a b : RingSlot) : Bool := (a.headId != 0 && a.headId == b.headId) || a.serial == b.serial

/-- The head id a slot carries (R419): TWIN.HEAD_ID, 0 for a single head. -/
def ownHead (s : State) : Nat := if twinMode s then par0 s pTwinHeadId else 0

/-- N (R425): heads with a node below the lowest node of this head. -/
def ringNode (s : State) (l : List RingSlot) (k : Nat) : Nat :=
  let hid := ownHead s
  let mine := fun (x : RingSlot) => hid != 0 && x.headId == hid
  let os := sortBy (·.position) (others s l)
  let low := ((os.filter mine).map (·.position)).foldl min k
  let below := os.filter (fun x => !mine x && decide (x.position < low))
  (below.foldl (fun (a : List RingSlot) x => if a.any (sameHead x) then a else a ++ [x]) []).length

/-! ### The own slot -/

/-- Forms the slot the node sends in this cycle, with the next trigger to forward (R419, R426). Log entry 59 (DEDUCED). -/
def sendSlot (k : Nat) (s : State) : State :=
  let v := freeVal 51201 s
  let tr := s.rng.txTrig.headD (0, 0)
  let x : RingSlot :=
    { position := k, rank := par0 s pRingRank, flags := b2n (twinMode s) + 2 * b2n s.rng.locked + 4 * b2n s.rng.holdover
      serial := s.nv.serial % 2 ^ 32, headId := ownHead s, turnMask := par0 s pRingTurnMask, linkLen := par0 s pRingLinkLength
      residence := v.1, trigger := tr.1, action := tr.2 % 2 ^ 32 }
  { v.2 with rng.outSlot := some x, rng.txTrig := s.rng.txTrig.tail }

/-! ### The octets of a ring cycle (R419) -/

/-- A node slot's 28 octets. -/
def slotBytes (x : RingSlot) : List Byte :=
  let b := le 1 2 ++ le 1 x.position ++ le 1 x.rank ++ le 1 x.flags ++ le 4 x.serial ++ le 4 x.headId ++ le 2 x.turnMask ++ le 2 x.linkLen
    ++ le 2 x.residence ++ le 1 x.trigger ++ le 1 0 ++ le 4 x.action ++ le 2 0
  b ++ le 2 (crc16 b)

/-- The 24 octets of a beat. -/
def beatBytes (b : Beat) : List Byte :=
  let o := le 1 1 ++ le 1 b.leader ++ le 1 b.nodes ++ le 1 b.turnCycle ++ le 8 b.ringTime ++ le 4 b.loop ++ le 4 b.linePeriod ++ le 2 b.salt
  o ++ le 2 (crc16 o)

/-- The beat this node sends as leader. -/
def leaderBeat (s : State) : Beat :=
  { leader := 0, nodes := s.rng.nodes, turnCycle := par0 s pRingTurnCycle, ringTime := (ringOf s (coarse s)).toNat, loop := s.rng.loop
    linePeriod := par0 s pRingLinePeriod, salt := par0 s pPassportSalt }

/-! ### Triggers (R426) -/

/-- Enters a trigger to act on: its action time in ring time, and in device time. -/
def addTrig (code action : Nat) (s : State) : State :=
  if s.rng.trigs.any (fun x => x.code == code && x.action == action) then s
  else
    let d := if s.rng.locked then (devOfRing s action).toNat else action
    { s with rng.trigs := s.rng.trigs ++ [{ code := code, action := action, dev := d }] }

/-- A trigger code that arrives in a node slot; after its action time it is late. -/
def slotTrig (x : RingSlot) (s : State) : State :=
  if x.trigger = 0 ∨ 15 < x.trigger then s
  else
    let now := ringNow s
    let a := ((now : Int) + sdiff32 x.action now).toNat
    if s.rng.trigs.any (fun y => y.code == x.trigger && y.action == a) then s
    else if a ≤ now then logEv 0x0A0A (le 1 x.trigger ++ le 1 1 ++ le 8 a) s
    else addTrig x.trigger a s

/-- A trigger this node originates: it acts after RING.TRIG_LATENCY, and is forwarded on the ring where asked. -/
def originate (code : Nat) (forward : Bool) (s : State) : Nat × State :=
  let a := ringNow s + par0 s pRingTrigLatency * 2000
  let s := addTrig code a s
  (a, if forward && s.rng.locked then { s with rng.txTrig := s.rng.txTrig ++ [(code, a)] } else s)

/-- A low pulse on TRIG_IO: its falling edge reaches the timing ports that take TRIG_IO (R232; the rising edge is a TP_EDGE), and a pulse
of 20 ns is a trigger; of twins only the owner forwards it. Log entry 109 (DESIGN CHOICE). -/
def trigIo (raw w : Nat) (s : State) : State :=
  let s := sourceEdge 3 0 raw false s
  if w < 20 ∨ s.desk.st < 2 then s else (originate (par0 s pRingTrigLocalCode) (!standby s) s).2

/-- A trigger's action time comes (R426, R427). Log entry 59 (DEDUCED). -/
def trigAction (code : Nat) (s : State) : State :=
  match s.rng.trigs.find? (fun x => x.code == code && decide (x.dev ≤ coarse s)) with
  | none => s
  | some x =>
    let act := par s pRingTrigAction code
    let s := { s with rng.trigs := s.rng.trigs.filter (fun y => y ≠ x) }
    let s := logEv 0x0A0A (le 1 code ++ le 1 0 ++ le 8 x.action) s
    let s := if act.testBit 0 && !standby s then { s with pins.trigIo := some (s.dev + 100 * tNs) } else s
    let s := if act.testBit 2 then incident 5 s else s
    if act.testBit 1 then doFreeze s else s

/-! ### The beat (R420 to R423) -/

/-- Whether the node takes part in the ring (R422): READY or later, RING.ENABLE = 1. -/
def ringOn (s : State) : Bool := decide (2 ≤ s.desk.st) && par0 s pRingEnable == 1

/-- Maps the comma's arrival to ring time, and tracks the rate from successive beats (R420); roundings open. Log entry 58 (DEDUCED). -/
def mapBeat (b : Beat) (l : List RingSlot) (k : Nat) (s : State) : State :=
  let d := ringDelay s l k b.loop
  let off := s.dev % 64
  let m := freeRound (((b.ringTime * 64 : Nat) - (off : Int)) * d.2 + d.1) (64 * d.2) s
  let r := m.1.toNat
  let c := coarse s
  let q := if s.rng.beats = 0 ∨ c ≤ s.rng.mapDev then (4294967296, m.2)
    else freeRound (((r : Int) - s.rng.mapRing) * 2 ^ 32) (c - s.rng.mapDev) m.2
  { q.2 with rng.mapDev := c, rng.mapRing := r, rng.rate := q.1.toNat }

/-- A new leader is logged (R421). Log entry 58 (DEDUCED). -/
def leaderIs (serial k : Nat) (s : State) : State :=
  if s.rng.serial = serial then s else logEv 0x0A08 (le 4 serial ++ le 1 k) { s with rng.serial := serial }

/-- A node takes the lead (R420, R421): ring time continues from its own mapping. Log entry 58 (DEDUCED). -/
def takeLead (s : State) : State :=
  leaderIs (s.nv.serial % 2 ^ 32) 0 { s with
    rng.mapRing := (ringOf s (coarse s)).toNat, rng.mapDev := coarse s, rng.rate := 4294967296
    rng.leader := true, rng.pos := 0, rng.node := 0, rng.holdover := false }

/-- Whether a node outranks another (R420): the lower rank, then the lower serial. -/
def outranks (ra sa rb sb : Nat) : Bool := decide (ra < rb) || (ra == rb && decide (sa < sb))

/-- Whether this node, engaged and locked, outranks the leader whose slots it sees (R420). -/
def outranksLeader (l : List RingSlot) (s : State) : Bool :=
  s.rng.engaged && s.rng.locked && (match l.find? (fun x => x.position == 0) with
    | some x => outranks (par0 s pRingRank) (s.nv.serial % 2 ^ 32) x.rank x.serial
    | none => false)

/-- A beat late by an interruption of 10 µs at most is a reform (R422): logged and counted, no loss of lock. -/
def ringReform (gap : Option Nat) (nodes loop : Nat) (s : State) : State :=
  if s.rng.locked && (match gap with | some g => decide (15 * tUs / 2 < g) && decide (g ≤ 15 * tUs) | none => false) then
    let c := s.twn.reformC
    wrapEv c 1 0x0A0B (le 1 4) (logEv 0x0A07 (le 1 nodes ++ le 4 loop) { s with twn.reformC := c.add 1 })
  else s

/-- A valid beat in a follower: mapping, seeds, triggers, lock and reform. `gap` is the time since the beat before, in ticks. -/
def followBeat (b : Beat) (l : List RingSlot) (gap : Option Nat) (s : State) : State :=
  let k := myPos s l
  let row := match gap with | some g => decide (g < 10 * tUs) | none => false
  let n := if row then s.rng.beats + 1 else 1
  let s := mapBeat b l k { s with rng.beats := if row then s.rng.beats else 0 }
  let s := { s with
    rng.beats := n, rng.lastBeat := some s.dev, rng.nodes := b.nodes, rng.cycle := b.turnCycle, rng.period := b.linePeriod
    rng.loop := b.loop, rng.salt := b.salt, rng.slots := l, rng.pos := k, rng.node := ringNode s l k
    rng.holdover := false, rng.leader := false }
  let s := leaderIs (match l.find? (fun x => x.position == 0) with | some x => x.serial | none => s.rng.serial) k s
  let lock := s.rng.engaged && !s.rng.locked && decide (2 ≤ n)
  let s := if lock then logEv 0x0A06 (le 1 k ++ le 1 b.nodes) { s with rng.locked := true } else s
  let s := if lock then s else ringReform gap b.nodes b.loop s
  let s := (others s l).foldl (fun s x => slotTrig x s) (if s.rng.engaged then sendSlot k s else s)
  if outranksLeader l s then takeLead s else s

/-- The leader's own beat returns: the loop delay is measured (R420), a late one is a reform (R422), the slots' triggers are taken. -/
def ownBeat (l : List RingSlot) (gap : Option Nat) (s : State) : State :=
  let s := { s with
    rng.loop := s.dev - s.rng.outAt, rng.lastBeat := some s.dev, rng.slots := l
    rng.nodes := (others s l).length + 1, rng.beats := s.rng.beats + 1 }
  (others s l).foldl (fun s x => slotTrig x s) (ringReform gap s.rng.nodes s.rng.loop s)

/-- RING_BEAT: a leader that sees a beat of a node of lower rank gives up the lead (R420). Interrupt source 230.
Log entries 57 (DEDUCED), 58 (DEDUCED). -/
def ringBeat (b : Beat) (l : List RingSlot) (s : State) : State :=
  if ringOn s = false then s
  else
    let s := irq 230 s
    let gap := s.rng.lastBeat.map (fun x => s.dev - x)
    let me := s.nv.serial % 2 ^ 32
    match l.find? (fun x => x.position == 0) with
    | some x =>
      if s.rng.leader && (x.serial == me || outranks (par0 s pRingRank) me x.rank x.serial) then
        (if x.serial = me then ownBeat l gap s else s)
      else followBeat b l gap s
    | none => if s.rng.leader then s else followBeat b l gap s

/-- The leader starts a cycle, 5 µs after the one before at the earliest (R419): its beat carries its own figures; ring time is its device time.
Log entries 57 (DEDUCED), 59 (DEDUCED). -/
def ringCycle (s : State) : State :=
  if ringOn s = false ∨ s.rng.leader = false ∨ s.dev < s.rng.outAt + 5 * tUs then s
  else irq 230 (sendSlot 0 { s with
    rng.outBeat := beatBytes (leaderBeat s), rng.outAt := s.dev, rng.cycle := par0 s pRingTurnCycle, rng.period := par0 s pRingLinePeriod, rng.salt := par0 s pPassportSalt })

/-- The head's turn is withdrawn (R25, R424): no further slot is placed; the frame's truncated FBE follows the last shot placed.
Log entry 59 (DEDUCED). -/
def turnWithdraw (s : State) : State :=
  if par0 s pRingTurnRequired = 0 ∨ s.sch.running = false ∨ s.sch.turnStop then s
  else
    let e := placedClose s
    let s := { s with sch.turnStop := true }
    if s.sch.fbeAt.isSome then s
    else judgeSeals { s with
      sch.truncated := true
      sch.fbeAt := some (if s.sch.frameShots = 0 ∧ e = 0 then s.dev else max s.dev (max s.sch.winClose e)) }

/-- An insertion gap (R422): an enabled node with two beats in a row engages; a leaving one drops out, which loses its lock (R424).
Log entry 58 (DEDUCED). -/
def ringInsertion (s : State) : State :=
  if s.rng.leave then
    let u := { s with
      rng.leave := false, rng.engaged := false, rng.locked := false, rng.leader := false, rng.holdover := false
      rng.beats := 0, rng.pos := 255, pins.ringEng := false }
    if s.rng.locked then turnWithdraw u else u
  else if ringOn s = false ∨ s.rng.engaged ∨ s.rng.beats < 2 then s
  else { s with rng.engaged := true, rng.beats := 0, pins.ringEng := true }

/-- The order of this node by rank among the slots last seen (R421). -/
def rankOrder (s : State) : Nat :=
  ((others s s.rng.slots).filter (fun x => outranks x.rank x.serial (par0 s pRingRank) (s.nv.serial % 2 ^ 32))).length

/-- A node takes leadership (R421): ring time continues from its own mapping. Log entry 58 (DEDUCED). -/
def leaderTakeover (s : State) : State :=
  if ringOn s = false ∨ s.rng.locked = false ∨ s.rng.leader
      ∨ s.dev < s.rng.lastBeat.getD 0 + 15 * tUs + 5 * tUs * rankOrder s then s
  else
    takeLead { s with rng.nodes := 1 }

/-- No valid beat for longer than a reform (R423). -/
def ringHoldover (s : State) : State :=
  if s.rng.locked = false ∨ s.rng.leader ∨ s.rng.holdover ∨ s.dev ≤ s.rng.lastBeat.getD 0 + 15 * tUs then s
  else logEv 0x0A09 (le 1 1) { s with rng.holdover := true, rng.holdAt := s.dev }

/-- RING.HOLDOVER expires (R423): the node is no longer locked and RING_ENGAGE falls (R418). Log entry 58 (DEDUCED). -/
def ringLockLost (s : State) : State :=
  if s.rng.holdover = false ∨ s.dev < s.rng.holdAt + par0 s pRingHoldover * tMs then s
  else
    turnWithdraw (logEv 0x0A09 (le 1 2) { s with
      rng.locked := false, rng.holdover := false, rng.engaged := false, rng.beats := 0, rng.pos := 255, pins.ringEng := false })

/-- A write of RING.ENABLE (R422): the leave is orderly. -/
def ringEnable (s : State) : State :=
  if par0 s pRingEnable = 1 then { s with rng.leave := false }
  else if s.rng.engaged then { s with rng.leave := true }
  else { s with rng.beats := 0 }

/-! ### Commands (R428, R429) -/

/-- TRIG_SEND (R428). -/
def trigSendBody (_op : Nat) (r : Req) (s : State) : CmdOut :=
  let c := fld r.payload 0 1
  if c = 0 ∨ 15 < c ∨ allZero (r.payload.drop 1) = false then refuse rBadParam [.free 8] s
  else let q := originate c true s; .done rOK (le 8 q.1) q.2

/-- TWIN_RING_STATUS_READ (R429). -/
def twinRingBody (_op : Nat) (r : Req) (s : State) : CmdOut :=
  let c := fld r.payload 0 1
  let w := s.twn
  let g := s.rng
  let tm := twinMode s
  let cs := [w.ownerC, w.staleC, w.missC, w.reformC, w.turnC, w.lateC]
  let p := le 1 (b2n w.owner + 2 * b2n w.stale + 4 * b2n (tm && w.strap % 2 == 0) + 8 * b2n w.faultNow
      + 16 * b2n ((lane s 8).st == 4) + 32 * b2n ((lane s 9).st == 4))
    ++ le 1 (b2n g.engaged + 2 * b2n g.locked + 4 * b2n g.leader + 8 * b2n g.holdover + 16 * b2n s.sch.turnStop)
    ++ le 1 (if g.engaged then g.pos else 255) ++ le 1 s.amb.seedN ++ le 2 w.claim ++ le 2 w.partner ++ leI 4 w.delta ++ le 4 g.loop
    ++ cs.flatMap (fun x => le 4 x.val.toNat) ++ le 4 (bitsOf ((List.range 6).filter (fun i => (cs.getD i {}).wrap)))
  if clearOk c = false ∨ allZero (r.payload.drop 1) = false then .done rBadParam p s
  else
    let k := c.testBit 0
    let f := c.testBit 1
    .done rOK p { s with
      twn.ownerC := w.ownerC.clear k f, twn.staleC := w.staleC.clear k f, twn.missC := w.missC.clear k f
      twn.reformC := w.reformC.clear k f, twn.turnC := w.turnC.clear k f, twn.lateC := w.lateC.clear k f }

def execRingBeat (t : Nat) (b : Beat) (l : List RingSlot) (s : State) : Host.Outcome State Fault Refusal := .next (live t (ringBeat b l) s)
def execRingInsertion (t : Nat) (s : State) : Host.Outcome State Fault Refusal := .next (live t ringInsertion s)
def execLeaderTakeover (t : Nat) (s : State) : Host.Outcome State Fault Refusal := .next (live t leaderTakeover s)
def execRingHoldover (t : Nat) (s : State) : Host.Outcome State Fault Refusal := .next (live t ringHoldover s)
def execRingLockLost (t : Nat) (s : State) : Host.Outcome State Fault Refusal := .next (live t ringLockLost s)
def execRingCycleStart (t : Nat) (s : State) : Host.Outcome State Fault Refusal := .next (live t ringCycle s)
def execTrigIoPulse (t : Nat) (pulse : Nat × Nat) (s : State) : Host.Outcome State Fault Refusal :=
  .next (live t (trigIo pulse.1 pulse.2) s)
def execTriggerAction (t code : Nat) (s : State) : Host.Outcome State Fault Refusal := .next (live t (trigAction code) s)
def execTrigSend (t : Nat) (r : Req) (s : State) : Host.Outcome State Fault Refusal :=
  .next (command { op := 0x0A10, mbLo := 6, mbHi := 7 } (lenEq 4) trigSendBody t r s)
def execTwinRingStatusRead (t : Nat) (r : Req) (s : State) : Host.Outcome State Fault Refusal :=
  .next (command { op := 0x0A11 } (lenEq 4) twinRingBody t r s)

end Sys2Proof.Machine
end

