-- ==== Sys2Proof/Machine/Decim.lean ====
section
/-! DEFINITION. Machine/Decim.lean: the decimation chain of a sense channel (R246 to R249): CIC, shifts, halfbands, FIR. -/

namespace Sys2Proof.Machine

/-! ### Configuration of a channel: the parameters 0x0701 … 0x0710, in order -/

def cfgR (c : List Nat) : Nat := c.getD 8 40
def cfgDf (c : List Nat) : Nat := c.getD 9 25

/-! ### Shifts (R246, R249) -/

/-- The smallest k with 2^k ≥ v, for v below 2^40. -/
def log2Up (v : Nat) : Nat := ((List.range 41).find? (fun k => decide (v ≤ 2 ^ k))).getD 41

/-- The shift S_(i+1) in force (R249). -/
def shiftOf (c : List Nat) (i : Nat) : Int :=
  if c.getD 11 1 = 1 then (if i = 0 then (log2Up (cfgR c ^ 4) : Int) - 22 else 0) else sgn 8 (c.getD 12 0 / 2 ^ (8 * i))

/-- Sum of the four shifts (R249). -/
def shiftSum (c : List Nat) : Int := sumI ((List.range 4).map (shiftOf c))

/-- A shift stage on the value v / 2^k (R246): right by `sh` with round-half-up, left for a negative one, saturated to `w` bits. -/
def shiftStage (w : Nat) (sh : Int) (v : Int) (k : Nat) : Int :=
  let e := (k : Int) + sh
  let r := if e ≤ 0 then v * 2 ^ e.natAbs else (2 * v + 2 ^ e.natAbs) / 2 ^ (e.natAbs + 1)
  clamp (-(2 ^ (w - 1))) (2 ^ (w - 1) - 1) r

/-! ### CIC (R246 stage 1) -/

/-- A value kept in a 40-bit two's-complement register. -/
def reg40 (v : Int) : Int := sgn 40 (pat 40 v)

/-- The four integrators, at the modulator's rate: each adds the one before it. -/
def integStep (x : Int) : List Int → List Int
  | [] => []
  | a :: l => let a' := reg40 (a + x); a' :: integStep a' l

/-- The four combs, once per block: each subtracts its input of the block before; answers the output and the new registers. -/
def combStep (x : Int) : List Int → Int × List Int
  | [] => (x, [])
  | a :: l => let r := combStep (reg40 (x - a)) l; (r.1, x :: r.2)

/-- The CIC over one block of modulator bits, a 1 standing for +1 and a 0 for −1: its output and the registers. -/
def cicBlock (d : Decim) (bits : List Bool) : Int × Decim :=
  let g := bits.foldl (fun g b => integStep (if b then 1 else -1) g) d.integ
  let r := combStep (g.getLast?.getD 0) d.comb
  (r.1, { d with integ := g, comb := r.2 })

/-! ### Halfbands (R247) -/

/-- Fraction bits of a halfband's coefficients. -/
def hbBits (f : Nat) : Nat := Config.halfbandBits f + 2

/-- The coefficient of a halfband at distance `i` from its centre: one half there, 0 at every other even distance; the odd ones are those of
the coefficient file, the first one what makes the DC gain exactly 1 (R247). Log entry 86 (DESIGN CHOICE). -/
def hbCoef (f i : Nat) : Int :=
  if i = 0 then 2 ^ (hbBits f - 1)
  else if i % 2 = 0 ∨ 11 < i then 0
  else if i = 1 then 2 ^ (hbBits f - 2) - sumI ((List.range 5).map (Config.halfbandTap f))
  else Config.halfbandTap f ((i - 3) / 2)

/-- A halfband's output over its 23 latest inputs, newest first, in units of 2^-hbBits. -/
def hbOut (f : Nat) (h : List Int) : Int := sumI ((List.range 23).map (fun i => hbCoef f (if i < 11 then 11 - i else i - 11) * h.getD i 0))

/-! ### FIR (R248) -/

/-- h_raw[n] of the built-in set, times the fixed-point one: the Blackman window times sin(0.8 π m / D_F) / m, m = n − 31.5. -/
def firRaw (df n : Nat) : Int :=
  let m2 : Int := 2 * n - 63
  let w := 42 * (fxOne : Int) / 100 - cosPi (2 * n) 63 / 2 + 8 * cosPi (4 * n) 63 / 100
  w * (2 * sinPi (2 * m2) (5 * df) / m2) / fxOne

/-- The 32 first coefficients of the built-in set (R248): scaled to the sum 2^17, rounded, the remainder added to h[31] (and h[32]). -/
def firBuilt (df : Nat) : List Int :=
  let raw := (List.range 32).map (firRaw df)
  let sum := 2 * sumI raw
  let h := raw.map (fun v => rnd (v * 2 ^ 17) (max 1 sum.toNat))
  let rest := (2 ^ 17 - 2 * sumI h) / 2
  h.set 31 (h.getD 31 0 + rest)

/-- The 32 first coefficients in force (R248). -/
def firOf (x : Sense) (c : List Nat) : List Int := if c.getD 10 0 = 1 then x.fir else firBuilt (cfgDf c)

/-- Σh over 64 taps of the set in force: 2^17 for the built-in set (R248). -/
def firSum (x : Sense) (c : List Nat) : Nat := if c.getD 10 0 = 1 then (2 * sumI x.fir).toNat else 2 ^ 17

/-- The FIR's output over its 64 latest inputs, newest first, in units of 2^-17. -/
def firOut (h inp : List Int) : Int :=
  sumI ((List.range 64).map (fun i => h.getD (if i < 32 then i else 63 - i) 0 * inp.getD i 0))

/-! ### The chain -/

/-- One block through stages 1 to 6; `due` once the FIR has taken D_F inputs since its last output (R246). -/
def decimStep (c : List Nat) (d : Decim) (bits : List Bool) : Decim :=
  let r := cicBlock d bits
  let d := r.2
  let d := { d with h1 := (shiftStage 32 (shiftOf c 0) r.1 0 :: d.h1).take 23, n1 := d.n1 + 1 }
  if d.n1 < 2 then d
  else
    let d := { d with n1 := 0, h2 := (shiftStage 32 (shiftOf c 1) (hbOut 0 d.h1) (hbBits 0) :: d.h2).take 23, n2 := d.n2 + 1 }
    if d.n2 < 2 then d
    else
      let d := { d with n2 := 0, hf := (shiftStage 32 (shiftOf c 2) (hbOut 1 d.h2) (hbBits 1) :: d.hf).take 64, nf := d.nf + 1 }
      if d.nf < cfgDf c then d else { d with nf := 0, due := true }

/-- The output sample of stages 7 and 8: the FIR, then the shift that saturates to s24. -/
def decimOut (x : Sense) (c : List Nat) : Int := shiftStage 24 (shiftOf c 3) (firOut (firOf x c) x.chain.hf) 17

/-- Whether the last shift saturated (R259). -/
def decimClips (x : Sense) (c : List Nat) : Bool :=
  decimOut x c != shiftStage 64 (shiftOf c 3) (firOut (firOf x c) x.chain.hf) 17

/-- A cleared chain: every register 0, the counts that keep the output rate unchanged. Log entry 86 (DESIGN CHOICE). -/
def decimClear (d : Decim) : Decim := { n1 := d.n1, n2 := d.n2, nf := d.nf, due := d.due }

/-- K_FS as a fraction (R249). -/
def kfs (c : List Nat) (sum : Nat) : Nat × Nat :=
  let sh := shiftSum c
  if sh < 0 then (cfgR c ^ 4 * sum * 2 ^ sh.natAbs, 2 ^ 17) else (cfgR c ^ 4 * sum, 2 ^ 17 * 2 ^ sh.natAbs)

end Sys2Proof.Machine
end

