-- ==== Sys2Proof/Machine/Sense.lean ====
section
/-! DEFINITION. Machine/Sense.lean: sense channels (spec 08): parameters taken at decimation blocks, open wires, lead
phases, autoranging, samples, and the laser interlock of R293. -/

namespace Sys2Proof.Machine

/-! ### Figures of a channel (R246 to R256) -/

/-- The parameters 0x0701 … 0x0710 of a channel, in order. -/
def snsCfgNow (s : State) (n : Nat) : List Nat := (List.range 16).map (fun i => par s (0x0701 + i) n)

/-- The figures a channel runs with: those of its last block, or the parameters before its first. -/
def snsCfg (s : State) (n : Nat) : List Nat := if (sense s n).cfg = [] then snsCfgNow s n else (sense s n).cfg

/-- Group delay τ in ticks (R250): 161 modulator periods of 250 ns per R. -/
def snsTau (c : List Nat) : Nat := 161 * cfgR c * 32000

/-- The settling interval in ticks (R256): τ + 256 R t_m. Log entry 86 (DESIGN CHOICE). -/
def snsSettle (c : List Nat) : Nat := 417 * cfgR c * 32000

/-- Nominal excitation current in nA (R244, R257): 10 µA as the open probe; that of the block before, `prev`, in voltage mode; none with
the excitation off. -/
def snsNominal (x : Sense) (c : List Nat) (prev : Option Nat) : Option Nat :=
  if x.openAt.isSome then some 10000
  else if c.getD 2 0 = 1 then some (([10, 20, 50, 100, 200, 250, 500, 1000].getD (c.getD 3 0) 0) * 1000)
  else if c.getD 2 0 = 2 then prev else none

/-- Whether sense channels run: every state but RESET, BOOT and FROZEN (R245). -/
def sensesRun (s : State) : Bool := !(s.desk.st == 0 || s.desk.st == 1 || s.desk.st == 7)

/-- A chain clear: the chain's registers, and d in modes 0 and 1 (R251). -/
def chainClear (c : List Nat) (x : Sense) : Sense := { x with chain := decimClear x.chain, d := if c.getD 13 0 = 2 then x.d else 0 }

/-- A settling event now (R256). -/
def settleNow (s : State) (c : List Nat) (x : Sense) : Sense := { x with settle := some (s.dev + snsSettle c) }

/-- Whether a channel is settling. -/
def settling (s : State) (x : Sense) : Bool := match x.settle with | some e => decide (s.dev < e) | none => false

/-- Starts a lead phase (R252) for 3-wire and 4-wire; its start is a settling event. -/
def leadStart (s : State) (c : List Nat) (x : Sense) : Sense :=
  if c.getD 5 2 = 0 then x else settleNow s c { x with lead := some { step := 1, n := 0, sum := (0, 1), cur := 0 } }

/-! ### Decimation blocks (R244, R246, R257, R258, R260) -/

/-- A channel starts with the parameters of now (R245, R252): excitation applied, chain cleared, settling, lead phase. -/
def snsStart (s : State) (n : Nat) (x : Sense) : Sense :=
  let now := snsCfgNow s n
  leadStart s now (settleNow s now { chainClear now x with
    on := true, cfg := now, lead := none, openAt := none, conds := 0, restore := 0, lowRun := 0, chainWr := false, leadDue := false
    chain := {}, prevCur := none, g := if now.getD 6 8 < 8 then now.getD 6 8 else x.g })

/-- The parameters a running channel takes at a block: those of the excitation wait for the restoration of an open one (R258, R260). -/
def snsCfgTaken (s : State) (n : Nat) (x : Sense) : List Nat :=
  let now := snsCfgNow s n
  (List.range 16).map (fun i => if x.openAt.isSome && decide (2 ≤ i ∧ i ≤ 4) then x.cfg.getD i 0 else now.getD i 0)

/-- The parameters at a block of a running channel (R256, R260): what changed starts settling intervals, chain clears and lead phases. A
lead phase owed while the wire is open runs at the restoration; one in progress ends when the wiring turns to 2-wire.
Log entry 107 (DESIGN CHOICE). -/
def snsTake (s : State) (n : Nat) (x : Sense) : Sense :=
  let o := x.cfg
  let isOpen := x.openAt.isSome
  let c := snsCfgTaken s n x
  let same := fun (i : Nat) => o.getD i 0 == c.getD i 0
  let gch := decide (c.getD 6 8 < 8) && c.getD 6 8 != x.g
  let wr := x.chainWr
  let x := { x with cfg := c, chainWr := false, g := if gch then c.getD 6 8 else x.g, rangeChg := x.rangeChg || gch
                    lead := if c.getD 5 2 = 0 then none else x.lead }
  let y := if wr then chainClear c x else x
  let y := if same 8 && same 9 then y else { y with chain := {} }
  let y := if !(same 2 && same 3 && same 4 && same 5) || gch || wr then settleNow s c y else y
  let owed := y.leadDue || !same 2 || !same 5
  if isOpen then { y with leadDue := owed } else if owed then leadStart s c { y with leadDue := false } else y

/-- Whether SNS_EXC_n, in µV, is at its compliance limit: from 3.0 V on, the typical value (R257, R550). Log entry 136 (DESIGN CHOICE). -/
def atCompliance (term : Nat) : Bool := decide (3000000 ≤ term)

/-- The open-wire conditions of a block (R257): bit 0 compliance, bit 1 low current, bit 2 clipped at gain 0. Log entry 86 (DESIGN CHOICE). -/
def openConds (x : Sense) (c : List Nat) (cur term : Nat) (clip : Bool) : Nat :=
  b2n (c.getD 2 0 == 1 && atCompliance term) + 2 * b2n (c.getD 2 0 == 2 && decide (cur < 1000)) + 4 * b2n (clip && x.g == 0)

/-- Declares an open wire (R257): conversion aborted, chain cleared, probe current, SENSE_OPEN; a lead phase is abandoned. -/
def declareOpen (n cond : Nat) (s : State) : State :=
  let x := sense s n
  let ld := x.lead
  let o := x.opens
  let s := setSense s n (chainClear x.cfg { x with openAt := some s.dev, restore := 0, conds := 0, lead := none, settle := none, opens := o.add 1 })
  let s := logEv 0x0701 (le 1 n ++ le 1 cond) s
  let s := if ld.isSome then logEv 0x0704 (le 1 n ++ le 1 1 ++ le 4 x.rl) s else s
  levelFault 17 (senseFault s) (wrapEv o 1 0x0707 (le 1 n ++ le 1 2) s)

/-- Restores an open channel (R258): configured excitation, chain cleared, settling, SENSE_RESTORED. -/
def restoreOpen (n t0 : Nat) (s : State) : State :=
  let x := { sense s n with openAt := none, restore := 0, conds := 0 }
  let x := settleNow s (snsCfgTaken s n x) (chainClear (snsCfgTaken s n x) x)
  let s := setSense s n (snsTake s n x)
  levelFault 17 (senseFault s) (logEv 0x0702 (le 1 n ++ le 4 (min (2 ^ 32 - 1) ((s.dev - t0) / tUs))) s)

/-- A channel that is disabled stops at its next block (R260). -/
def snsStop (n : Nat) (s : State) : State :=
  if (sense s n).on then
    let s := setSense s n { sense s n with
      on := false, cfg := [], lead := none, settle := none, openAt := none, conds := 0, restore := 0, chain := {}, stat := none }
    levelFault 17 (senseFault s) s
  else s

/-- The figures of a channel at this block (R264). -/
def snsFigures (s : State) (x : Sense) : SnsStat :=
  { st := if x.openAt.isSome then 3 else if x.lead.isSome then 4 else if settling s x then 2 else 1
    g := x.g, compl := x.compl, wraps := (x.opens.wrap, x.ranges.wrap), cur := x.cur, term := x.term, rl := x.rl
    kfs := kfs x.cfg (firSum x x.cfg), r := cfgR x.cfg, df := cfgDf x.cfg, opens := x.opens.val.toNat, ranges := x.ranges.val.toNat }

/-- The measurements of a block (R244, R246, R257): the chain takes the block's bits unless the wire is open, excitation and tolerance. -/
def snsMeasure (s : State) (cur term : Nat) (clip : Bool) (bits : List Bool) (x : Sense) : Sense × Bool :=
  let c := x.cfg
  let tol := match snsNominal x c x.prevCur with
    | some nom => decide (nom < 50 * ((cur : Int) - nom).natAbs)
    | none => false
  let ev := tol && (match x.tolAt with | some t => decide (t + tSec ≤ s.dev) | none => true)
  let d := decimStep c x.chain bits
  ({ x with
      prevCur := some cur, cur := cur, term := term, compl := atCompliance term, clip := x.clip || clip, tol := x.tol || tol
      tolAt := if tol then some s.dev else x.tolAt, conds := openConds x c cur term clip
      chain := if x.openAt.isSome then decimClear d else d
      restore := if x.openAt.isSome && !atCompliance term then x.restore + 1 else 0 }, ev)

/-- What the open-wire conditions of two blocks lead to (R257, R258). -/
def snsJudge (n conds : Nat) (s : State) : State :=
  let x := sense s n
  match x.openAt with
  | some t0 => if x.cfg.getD 15 16 ≤ x.restore then restoreOpen n t0 s else s
  | none =>
    match [0, 1, 2].find? (fun i => conds.testBit i && x.conds.testBit i) with
    | some i => declareOpen n (i + 1) s
    | none => s

/-- A decimation block ends (R246): its bits pass the chain, excitation measured, tolerance, open wire and restoration judged; then the
parameters written since the last block are taken (R260). A block of another length than R is none of the channel's.
Log entry 86 (DESIGN CHOICE). -/
def decimationBlock (n cur term : Nat) (clip : Bool) (bits : List Bool) (s : State) : State :=
  if 7 < n ∨ sensesRun s = false then s
  else if par s pSenseEnable n = 0 then snsStop n s
  else
    let x := sense s n
    let fin := fun (s : State) => irqOpen (189 + n) <| setSense s n { sense s n with stat := some (snsFigures s (sense s n)) }
    if x.on = false then fin (setSense s n (snsStart s n { x with cur := cur, term := term, compl := atCompliance term }))
    else if bits.length ≠ cfgR x.cfg then s
    else
      let m := snsMeasure s cur term clip bits x
      let s := setSense s n m.1
      let s := snsJudge n x.conds (if m.2 then logEv 0x0705 (le 1 n ++ le 4 cur) s else s)
      let s := setSense s n (snsTake s n (sense s n))
      fin (levelFault 17 (senseFault s) s)

/-- The transition to READY starts every enabled channel (R245). -/
def sensesStart (s : State) : State :=
  (List.range 8).foldl (fun s n => if par s pSenseEnable n = 1 ∧ (sense s n).on = false then setSense s n (snsStart s n (sense s n)) else s) s

/-! ### Samples (R246, R251, R253 to R256, R259, R316) -/

/-- Saturates to 24 bits. -/
def sat24 (v : Int) : Int := clamp (-8388608) 8388607 v

/-- The laser interlock's view of a sample (R293): only samples without OPEN and SETTLING are valid. -/
def laserSample (n : Nat) (v : Int) (s : State) : State :=
  let x := sense s n
  let k := kfs x.cfg (firSum x x.cfg)
  match governing s with
  | none => s
  | some st =>
    if (sf st 40 1).testBit n = false ∨ k.1 = 0 then s
    else
      let uv := v * 2500000 * k.2 / (2 ^ x.g * k.1 : Nat)
      let s := { s with nk.laser := tput none s.nk.laser n (some uv), nk.laserAt := some s.wall, nk.laserOut := false }
      setChgHeld (chgHold s) s

/-- A queued sample (R259): the oldest of 256 is dropped, counted, and reported at most once per second. -/
def pushSample (n : Nat) (v : Int) (fl : Nat) (s : State) : State :=
  let x := sense s n
  let e : Smp := { time := (s.dev - snsTau x.cfg) / 64, value := v, gain := x.g, flags := fl, seq := x.seq }
  let full := decide (256 ≤ x.queue.length)
  let x' := { x with queue := (if full then x.queue.tail else x.queue) ++ [e], seq := (x.seq + 1) % 65536, clip := false, rangeChg := false, tol := false }
  if full = false then setSense s n x'
  else
    let ev := match x.dropAt with | some t => decide (t + tSec ≤ s.dev) | none => true
    let s := setSense s n { x' with
      dropped := x.dropped.add 1, dropN := if ev then 0 else x.dropN + 1, dropAt := if ev then some s.dev else x.dropAt }
    let s := wrapEv x.dropped 1 0x0707 (le 1 n ++ le 1 1) s
    if ev then logEv 0x0706 (le 1 n ++ le 4 (x.dropN + 1)) s else s

/-- A gain change under autoranging (R254 to R256): SENSE_RANGE at most once per second. -/
def rangeTo (n g : Nat) (s : State) : State :=
  let x := sense s n
  let ev := match x.rangeAt with | some t => decide (t + tSec ≤ s.dev) | none => true
  let s := setSense s n (settleNow s x.cfg { x with
    g := g, lowRun := 0, rangeChg := true, ranges := x.ranges.add 1
    rangeN := if ev then 0 else x.rangeN + 1, rangeAt := if ev then some s.dev else x.rangeAt })
  let s := wrapEv x.ranges 1 0x0707 (le 1 n ++ le 1 3) s
  if ev then logEv 0x0703 (le 1 n ++ le 1 g ++ le 2 (min 65535 (x.rangeN + 1))) s else s

/-- Autoranging on an unflagged sample (R254). -/
def autorange (n : Nat) (v : Int) (clip : Bool) (s : State) : State :=
  let x := sense s n
  let k := kfs x.cfg (firSum x x.cfg)
  if x.cfg.getD 6 8 < 8 then s
  else if (decide (9 * k.1 < 10 * v.natAbs * k.2) || clip) && decide (0 < x.g) then rangeTo n (x.g - 1) s
  else if 100 * v.natAbs * k.2 < 8 * k.1 then
    (if x.cfg.getD 7 4 ≤ x.lowRun + 1 ∧ x.g < 7 then rangeTo n (x.g + 1) s
     else setSense s n { x with lowRun := x.lowRun + 1 })
  else setSense s n { x with lowRun := 0 }

/-- R_L after 16 samples of the lead drop, each at its own gain and K_FS (R252, R255): mean drop over mean current, in mΩ, its rounding
open. Log entry 86 (DESIGN CHOICE). -/
def leadResult (n : Nat) (l : Lead) (s : State) : State :=
  let den := 2 ^ 7 * l.sum.2 * l.cur
  let r := if den = 0 then freeVal (2 ^ 32 - 1) s
    else let q := freeRound (l.sum.1 * 2500000000000) den s; ((clamp 0 0xFFFFFFFE q.1).toNat, q.2)
  let x := sense r.2 n
  setSense r.2 n (settleNow r.2 x.cfg { x with rl := r.1, lead := some { l with step := 3 } })

/-- The sum of two fractions. -/
def addFrac (a b : Int × Nat) : Int × Nat := if a.2 = b.2 then (a.1 + b.1, a.2) else (a.1 * b.2 + b.1 * a.2, a.2 * b.2)

/-- A sample in the averaging step of a lead phase (R252): its drop over full scale by the K_FS in force at the sample. -/
def leadSample (n : Nat) (v : Int) (s : State) : State :=
  let x := sense s n
  match x.lead with
  | none => s
  | some l =>
    if settling s x ∨ l.step = 3 then s
    else
      let k := kfs x.cfg (firSum x x.cfg)
      let l := { l with step := 2, n := l.n + 1, sum := addFrac l.sum (v * 2 ^ (7 - x.g) * k.2, k.1), cur := l.cur + x.cur }
      if l.n < 16 then setSense s n { x with lead := some l } else leadResult n l s

/-- The lead correction L (R253); with R_L not yet measured its value is open. Log entry 86 (DESIGN CHOICE). -/
def leadL (n : Nat) (s : State) : Int × State :=
  let x := sense s n
  let c := x.cfg
  if c.getD 2 0 ≠ 1 ∨ c.getD 5 2 ≠ 1 ∨ x.lead.isSome then (0, s)
  else if x.rl = 0xFFFFFFFF then let r := freeVal (2 ^ 24) s; ((r.1 : Int) - 2 ^ 23, r.2)
  else
    let k := kfs c (firSum x c)
    (rnd (2 * x.rl * x.cur * k.1 * 2 ^ x.g : Nat) (k.2 * 2500000000000), s)

/-- An output sample (R246 to R259), due once the FIR has its inputs: final saturation, trims, lead compensation, DC blocker, flags; then the
queue, the lead phase, the laser interlock and autoranging. Log entry 86 (DESIGN CHOICE). -/
def senseSample (n : Nat) (s : State) : State :=
  let x := sense s n
  if 7 < n ∨ sensesRun s = false ∨ x.on = false ∨ x.chain.due = false then s
  else
    let s := setSense s n { x with chain.due := false }
    let common := 16 * b2n x.rangeChg + 32 * b2n (x.cfg.getD 13 0 == 2) + 64 * b2n x.tol
    if x.openAt.isSome then pushSample n 0 (1 + common) s
    else
      let v0 := decimOut x x.cfg
      let key := 8 * n + x.g
      let v1 := rnd ((v0 - tget 0 s.cal.senseO key) * tget (2 ^ 30) s.cal.senseM key) (2 ^ 30)
      let lr := leadL n s
      let s := lr.2
      let v2 := v1 - lr.1
      let dcb := x.cfg.getD 13 0
      let y := if dcb = 0 then v2 else v2 - x.d
      let v := sat24 y
      let st := settling s x
      let fl := 2 * b2n st + 4 * b2n x.lead.isSome + 8 * b2n (decimClips x x.cfg || v != y) + common
      let s := setSense s n { sense s n with d := if dcb = 1 then x.d + asr (v2 - x.d) (x.cfg.getD 14 10) else x.d }
      let s := leadSample n v (pushSample n v fl s)
      if st then s else autorange n v x.clip (laserSample n v s)

/-- A settling interval ends (R256). -/
def settlingEnd (n : Nat) (s : State) : State :=
  let x := sense s n
  if 7 < n then s
  else match x.settle with
    | some e => if e ≤ s.dev then setSense s n { x with settle := none } else s
    | none => s

/-- A lead phase ends (R252 step 4): its settling interval after the restoration of the routing has run out. -/
def leadDone (n : Nat) (s : State) : State :=
  let x := sense s n
  match x.lead with
  | some l =>
    if 7 < n ∨ l.step ≠ 3 ∨ settling s x then s
    else logEv 0x0704 (le 1 n ++ le 1 0 ++ le 4 x.rl) (setSense s n { x with lead := none, settle := none })
  | none => s

/-- No masked channel has given a valid sample for 100 ms (R293). -/
def laserTimeout (s : State) : State :=
  let ok := match s.nk.laserAt with | some t => decide (t + 100 * tMs ≤ s.wall) | none => true
  if ok then let s := { s with nk.laserOut := true }; setChgHeld (chgHold s) s else s

/-! ### Commands -/

/-- An entry of the sample queue (R259). -/
def smpBytes (e : Smp) : List Byte := le 8 e.time ++ leI 4 e.value ++ le 1 e.gain ++ le 1 e.flags ++ le 2 e.seq

/-- SENSE_READ (R261). -/
def senseReadBody (_op : Nat) (r : Req) (s : State) : CmdOut :=
  let n := fld r.payload 0 1
  let mx := fld r.payload 1 1
  if 7 < n ∨ 14 < mx ∨ fld r.payload 2 2 ≠ 0 then refuse rBadParam [.lit (le 1 n ++ le 1 0), .mask 2 1, .free 8] s
  else
    let x := sense s n
    let es := x.queue.take mx
    let q := x.queue.drop mx
    .done rOK (le 1 n ++ le 1 es.length ++ le 2 (b2n x.dropped.wrap) ++ le 4 x.dropped.val.toNat ++ le 4 q.length ++ es.flatMap smpBytes)
      (setSense s n { x with queue := q })

/-- K_FS in 1/256 code, its rounding open. -/
def kfs256 (k : Nat × Nat) (s : State) : Nat × State :=
  let r := freeRound (k.1 * 256 : Nat) k.2 s
  (r.1.toNat, r.2)

/-- SENSE_FIR_WRITE (R262): with FIR_SOURCE 1 the accepted write is a settling event itself; it clears the chain as the writes of R256 do.
Log entry 86 (DESIGN CHOICE). -/
def firWriteBody (_op : Nat) (r : Req) (s : State) : CmdOut :=
  let n := fld r.payload 0 1
  let hs := (List.range 32).map (fun i => fldI r.payload (4 + 4 * i) 4)
  let sum := 2 * sumI hs
  if 7 < n ∨ allZero ((r.payload.drop 1).take 3) = false ∨ hs.any (fun h => decide (h < -131072) || decide (131071 < h)) ∨ sum ≤ 0 then
    refuse rBadParam [.free 8] s
  else
    let x := { sense s n with fir := hs }
    let c := snsCfg s n
    let k := kfs256 (kfs c sum.toNat) s
    .done rOK (leI 4 sum ++ le 4 k.1) (setSense k.2 n (if x.on && c.getD 10 0 == 1 then settleNow s c (chainClear c x) else x))

/-- SENSE_LEAD_MEASURE (R263). -/
def leadMeasureBody (_op : Nat) (r : Req) (s : State) : CmdOut :=
  let n := fld r.payload 0 1
  let x := sense s n
  if 7 < n ∨ allZero (r.payload.drop 1) = false then .done rBadParam [] s
  else if x.on = false ∨ x.cfg.getD 5 2 = 0 ∨ x.cfg.getD 2 0 = 0 then .done rBadParam [] s
  else if x.openAt.isSome ∨ x.lead.isSome then .done rBUSY [] s
  else .done rOK [] (setSense s n (leadStart s x.cfg x))

/-- The figures a status read shows of a channel (R264): those of its last block; a channel that has had none is off. -/
def snsShown (s : State) (n : Nat) : SnsStat :=
  let x := sense s n
  let c := snsCfg s n
  x.stat.getD { snsFigures s { x with cfg := c } with st := 0 }

/-- SENSE_STATUS_READ (R264): every value is of one decimation block, the last one. -/
def senseStatusBody (_op : Nat) (r : Req) (s : State) : CmdOut :=
  let n := fld r.payload 0 1
  if 7 < n ∨ allZero (r.payload.drop 1) = false then
    refuse rBadParam [.lit (le 1 n), .below 1 5, .below 1 8, .mask 1 7, .free 36] s
  else
    let f := snsShown s n
    let k := kfs256 f.kfs s
    .done rOK (le 1 n ++ le 1 f.st ++ le 1 f.g ++ le 1 (b2n f.compl + 2 * b2n f.wraps.1 + 4 * b2n f.wraps.2) ++ le 4 f.cur
      ++ le 4 f.term ++ le 4 f.rl ++ le 4 k.1 ++ le 4 (40250 * f.r) ++ le 4 (104250 * f.r) ++ le 4 (1000 * f.r * f.df)
      ++ le 4 f.opens ++ le 4 f.ranges) k.2

def execSenseRead (t : Nat) (r : Req) (s : State) : Host.Outcome State Fault Refusal :=
  .next (command { op := 0x0710 } (lenEq 4) senseReadBody t r s)
def execSenseFirWrite (t : Nat) (r : Req) (s : State) : Host.Outcome State Fault Refusal :=
  .next (command { op := 0x0711 } (lenEq 132) firWriteBody t r s)
def execSenseLeadMeasure (t : Nat) (r : Req) (s : State) : Host.Outcome State Fault Refusal :=
  .next (command { op := 0x0712 } (lenEq 4) leadMeasureBody t r s)
def execSenseStatusRead (t : Nat) (r : Req) (s : State) : Host.Outcome State Fault Refusal :=
  .next (command { op := 0x0713 } (lenEq 4) senseStatusBody t r s)
def execDecimationBlock (t sense currentNa terminalUv : Nat) (clip : Bool) (bits : List Bool) (s : State) :
    Host.Outcome State Fault Refusal :=
  .next (live t (decimationBlock sense currentNa terminalUv clip bits) s)
def execSenseSample (t : Nat) (n2 n1 n0 : Bool) (s : State) : Host.Outcome State Fault Refusal :=
  .next (live t (senseSample (4 * b2n n2 + 2 * b2n n1 + b2n n0)) s)
def execSettlingEnd (t sense : Nat) (s : State) : Host.Outcome State Fault Refusal := .next (live t (settlingEnd sense) s)
def execSenseLeadDone (t sense : Nat) (s : State) : Host.Outcome State Fault Refusal := .next (live t (leadDone sense) s)
def execLaserTempTimeout (t : Nat) (s : State) : Host.Outcome State Fault Refusal := .next (laserTimeout (advance t s))

end Sys2Proof.Machine
end

