-- ==== Sys2Proof/Machine/Reset.lean ====
section
/-! DEFINITION. Machine/Reset.lean: power-on reset, RESET_N and the causes that act as it (R463, R519 to R523), the boot ROM (R466,
R467), the end of BOOT (R38, R300, R320, R493, R495), patrol scrub (R492) and firmware timers (R472). -/

namespace Sys2Proof.Machine

/-! ### Entering RESET (R520 to R522) -/

/-- Every unit but Nerrak at its reset values (R267, R520): kept are time, pins, the test port, non-volatile memory, Nerrak's state and its guard sensor's, the memory
contents in self-refresh (R495), boot-only values as last written (R7) and the commands that wait. Log entry 75 (DEDUCED). -/
def cleared (s : State) : State :=
  { wall := s.wall, dev := s.dev, free := s.free, pins := { s.pins with attnN := false }, nv := s.nv
    desk := { st := 0 }, par := { bo := s.par.bo, boBoot := s.par.boBoot }
    nk := { s.nk with
      cand := [], candOk := false, nonce := none, confirm := none
      segs := s.nk.segs.map (fun g => { g with formed := false }) }
    hlt := { sens := tput {} [] 14 { tget {} s.hlt.sens 14 with retired := false } }
    srv := { tp := (List.range 16).foldl (fun m i => tput {} m i { gate := s.dev }) [] }, tap := s.tap
    mem := { bytes := s.mem.bytes, layout := s.mem.layout, bad := s.mem.bad }
    lgb := { s.lgb with ignored := {} }, rst := s.rst, pending := s.pending }

/-- RESET (R520): Nerrak drops the enables and cuts the high voltage, outputs are let go, memory enters self-refresh.
Log entry 75 (DEDUCED). -/
def enterReset (cause : Nat) (s : State) : State :=
  let c := s.rst.causes ||| 2 ^ cause
  if s.desk.st = 0 then { s with rst.causes := c }
  else
    let frozen := s.desk.st == 7
    let s := releasePins (cleared s)
    rejudge (dropLsr { s with rst.causes := c, rst.wasFrozen := s.rst.wasFrozen || frozen })

/-- RESET_N is accepted. -/
def resetNLow (s : State) : State :=
  if s.pins.resetN = false then s
  else if s.pins.porstN = false then { s with pins.resetN := false }
  else enterReset 1 { s with pins.resetN := false, rst.heldAt := some s.wall }

/-- RESET_N low for `w` ns (R520): shorter than 1.00 µs it is ignored, from 1.08 µs on accepted, between them either; an accepted hold is
timed (R521). -/
def resetNAssert (w : Nat) (s : State) : State :=
  if 1000 ≤ w ∧ w < 1080 then let f := freeVal 2 s; if f.1 = 0 then f.2 else resetNLow f.2
  else if w < 1000 then s
  else resetNLow s

/-- PORST_N low (R266, R522): everything is reset, Nerrak and memory included; POWER_ON is the one cause.
Log entries 5 (DESIGN CHOICE), 75 (DEDUCED). -/
def porstAssert (s : State) : State :=
  let p := s.pins
  { wall := s.wall, free := s.free, nv := s.nv, pending := s.pending, desk := { st := 0 }
    pins := { p with porstN := false, lsrA := false, lsrB := false, hvCut := true, attnN := false, ringEng := false, trigIo := none, claimLo := false }
    nk := { hvAt := s.wall, peerAt := s.wall, cutAt := s.wall, lsrFell := s.wall }
    rst := { causes := 1 } }

/-- PORST_N high: Nerrak starts its self-test (R268), the device stays in RESET until its release. A RESET_N that is low then is accepted
and timed from now on (R521, R522). Log entry 75 (DEDUCED). -/
def porstRelease (s : State) : State :=
  if s.pins.porstN then s
  else
    let low := !s.pins.resetN
    { s with
      pins.porstN := true, nk.relAt := s.wall, nk.stallAt := s.wall, nk.testing := true, nk.passed := false
      rst := { s.rst with
        causes := if low then s.rst.causes ||| 2 else s.rst.causes, heldAt := if low then some s.wall else none } }

/-- One millisecond after the DONE of DEV_RESET (R463). Log entry 75 (DEDUCED). -/
def commandReset (s : State) : State :=
  match s.desk.cmdReset with
  | none => s
  | some a => if s.dev < a then s else enterReset 3 s

/-- The watchdog (R523): firmware has not serviced it for HEALTH.WATCHDOG ms, which run from the release at the earliest, or a trial image has not
reached READY in time (R466). It acts as RESET_N for
10 µs (R522) and cannot expire in FROZEN. Log entries 75 (DEDUCED), 76 (DEDUCED). -/
def watchdog (trial : Bool) (s : State) : State :=
  if (if trial then s.desk.trial = false ∨ s.desk.st ≠ 1 ∨ s.dev < s.rst.bootAt + par0 s pFwTrialTimeout * tSec
      else s.dev < s.rst.bootAt + par0 s pHealthWatchdog * tMs) then s
  else { enterReset 4 s with rst.cmdUntil := some (s.wall + 10 * tUs) }

/-- A rail has been outside its fault window for 2 µs (R511, R522): reset until 1 ms after every rail is inside again.
Log entries 75 (DEDUCED), 76 (DEDUCED). -/
def voltageFault (i : Nat) (s : State) : State :=
  match (tget {} s.hlt.rails i).fault with
  | none => s
  | some a =>
    if s.wall < a + 2 * tUs ∨ s.pins.porstN = false then s
    else { enterReset 6 s with rst.cmdUntil := some (s.wall + tMs) }

/-! ### The boot ROM (R466, R467) -/

/-- The slot the boot ROM picks, with the directory as it leaves it (R466): an unconfirmed trial is given up. While Nerrak blocks flash
programs (R294) the directory stays as it is. Log entry 78 (DEDUCED). -/
def bootPick (s : State) : Nat × State :=
  let d := bootDir s
  let o := 1 - d.active
  let r : Nat × State :=
    if d.trial = 1 ∧ 1 ≤ d.boots then
      (o, dirWrite o 0 0 { s with desk.resetCause := s.desk.resetCause ||| 32, desk.pendFallback := some (o, 0) })
    else if d.trial = 1 then (d.active, dirWrite d.active 1 1 s)
    else (d.active, s)
  if s.nk.wrHeld then (r.1, { r.2 with nv := s.nv }) else r

/-- Runs an image: SLOT, TRIAL and FW_VERSION follow (R440, R441). Log entry 78 (DEDUCED). -/
def bootSlot (k : Nat) (s : State) : State :=
  { s with
    desk.slot := k, desk.trial := decide ((bootDir s).trial = 1 ∧ (bootDir s).active = k)
    desk.fwVersion := BitVec.ofNat 32 (slotVersion s k) }

/-- The boot ROM verifies the chosen slot and takes the other one when it fails (R466). Neither verifies: recovery (R467). -/
def bootRom (s : State) : State :=
  let d := bootPick { s with desk.rom := true }
  if imageStep s d.1 = 0 then bootSlot d.1 d.2
  else
    let o := 1 - d.1
    if imageStep s o = 0 then
      bootSlot o { d.2 with desk.resetCause := d.2.desk.resetCause ||| 32, desk.pendFallback := some (o, imageStep s d.1) }
    else logEv 0x0008 (le 1 (imageStep s 0) ++ le 1 (imageStep s 1)) { d.2 with desk.recovery := true, desk.pendFallback := none }

/-! ### Release (R521, R522, R525) -/

/-- Whole seconds of the hold by Nerrak's oscillator, ±3 % (R266, R521), class S at 65,535: one lost sets the flag. Log entry 28 (DESIGN CHOICE). -/
def heldSeconds (h : Nat) (s : State) : CntS × State :=
  let lo := h * 97 / (100 * tSec)
  let v := freeVal (h * 103 / (100 * tSec) - lo + 1) s
  (CntS.add 65535 {} (lo + v.1), v.2)

/-- RESET_N rises: the hold that lasted ends, and the longest one counts (R521, R522). Log entry 75 (DEDUCED). -/
def resetNHigh (s : State) : State :=
  { s with
    pins.resetN := true
    rst := { s.rst with
      heldAt := none
      heldFor := match s.rst.heldAt with | some w => some (max (s.rst.heldFor.getD 0) (s.wall - w)) | none => s.rst.heldFor } }

/-- The release's rewriting of RESET_CAUSE (R443, R522). -/
def releaseCause (s : State) : State :=
  match s.rst.heldFor with
  | none => { s with desk.resetCause := s.rst.causes, desk.held := {} }
  | some h =>
    let v := heldSeconds h s
    { v.2 with desk.resetCause := s.rst.causes ||| (if 10 * tSec < h then 4 else 0), desk.held := v.1 }

/-- BOOT begins and the boot ROM runs, or FROZEN is entered in its place when a freeze was held (R525); after a thaw the ROM runs then.
DEVICE_STATE reads BOOT from reset on, so the entry into BOOT logs no STATE_CHANGE. Log entries 13 (DESIGN CHOICE), 78 (DEDUCED). -/
def releaseReset (strap : Nat) (s : State) : State :=
  let s := releaseCause (cleared s)
  let frz := s.rst.frzHeld
  let s := { s with
    rst := { wasFrozen := s.rst.wasFrozen, from_ := 1, bootAt := s.dev }, twn.strap := strap, par.boBoot := s.par.bo }
  if frz then freezeNow 1 s else nkUpdate (bootRom { s with desk.st := 1 })

/-- The release of RESET_N, or the end of a reset that acts as RESET_N (R522): it holds while PORST_N or RESET_N is low and until the
causes' own times have passed. Log entry 75 (DEDUCED). -/
def resetNRelease (strap : Nat) (s : State) : State :=
  if s.desk.st ≠ 0 then s
  else if s.pins.porstN = false then { s with pins.resetN := true }
  else
    let s := resetNHigh s
    if (match s.rst.cmdUntil with | some u => decide (s.wall < u) | none => false) then s else releaseReset strap s

/-! ### The end of BOOT (R38) -/

/-- Why no set is confirmed at boot, 0 when one is (R297, R300). -/
def setReason (s : State) : Nat := setReasonOf s (setGov s)

/-- The commissioning set's check at boot: NK_SET_INVALID where it finds none (R300). -/
def bootSet (s : State) : State :=
  if setReason s = 0 then rejudge { s with nk.conf := some (setCopy s (setGov s)).1, desk.confirmed := true }
  else rejudge (logEv 0x0C07 (le 1 (setReason s)) { s with nk.conf := none, desk.confirmed := false })

/-- Tables and trims of a calibration file or of OTP. -/
def takeCal (f : CalFile) (s : State) : State :=
  { s with cal.ch := f.ch, cal.fire := f.fire, cal.pmon := f.pmon, cal.senseO := f.senseO, cal.senseM := f.senseM }

/-- The calibration load (R320): offsets and skew go into the shadow and are sealed before READY; an invalid file gives way to OTP.
Log entry 77 (DEDUCED). -/
def bootCal (s : State) : State :=
  match calStored s with
  | some f =>
    let vals := f.offs.foldl (fun m p => tput none m (pKey pExtRangeOffset p.1) (some (pat 64 (sgn 16 p.2)))) s.par.shadow.vals
    let s := { takeCal f s with
      nv.skew := f.skew, par.shadow.vals := tput none vals (pKey pCalTwinSkew 0) (some (pat 64 f.skew)) }
    idleCommit { img := s.par.shadow, coinc := false, family := false, plan := false, first := 0 } s
  | none => bootOtp (calBad s) s
where
  /-- The fallback to OTP, or to nominal tables while it is blank (R320). -/
  bootOtp (reason : Nat) (s : State) : State :=
    let s := { s with nv.skew := 0 }
    match s.nv.otpCal with
    | some f => logEv 0x0D05 (le 1 reason ++ le 1 0) (takeCal f s)
    | none => logEv 0x0D05 (le 1 reason ++ le 1 1) s

/-- Capacity in MiB by code (R503): the code detected counts while MEM.CAPACITY is 0. -/
def capacityMiB (s : State) (found : Nat) : Nat :=
  4096 * (if par0 s pMemCapacity = 0 then clampN 1 4 found else par0 s pMemCapacity)

/-- Bytes of the freeze-capture region alone. Log entry 77 (DEDUCED). -/
def keepFreeze (m : List Host.Cell) : List Host.Cell :=
  m.filter (fun c => decide (memFreeze ≤ c.1) && decide (c.1 < memExch))

/-- A kept logbook freezes (R500): with kind 6 after FROZEN, 7 otherwise; one already frozen keeps its kind. Log entry 77 (DEDUCED). -/
def keptLog (s : State) : State :=
  if s.lgb.st = 2 then s
  else
    let n := s.lgb.blocks.length
    let kind := if s.rst.wasFrozen then 6 else 7
    let s := { s with
      lgb.st := 2, lgb.kind := kind, lgb.trigAt := coarse s, lgb.trigEv := s.desk.eventCount.val.toNat
      lgb.trigSt := BitVec.ofNat 32 (stateWord s), lgb.trigNk := s.nk.faults
      lgb.blocks := s.lgb.blocks.modify (n - 1) (fun b => { b with flags := b.flags ||| 2 }) }
    logEv 0x0E07 (le 1 kind ++ le 8 s.lgb.trigAt ++ le 4 ((logNewest s - logOldest s) / 2000000)) (freezeCapture false s)

/-- The memory layout (R493) and what of it survives the reset (R495). -/
def bootMem (b : BootInfo) (s : State) : State :=
  let usable := capacityMiB s b.capacity * 31 / 32
  let spill := par0 s pMemSpillSize
  let want := par0 s pMemStackSize
  let stack := min want (usable - 336 - spill - 256)
  let log := usable - 336 - spill - stack
  let lay := some (capacityMiB s b.capacity, spill, stack, log)
  let keep := b.layoutSame && b.logHeaderOk && s.mem.layout == lay && !s.lgb.blocks.isEmpty && !s.desk.resetCause.testBit 0
  let s := { s with
    mem := { bytes := if keep then keepFreeze s.mem.bytes else []
             usable := usable, rate := [8533, 7500, 6400].getD (par0 s pMemRate) 6400
             spillMB := spill, stackMB := stack, logMB := log, kept := keep, refresh := false, layout := lay
             bad := if keep then s.mem.bad.filter (fun a => decide (memFreeze ≤ a) && decide (a < memExch)) else [] }
    lgb := if keep then s.lgb else {} }
  let s := if stack < want then logEv 0x0E03 (le 4 stack ++ le 4 log) s else s
  if keep then keptLog s else s

/-- FW_FALLBACK, once firmware runs (R466). Log entry 77 (DEDUCED). -/
def bootFallback (s : State) : State :=
  match s.desk.pendFallback with
  | none => s
  | some (k, why) => logEv 0x0005 (le 1 k ++ le 1 why) { s with desk.pendFallback := none }

/-- BOOT_COMPLETE (R38): everything that BOOT does, the boot ROM first where it has not run (R466), then READY; the lanes start (R377). In
recovery the device stays in BOOT (R467). Log entries 4 (DESIGN CHOICE), 77 (DEDUCED). -/
def bootComplete (b : BootInfo) (s : State) : State :=
  let s := if s.desk.st ≠ 1 ∨ s.desk.rom then s else bootRom s
  if s.desk.st ≠ 1 ∨ s.desk.recovery then s
  else
    let s := bootMem b (bootCal (bootSet (bootFallback s)))
    let s := { s with cal.lastSave := s.dev, cal.saveTry := s.dev, rst.wasFrozen := false }
    lanesStart (sensesStart (setSt 2 5 s))

/-! ### Patrol scrub, DMA bursts and timers (R492, R472) -/

/-- An uncorrectable block; one in the firmware region is a bus error followed by a watchdog reset (R492). Log entry 67 (DESIGN CHOICE). -/
def badBlock (a : Nat) (s : State) : State :=
  if a < memFreeze then { enterReset 4 (eccBad a s) with rst.cmdUntil := some (s.wall + 10 * tUs) } else eccBad a s

/-- Ticks between the patrol scrub's reads (R492): every block once per MEM.SCRUB_HOURS. Log entry 67 (DESIGN CHOICE). -/
def scrubPace (s : State) : Nat := par0 s pMemScrubHours * 3600 * tSec / (memEnd s / 64)

/-- PATROL_SCRUB (R492): the scrub reads its next block; `kind` 1 a corrected block, 2 an uncorrectable one, otherwise nothing was found.
Log entry 67 (DESIGN CHOICE). -/
def patrolScrub (a kind : Nat) (s : State) : State :=
  if a / 64 ≠ s.mem.scrub ∨ memEnd s ≤ a ∨ s.dev < s.mem.scrubAt + scrubPace s then s
  else
  let s := { s with mem.scrub := if memEnd s ≤ a / 64 * 64 + 64 then 0 else a / 64 + 1, mem.scrubAt := s.dev }
  if kind = 1 then eccCorrected 1 s
  else if kind = 2 then badBlock a s
  else s

/-- The end of a burst (R487, R489, R492): uncorrectable data of the firmware region are a bus error, followed by a watchdog reset. -/
def burstEnd (e corrected : Nat) (bad : Bool) (s : State) : State :=
  let s' := dmaBurstEnd e corrected bad s
  match (if bad ∧ e < 4 then (dmaE s e).chan.bind (burstAddr s e) else none) with
  | some a => if a < memFreeze then { enterReset 4 s' with rst.cmdUntil := some (s.wall + 10 * tUs) } else s'
  | none => s'

/-- FIRMWARE_TIMER (R472): sources 341 to 356. -/
def firmwareTimer (n : Nat) (s : State) : State := if n < 16 then irq (341 + n) s else s

def execPorstNAssert (t : Nat) (s : State) : Host.Outcome State Fault Refusal := .next (porstAssert (advance t s))
def execPorstNRelease (t : Nat) (s : State) : Host.Outcome State Fault Refusal := .next (porstRelease (advance t s))
def execResetNAssert (p : LowPulse) (s : State) : Host.Outcome State Fault Refusal := .next (resetNAssert p.lowNs (advance p.t s))
def execResetNRelease (t claim32 : Nat) (claim1 claim0 : Bool) (s : State) : Host.Outcome State Fault Refusal :=
  .next (resetNRelease (4 * claim32 + 2 * b2n claim1 + b2n claim0) (advance t s))
def execCommandReset (t : Nat) (s : State) : Host.Outcome State Fault Refusal := .next (live t commandReset s)
def execWatchdog (t : Nat) (trial : Bool) (s : State) : Host.Outcome State Fault Refusal := .next (live t (watchdog trial) s)
def execVoltageFault (t i : Nat) (s : State) : Host.Outcome State Fault Refusal := .next (voltageFault i (advance t s))
def execBootComplete (t : Nat) (b : BootInfo) (s : State) : Host.Outcome State Fault Refusal := .next (live t (bootComplete b) s)
def execPatrolScrub (t a kind : Nat) (s : State) : Host.Outcome State Fault Refusal := .next (live t (patrolScrub a kind) s)
def execFirmwareTimer (t n : Nat) (s : State) : Host.Outcome State Fault Refusal := .next (live t (firmwareTimer n) s)

end Sys2Proof.Machine
end

