-- ==== Sys2Proof/Machine/Interrupt.lean ====
section
/-! DEFINITION. Machine/Interrupt.lean: the interrupt controller's takes, finishes, software sources and moderation (R472 to R479), and
its registers as firmware writes them (R473). -/

namespace Sys2Proof.Machine

/-! ### Takes (R472, R475, R477) -/

/-- The eligible source of highest priority, the lowest number on ties. -/
def icBest (s : State) : Option Nat :=
  argmax (fun n => ((icSrc s n).prio : Int)) ((s.ic.src.filter (fun p => icEligible s p.2)).map (·.1))

/-- A read of IC_TAKE (R475); `ic.taken` holds what it returned: PRIO × 1,024 + SOURCE. Log entry 16 (DESIGN CHOICE). -/
def icTake (s : State) : State :=
  match icBest s with
  | some n =>
    let x := icSrc s n
    let s := setIcSrc s n { x with active := true, pending := x.pending && !icEdge n }
    { icLine { s with ic.taken := x.prio * 1024 + n } with ic.latched := false }
  | none => { s with ic.taken := if s.ic.latched then 0x300 else 0, ic.latched := false }

/-- FINISH (R476): ignored and counted on a source that is not active. Log entry 16 (DESIGN CHOICE). -/
def finish (n : Nat) (s : State) : State :=
  if n = 0 ∨ 767 < n then s
  else
    let x := icSrc s n
    if x.active then icLine (setIcSrc s n { x with active := false })
    else logEv 0x0E09 (le 2 n) { s with ic.badFin := s.ic.badFin.add 65535 1 }

/-- CNT_CLR (R473): the count is cleared, its saturation flag stays (R9). Log entry 16 (DESIGN CHOICE). -/
def cntClr (n : Nat) (s : State) : State :=
  if n = 0 ∨ 767 < n then s else setIcSrc s n { icSrc s n with count := (icSrc s n).count.clear true false }

/-- IC_SOFT: an edge on source 357 + i for each bit i (R473). -/
def icSoft (v : Word) (s : State) : State :=
  (bitList 16 0 v.toNat).foldl (fun s i => irq (357 + i) s) s

/-! ### Moderation and idle (R478, R479) -/

/-- A group releases: every held member becomes eligible in the same cycle. -/
def icRelease (g : Nat) (s : State) : State :=
  let s := s.ic.src.foldl (fun s p =>
    let x := icSrc s p.1
    if x.held && x.group == g then setIcSrc s p.1 { x with held := false } else s) s
  icLine { s with ic.mods := tput {} s.ic.mods g { tget {} s.ic.mods g with hold := none } }

/-- MODERATION_RELEASE: the group's TIMER has run. -/
def moderationRelease (g : Nat) (s : State) : State :=
  match (tget {} s.ic.mods g).hold with
  | some e => if s.dev < e then s else icRelease g s
  | none => s

/-- PROCESSOR_IDLE: the wait-for-interrupt with the line low (R479); every holding group releases. Where the line stays low, whether the
processor stops the controller's clock is open (R480). Log entries 17 (DESIGN CHOICE), 119 (DEDUCED). -/
def processorIdle (s : State) : State :=
  if s.ic.line then s
  else
    let u := (s.ic.mods.filter (fun p => p.2.hold.isSome)).foldl (fun s p => icRelease p.1 s) { s with ic.idle := true }
    if u.ic.line then u else { u with ic.deep := Config.clockStops u.ic.draws, ic.draws := u.ic.draws + 1 }

/-! ### Register writes (R473) -/

/-- A write to IC_SRC_n: FINISH and CNT_CLR act, the fields are stored; a source that leaves its group is no longer held.
Log entry 17 (DESIGN CHOICE). -/
def icSrcWrite (n v : Nat) (s : State) : State :=
  let s := if v.testBit 17 then finish n s else s
  let s := if v.testBit 16 then cntClr n s else s
  let x := icSrc s n
  let g := bits v 7 4
  icLine (setIcSrc s n { x with
    mod := v.testBit 8, group := g, enable := v.testBit 3, prio := bits v 2 0, held := x.held && v.testBit 8 && g == x.group })

/-- A write to IC_MOD_g; TIMER 0 ends a hold, another value acts from the next hold on. Log entry 17 (DESIGN CHOICE). -/
def icModWrite (g v : Nat) (s : State) : State :=
  let t := min 10000 (bits v 13 0)
  let s := { s with ic.mods := tput {} s.ic.mods g { tget {} s.ic.mods g with timer := t } }
  if t = 0 then icRelease g s else s

/-- A write to a register of the controller at an offset from 0x0200_0000. -/
def icWrite (a v : Nat) (s : State) : State :=
  if 4 ≤ a ∧ a ≤ 4 * 767 then icSrcWrite (a / 4) v s
  else if a = 0x1008 then icLine { s with ic.floor := bits v 2 0 }
  else if a = 0x1010 then icSoft (BitVec.ofNat 32 v) s
  else if 0x1100 ≤ a ∧ a < 0x1140 then icModWrite (a / 4 % 16) v s
  else s

/-! ### Register reads (R473, R490) -/

/-- IC_SRC_n (R473). -/
def icSrcRead (s : State) (n : Nat) : Nat :=
  let x := icSrc s n
  x.count.val * 2 ^ 12 + b2n x.active * 2 ^ 11 + b2n x.pending * 2 ^ 10 + b2n (icEdge n) * 2 ^ 9 + b2n x.mod * 2 ^ 8 + x.group * 16
    + b2n x.enable * 8 + x.prio

/-- A register of the controller at an offset from 0x0200_0000, as firmware reads it; a read of IC_TAKE acts as IC_TAKE does and returns what
that leaves in `ic.taken`. Reserved offsets and write-only registers read 0. -/
def icRead (s : State) (a : Nat) : Nat :=
  if 4 ≤ a ∧ a ≤ 4 * 767 then icSrcRead s (a / 4)
  else if a = 0x1000 then s.ic.taken
  else if a = 0x1008 then s.ic.floor
  else if a = 0x100C then s.ic.badFin.val * 65536 + b2n s.ic.latched * 4 + b2n s.ic.idle * 2 + b2n s.ic.line
  else if 0x1100 ≤ a ∧ a < 0x1140 then
    let g := tget {} s.ic.mods (a / 4 % 16)
    b2n g.hold.isSome * 65536 + g.timer
  else 0

/-- A register of a stream channel's block (R490). -/
def streamRead (s : State) (n o : Nat) : Nat :=
  let x := dmaS s n
  if o = 0 then x.ring % 2 ^ 32
  else if o = 4 then x.ring / 2 ^ 32 % 2 ^ 32
  else if o = 8 then b2n x.enable * 2 ^ 31 + x.size * 2 ^ 24 + x.stopWm * 2 ^ 16 + x.startWm
  else if o = 12 then x.head * 2 ^ 20 + chanFill s n / 8 * 16 + b2n x.shed * 4 + b2n x.request * 2 + b2n x.halted
  else 0

/-- A register of a control channel's block (R490). -/
def ctlRead (s : State) (n o : Nat) : Nat :=
  let x := dmaC s n
  if o = 0 then x.first % 2 ^ 32
  else if o = 4 then x.first / 2 ^ 32 % 2 ^ 32
  else if o = 12 then b2n x.busy * 2 + b2n x.halted
  else 0

/-- A fabric register as firmware reads it (R473, R490). -/
def fabricRead (s : State) (a : Nat) : Nat :=
  if 0x02000000 ≤ a ∧ a < 0x02010000 then icRead s (a - 0x02000000)
  else if 0x02010000 ≤ a ∧ a < 0x02010400 then streamRead s (a / 32 % 32) (a % 32)
  else if 0x02010400 ≤ a ∧ a < 0x02010500 then ctlRead s (a / 32 % 8) (a % 32)
  else 0

def execIcTake (t : Nat) (s : State) : Host.Outcome State Fault Refusal := .next (live t icTake s)
def execFinish (t n : Nat) (s : State) : Host.Outcome State Fault Refusal := .next (live t (finish n) s)
def execCntClr (t n : Nat) (s : State) : Host.Outcome State Fault Refusal := .next (live t (cntClr n) s)
def execIcSoft (t : Nat) (v : Word) (s : State) : Host.Outcome State Fault Refusal := .next (live t (icSoft v) s)
def execModerationRelease (t g : Nat) (s : State) : Host.Outcome State Fault Refusal := .next (live t (moderationRelease g) s)
def execProcessorIdle (t : Nat) (s : State) : Host.Outcome State Fault Refusal := .next (live t processorIdle s)

end Sys2Proof.Machine
end

