-- ==== Sys2Proof/Machine/ParamCmd.lean ====
section
/-! DEFINITION. Machine/ParamCmd.lean: PARAM_GET, PARAM_SET, PARAM_SEAL and PARAM_LIST (R27 to R33, R92, R93, R180, R457 to R461). -/

namespace Sys2Proof.Machine

/-! ### Ownership and waiting sets (R92, R93, R458) -/

/-- Whether a parameter is one a service owns: a rod's coincidence depth and window (R92, R94), the passport family (R107). -/
def svcOwned (id : Nat) : Bool := id == pCoincWindow || id == pCoincDepth || id == pPassportFamily

/-- Whether its service owns the parameter now. -/
def ownedNow (s : State) (id : Nat) : Bool :=
  if id = pPassportFamily then par0 s pIfmMode == 0 else svcOwned id && par0 s pCoincAdaptMode == 0

/-- The host sets that wait, in the order of their boundaries (R29, R458): a set for the running frame's FBE and one for the next. A seal not
yet judged is taken for the running frame's FBE, and of those that wait for one boundary the latest replaces the others (R30).
Log entry 23 (DEDUCED). -/
def hostWaits (s : State) : List Sealed :=
  (match (s.par.awaiting.filterMap (fun (a : Awaiting) => a.host)).getLast? with | some h => some h | none => s.par.timely).toList ++ s.par.late.toList

/-- The service sets that wait, in the same order. -/
def svcWaits (s : State) : List SvcSealed := s.par.svcTimely.toList ++ s.par.svcLate.toList ++ s.par.awaiting.filterMap (·.svc)

/-- Whether a service set carries a parameter. -/
def svcHas (id : Nat) (v : SvcSealed) : Bool := v.vals.any (fun p => p.1 / 65536 == id)

/-- The service sets that wait with a parameter, one for each boundary, as `hostWaits` has them. -/
def svcFor (s : State) (id : Nat) : List SvcSealed :=
  (match ((s.par.awaiting.filterMap (fun (a : Awaiting) => a.svc)).filter (svcHas id)).getLast? with
    | some v => [v]
    | none => s.par.svcTimely.toList.filter (svcHas id)) ++ s.par.svcLate.toList.filter (svcHas id)

/-- A parameter's value once every waiting service set has committed (R93). -/
def svcAhead (s : State) (id i : Nat) : Nat :=
  (svcWaits s).foldl (fun v w => (tget none w.vals (pKey id i)).getD v) (par s id i)

/-- The image in force once every waiting service set has committed; none when there is none. -/
def svcImageAhead (s : State) : Option (List Host.Cell) :=
  (svcWaits s).foldl (fun v w => if w.image.isSome then w.image else v) (if s.par.inForce.itinHas then some s.par.inForce.itin else none)

/-! ### PARAM_GET (R458) -/

/-- A host set's value of a parameter: what it does not carry stays as in force (R554). -/
def sealedVal (s : State) (id i : Nat) (h : Sealed) : Nat :=
  if carries h (pKey id i) then setVal s h.img id i else par s id i

/-- The value a waiting set of either kind gives, taken as the first or the last of a list. -/
def pick {α : Type} (copy : Nat) (l : List α) : Option α := if copy = 2 then l.head? else l.getLast?

/-- One value of a copy (R458). Log entry 23 (DEDUCED). -/
def copyVal (s : State) (r : PRow) (copy i : Nat) : Nat :=
  let id := r.id
  if r.cls = 1 then par s id i
  else if r.cls = 2 then (if copy = 1 then par s id i else valOr s s.par.bo r i)
  else if copy = 1 then par s id i
  else if copy = 0 then (if ownedNow s id then svcAhead s id i else setVal s s.par.shadow id i)
  else if ownedNow s id then
    match pick copy (svcFor s id) with
    | some v => (tget none v.vals (pKey id i)).getD (par s id i)
    | none => par s id i
  else
    match pick copy (hostWaits s) with
    | some h => sealedVal s id i h
    | none => par s id i

/-- The flags of a PARAM_GET. Log entry 23 (DEDUCED). -/
def copyFlags (s : State) (r : PRow) (copy : Nat) : Nat :=
  if r.cls ≠ 0 then 0
  else
    let own := ownedNow s r.id
    let n := if own then (svcFor s r.id).length else (hostWaits s).length
    (if 2 ≤ copy ∧ n = 0 then 1 else 0) + (if own ∧ copy = 0 then 2 else 0) + (if 2 ≤ copy ∧ n = 2 then 4 else 0)

/-- Whether indices lie in a parameter's scope. -/
def inScope (r : PRow) (i n : Nat) : Bool := decide (1 ≤ n) && r.hasIndex i && decide (i + n ≤ r.first + r.count)

/-- PARAM_GET. -/
def paramGetBody (_op : Nat) (r : Req) (s : State) : CmdOut :=
  let id := fld r.payload 0 2
  let i := fld r.payload 2 2
  let n := fld r.payload 4 2
  let copy := fld r.payload 6 1
  let bad := refuse rBadParam [.lit (le 2 id ++ le 2 i ++ le 2 n), .mask 2 7, .free (8 * (if n ≤ 29 then n else 0))] s
  match paramRow id with
  | none => bad
  | some p =>
    if inScope p i n = false ∨ 29 < n ∨ 3 < copy ∨ fld r.payload 7 1 ≠ 0 then bad
    else .done rOK (le 2 id ++ le 2 i ++ le 2 n ++ le 2 (copyFlags s p copy)
      ++ (List.range n).flatMap (fun k => le 8 (copyVal s p copy (i + k)))) s

/-! ### Value checks (R457, R459) -/

/-- The signed bytes of a word, lowest first. -/
def s8s (v : Nat) : List Int := (List.range 4).map (fun i => sgn 8 (v / 256 ^ i))

/-- Whether a 64-bit value lies in the stated range; a signed value is sign-extended. Log entry 21 (DEDUCED). -/
def inRange (r : PRow) (v : Nat) : Bool :=
  let x : Int := if r.signed then sgn 64 v else v
  decide (r.lo ≤ x) && decide (x ≤ r.hi)

/-- What a parameter's own entry adds to its range (R205, R236, R260, R367, R394, R470, R529). Log entry 21 (DEDUCED). -/
def valueFits (s : State) (id i v : Nat) : Bool :=
  if id = pTpSource then decide (v < 4) || v == 7
  else if id = pStreamEthertype ∨ id = pMgmtEthertype then
    v != 0x8100 && v != 0x88E5 && v != 0x88F7 && v != 0xF1C1 && (decide (id = pStreamEthertype) || v != par0 s pStreamEthertype)
  else if id = pStreamClassMap then (List.range 5).all (fun c => decide (v / 16 ^ c % 16 ≤ 7))
  else if id = pStreamSrcMac then v % 2 == 0
  else if id = pSenseShifts then (s8s v).all (fun x => decide (-8 ≤ x) && decide (x ≤ 24))
  else if id = pSenseCicDecimation then decide (32 ≤ v * par s pSenseFirDecimation i) && decide (v * par s pSenseFirDecimation i ≤ 10000)
  else if id = pSenseFirDecimation then decide (32 ≤ v * par s pSenseCicDecimation i) && decide (v * par s pSenseCicDecimation i ≤ 10000)
  else if id = pLaneTxFfe then
    (s8s v).all (fun x => decide (-16 ≤ x) && decide (x ≤ 16)) && decide (sumN ((s8s v).map Int.natAbs) ≤ 32)
  else if id = pLaneMaxRate then decide (8 ≤ i) || v != 4
  else if id = pLaneMinRate then decide (v ≤ par s pLaneMaxRate i)
  else if id = pPlanSatLow then decide (v < par0 s pPlanSatHigh)
  else if id = pPolyPhaseOffset then decide (v < par0 s pPolyLinePeriod)
  else if id = pMotionField then v != 0
  else if id = pHealthThrottleLimit then decide (v + 5 ≤ par0 s pHealthTempCritical)
  else if id = pHealthTempCritical then s.nv.grade != 1 || decide (v ≤ 110)
  else true

/-- A state condition that the parameter's entry states (R236, R367), or service ownership (R92). -/
def setBarred (s : State) (id : Nat) (idx : List Nat) (vals : List Nat) : Bool :=
  ownedNow s id
    || (id == pServoRate && idx.any (fun n => par s pServoMode n != 0 && par s pServoMode n != 4))
    || (id == pMacsecEnable && vals.any (·.testBit 0) && (txSa s 0).isNone && (txSa s 1).isNone)

/-! ### Writes -/

/-- The copy and the discard at a change of a service's mode (R93): host mode takes over what the service's sets will give,
automatic mode discards unsealed host writes. -/
def modeCopy (mode : Nat) (keys : List (Nat × Nat)) (s : State) : State :=
  { s with par.shadow.vals := keys.foldl (fun m k =>
      if mode = 1 then tput none m (pKey k.1 k.2) (some (svcAhead s k.1 k.2))
      else tput none m (pKey k.1 k.2) (tget none s.par.inForce.vals (pKey k.1 k.2))) s.par.shadow.vals }

/-- The planner's mode change (R93, R201): the shadow image is its owned setting. -/
def planCopy (mode : Nat) (s : State) : State :=
  let img := if mode = 1 then svcImageAhead s else if s.par.inForce.itinHas then some s.par.inForce.itin else none
  let s := { s with par.shadow.itin := img.getD [], par.shadow.itinHas := img.isSome }
  if mode = 0 then { s with sch.planFrom := none } else s

/-- Rods and the parameters of the adaptation service. -/
def adaptKeys : List (Nat × Nat) := (List.range 64).flatMap (fun r => [(pCoincWindow, r), (pCoincDepth, r)])

/-- A service's mode parameter takes another value. Log entry 26 (DEDUCED). -/
def modeChange (id v : Nat) (s : State) : State :=
  if id = pCoincAdaptMode then
    let s := modeCopy v adaptKeys s
    if v = 0 then (List.range 64).foldl (fun s r => setAmbRod s r { ambRod s r with cur := 0 }) s else s
  else if id = pIfmMode then modeCopy v [(pPassportFamily, 0)] s
  else if id = pPlanMode then planCopy v s
  else s

/-- What follows an immediate write in the unit that uses the value; `same` when the value in force was that already. -/
def imEffect (id i v : Nat) (same : Bool) (s : State) : State :=
  if id = pLaneEnable then laneEnable i same s
  else if id = pLaneMaxRate ∨ id = pLaneMinRate then laneLimits i s
  else if id = pRingEnable then ringEnable s
  else if id = pHealthThermalMode ∨ id = pHealthThrottleStep then hostStep s
  else if id = pServoSetpoint then handTarget i (sgn 16 v) s
  else if id = pTpSource then tpRestart i same s
  else if pSenseCicDecimation ≤ id ∧ id ≤ pSenseShifts then setSense s i { sense s i with chainWr := true }
  else if id = pTimeSource ∧ v = 1 then timeFree s
  else if id = pTimePort ∧ same = false then timeLink s
  else if id = pTimeDomain ∧ same = false then { s with tim.master := none, tim.sync := none }
  else s

/-- Writes one value (R7): into the shadow, into force, or stored for the next boot. -/
def writeVal (r : PRow) (i v : Nat) (s : State) : State :=
  let k := pKey r.id i
  if r.cls = 0 then
    let f := if r.id = pEmitLevelTarget ∨ r.id = pEmitFadeFrames then s.par.shadow.fades ||| 2 ^ i else s.par.shadow.fades
    { s with par.shadow.vals := tput none s.par.shadow.vals k (some v), par.shadow.fades := f }
  else if r.cls = 2 then { s with par.bo := tput none s.par.bo k (some v) }
  else
    let old := par s r.id i
    let s := { s with par.im := tput none s.par.im k (some v) }
    imEffect r.id i v (old == v) (if old = v then s else modeChange r.id v s)

/-- PARAM_SET (R459): every value is checked before any is written. Log entries 21 (DEDUCED), 22 (DESIGN CHOICE). -/
def paramSetBody (_op : Nat) (r : Req) (s : State) : CmdOut :=
  let id := fld r.payload 0 2
  let i := fld r.payload 2 2
  let n := fld r.payload 4 2
  let vals := (List.range n).map (fun k => fld r.payload (8 + 8 * k) 8)
  let ans := fun (cnt bo : Nat) => le 2 id ++ le 2 i ++ le 2 cnt ++ le 2 bo
  match paramRow id with
  | none => .done rBadParam (ans 0 0) s
  | some p =>
    let every := i = 0xFFFF
    let idx := if every then (List.range p.count).map (p.first + ·) else (List.range n).map (i + ·)
    let pairs := if every then idx.map (fun k => (k, vals.headD 0)) else idx.zip vals
    let ok := if every then n == 1 else inScope p i n
    let bo := b2n (p.cls == 2)
    if ownedNow s id ∨ (ok = true ∧ setBarred s id idx vals) then .done rNotPermitted [] s
    else if ok = false ∨ 29 < n ∨ fld r.payload 6 2 ≠ 0 then .done rBadParam (ans 0 bo) s
    else if pairs.all (fun q => inRange p q.2 && valueFits s id q.1 q.2) = false then .done rRange (ans 0 bo) s
    else .done rOK (ans idx.length bo) (pairs.foldl (fun s q => writeVal p q.1 q.2 s) s)

/-! ### PARAM_SEAL (R27 to R33, R180, R460) -/

/-- The sealed set of the shadow as it stands. -/
def snapshot (s : State) : Sealed :=
  { img := s.par.shadow, coinc := par0 s pCoincAdaptMode == 1, family := par0 s pIfmMode == 1, plan := par0 s pPlanMode == 1, first := 0 }

/-- The image that a seal made now would leave in force (R180); none while no image is in force or sealed. -/
def imageAhead (s : State) : Option (List Host.Cell) :=
  let h := snapshot s
  if hostImage h then some h.img.itin
  else
    let hs := (hostWaits s).filterMap (fun w => if hostImage w then some w.img.itin else none)
    match (if s.par.awaiting.any (fun a => match a.svc with | some v => v.image.isSome | none => false) then none else hs.getLast?) with
    | some i => some i
    | none => svcImageAhead s

/-- The verdict of a seal (R180): the image ahead against the shadow parameters and curves. Log entry 25 (DEDUCED). -/
def sealVerdict (s : State) : Verdict :=
  match imageAhead s with
  | some i => validate s s.par.shadow i
  | none => { reason := 0 }

/-- PARAM_SEAL: the snapshot is judged once the FBE time of the running frame is fixed (R28), and commits at once while no frame
runs (R33). Log entry 25 (DEDUCED). -/
def paramSealBody (_op : Nat) (r : Req) (s : State) : CmdOut :=
  let fl := fld r.payload 0 1
  if s.desk.st = 1 then .done rNotPermitted [] s
  else if 1 < fl ∨ allZero (r.payload.drop 1) = false then refuse rBadParam [.free 4, .mask 1 7, .free 2, .zero 1, .free 2, .zero 2] s
  else
    let v := sealVerdict s
    if v.reason ≠ 0 then
      .done rBadParam (sealPayload 0 0 v.reason v.line v.cell)
        (if fl = 1 then s else logEv 0x0508 (le 1 0 ++ le 1 v.reason ++ le 1 v.line ++ le 2 v.cell) s)
    else if fl = 1 then .done rOK (sealPayload 0 0 0 255 65535) s
    else
      let h := snapshot s
      let s := { s with par.shadow.fades := 0 }
      if s.sch.running then
        .pending (judgeSeals { s with
          par.awaiting := s.par.awaiting ++ [{ mb := some r.mb, tag := r.tag, at_ := s.dev, host := some h, svc := none }] })
      else
        let f := s.sch.frameNo.val.toNat
        let repl := s.par.timely.isSome || s.par.late.isSome
        .done rOK (sealPayload f (2 * b2n repl + 4) 0 255 65535) (idleCommit { h with first := f } s)

/-! ### PARAM_LIST (R461) -/

/-- One entry. -/
def listEntry (s : State) (r : PRow) : List Byte :=
  le 2 r.id ++ le 1 r.width ++ le 1 (r.cls + 16 * b2n r.signed + 32 * b2n r.varies + 64 * b2n (ownedNow s r.id)) ++ le 1 r.scope
    ++ le 1 r.first ++ le 2 r.count ++ le 8 (pDefault s r r.first)

/-- PARAM_LIST. -/
def paramListBody (_op : Nat) (r : Req) (s : State) : CmdOut :=
  let a := fld r.payload 0 2
  let ss := fld r.payload 2 1
  if (14 < ss ∧ ss ≠ 255) ∨ fld r.payload 3 1 ≠ 0 then refuse rBadParam [.lit (le 2 0), .free 2] s
  else
    let l := params.filter (fun p => decide (a ≤ p.id) && (ss == 255 || p.id / 256 == ss))
    let l1 := l.take 14
    let nx := match (l.drop 14).head? with | some p => p.id | none => 0
    .done rOK (le 1 l1.length ++ le 1 0 ++ le 2 nx ++ l1.flatMap (listEntry s)) s

def execParamGet (t : Nat) (r : Req) (s : State) : Host.Outcome State Fault Refusal :=
  .next (command { op := 0x0001 } (lenEq 8) paramGetBody t r s)
def execParamSet (t : Nat) (r : Req) (s : State) : Host.Outcome State Fault Refusal :=
  .next (command { op := 0x0002 } (fun p => decide (8 ≤ p.length) && p.length == 8 + 8 * fld p 4 2) paramSetBody t r s)
def execParamSeal (t : Nat) (r : Req) (s : State) : Host.Outcome State Fault Refusal :=
  .next (command { op := 0x0003 } (lenEq 4) paramSealBody t r s)
def execParamList (t : Nat) (r : Req) (s : State) : Host.Outcome State Fault Refusal :=
  .next (command { op := 0x0004 } (lenEq 4) paramListBody t r s)

end Sys2Proof.Machine
end

