-- ==== Sys2Proof/Machine/Balls.lean ====
section
/-! DEFINITION. Machine/Balls.lean: what the emission, servo, charger and safety outputs show on their balls, high impedance included
(R191, R193, R213, R401, R403, R418, R520, R525). -/

namespace Sys2Proof.Machine

/-- The states in which FIRE, SHUNT, ISET and SRV_CMD are in high impedance (R193, R213): RESET, BOOT and FROZEN. -/
def letGo (s : State) : Bool := s.desk.st == 0 || s.desk.st == 1 || s.desk.st == 7

/-- Whether string `i`'s FIRE, SHUNT and ISET outputs are driven (R193, R403). -/
def stringDriven (s : State) (i : Nat) : Bool := !letGo s && drivesString s i

/-- READY and SAFE_STOP, in which every shunt is high and every ISET is code 0 (R193). -/
def stringIdle (s : State) : Bool := s.desk.st == 2 || s.desk.st == 6

/-- FIRE_s: none is high impedance, which the board pulls low (R191, R401). -/
def fireBall (s : State) (i : Nat) : Option Bool := if stringDriven s i then some (strng s i).fire else none

/-- SHUNT_s_e (R192, R193): low only for the emitter that carries the current. -/
def shuntBall (s : State) (i e : Nat) : Option Bool :=
  if stringDriven s i then some (stringIdle s || !(strng s i).shunt.testBit e) else none

/-- ISET_s as a code of the 1.2 V range (R193, R194). -/
def isetBall (s : State) (i : Nat) : Option Nat :=
  if stringDriven s i then some (if stringIdle s then 0 else (strng s i).iset) else none

/-- SRV_CMD_n (R213, R401, R403, R408): in a twin head the device drives it that owned the head at the servo's sample boundary. -/
def srvBall (s : State) (n : Nat) : Option Int :=
  if letGo s || (twinMode s && !s.twn.srvOwn.testBit n) then none else some (servo s n).drv

/-- CHG_EN_k (R199, R403, R520): driven outside RESET, in a twin head by the owner alone. -/
def chgBall (s : State) (k : Nat) : Option Bool :=
  if s.desk.st = 0 ∨ standby s = true then none else some (s.sch.chgEn.testBit k)

/-- Whether a channel's input is terminated with 50 Ω (R49, R401): never in the listening twin. -/
def terminated (s : State) (c : Nat) : Bool := par s pChTermination c == 0 && !(twinMode s && s.twn.strap % 2 == 1)

/-- Whether the device pulls CLAIM_LINE low now (R405): it sends a round, in a cell whose bit of the claim number is 1, and has not lost.
Before it has sent a 0 it cannot have lost; after that the model learns what the line read with the round's end, so whether it still
sends is free. Log entry 135 (DESIGN CHOICE). -/
def claimPull (s : State) : Bool :=
  let c := (s.dev - s.twn.roundAt - 12800) / 6400
  let i := 15 - c
  s.pins.claimLo && decide (s.twn.roundAt + 12800 ≤ s.dev) && decide (c < 16) && s.twn.claim.testBit i
    && (decide (s.twn.claim / 2 ^ i + 1 = 2 ^ (16 - i)) || !Config.claimLost (s.twn.roundNo.getD 0) c)

/-- A digital output by number, for the boundary register: FIRE_s at s, SHUNT_s_e at 16 + 8s + e, then CHG_EN_0 to 3, LSR_EN_A, LSR_EN_B,
HV_CUT_N, ATTN_N, RING_ENGAGE, TRIG_IO and CLAIM_LINE (open drain: driven only low). None: an input or high impedance. Numbers of the model's own.
Log entry 8 (DESIGN CHOICE). -/
def ballLevel (s : State) (b : Nat) : Option Bool :=
  if b < 16 then fireBall s b
  else if b < 144 then shuntBall s ((b - 16) / 8) (b % 8)
  else if b < 148 then chgBall s (b - 144)
  else if b = 148 then some s.pins.lsrA
  else if b = 149 then some s.pins.lsrB
  else if b = 150 then some (!s.pins.hvCut)
  else if b = 151 then some (!s.pins.attnN)
  else if b = 152 then some s.pins.ringEng
  else if b = 153 then (match s.pins.trigIo with | some e => if s.dev < e then some false else none | none => none)
  else if b = 154 then (if claimPull s then some false else none)
  else none

/-- The balls whose boundary cells only observe (R527): every FIRE pair, LSR_EN_A, LSR_EN_B and HV_CUT_N. -/
def observeOnly (b : Nat) : Bool := decide (b < 16) || b == 148 || b == 149 || b == 150

end Sys2Proof.Machine
end

