-- ==== Sys2Proof/Machine/TestPort.lean ====
section
/-! DEFINITION. Machine/TestPort.lean: the IEEE 1149.1 test port (R527) and the snapshot chains (R528). -/

namespace Sys2Proof.Machine

/-! ### Snapshot chains (R528) -/

/-- A mailbox's control block without its buffers, which may hold a debug nonce or a key. -/
def bareMb (m : Mailbox) : Mailbox := { m with buf := [], lastKind2 := [] }

/-- A MACsec SA with its counters; key and salt read as 0. -/
def bareSa (a : Sa) : Sa := { a with salt := a.salt.map (fun _ => 0), key := a.key.map (fun _ => 0) }

/-- What snapshot chain `n` shows of the device (R528): the state of its domain, every other field at its default. The queues between domains
that State holds are in chain 8 with their contents; the pointers of dual-clock FIFOs and
synchronizer stages (chain 8) and the processor's registers (chain 3), which State does not hold, are open: the bits of these chains may
change with device time and with every free value. Nerrak is read live, its degraded clock as it runs (chain 9).
Log entry 8 (DESIGN CHOICE). -/
def chainState (n : Nat) (s : State) : State :=
  match n with
  | 0 => { dev := s.dev, ch := s.ch, capture := s.capture, amb := s.amb, sch := s.sch, srv := { tp := s.srv.tp } }
  | 1 => { tal := s.tal }
  | 2 => { ext := s.ext, str := { s.str with paths := [], tx := [], sas := [] } }
  | 3 => { dev := s.dev, free := s.free
           desk := { s.desk with mbs := s.desk.mbs.map (fun m => (m.1, bareMb m.2)), challenge := none, replies := [], miso := none }
           par := s.par, ic := s.ic, dma := s.dma }
  | 4 => { mem := { s.mem with bytes := [], spill := [] } }
  | 5 => { str := { paths := s.str.paths, tx := s.str.tx, sas := s.str.sas.map (fun a => (a.1, a.2.map bareSa)) }
           tim := s.tim, lan := s.lan }
  | 6 => { srv := { s.srv with tp := [] }, sns := s.sns }
  | 7 => { rng := s.rng }
  | 8 => { dev := s.dev, free := s.free, ch := s.ch, srv := { tp := s.srv.tp }, ext := s.ext, str := { tx := s.str.tx, logDue := s.str.logDue } }
  | 9 => { wall := s.wall
           nk := { faults := s.nk.faults, degAcc := s.nk.degAcc, degOn := s.nk.degOn, cleanAt := s.nk.cleanAt
                   publish := s.nk.publish, fillMax := s.nk.fillMax, cap := s.nk.cap } }
  | _ => {}

end Sys2Proof.Machine

namespace Sys2Proof.Config

/-- Bit `i` of snapshot chain `n`, of what that chain shows: the chains' layout is in no file of the specification (R528, log entry 8). -/
opaque chainBit : Nat → Sys2Proof.Machine.State → Nat → Bool

end Sys2Proof.Config

namespace Sys2Proof.Machine

/-- What a chain captures. -/
def chainBits (n : Nat) (s : State) : List Bool := (List.range (Config.chainLen n)).map (Config.chainBit n (chainState n s))

/-! ### Registers of the test port (R527) -/

/-- Whether the segment of chain `n` is in the path: its bit is set, and DEVICE_STATE.DEBUG is 2 or more. -/
def segOpen (s : State) (n : Nat) : Bool := s.tap.sibs.testBit n && decide (2 ≤ s.desk.debug)

/-- The instrument path at capture: per chain its bits, where its segment is open, and its segment-insertion bit.
Log entry 8 (DESIGN CHOICE). -/
def netCapture (s : State) : List Bool :=
  (List.range 10).flatMap (fun n => (if segOpen s n then chainBits n s else []) ++ [s.tap.sibs.testBit n])

/-- Where chain `n`'s segment-insertion bit stands in the path. -/
def sibPos (s : State) (n : Nat) : Nat :=
  n + sumN ((List.range (n + 1)).map (fun m => if segOpen s m then Config.chainLen m else 0))

/-- The segment-insertion bits that a path's contents give. -/
def netUpdate (s : State) : Nat := bitsOf ((List.range 10).filter (fun n => s.tap.dr.getD (sibPos s n) false))

/-- A boundary cell's capture: its ball's level as the device drives it; free where that is an input or high impedance.
Log entry 8 (DESIGN CHOICE). -/
def boundaryCapture : List Nat → State → List Bool × State
  | [], s => ([], s)
  | i :: l, s =>
    let v := match ballLevel s (Config.boundaryBall i) with
      | some x => (x, s)
      | none => let f := freeVal 2 s; (f.1 == 1, f.2)
    let r := boundaryCapture l v.2
    (v.1 :: r.1, r.2)

/-- Bits of a number, the least significant first. -/
def lowBits (k n : Nat) : List Bool := (List.range k).map n.testBit

/-- Capture-DR, by the instruction in force. -/
def drCapture (s : State) : List Bool × State :=
  match s.tap.instr with
  | .bypass => ([false], s)
  | .idcode => (lowBits 32 Config.idcode, s)
  | .sample | .extest => boundaryCapture (List.range Config.boundaryCells) s
  | .network => (netCapture s, s)

/-- Update-DR: the boundary cells' latches, or the segment-insertion bits. -/
def drUpdate (s : State) : State :=
  match s.tap.instr with
  | .sample | .extest => { s with tap.upd := s.tap.dr }
  | .network => { s with tap.sibs := netUpdate s }
  | _ => s

/-- The instruction of an instruction register's contents: all ones is BYPASS, and so is a code that stands for none. -/
def tapInstr (ir : List Bool) : TapInstr :=
  if ir.all id then .bypass
  else match Config.tapCode (bitsOf ((List.range ir.length).filter (fun i => ir.getD i false))) with
    | 0 => .extest
    | 1 => .sample
    | 2 => .idcode
    | 3 => .network
    | _ => .bypass

/-- Capture-IR: the two bits nearest TDO are 1 and 0, the rest is free. Log entry 117 (PRESUMED). -/
def irCapture (s : State) : List Bool × State :=
  let f := freeVal (2 ^ Config.irBits) s
  (true :: false :: lowBits Config.irBits f.1, f.2)

/-! ### The controller (R527) -/

/-- The TAP controller's next state. Log entry 117 (PRESUMED). -/
def tapNext : TapSt → Bool → TapSt
  | .reset, m => if m then .reset else .idle
  | .idle, m => if m then .selDr else .idle
  | .selDr, m => if m then .selIr else .capDr
  | .capDr, m => if m then .ex1Dr else .shDr
  | .shDr, m => if m then .ex1Dr else .shDr
  | .ex1Dr, m => if m then .updDr else .pauDr
  | .pauDr, m => if m then .ex2Dr else .pauDr
  | .ex2Dr, m => if m then .updDr else .shDr
  | .updDr, m => if m then .selDr else .idle
  | .selIr, m => if m then .reset else .capIr
  | .capIr, m => if m then .ex1Ir else .shIr
  | .shIr, m => if m then .ex1Ir else .shIr
  | .ex1Ir, m => if m then .updIr else .pauIr
  | .pauIr, m => if m then .ex2Ir else .pauIr
  | .ex2Ir, m => if m then .updIr else .shIr
  | .updIr, m => if m then .selDr else .idle

/-- The controller's reset: IDCODE is in force, every segment is out of the path. -/
def tapReset (s : State) : State := { s with tap := { upd := s.tap.upd } }

/-- What the rising edge of TCK does in the controller's state: a register is captured, or shifted by one. -/
def tapRise (tdi : Bool) (s : State) : State :=
  match s.tap.st with
  | .capDr => let r := drCapture s; { r.2 with tap.dr := r.1 }
  | .capIr => let r := irCapture s; { r.2 with tap.ir := r.1 }
  | .shDr => { s with tap.dr := s.tap.dr.tail ++ [tdi] }
  | .shIr => { s with tap.ir := s.tap.ir.tail ++ [tdi] }
  | _ => s

/-- What the falling edge does in the state reached: an update, or TDO's next bit. -/
def tapFall (s : State) : State :=
  let s := { s with tap.tdo := match s.tap.st with | .shDr => s.tap.dr.head? | .shIr => s.tap.ir.head? | _ => none }
  match s.tap.st with
  | .updDr => drUpdate s
  | .updIr => { s with tap.instr := tapInstr s.tap.ir }
  | .reset => tapReset s
  | _ => s

/-- A cycle of TCK, or TRST_N low (R527): it works in every device state and alters nothing outside the test port.
Log entry 117 (PRESUMED). -/
def testAccess (tms tdi trstLow : Bool) (s : State) : State :=
  if trstLow then tapReset s
  else let u := tapRise tdi s; tapFall { u with tap.st := tapNext s.tap.st tms }

/-- A ball's level with the test port: EXTEST drives the balls of the boundary cells that are not observe-only (R527). -/
def ballOut (s : State) (b : Nat) : Option Bool :=
  if s.tap.instr = .extest ∧ observeOnly b = false then
    match (List.range Config.boundaryCells).find? (fun i => Config.boundaryBall i == b) with
    | some i => some (s.tap.upd.getD i false)
    | none => ballLevel s b
  else ballLevel s b

end Sys2Proof.Machine
end

