-- ==== Sys2Proof/Machine/FrontDesk.lean ====
section
/-! DEFINITION. Machine/FrontDesk.lean: the device commands (R457, R462 to R464, R468, R469), attention (R442, R445), and writes to
front-desk and fabric registers (R431 to R433, R439 to R447, R473, R490). -/

namespace Sys2Proof.Machine

/-! ### Running, stopping, events, reset, identity -/

/-- Whether Nerrak withholds a run command (R462): no confirmed set, a latched O fault, an active D fault. -/
def runWithheld (s : State) : Bool := s.nk.conf.isNone || oFaults s != 0 || dFaults s != 0

/-- DEV_RUN (R38, R181, R462, R556): it reports the first frame to run. Refused while the factory sequence runs, which keeps the device in
READY throughout (R314). Log entry 61 (DEDUCED). -/
def devRunBody (_op : Nat) (_r : Req) (s : State) : CmdOut :=
  if s.desk.st ≠ 2 ∨ itinReady s = false ∨ s.cal.factory.isSome = true then .done rNotPermitted [] s
  else if runWithheld s then .done rSafetyLocked [] s
  else .done rOK (le 4 s.sch.frameNo.val.toNat) (startEmission (setSt 4 1 s))

/-- DEV_STOP (R38, R462, R556). -/
def devStopBody (_op : Nat) (_r : Req) (s : State) : CmdOut :=
  if s.desk.st ≠ 4 ∧ s.desk.st ≠ 5 then .done rNotPermitted [] s
  else if s.sch.running then
    .done rOK (le 4 s.sch.frameNo.val.toNat) { s with desk.pendStop := true, desk.pendRun := false }
  else .done rOK (le 4 0xFFFFFFFF) (stNow 2 1 s)

/-- EVENT_READ (R456, R457): drops wait for free space, so EVENT_LOST follows the removal. Log entry 80 (DEDUCED). -/
def eventReadBody (_op : Nat) (r : Req) (s : State) : CmdOut :=
  let n := fld r.payload 0 1
  let ans := fun (out rest : List Ev) =>
    le 1 out.length ++ le 1 0 ++ le 2 rest.length ++ le 4 s.desk.eventCount.val.toNat ++ out.flatMap evBytes
  if 5 < n ∨ allZero (r.payload.drop 1) = false then .done rBadParam (ans [] s.desk.events) s
  else
    let out := s.desk.events.take n
    let rest := s.desk.events.drop n
    .done rOK (ans out rest)
      (pushLost { s with desk.events := rest })

/-- DEV_RESET (R463): the reset follows 1 ms after DONE. Log entry 80 (DEDUCED). -/
def devResetBody (_op : Nat) (r : Req) (s : State) : CmdOut :=
  if fld r.payload 0 4 ≠ s.nv.serial % 2 ^ 32 then .done rBadParam [] s
  else .done rOK [] { s with desk.cmdReset := some (s.desk.cmdReset.getD (s.dev + tMs)) }

/-- DEV_IDENTITY (R464). Log entry 85 (DESIGN CHOICE). -/
def devIdentityBody (_op : Nat) (_r : Req) (s : State) : CmdOut :=
  .done rOK (le 8 s.nv.serial ++ identityKey) s

/-! ### Firmware update (R465, R468) -/

/-- Bytes of an image slot (R465). -/
def slotSize : Nat := 24 * miB

/-- Whether the flash is taken: by an erase, or by a transfer into the slot not running (R468, R504). -/
def flashBusy (s : State) : Bool := s.desk.erase.isSome || (match s.dma.xfer with | some x => x.target == 2 | none => false)

/-- A request that must wait for the flash; requests on other mailboxes go on (R448). Log entry 79 (DEDUCED). -/
def flashWait (r : Req) (s : State) : CmdOut := .pending { s with desk.fwWait := s.desk.fwWait ++ [r.mb] }

/-- FW_WRITE (R294, R468). Log entries 68 (DEDUCED), 79 (DEDUCED). -/
def fwWriteBody (_op : Nat) (r : Req) (s : State) : CmdOut :=
  let o := fld r.payload 0 4
  let n := fld r.payload 4 2
  if slotSize < o + n ∨ n = 0 ∨ 240 < n ∨ fld r.payload 6 2 ≠ 0 then .done rBadParam [] s
  else if flashBusy s then flashWait r s
  else if s.nk.wrHeld then .done rSafetyLocked [] s
  else .done rOK [] (slotPut o (r.payload.drop 8) s)

/-- The response of FW_UPDATE: slot, reason, version. Log entry 79 (DEDUCED). -/
def fwAnswer (s : State) (slot reason : Nat) : List Byte := le 1 slot ++ le 1 reason ++ zeros 2 ++ le 4 (slotVersion s slot)

/-- Action 2: the slot not running is verified and made active for a trial. -/
def fwVerify (s : State) : CmdOut :=
  let o := 1 - s.desk.slot
  if imageStep s o ≠ 0 then .done rCheckMismatch (fwAnswer s o (imageStep s o)) s
  else .done rOK (fwAnswer s o 0) (dirWrite o 1 0 s)

/-- Action 3: FW_CONFIRMED (R471). Log entry 79 (DEDUCED). -/
def fwConfirm (s : State) : CmdOut :=
  let k := s.desk.slot
  let ans := fwAnswer s k 0
  let d := bootDir s
  let s := dirWrite d.active 0 d.boots { s with desk.trial := false, nv.rollback := max s.nv.rollback (slotRollback s k) }
  .done rOK ans (logEv 0x0006 (le 1 k ++ le 4 (slotVersion s k)) s)

/-- Action 4: the running image is the active one again, a trial under way as it was. Log entry 79 (DEDUCED). -/
def fwCancel (s : State) : CmdOut :=
  .done rOK (fwAnswer s (bootDir s).active 0) (dirWrite s.desk.slot (b2n s.desk.trial) (b2n s.desk.trial) s)

/-- FW_UPDATE (R294, R467, R468): an erase is pending until FW_ERASE_DONE. Log entry 79 (DEDUCED). -/
def fwUpdateBody (_op : Nat) (r : Req) (s : State) : CmdOut :=
  let a := fld r.payload 0 1
  let d := bootDir s
  if (s.desk.recovery = true ∧ (a = 3 ∨ a = 4)) ∨ (a = 3 ∧ (s.desk.trial = false ∨ s.desk.st < 2))
      ∨ (a = 4 ∧ ¬ (d.trial = 1 ∧ d.boots = 0 ∧ d.active ≠ s.desk.slot)) then .done rNotPermitted [] s
  else if a = 0 ∨ 4 < a ∨ allZero (r.payload.drop 1) = false then refuse rBadParam [.below 1 2, .free 1, .zero 2, .free 4] s
  else if flashBusy s then flashWait r s
  else if s.nk.wrHeld then .done rSafetyLocked [] s
  else if a = 1 then .pending { s with desk.erase := some r.mb }
  else if a = 2 then fwVerify s
  else if a = 3 then fwConfirm s
  else fwCancel s

/-- The requests that wait for the flash run, oldest first, until one takes it (R448, R468); each is still in its mailbox's buffer. -/
def flashNext : List Nat → State → State
  | [], s => { s with desk.fwWait := [] }
  | k :: w, s =>
    if flashBusy s then { s with desk.fwWait := k :: w }
    else
      let n := cgetLE 0 (mb s k).buf 2 2
      let op := cgetLE 0 (mb s k).buf 0 2
      let r : Req := { mb := k, tag := cgetLE 0 (mb s k).buf 4 4, payload := cgets 0 (mb s k).buf 8 n }
      match (if op = 0x0013 then fwWriteBody op r s else fwUpdateBody op r s) with
      | .done result payload u => flashNext w (mbDone k op result r.tag payload u)
      | .pending u => flashNext w u

/-- FW_ERASE_DONE: the slot not running reads 0xFF; an erase that Nerrak blocks meanwhile fails (R294). -/
def fwEraseDone (s : State) : State :=
  match s.desk.erase with
  | none => s
  | some k =>
    let tag := cgetLE 0 (mb s k).buf 4 4
    let s := { s with desk.erase := none }
    let s :=
      if s.nk.wrHeld then mbDone k 0x0014 rSafetyLocked tag [] s
      else
        let o := 1 - s.desk.slot
        let s := if o = 0 then { s with nv.slotA := [] } else { s with nv.slotB := [] }
        mbDone k 0x0014 rOK tag (fwAnswer s o 0) s
    flashNext s.desk.fwWait s

/-- DMA_XFER_DONE: a transfer into the slot ends, and the flash is free for the requests that wait. -/
def xferDone (s : State) : State :=
  let s := dmaXferDone s
  flashNext s.desk.fwWait s

/-! ### Debug authentication (R469) -/

/-- DEBUG_CHALLENGE: the nonce is free. Log entry 81 (DEDUCED). -/
def debugChallengeBody (_op : Nat) (r : Req) (s : State) : CmdOut :=
  let l := fld r.payload 0 1
  if l = 0 ∨ 3 < l ∨ allZero (r.payload.drop 1) = false then refuse rBadParam [.lit (le 1 l ++ zeros 3 ++ le 8 s.nv.serial), .free 16] s
  else if 3 ≤ s.desk.debugFails then .done rSafetyLocked [] (logEv 0x0007 (le 1 l ++ le 1 2) s)
  else
    let f := freeBytes 16 s
    .done rOK (le 1 l ++ zeros 3 ++ le 8 s.nv.serial ++ f.1)
      { f.2 with desk.challenge := some { nonce := f.1, level := l, at_ := s.dev } }

/-- The level a DEBUG_RESPONSE speaks of: its challenge's, free without one. Log entry 81 (DEDUCED). -/
def challengeLevel (s : State) : Nat × State :=
  match s.desk.challenge with
  | some c => (c.level, s)
  | none => freeVal 256 s

/-- Whether a response grants its challenge's level (R469): within 60 s, and authentic. -/
def debugGranted (p : List Byte) (s : State) : Bool :=
  match s.desk.challenge with
  | some c => decide (s.dev ≤ c.at_ + 60 * tSec) && debugAuthentic s c p
  | none => false

/-- DEBUG_RESPONSE (R469). Log entry 81 (DEDUCED). -/
def debugResponseBody (_op : Nat) (r : Req) (s : State) : CmdOut :=
  if 1 < fld r.payload 0 1 ∨ allZero ((r.payload.drop 1).take 3) = false then .done rBadParam [] s
  else
    let l := challengeLevel s
    if 3 ≤ s.desk.debugFails then .done rSafetyLocked [] (logEv 0x0007 (le 1 l.1 ++ le 1 2) l.2)
    else
      let granted := debugGranted r.payload s
      let s := { l.2 with desk.challenge := none }
      if granted then
        let d := max s.desk.debug l.1
        .done rOK [] (logEv 0x0007 (le 1 l.1 ++ le 1 0) { s with desk.debug := d, desk.lab := decide (3 ≤ d) })
      else .done rCheckMismatch [] (logEv 0x0007 (le 1 l.1 ++ le 1 1) { s with desk.debugFails := s.desk.debugFails + 1 })

/-! ### Attention (R5, R6, R442, R445) -/

/-- Whether the SPI target takes writes (R433). -/
def spiOpen (s : State) : Bool := decide (s.desk.st ≠ 0) && decide (s.desk.st ≠ 7)

/-- A W1C write to ATTENTION; EVENT sets again while the queue holds an entry (R442), and a bit that hardware sets in the cycle of the write
stays (R6, R445). Log entry 11 (DESIGN CHOICE). -/
def attentionClear (v : Word) (s : State) : State :=
  let was := attnA s
  let n := cycleNow s
  let same := if s.desk.setAt = some n then s.desk.attention &&& s.desk.setBits else 0
  let kept := s.desk.attention &&& ~~~ (v &&& 0x3FFF#32) ||| same
  let att := if v.getLsbD 8 && !s.desk.events.isEmpty then kept ||| (s.desk.attention &&& 0x100#32) else kept
  let gone := s.desk.attention &&& ~~~ att
  attnUpdate was false { s with
    desk.attention := att
    desk.clr := some (match s.desk.clr with
      | some c => if c.cyc = n then { c with bits := c.bits ||| gone }
          else { cyc := n, bits := gone, pin := s.pins.attnN, timer := s.desk.attnTimer }
      | none => { cyc := n, bits := gone, pin := s.pins.attnN, timer := s.desk.attnTimer }) }

/-- A write to ATTN_ENABLE: enabling a set bit counts as a set. -/
def attnEnableWrite (v : Word) (s : State) : State :=
  let was := attnA s
  let old := s.desk.attnEnable
  let new := v &&& 0x3FFF#32
  attnUpdate was (new.getLsbD 11 && !old.getLsbD 11 && s.desk.attention.getLsbD 11) { s with desk.attnEnable := new }

/-- The moderation timer expires (R445). -/
def attnExpiry (s : State) : State :=
  match s.desk.attnTimer with
  | some e => if s.dev < e then s else { s with desk.attnTimer := none, pins.attnN := decide (attnA s ≠ 0) }
  | none => s

/-! ### Mailbox registers (R446, R447) -/

/-- A doorbell of an IDLE or DONE mailbox with the request's bytes (none when the buffer holds them already): a defined opcode waits
for its start, a reserved one for its answer, in doorbell order (R447, R448, R453).
Log entries 18 (DESIGN CHOICE), 19 (DESIGN CHOICE). -/
def submit (k : Nat) (bytes : List Byte) (o : Option InBand) (s : State) : State := answerReserved 8 (mbRing k bytes o s)

/-- MB_DOORBELL.RING over SPI. -/
def doorbell (k : Nat) (s : State) : State :=
  if deskAnswers k s = false then s
  else if (mb s k).st = 1 then mbOverrun k false s
  else submit k [] none s

/-- MAILBOX_OVERRUN: a doorbell that finds the mailbox BUSY. -/
def overrun (k : Nat) (s : State) : State :=
  if deskAnswers k s && decide (k < 8) && (mb s k).st == 1 then mbOverrun k false s else s

/-- A write into a mailbox buffer. -/
def bufWrite (k o : Nat) (v : Word) (s : State) : State :=
  let m := mb s k
  if m.st = 1 then setMb s k { m with writeIgnored := true } else setMb s k { m with buf := cputs 0 m.buf o (le 4 v.toNat) }

/-- A W1C write to MB_STATUS. -/
def mbStatusWrite (k : Nat) (v : Word) (s : State) : State :=
  let m := mb s k
  setMb s k { m with overrun := m.overrun && !v.getLsbD 8, writeIgnored := m.writeIgnored && !v.getLsbD 10 }

/-- A write to a front-desk register; the others are read-only or reserved. Log entry 92 (DEDUCED). -/
def deskWrite (a : Nat) (v : Word) (s : State) : State :=
  if a = 0x024 then attentionClear v s
  else if a = 0x028 then attnEnableWrite v s
  else if a = 0x02C then { s with desk.attnDelay := min 10000 (v.toNat % 16384) }
  else if 0x100 ≤ a ∧ a < 0x200 then
    (if a % 32 = 0 ∧ v.getLsbD 0 = true then doorbell (a / 32 % 8) s
     else if a % 32 = 4 then mbStatusWrite (a / 32 % 8) v s else s)
  else if 0x800 ≤ a ∧ a < 0x1000 then bufWrite (a / 256 % 8) (a % 256) v s
  else s

/-! ### DMA registers (R490) -/

/-- The bytes at the front of a queue that a burst has reserved; the rest is flushed. Log entry 82 (DEDUCED). -/
def keepFront : Nat → List (List Byte) → List (List Byte)
  | _, [] => []
  | k, r :: q => if k = 0 then [] else if k < r.length then [r.take k] else r :: keepFront (k - r.length) q

/-- The whole records that stay of a queue cut to `q`: one cut short keeps no bytes. Log entry 82 (DEDUCED). -/
def keepRecs (x : DmaS) (q : List (List Byte)) : List (Nat × List Byte) :=
  (q.zip (x.queue.zip x.recs)).map (fun p => if p.1 = p.2.1 then p.2.2 else (p.2.2.1, []))

/-- The direction of a stream channel that is enabled (R481): fixed for 0 to 9 and 14 to 17; which way 10 to 13 and 18 to 31 run is set by
firmware in a way no rule gives, and open. Log entry 140 (DESIGN CHOICE). -/
def streamDirection (n : Nat) (s : State) : Bool × State :=
  if n ≤ 9 ∨ n = 14 ∨ n = 15 then (false, s)
  else if n = 16 ∨ n = 17 then (true, s)
  else let v := freeVal 2 s; (v.1 == 1, v.2)

/-- A write to CTRL of a stream channel: ENABLE 0 flushes the queue and returns HEAD to 0; the descriptor in service ends with the burst
that runs (R487, R490). Log entry 82 (DEDUCED). -/
def streamCtrl (n : Nat) (v : Word) (s : State) : State :=
  let on := v.getLsbD 31
  let d := if on && !(dmaS s n).enable then streamDirection n s else ((dmaS s n).fromMem, s)
  let s := d.2
  let x := { dmaS s n with fromMem := d.1 }
  let e := dmaE s (n % 4)
  let q := if on then x.queue else if e.chan = some n then keepFront e.burst x.queue else []
  let x := { x with
    enable := on, size := bits v.toNat 27 24, stopWm := bits v.toNat 23 16, startWm := bits v.toNat 7 0
    head := if on then x.head else 0, sink := if on then x.sink else 0
    queue := q, recs := keepRecs x q }
  let x := if on then x.pace else { x with request := false }
  let s := if !on && decide (e.chan = some n) then setDmaE s (n % 4) { e with flushed := true } else s
  dmaPick 64 (n % 4) (dmaUnshed n (setDmaS s n x))

/-- A write to a stream channel's block. Log entry 82 (DEDUCED). -/
def streamRegWrite (n o : Nat) (v : Word) (s : State) : State :=
  let x := dmaS s n
  if o = 0 ∧ x.enable = false then setDmaS s n { x with ring := x.ring / 2 ^ 32 * 2 ^ 32 + v.toNat / 32 * 32 }
  else if o = 4 ∧ x.enable = false then setDmaS s n { x with ring := v.toNat * 2 ^ 32 + x.ring % 2 ^ 32 }
  else if o = 8 then streamCtrl n v s
  else if o = 12 ∧ v.getLsbD 0 = true then haltedClear true n s
  else s

/-- A write to a control channel's block. -/
def ctlRegWrite (n o : Nat) (v : Word) (s : State) : State :=
  let x := dmaC s n
  if o = 0 then setDmaC s n { x with first := x.first / 2 ^ 32 * 2 ^ 32 + v.toNat }
  else if o = 4 then setDmaC s n { x with first := v.toNat * 2 ^ 32 + x.first % 2 ^ 32 }
  else if o = 8 ∧ v.getLsbD 0 = true then dmaGo n s
  else if o = 12 ∧ v.getLsbD 0 = true then haltedClear false n s
  else s

/-- A write to a fabric register: the interrupt controller at 0x0200_0000, the DMA channels from 0x0201_0000 on. Log entry 66 (DEDUCED). -/
def fabricWrite (a : Nat) (v : Word) (s : State) : State :=
  if 0x02000000 ≤ a ∧ a < 0x02010000 then icWrite (a - 0x02000000) v.toNat s
  else if 0x02010000 ≤ a ∧ a < 0x02010400 then streamRegWrite (a / 32 % 32) (a % 32) v s
  else if 0x02010400 ≤ a ∧ a < 0x02010500 then ctlRegWrite (a / 32 % 8) (a % 32) v s
  else s

/-- A register write: in FROZEN only FREEZE_CTL takes it, in RESET nothing does (R433). Log entry 92 (DEDUCED). -/
def registerWrite (addr : Nat) (v : Word) (s : State) : State :=
  let a := addr / 4 * 4
  if s.desk.st = 0 then s
  else if a = 0x030 then freezeCtl v s
  else if s.desk.st = 7 then s
  else if a < 0x1000 then deskWrite a v s
  else fabricWrite a v s

/-! ### The SPI target (R431 to R433) -/

/-- A command word of the SPI target (R431). -/
structure SpiCmd where
  read  : Bool
  words : Nat
  addr  : Nat
  deriving DecidableEq, Repr

/-- Bits as they travel, the first one the most significant. -/
def msbNat (l : List Bool) : Nat := l.foldl (fun n b => 2 * n + b2n b) 0

/-- The command word a transaction begins with; none when it is cut short or its reserved field is not 0, which ignores it whole. -/
def spiCmd (bits : List Bool) : Option SpiCmd :=
  if bits.length < 32 ∨ msbNat ((bits.drop 8).take 12) ≠ 0 then none
  else some { read := bits.headD false, words := msbNat ((bits.drop 1).take 7) + 1, addr := msbNat ((bits.drop 20).take 12) / 4 * 4 }

/-- A data word from the wire (R432): byte 0 first, each byte MSB first. -/
def wireWord (l : List Bool) : Nat :=
  msbNat (l.take 8) + 256 * msbNat ((l.drop 8).take 8) + 65536 * msbNat ((l.drop 16).take 8) + 16777216 * msbNat ((l.drop 24).take 8)

/-- A data word on the wire (R432). -/
def wordWire (n : Nat) : List Bool :=
  (List.range 4).flatMap (fun b => (List.range 8).map (fun i => n.testBit (8 * b + 7 - i)))

/-- A word of the front desk over SPI; beyond 0xFFC it reads 0 and takes nothing (R432). -/
def spiReadWord (s : State) (a : Nat) : Nat := if 0xFFC < a then 0 else deskRead s a
def spiWriteWord (a : Nat) (v : Word) (s : State) : State := if 0xFFC < a then s else registerWrite a v s

/-- The complete data words of a write, at most those the command word asks for; a word cut short is discarded (R432). -/
def spiWrite (c : SpiCmd) (data : List Bool) (s : State) : State :=
  (List.range (min c.words (data.length / 32))).foldl
    (fun s i => spiWriteWord (c.addr + 4 * i) (BitVec.ofNat 32 (wireWord ((data.drop (32 * i)).take 32))) s) s

/-- What a read puts on HSPI_MISO after its command word, as far as it is clocked: one dummy word, whose value is free, then the data
words (R432). -/
def spiRead (c : SpiCmd) (clocks : Nat) (s : State) : State :=
  let f := freeVal (2 ^ 32) s
  let out := wordWire f.1 ++ (List.range c.words).flatMap (fun i => wordWire (spiReadWord s (c.addr + 4 * i)))
  { f.2 with desk.miso := some (out.take clocks) }

/-- A transaction at the SPI target, from the falling edge of HSPI_CS_N to its rising edge (R431 to R433). Log entry 92 (DEDUCED). -/
def spiAccess (bits : List Bool) (s : State) : State :=
  if s.desk.st = 0 then { s with desk.miso := none }
  else match spiCmd bits with
    | none => { s with desk.miso := some [] }
    | some c => if c.read then spiRead c (bits.length - 32) s else spiWrite c (bits.drop 32) { s with desk.miso := some [] }

/-- REGISTER_WRITE: an access at one of the host's ports. -/
def hostAccess (a : Access) (v : Word) (s : State) : State :=
  match a with
  | .spi bits => spiAccess bits s
  | .fabric addr => registerWrite addr v s
  | .test tms tdi trstLow => testAccess tms tdi trstLow s

/-! ### Rows -/

def execDevRun (t : Nat) (r : Req) (s : State) : Host.Outcome State Fault Refusal :=
  .next (command { op := 0x0010 } (lenEq 0) devRunBody t r s)
def execDevStop (t : Nat) (r : Req) (s : State) : Host.Outcome State Fault Refusal :=
  .next (command { op := 0x0011 } (lenEq 0) devStopBody t r s)
def execEventRead (t : Nat) (r : Req) (s : State) : Host.Outcome State Fault Refusal :=
  .next (command { op := 0x0012, recovery := true } (lenEq 4) eventReadBody t r s)
def execFwWrite (t : Nat) (r : Req) (s : State) : Host.Outcome State Fault Refusal :=
  .next (command { op := 0x0013, recovery := true } (fun p => decide (8 ≤ p.length) && p.length == 8 + fld p 4 2) fwWriteBody t r s)
def execFwUpdate (t : Nat) (box : Nat × Nat) (payload : List Byte) (s : State) : Host.Outcome State Fault Refusal :=
  .next (command { op := 0x0014, recovery := true } (lenEq 4) fwUpdateBody t ⟨box.1, box.2, payload⟩ s)
def execDevReset (t : Nat) (r : Req) (s : State) : Host.Outcome State Fault Refusal :=
  .next (command { op := 0x0015, recovery := true } (lenEq 4) devResetBody t r s)
def execDebugChallenge (t : Nat) (r : Req) (s : State) : Host.Outcome State Fault Refusal :=
  .next (command { op := 0x0016, mbLo := 5, mbHi := 5 } (lenEq 4) debugChallengeBody t r s)
def execDebugResponse (t : Nat) (box : Nat × Nat) (payload : List Byte) (s : State) : Host.Outcome State Fault Refusal :=
  .next (command { op := 0x0017, mbLo := 5, mbHi := 5 } (lenEq 132) debugResponseBody t ⟨box.1, box.2, payload⟩ s)
def execDevIdentity (t : Nat) (r : Req) (s : State) : Host.Outcome State Fault Refusal :=
  .next (command { op := 0x0018 } (lenEq 0) devIdentityBody t r s)
def execFwEraseDone (t : Nat) (s : State) : Host.Outcome State Fault Refusal := .next (live t fwEraseDone s)
def execDmaXferDone (t : Nat) (s : State) : Host.Outcome State Fault Refusal := .next (live t xferDone s)
def execMailboxOverrun (t k : Nat) (s : State) : Host.Outcome State Fault Refusal := .next (live t (overrun k) s)
def execRegisterWrite (t : Nat) (a : Access) (value : Word) (s : State) : Host.Outcome State Fault Refusal :=
  .next (hostAccess a value (advance t s))
def execAttentionClear (t : Nat) (v : Word) (s : State) : Host.Outcome State Fault Refusal := .next (live t (attentionClear v) s)
def execAttnEnableWrite (t : Nat) (v : Word) (s : State) : Host.Outcome State Fault Refusal := .next (live t (attnEnableWrite v) s)
def execAttnModerationExpiry (t : Nat) (s : State) : Host.Outcome State Fault Refusal := .next (live t attnExpiry s)

end Sys2Proof.Machine
end

