-- ==== Sys2Proof/Machine/Mgmt.lean ====
section
/-! DEFINITION. Machine/Mgmt.lean: in-band management frames (R434 to R438) and window frames (R496, R497). -/

namespace Sys2Proof.Machine

/-! ### Replies (R434, R435) -/

/-- A frame the device accepts raises source 9 + n of its host lane (R472). -/
def frameSeen (f : Frame) (s : State) : State := irq (9 + f.lane) s

/-- Hands a reply to the MAC: to the request's source, on its link, with its tag and protection. -/
def reply (f : Frame) (body : List Byte) (s : State) : State :=
  { s with desk.replies := tput none s.desk.replies f.lane (some
      { lane := f.lane, dst := f.src, etherType := f.etherType, tci := f.tci, secured := f.secured.isSome, body := body }) }

/-- Header of a management reply. -/
def mgmtHdr (kind k reason trans : Nat) : List Byte := le 1 1 ++ le 1 kind ++ le 1 k ++ le 1 reason ++ le 4 trans

/-- Kind 6: refused. Log entry 83 (DEDUCED). -/
def mgmtRefuse (f : Frame) (k reason : Nat) (s : State) : State :=
  reply f (mgmtHdr 6 (if k ≤ 7 then k else 0) reason (fld f.payload 4 4)) s

/-- Version and kind of a frame's payload. -/
def mVersion (f : Frame) : Nat := fld f.payload 0 1
def mKind (f : Frame) : Nat := fld f.payload 1 1

/-! ### Kind 1 (R436 to R438, R447) -/

/-- Whether a request is the one a mailbox remembers: same source MAC and transaction (R437). -/
def sameOrigin (f : Frame) (o : Option InBand) : Bool :=
  match o with
  | some x => x.src == f.src && x.trans == fld f.payload 4 4
  | none => false

/-- A mailbox request; one delivered twice is not run again. Log entry 83 (DEDUCED). -/
def mgmtSubmit (f : Frame) (s : State) : State :=
  let p := f.payload
  let k := fld p 2 1
  let len := fld p 10 2
  let m := mb s k
  if p.length < 16 ∨ 7 < k ∨ fld p 3 1 ≠ 0 ∨ p.length < 16 + len then mgmtRefuse f k 4 s
  else if k = 4 ∧ (par0 s pMacsecEnable).testBit 1 = false then mgmtRefuse f k 2 s
  else if m.st = 1 ∧ sameOrigin f m.origin = true then s
  else if sameOrigin f m.lastOrigin then reply f m.lastKind2 s
  else if m.st = 1 then mgmtRefuse f k 1 (mbOverrun k true s)
  else submit k ((p.drop 8).take (8 + len))
    (some { lane := f.lane, src := f.src, tci := f.tci, secured := f.secured.isSome, trans := fld p 4 4 }) s

/-- MGMT_REQUEST: kind 1; a payload of no known version or kind is malformed (R435). Log entry 83 (DEDUCED). -/
def mgmtRequest (f : Frame) (s : State) : State :=
  if mgmtOk f s = false ∨ mVersion f = 2 ∨ (mVersion f = 1 ∧ (mKind f = 3 ∨ mKind f = 4)) then s
  else
    let s := frameSeen f s
    if mVersion f = 1 ∧ mKind f = 1 then mgmtSubmit f s else mgmtRefuse f 0 4 s

/-! ### Kinds 3 and 4 (R435, R436) -/

/-- Whether a register frame's header and words are sound; `data` is the bytes that follow per word. Log entry 83 (DEDUCED). -/
def regFrameOk (f : Frame) (data : Nat) : Bool :=
  let p := f.payload
  let n := fld p 10 2
  decide (12 + data * n ≤ p.length) && decide (1 ≤ n) && decide (n ≤ 64) && decide (fld p 2 2 = 0)

/-- A register reply, kind 5. -/
def regReply (f : Frame) (words : Nat) (data : List Byte) (s : State) : State :=
  reply f (mgmtHdr 5 0 0 (fld f.payload 4 4) ++ le 2 (fld f.payload 8 2) ++ le 2 words ++ data) s

/-- MGMT_REGISTER_READ. -/
def mgmtRead (f : Frame) (s : State) : State :=
  if mgmtOk f s = false ∨ mVersion f ≠ 1 ∨ mKind f ≠ 3 then s
  else
    let s := frameSeen f s
    let a := fld f.payload 8 2
    let n := fld f.payload 10 2
    if regFrameOk f 0 = false then mgmtRefuse f 0 4 s
    else regReply f n ((List.range n).flatMap (fun i => le 4 (deskRead s (a + 4 * i)))) s

/-- MGMT_REGISTER_WRITE: mailboxes are not written in-band; a write that freezes the device is not answered. Log entry 83 (DEDUCED). -/
def mgmtWrite (f : Frame) (s : State) : State :=
  if mgmtOk f s = false ∨ mVersion f ≠ 1 ∨ mKind f ≠ 4 then s
  else
    let s := frameSeen f s
    let a := fld f.payload 8 2
    let n := fld f.payload 10 2
    if regFrameOk f 4 = false then mgmtRefuse f 0 4 s
    else if 0x100 < a + 4 * n then mgmtRefuse f 0 3 s
    else
      let s := (List.range n).foldl
        (fun s i => registerWrite (a + 4 * i) (BitVec.ofNat 32 (fld f.payload (12 + 4 * i) 4)) s) s
      if spiOpen s then regReply f 0 [] s else s

/-! ### Window frames (R496, R497) -/

/-- A window reply; offset and length are the request's. Log entry 84 (DEDUCED). -/
def winReply (f : Frame) (kind reason : Nat) (data : List Byte) (s : State) : State :=
  let p := f.payload
  reply f (le 1 2 ++ le 1 kind ++ le 2 (fld p 2 2) ++ le 4 (fld p 4 4) ++ le 4 (fld p 8 4) ++ le 1 reason ++ zeros 3 ++ data) s

/-- Whether a window frame is malformed (reason 3); its reserved bytes are not looked at (R4). Log entry 84 (DEDUCED). -/
def winMalformed (f : Frame) (write : Bool) : Bool :=
  let p := f.payload
  let n := fld p 2 2
  decide (n < 8) || decide (8192 < n) || decide (n % 8 ≠ 0) || decide (fld p 8 4 % 8 ≠ 0)
    || decide (p.length < 16 + (if write then n else 0))

/-- Whether a range of the exchange region is in use by a running DMA_XFER. -/
def xferOverlaps (s : State) (o n : Nat) : Bool :=
  match s.dma.xfer with
  | some x => decide (o < x.exch + x.len) && decide (x.exch < o + n)
  | none => false

/-- Why a window frame is refused, 0 when it is not (R488, R496, R497): reason 5 where it finds its queue above STOP_WM.
Log entries 66 (DEDUCED), 84 (DEDUCED). -/
def winReason (f : Frame) (write : Bool) (s : State) : Nat :=
  let n := fld f.payload 2 2
  let o := fld f.payload 8 4
  let c := winChan { frame := f, write := write }
  if (par0 s pWinEnable).testBit (f.lane / 4) = false then 1
  else if winMalformed f write then 3
  else if 16 * miB < o + n then 2
  else if xferOverlaps s o n then 4
  else if (dmaS s c).stopWm * 256 < chanFill s c then 5
  else 0

/-- A window access is made and answered (R497); uncorrectable blocks read free bytes. Log entry 84 (DEDUCED). -/
def winAct (w : WinReq) (s : State) : State :=
  let f := w.frame
  let a := memExch + fld f.payload 8 4
  let n := fld f.payload 2 2
  if w.write then winReply f 4 0 [] (memPut a ((f.payload.drop 16).take n) s)
  else if memBad s a n then let b := freeBytes n s; winReply f 3 0 b.1 b.2
  else winReply f 3 0 (memGet s a n) s

/-- The window frames in the queues act as their channels' engines serve no descriptor, those of one link in arrival order (R484, R497);
`kept` have had to wait. Log entry 66 (DEDUCED). -/
def winServe : List WinReq → List WinReq → State → State
  | [], kept, s => { s with dma.wins := kept }
  | w :: r, kept, s =>
    if kept.any (fun k => k.frame.lane == w.frame.lane) || !engineIdle s (winChan w) then winServe r (kept ++ [w]) s
    else winServe r kept (winAct w s)

/-- A window frame is refused, or enters its channel's queue (R481, R497). -/
def winFrame (w : WinReq) (r : Nat) (s : State) : State :=
  if r ≠ 0 then winReply w.frame 5 r [] s else winServe (s.dma.wins ++ [w]) [] s

/-- WINDOW_WRITE: kind 1, and every kind the host may not send. Log entry 66 (DEDUCED). -/
def windowWrite (f : Frame) (s : State) : State :=
  if mgmtOk f s = false ∨ mVersion f ≠ 2 ∨ mKind f = 2 then s
  else
    let s := frameSeen f s
    let r := if mKind f ≠ 1 ∧ (par0 s pWinEnable).testBit (f.lane / 4) = true then 3 else winReason f true s
    winFrame { frame := f, write := true } r s

/-- WINDOW_READ: kind 2. -/
def windowRead (f : Frame) (s : State) : State :=
  if mgmtOk f s = false ∨ mVersion f ≠ 2 ∨ mKind f ≠ 2 then s
  else
    let s := frameSeen f s
    winFrame { frame := f, write := false } (winReason f false s) s

/-- DMA_BURST_END (R487): an engine that is then idle serves the window frames that wait. -/
def burstRow (e corrected : Nat) (bad : Bool) (s : State) : State :=
  let s := burstEnd e corrected bad s
  winServe s.dma.wins [] s

def execDmaBurstEnd (t e corrected : Nat) (bad : Bool) (s : State) : Host.Outcome State Fault Refusal :=
  .next (live t (burstRow e corrected bad) s)
def execMgmtRequest (t : Nat) (f : Frame) (s : State) : Host.Outcome State Fault Refusal := .next (live t (mgmtRequest f) s)
def execMgmtRegisterRead (t : Nat) (f : Frame) (s : State) : Host.Outcome State Fault Refusal := .next (live t (mgmtRead f) s)
def execMgmtRegisterWrite (t : Nat) (f : Frame) (s : State) : Host.Outcome State Fault Refusal := .next (live t (mgmtWrite f) s)
def execWindowWrite (t : Nat) (f : Frame) (s : State) : Host.Outcome State Fault Refusal := .next (live t (windowWrite f) s)
def execWindowRead (t : Nat) (f : Frame) (s : State) : Host.Outcome State Fault Refusal := .next (live t (windowRead f) s)

end Sys2Proof.Machine
end

