-- ==== Sys2Proof/Machine/Dispatch.lean ====
section
/-! DEFINITION. Machine/Dispatch.lean: one arm per command of the opcode table. -/

namespace Sys2Proof.Machine

def exec (i : Instr) (s : State) : Host.Outcome State Fault Refusal :=
  match i with
  | .paramGet t r => Sys2Proof.Machine.execParamGet t r s
  | .paramSet t r => Sys2Proof.Machine.execParamSet t r s
  | .paramSeal t r => Sys2Proof.Machine.execParamSeal t r s
  | .paramList t r => Sys2Proof.Machine.execParamList t r s
  | .devRun t r => Sys2Proof.Machine.execDevRun t r s
  | .devStop t r => Sys2Proof.Machine.execDevStop t r s
  | .eventRead t r => Sys2Proof.Machine.execEventRead t r s
  | .fwWrite t r => Sys2Proof.Machine.execFwWrite t r s
  | .fwUpdate t box payload => Sys2Proof.Machine.execFwUpdate t box payload s
  | .devReset t r => Sys2Proof.Machine.execDevReset t r s
  | .debugChallenge t r => Sys2Proof.Machine.execDebugChallenge t r s
  | .debugResponse t box payload => Sys2Proof.Machine.execDebugResponse t box payload s
  | .devIdentity t r => Sys2Proof.Machine.execDevIdentity t r s
  | .chmapWrite t r => Sys2Proof.Machine.execChmapWrite t r s
  | .chmapRead t r => Sys2Proof.Machine.execChmapRead t r s
  | .chCountersRead t r => Sys2Proof.Machine.execChCountersRead t r s
  | .chEventCapture t r => Sys2Proof.Machine.execChEventCapture t r s
  | .captureDone t => Sys2Proof.Machine.execCaptureDone t s
  | .ambientRead t r => Sys2Proof.Machine.execAmbientRead t r s
  | .passportRead t r => Sys2Proof.Machine.execPassportRead t r s
  | .tallyCountersRead t r => Sys2Proof.Machine.execTallyCountersRead t r s
  | .stackStatusRead t r => Sys2Proof.Machine.execStackStatusRead t r s
  | .templateWrite t r => Sys2Proof.Machine.execTemplateWrite t r s
  | .extCountersRead t r => Sys2Proof.Machine.execExtCountersRead t r s
  | .itinWrite t r => Sys2Proof.Machine.execItinWrite t r s
  | .itinRead t r => Sys2Proof.Machine.execItinRead t r s
  | .itinValidate t r => Sys2Proof.Machine.execItinValidate t r s
  | .curveWrite t r => Sys2Proof.Machine.execCurveWrite t r s
  | .planRoiSet t r => Sys2Proof.Machine.execPlanRoiSet t r s
  | .emitCountersRead t r => Sys2Proof.Machine.execEmitCountersRead t r s
  | .servoLawWrite t r => Sys2Proof.Machine.execServoLawWrite t r s
  | .servoTableWrite t r => Sys2Proof.Machine.execServoTableWrite t r s
  | .servoStatusRead t r => Sys2Proof.Machine.execServoStatusRead t r s
  | .tpRead t r => Sys2Proof.Machine.execTpRead t r s
  | .senseRead t r => Sys2Proof.Machine.execSenseRead t r s
  | .senseFirWrite t r => Sys2Proof.Machine.execSenseFirWrite t r s
  | .senseLeadMeasure t r => Sys2Proof.Machine.execSenseLeadMeasure t r s
  | .senseStatusRead t r => Sys2Proof.Machine.execSenseStatusRead t r s
  | .streamConfig t r => Sys2Proof.Machine.execStreamConfig t r s
  | .rawRequest t r => Sys2Proof.Machine.execRawRequest t r s
  | .macsecKeySet t r => Sys2Proof.Machine.execMacsecKeySet t r s
  | .motionFeed t r => Sys2Proof.Machine.execMotionFeed t r s
  | .streamStatusRead t r => Sys2Proof.Machine.execStreamStatusRead t r s
  | .laneRetrain t r => Sys2Proof.Machine.execLaneRetrain t r s
  | .laneTest t r => Sys2Proof.Machine.execLaneTest t r s
  | .laneStatusRead t r => Sys2Proof.Machine.execLaneStatusRead t r s
  | .laneEyeScan t r => Sys2Proof.Machine.execLaneEyeScan t r s
  | .eyeScanDone t low high count => Sys2Proof.Machine.execEyeScanDone t low high count s
  | .trigSend t r => Sys2Proof.Machine.execTrigSend t r s
  | .twinRingStatusRead t r => Sys2Proof.Machine.execTwinRingStatusRead t r s
  | .healthRead t r => Sys2Proof.Machine.execHealthRead t r s
  | .healthSensorRetire t r => Sys2Proof.Machine.execHealthSensorRetire t r s
  | .nkCommission t r => Sys2Proof.Machine.execNkCommission t r s
  | .nkSetWrite t r => Sys2Proof.Machine.execNkSetWrite t r s
  | .nkConfirm t r => Sys2Proof.Machine.execNkConfirm t r s
  | .nkSetConfirmed t => Sys2Proof.Machine.execNkSetConfirmed t s
  | .nkStatusRead t r => Sys2Proof.Machine.execNkStatusRead t r s
  | .nkLedgerRead t r => Sys2Proof.Machine.execNkLedgerRead t r s
  | .nkFaultClear t r => Sys2Proof.Machine.execNkFaultClear t r s
  | .calFactoryRun t r => Sys2Proof.Machine.execCalFactoryRun t r s
  | .calFactoryDone t f => Sys2Proof.Machine.execCalFactoryDone t f s
  | .calTapReselect t r => Sys2Proof.Machine.execCalTapReselect t r s
  | .calReselectDone t scans => Sys2Proof.Machine.execCalReselectDone t scans s
  | .calOffsetMeasure t r => Sys2Proof.Machine.execCalOffsetMeasure t r s
  | .calTwinSkewMeasure t r => Sys2Proof.Machine.execCalTwinSkewMeasure t r s
  | .calMeasureDone t => Sys2Proof.Machine.execCalMeasureDone t s
  | .calStatusRead t r => Sys2Proof.Machine.execCalStatusRead t r s
  | .dmaXfer t r => Sys2Proof.Machine.execDmaXfer t r s
  | .dmaXferDone t => Sys2Proof.Machine.execDmaXferDone t s
  | .logControl t r => Sys2Proof.Machine.execLogControl t r s
  | .memStatusRead t r => Sys2Proof.Machine.execMemStatusRead t r s
  | .fwEraseDone t => Sys2Proof.Machine.execFwEraseDone t s
  | .mailboxOverrun t mb => Sys2Proof.Machine.execMailboxOverrun t mb s
  | .registerWrite t a value => Sys2Proof.Machine.execRegisterWrite t a value s
  | .attentionClear t value => Sys2Proof.Machine.execAttentionClear t value s
  | .attnEnableWrite t value => Sys2Proof.Machine.execAttnEnableWrite t value s
  | .attnModerationExpiry t => Sys2Proof.Machine.execAttnModerationExpiry t s
  | .freeze t value => Sys2Proof.Machine.execFreeze t value s
  | .thaw t value => Sys2Proof.Machine.execThaw t value s
  | .freezeN t widthNs => Sys2Proof.Machine.execFreezeN t widthNs s
  | .icTake t => Sys2Proof.Machine.execIcTake t s
  | .finish t src => Sys2Proof.Machine.execFinish t src s
  | .cntClr t src => Sys2Proof.Machine.execCntClr t src s
  | .icSoft t value => Sys2Proof.Machine.execIcSoft t value s
  | .moderationRelease t group => Sys2Proof.Machine.execModerationRelease t group s
  | .processorIdle t => Sys2Proof.Machine.execProcessorIdle t s
  | .dmaGo t chan => Sys2Proof.Machine.execDmaGo t chan s
  | .haltedClear t stream chan => Sys2Proof.Machine.execHaltedClear t stream chan s
  | .dmaRecord t chan bytes => Sys2Proof.Machine.execDmaRecord t chan bytes s
  | .dmaBurstEnd t engine corrected bad => Sys2Proof.Machine.execDmaBurstEnd t engine corrected bad s
  | .mgmtRequest t f => Sys2Proof.Machine.execMgmtRequest t f s
  | .mgmtRegisterRead t f => Sys2Proof.Machine.execMgmtRegisterRead t f s
  | .mgmtRegisterWrite t f => Sys2Proof.Machine.execMgmtRegisterWrite t f s
  | .windowWrite t f => Sys2Proof.Machine.execWindowWrite t f s
  | .windowRead t f => Sys2Proof.Machine.execWindowRead t f s
  | .receivedFrameDropped t f => Sys2Proof.Machine.execReceivedFrameDropped t f s
  | .gptpFrame t lane m => Sys2Proof.Machine.execGptpFrame t lane m s
  | .syncReceiptTimeout t => Sys2Proof.Machine.execSyncReceiptTimeout t s
  | .timeHoldoverExpiry t => Sys2Proof.Machine.execTimeHoldoverExpiry t s
  | .motionStale t => Sys2Proof.Machine.execMotionStale t s
  | .porstNAssert t => Sys2Proof.Machine.execPorstNAssert t s
  | .porstNRelease t => Sys2Proof.Machine.execPorstNRelease t s
  | .nkSelftest t failItem => Sys2Proof.Machine.execNkSelftest t failItem s
  | .resetNAssert p => Sys2Proof.Machine.execResetNAssert p s
  | .resetNRelease t claim32 claim1 claim0 => Sys2Proof.Machine.execResetNRelease t claim32 claim1 claim0 s
  | .commandReset t => Sys2Proof.Machine.execCommandReset t s
  | .bootComplete t b => Sys2Proof.Machine.execBootComplete t b s
  | .watchdog t trial => Sys2Proof.Machine.execWatchdog t trial s
  | .tempSample t readings => Sys2Proof.Machine.execTempSample t readings s
  | .throttleStepTimer t => Sys2Proof.Machine.execThrottleStepTimer t s
  | .voltageSample t mv => Sys2Proof.Machine.execVoltageSample t mv s
  | .healthVoltage t rail => Sys2Proof.Machine.execHealthVoltage t rail s
  | .voltageFault t rail => Sys2Proof.Machine.execVoltageFault t rail s
  | .ageingMeasure t counts => Sys2Proof.Machine.execAgeingMeasure t counts s
  | .healthScoreUpdate t => Sys2Proof.Machine.execHealthScoreUpdate t s
  | .lineStart t facet => Sys2Proof.Machine.execLineStart t facet s
  | .lineEnd t => Sys2Proof.Machine.execLineEnd t s
  | .setInstant t str => Sys2Proof.Machine.execSetInstant t str s
  | .fireEdge t str => Sys2Proof.Machine.execFireEdge t str s
  | .fireWidthEnd t str => Sys2Proof.Machine.execFireWidthEnd t str s
  | .shuntHoldEnd t str => Sys2Proof.Machine.execShuntHoldEnd t str s
  | .detectorEvent t chan passed => Sys2Proof.Machine.execDetectorEvent t chan passed s
  | .rearm t chan => Sys2Proof.Machine.execRearm t chan s
  | .chStuckHigh t chan => Sys2Proof.Machine.execChStuckHigh t chan s
  | .coincidenceDecision t chan => Sys2Proof.Machine.execCoincidenceDecision t chan s
  | .tallyService t rod => Sys2Proof.Machine.execTallyService t rod s
  | .pointStart t chan => Sys2Proof.Machine.execPointStart t chan s
  | .scoutRunStart t rod => Sys2Proof.Machine.execScoutRunStart t rod s
  | .scoutRunEnd t rod => Sys2Proof.Machine.execScoutRunEnd t rod s
  | .fineReplayDone t rod => Sys2Proof.Machine.execFineReplayDone t rod s
  | .pointEnd t chan => Sys2Proof.Machine.execPointEnd t chan s
  | .pageClose t chan => Sys2Proof.Machine.execPageClose t chan s
  | .extractorService t deck => Sys2Proof.Machine.execExtractorService t deck s
  | .extractionComplete t deck => Sys2Proof.Machine.execExtractionComplete t deck s
  | .stackReadDone t chan => Sys2Proof.Machine.execStackReadDone t chan s
  | .pageRelease t chan => Sys2Proof.Machine.execPageRelease t chan s
  | .ambientIntervalStart t => Sys2Proof.Machine.execAmbientIntervalStart t s
  | .ambientPublish t => Sys2Proof.Machine.execAmbientPublish t s
  | .sealDeadline t => Sys2Proof.Machine.execSealDeadline t s
  | .frameBoundaryEvent t => Sys2Proof.Machine.execFrameBoundaryEvent t s
  | .frameEnd t => Sys2Proof.Machine.execFrameEnd t s
  | .bluwardFlush t slot cls => Sys2Proof.Machine.execBluwardFlush t slot cls s
  | .keyClose t slot cls => Sys2Proof.Machine.execKeyClose t slot cls s
  | .linkFree t lane => Sys2Proof.Machine.execLinkFree t lane s
  | .pointToken t => Sys2Proof.Machine.execPointToken t s
  | .servoSample t servo x => Sys2Proof.Machine.execServoSample t servo x s
  | .polyMark t raw => Sys2Proof.Machine.execPolyMark t raw s
  | .markMissing t => Sys2Proof.Machine.execMarkMissing t s
  | .tpEdge t port raw rising => Sys2Proof.Machine.execTpEdge t port raw rising s
  | .tpHoldoffEnd t port => Sys2Proof.Machine.execTpHoldoffEnd t port s
  | .tpGateEnd t port => Sys2Proof.Machine.execTpGateEnd t port s
  | .tpGateResult t port => Sys2Proof.Machine.execTpGateResult t port s
  | .decimationBlock t sense currentNa terminalUv flags bits => Sys2Proof.Machine.execDecimationBlock t sense currentNa terminalUv flags bits s
  | .senseSample t n2 n1 n0 => Sys2Proof.Machine.execSenseSample t n2 n1 n0 s
  | .settlingEnd t sense => Sys2Proof.Machine.execSettlingEnd t sense s
  | .senseLeadDone t sense => Sys2Proof.Machine.execSenseLeadDone t sense s
  | .fireRecord t a b => Sys2Proof.Machine.execFireRecord t a b s
  | .integrationDone t pmon samples => Sys2Proof.Machine.execIntegrationDone t pmon samples s
  | .strayPulse t pmon energyPj => Sys2Proof.Machine.execStrayPulse t pmon energyPj s
  | .segmentTrigger t pmon trig samples => Sys2Proof.Machine.execSegmentTrigger t pmon trig samples s
  | .segmentRearm t pmon => Sys2Proof.Machine.execSegmentRearm t pmon s
  | .stallWindowEnd t => Sys2Proof.Machine.execStallWindowEnd t s
  | .clockCheck t nCycles => Sys2Proof.Machine.execClockCheck t nCycles s
  | .ledgerScrub t badCells => Sys2Proof.Machine.execLedgerScrub t badCells s
  | .subBinBoundary t window => Sys2Proof.Machine.execSubBinBoundary t window s
  | .headSwitch t high => Sys2Proof.Machine.execHeadSwitch t high s
  | .hvFbChange t closed => Sys2Proof.Machine.execHvFbChange t closed s
  | .contactorStuck t => Sys2Proof.Machine.execContactorStuck t s
  | .hvFbOpen t => Sys2Proof.Machine.execHvFbOpen t s
  | .enableReadback t pad => Sys2Proof.Machine.execEnableReadback t pad s
  | .hvCutNAssert t => Sys2Proof.Machine.execHvCutNAssert t s
  | .permissionGrant t => Sys2Proof.Machine.execPermissionGrant t s
  | .laserTempTimeout t => Sys2Proof.Machine.execLaserTempTimeout t s
  | .nkDegradedClock t => Sys2Proof.Machine.execNkDegradedClock t s
  | .degradedClockClear t => Sys2Proof.Machine.execDegradedClockClear t s
  | .cdCandidate t chan => Sys2Proof.Machine.execCdCandidate t chan s
  | .cdBlendStep t => Sys2Proof.Machine.execCdBlendStep t s
  | .calSave t => Sys2Proof.Machine.execCalSave t s
  | .laneSelfCheckDone t lane passed => Sys2Proof.Machine.execLaneSelfCheckDone t lane passed s
  | .negotiationComplete t lane partnerMask => Sys2Proof.Machine.execNegotiationComplete t lane partnerMask s
  | .twinHello t lane h => Sys2Proof.Machine.execTwinHello t lane h s
  | .trainTimeout t lane => Sys2Proof.Machine.execTrainTimeout t lane s
  | .laneUp t lane => Sys2Proof.Machine.execLaneUp t lane s
  | .laneDown t lane reason => Sys2Proof.Machine.execLaneDown t lane reason s
  | .laneRetry t lane => Sys2Proof.Machine.execLaneRetry t lane s
  | .claimRoundStart t => Sys2Proof.Machine.execClaimRoundStart t s
  | .claimRoundEnd t syncLow read => Sys2Proof.Machine.execClaimRoundEnd t syncLow read s
  | .twinStatus t strap headId t1 t2 t3 t4 => Sys2Proof.Machine.execTwinStatus t strap headId t1 t2 t3 t4 s
  | .twinStatusTimeout t => Sys2Proof.Machine.execTwinStatusTimeout t s
  | .lineNotice t frame line facet inst => Sys2Proof.Machine.execLineNotice t frame line facet inst s
  | .noticeMiss t => Sys2Proof.Machine.execNoticeMiss t s
  | .lineCopy t bytes => Sys2Proof.Machine.execLineCopy t bytes s
  | .serviceSetReceived t v => Sys2Proof.Machine.execServiceSetReceived t v s
  | .ownerFireStamp t str => Sys2Proof.Machine.execOwnerFireStamp t str s
  | .ringBeat t b slots => Sys2Proof.Machine.execRingBeat t b slots s
  | .ringInsertion t => Sys2Proof.Machine.execRingInsertion t s
  | .leaderTakeover t => Sys2Proof.Machine.execLeaderTakeover t s
  | .ringHoldover t => Sys2Proof.Machine.execRingHoldover t s
  | .ringLockLost t => Sys2Proof.Machine.execRingLockLost t s
  | .trigIoPulse t pulse => Sys2Proof.Machine.execTrigIoPulse t pulse s
  | .triggerAction t code => Sys2Proof.Machine.execTriggerAction t code s
  | .logFrozen t => Sys2Proof.Machine.execLogFrozen t s
  | .vddNkWindowChange t inside => Sys2Proof.Machine.execVddNkWindowChange t inside s
  | .tAbsent t => Sys2Proof.Machine.execTAbsent t s
  | .nkPeerCutNChange t high => Sys2Proof.Machine.execNkPeerCutNChange t high s
  | .pmonBaselineFault t pmon => Sys2Proof.Machine.execPmonBaselineFault t pmon s
  | .pmonChannelClear t pmon => Sys2Proof.Machine.execPmonChannelClear t pmon s
  | .confirmWriteTimeout t => Sys2Proof.Machine.execConfirmWriteTimeout t s
  | .checkerLock t lane => Sys2Proof.Machine.execCheckerLock t lane s
  | .checkerLockLoss t lane errors => Sys2Proof.Machine.execCheckerLockLoss t lane errors s
  | .patrolScrub t addr kind => Sys2Proof.Machine.execPatrolScrub t addr kind s
  | .firmwareTimer t timer => Sys2Proof.Machine.execFirmwareTimer t timer s
  | .ringCycleStart t => Sys2Proof.Machine.execRingCycleStart t s
  | .peerDelayRequest t => Sys2Proof.Machine.execPeerDelayRequest t s

end Sys2Proof.Machine
end

