-- ==== Sys2Proof/Machine/Step.lean ====
section
/-! DEFINITION. Machine/Step.lean: one step takes the command at the front of the queue; the block idles on an empty one
(log entry 6). -/

namespace Sys2Proof.Machine

/-- One step: the front command runs with the queue's rest; an empty queue leaves the block as it is.
Log entries 6 (DESIGN CHOICE), 89 (DESIGN CHOICE). -/
def step (s : State) : Host.Outcome State Fault Refusal :=
  match s.pending with
  | [] => .next s
  | c :: q => exec c { s with pending := q }

/-- The state with the command a table word spells in front of its queue; unchanged where it spells none. Log entry 90 (DESIGN CHOICE). -/
def State.withFetchWord (s : State) (nbits w : Nat) : State :=
  match decodeTableWord nbits w with
  | some c => { s with pending := c :: s.pending }
  | none => s

end Sys2Proof.Machine
end

