-- ==== Sys2Proof/Safety.lean ====
section
/-! DEFINITION. Safety.lean: the terms the statements are put in: the canonical form of memory, a desk that is ready for a request,
what a completed request leaves in its mailbox, what a command leaves as it was, and when emission is safe. -/

namespace Sys2Proof.Machine

/-- The canonical form of a byte memory whose unlisted bytes read `d`: rising addresses, no entry equal to `d`. -/
def Memory.wf (d : Byte) (m : List Host.Cell) : Bool := twf d none m

/-- A command runs: exec answers a next state, and `P` holds of it. -/
def Runs (i : Instr) (s : State) (P : State → Prop) : Prop := ∃ u, exec i s = .next u ∧ P u

/-- The front desk can start a request at once (R433, R447, R448, R467): it answers, its mailbox is IDLE or DONE, and no other
request waits to start. -/
def Ready (r : Req) (s : State) : Prop :=
  r.mb < 8 ∧ s.desk.st ≠ 0 ∧ s.desk.st ≠ 7 ∧ s.desk.recovery = false ∧ (mb s r.mb).st ≠ 1 ∧ s.desk.waiting = []

/-- What a completed request leaves (R447, R452): state DONE, MB_LAST, and the response in the buffer. -/
def Answered (r : Req) (op result : Nat) (p : List Byte) (u : State) : Prop :=
  (mb u r.mb).st = 2 ∧ (mb u r.mb).lastResult = result ∧ (mb u r.mb).lastOpcode = op
    ∧ cgets 0 (mb u r.mb).buf 0 (12 + p.length) = le 2 op ++ le 2 result ++ le 4 r.tag ++ le 2 p.length ++ le 2 0 ++ p

/-- `s` with the elapsed and device time, the count of free values, the event queue with the entries on their way to the logbook, ATTENTION and ATTN_N
of `u`. -/
def logOf (s u : State) : State :=
  { s with
    wall := u.wall, dev := u.dev, free := u.free, pins := { s.pins with attnN := u.pins.attnN }
    desk := { s.desk with
      attention := u.desk.attention, attnTimer := u.desk.attnTimer, setAt := u.desk.setAt, setBits := u.desk.setBits, eventCount := u.desk.eventCount, events := u.desk.events
      lostCount := u.desk.lostCount, lostFirst := u.desk.lostFirst, logDue := u.desk.logDue } }

/-- `u` differs from `s` in time, the event log and ATTENTION alone. -/
def LogOnly (s u : State) : Prop := u = logOf s u

/-- `u` differs from `s` in time, the event log, ATTENTION, the interrupt controller and mailbox `k` alone. -/
def DeskOnly (k : Nat) (s u : State) : Prop :=
  u = { logOf s u with ic := u.ic, desk := { (logOf s u).desk with mbs := u.desk.mbs } } ∧ ∀ j, j ≠ k → mb u j = mb s j

/-- `u` differs from `e` in what Nerrak's reaction to a fault or a charge hold may touch alone (R28, R38, R193, R199, R287, R288, R500): state, log,
mailbox answers, the enables, judged seals, the scheduler's line, caps and charge, Nerrak, streamed records, interrupts, logbook and score. -/
def GuardActs (e u : State) : Prop :=
  u = { e with
    free := u.free, nk := u.nk, str := u.str, ic := u.ic, lgb := u.lgb
    pins := { e.pins with attnN := u.pins.attnN, lsrA := u.pins.lsrA, lsrB := u.pins.lsrB, hvCut := u.pins.hvCut }
    desk := { (logOf e u).desk with
      st := u.desk.st, health := u.desk.health, mbs := u.desk.mbs, replies := u.desk.replies
      pendStop := u.desk.pendStop, pendExit := u.desk.pendExit, pendRun := u.desk.pendRun }
    par := { e.par with
      awaiting := u.par.awaiting, timely := u.par.timely, late := u.par.late, svcTimely := u.par.svcTimely, svcLate := u.par.svcLate }
    sch := { e.sch with
      strs := u.sch.strs, line := u.sch.line, nextLine := u.sch.nextLine, lastEdge := u.sch.lastEdge, truncated := u.sch.truncated, linesRun := u.sch.linesRun
      fbeAt := u.sch.fbeAt, ceil := u.sch.ceil, rdiv := u.sch.rdiv, chgReq := u.sch.chgReq, chgEn := u.sch.chgEn, chgRise := u.sch.chgRise }
    hlt := { e.hlt with score := u.hlt.score, penal := u.hlt.penal } }

/-- `u` differs from `e` in the event log, ATTENTION and what judging the seals that wait leaves (R28 to R30) alone. -/
def SealsJudged (e u : State) : Prop :=
  u = { logOf e u with
    desk := { (logOf e u).desk with mbs := u.desk.mbs, replies := u.desk.replies }
    par := { e.par with
      awaiting := u.par.awaiting, timely := u.par.timely, late := u.par.late, svcTimely := u.par.svcTimely, svcLate := u.par.svcLate } }

/-- A request that completes with OK: its response payload satisfies `P`, and all else is as in `e`. -/
def CompletesOk (i : Instr) (r : Req) (op : Nat) (s e : State) (P : List Byte → Prop) : Prop :=
  Runs i s (fun u => ∃ p, P p ∧ Answered r op rOK p u ∧ DeskOnly r.mb e u)

/-- A request that is refused: the result, an unspecified payload, and all else as it was. -/
def RefusedWith (i : Instr) (r : Req) (op result t : Nat) (s : State) : Prop :=
  Runs i s (fun u => ∃ p, Answered r op result p u ∧ DeskOnly r.mb (advance t s) u)

/-- A histogram bin of maximum `mx` after `n` increments (R131). -/
def binAfter (mx old n : Nat) : Nat := max old (min mx (old + n))

/-- The fine bin that a relative time selects among a page's placed windows (R116): windows have 64 bins of 2^f ticks. -/
def fineAt (d : Desc) (delta : Nat) : Option Nat :=
  ((List.range d.win.length).find? (fun w => decide (d.win.getD w 0 ≤ delta) && decide (delta < d.win.getD w 0 + 64 * 2 ^ d.f))).map
    (fun w => 64 * w + (delta - d.win.getD w 0) / 2 ^ d.f)

/-- The units run: the device is neither in RESET nor FROZEN (R37, R524). -/
def Awake (s : State) : Prop := s.desk.st ≠ 0 ∧ s.desk.st ≠ 7

/-- What every step keeps: the enables agree and are high in COMMISSIONING, RUN and DEGRADED alone (R271), EVENT reads 1 while an entry is
queued (R442), at most 1,024 entries are queued (R455), the state and the one held at a freeze are R38's, byte memories are canonical. -/
structure Inv (s : State) : Prop where
  enables : s.pins.lsrA = s.pins.lsrB
  emits   : s.pins.lsrA = true → s.desk.st = 3 ∨ s.desk.st = 4 ∨ s.desk.st = 5
  event   : s.desk.events ≠ [] → s.desk.attention.getLsbD 8 = true
  room    : s.desk.events.length ≤ 1024
  states  : s.desk.st ≤ 7 ∧ s.rst.from_ ≤ 7
  memory  : Memory.wf 0 s.mem.bytes = true
  slots   : Memory.wf 0xFF#8 s.nv.slotA = true ∧ Memory.wf 0xFF#8 s.nv.slotB = true

end Sys2Proof.Machine
end

