-- ==== Sys2Proof/Certificates/Slice0/Obligations.lean ====
section
/-! DEFINITION. Certificates/Slice0/Obligations.lean: the statements about the model, each a proposition named after what it says. -/

section

open Sys2Proof Sys2Proof.Machine

/-- The block takes its commands first in, first out: a step runs exec on the front command with the queue's rest; an empty queue idles.
Model's own choice: log entry 6. -/
def Obligations.StepRunsTheFrontCommand : Prop :=
  (∀ (c : Instr) (q : List Instr) (s : State), s.pending = c :: q → step s = exec c { s with pending := q }) ∧
  (∀ s : State, s.pending = [] → step s = .next s)

/-- What a power-on reset leaves (R38, R268, R439 to R446, R473): BOOT with POWER_ON as its cause, ATTENTION clear and its enables at 0x0000_0C00,
mailboxes IDLE, no event, no interrupt source, the enables low, HV_CUT_N asserted, the self-test under way. Model's own choices: log entries 3
(parameter generation 0), 4 (no commissioning set stored, so none confirmed), 5 (no byte of memory listed), 91. -/
def Obligations.ResetStands : Prop :=
  let s := State.reset
  s.desk.st = 1 ∧ s.desk.resetCause = 1 ∧ s.desk.attention = 0 ∧ s.desk.attnEnable = 0xC00#32 ∧ s.desk.events = [] ∧ s.desk.lostCount = 0
    ∧ s.desk.eventCount = {} ∧ (∀ k, mb s k = {}) ∧ (mb s 0).st = 0 ∧ s.desk.debug = 0 ∧ s.desk.lab = false ∧ s.desk.recovery = false
    ∧ (∀ n, (icSrc s n).pending = false ∧ (icSrc s n).active = false ∧ (icSrc s n).enable = false) ∧ s.ic.line = false
    ∧ s.pins.lsrA = false ∧ s.pins.lsrB = false ∧ s.pins.hvCut = true ∧ s.pins.attnN = false ∧ s.pins.ringEng = false
    ∧ s.nk.conf = none ∧ s.nk.testing = true ∧ s.nk.passed = false ∧ s.nk.faults = 0 ∧ s.par.inForce.itinHas = false ∧ s.par.gen = 0
    ∧ s.mem.bytes = [] ∧ s.sch.running = false ∧ s.sch.frameNo = {} ∧ s.pending = []
    ∧ (∀ id i, tget none s.par.im (pKey id i) = none ∧ tget none s.par.shadow.vals (pKey id i) = none)

/-- The invariant (Safety.lean) holds at reset. Model's own choices: log entries 5, 91. -/
def Obligations.InvariantAtReset : Prop := Inv State.reset

/-- Every step keeps the invariant: the two enables agree and are high in COMMISSIONING, RUN and DEGRADED alone (R271), EVENT reads 1 while an entry
is queued (R442), the queue holds at most 1,024 entries (R455), the state is one of R38's, memories stay canonical. Model's own choices: log entries 5
(the canonical form), 11 (EVENT at once where R442 allows 1 µs), 31 (the enables at once where R271 and R289 allow a delay). -/
def Obligations.StepsKeepTheInvariant : Prop :=
  ∀ s t : State, Inv s → step s = .next t → Inv t

/-- Every step takes exactly the front command off the queue and adds none, time never runs back, and the chip's serial number stands.
Model's own choices: log entries 2, 6, 89. -/
def Obligations.StepsTakeTheQueueInOrder : Prop :=
  ∀ s t : State, step s = .next t → t.pending = s.pending.tail ∧ s.wall ≤ t.wall ∧ t.nv.serial = s.nv.serial

/-- In FROZEN and in RESET nothing acts but Nerrak's own monitors, the reset lines and rails, the freeze controls and the interrupt of the
rails' sampling (R37, R433, R520, R524, R525): every other command only lets time pass, and device time stands still in FROZEN.
Model's own choices: log entries 2, 7. -/
def Obligations.StoppedUnitsHold : Prop :=
  ∀ (i : Instr) (s : State), s.desk.st = 7 ∨ s.desk.st = 0 →
    match i with
    | .freeze .. | .thaw .. | .freezeN .. | .registerWrite .. | .tempSample .. | .voltageSample .. | .stallWindowEnd ..
    | .clockCheck .. | .ledgerScrub .. | .subBinBoundary .. | .headSwitch .. | .hvFbChange .. | .contactorStuck .. | .hvFbOpen ..
    | .enableReadback .. | .hvCutNAssert .. | .permissionGrant .. | .nkDegradedClock .. | .degradedClockClear .. | .vddNkWindowChange ..
    | .tAbsent .. | .nkPeerCutNChange .. | .nkSelftest .. | .fireRecord .. | .integrationDone .. | .strayPulse .. | .segmentTrigger ..
    | .segmentRearm .. | .pmonBaselineFault .. | .pmonChannelClear .. | .porstNAssert .. | .porstNRelease .. | .resetNAssert ..
    | .resetNRelease .. | .voltageFault .. | .laserTempTimeout .. | .polyMark .. => True
    | c => ∃ w d, exec c s = .next { s with wall := w, dev := d } ∧ s.wall ≤ w ∧ (s.desk.st = 7 → d = s.dev)

/-- The mailbox protocol (R447, R448, R450, R454, R467): role and debug level are refused before length, length before the command; a request
behind others only waits, one rung before starts when it is the oldest, a BUSY mailbox sets OVERRUN; the safety, debug and ring
commands run on their own mailboxes alone; in recovery mailbox 0 alone answers, with FW_WRITE, FW_UPDATE 1 and 2, EVENT_READ and DEV_RESET,
and other opcodes give NOT_PERMITTED_IN_STATE. Model's own choices: log entries 1, 18, 19. -/
def Obligations.MailboxProtocol : Prop :=
  (∀ (c : CmdSpec) (lenOk : List Byte → Bool) (body : Nat → Req → State → CmdOut) (t : Nat) (r : Req) (s : State), Ready r s →
    let u := command c lenOk body t r s
    (r.mb < c.mbLo ∨ c.mbHi < r.mb ∨ s.desk.debug < c.level → Answered r c.op rSafetyLocked [] u ∧ DeskOnly r.mb (advance t s) u) ∧
    (c.mbLo ≤ r.mb → r.mb ≤ c.mbHi → c.level ≤ s.desk.debug → 248 < r.payload.length ∨ lenOk r.payload = false →
      Answered r c.op rBadParam [] u ∧ DeskOnly r.mb (advance t s) u)) ∧
  (∀ (c : CmdSpec) (lenOk : List Byte → Bool) (body : Nat → Req → State → CmdOut) (t : Nat) (r : Req) (s : State),
    r.mb < 8 → Awake s → s.desk.recovery = false →
    let u := command c lenOk body t r s
    ((mb s r.mb).st ≠ 1 → s.desk.waiting ≠ [] → (mb u r.mb).st = 1 ∧ u.desk.waiting = ringOrder (advance t s) r.mb s.desk.waiting
      ∧ cgets 0 (mb u r.mb).buf 0 (min 256 (8 + r.payload.length)) = (reqBytes c.op r).take 256
      ∧ DeskOnly r.mb { advance t s with desk.waiting := u.desk.waiting } u) ∧
    ((mb s r.mb).st = 1 → s.desk.waiting.head? = some r.mb → mbHolds r.mb c.op r s = true →
      u = answerReserved 8 (runCmd c lenOk body r { advance t s with desk.waiting := s.desk.waiting.tail })) ∧
    ((mb s r.mb).st = 1 → s.desk.waiting.contains r.mb = false → (mb u r.mb).overrun = true ∧ (mb u r.mb).st = 1
      ∧ (mb u r.mb).buf = (mb s r.mb).buf ∧ DeskOnly r.mb (advance t s) u)) ∧
  (∀ (t : Nat) (r : Req) (s : State), Ready r s →
    (r.mb ≠ 4 → RefusedWith (.nkCommission t r) r 0x0C10 rSafetyLocked t s ∧ RefusedWith (.nkSetWrite t r) r 0x0C11 rSafetyLocked t s
      ∧ RefusedWith (.nkConfirm t r) r 0x0C12 rSafetyLocked t s ∧ RefusedWith (.nkFaultClear t r) r 0x0C15 rSafetyLocked t s) ∧
    (r.mb ≠ 5 → RefusedWith (.debugChallenge t r) r 0x0016 rSafetyLocked t s ∧ RefusedWith (.debugResponse t (r.mb, r.tag) r.payload) r 0x0017 rSafetyLocked t s
      ∧ RefusedWith (.calFactoryRun t r) r 0x0D10 rSafetyLocked t s) ∧
    (r.mb < 6 → RefusedWith (.trigSend t r) r 0x0A10 rSafetyLocked t s)) ∧
  (∀ (t : Nat) (s : State), s.desk.st = 1 → s.desk.recovery = true → s.desk.waiting = [] →
    let barred := fun (i : Req → Instr) (op n : Nat) => ∀ r : Req, r.payload.length = n →
      (r.mb = 0 → (mb s 0).st ≠ 1 → RefusedWith (i r) r op rNotPermitted t s) ∧ (r.mb ≠ 0 → exec (i r) s = .next (advance t s))
    barred (.devRun t) 0x0010 0 ∧ barred (.devStop t) 0x0011 0 ∧ barred (.devIdentity t) 0x0018 0 ∧ barred (.paramGet t) 0x0001 8
    ∧ barred (.paramSeal t) 0x0003 4 ∧ barred (.paramList t) 0x0004 4 ∧ barred (.chCountersRead t) 0x0112 4 ∧ barred (.passportRead t) 0x0211 8
    ∧ barred (.tallyCountersRead t) 0x0310 4 ∧ barred (.templateWrite t) 0x0410 20 ∧ barred (.itinValidate t) 0x0512 4
    ∧ barred (.servoStatusRead t) 0x0612 4 ∧ barred (.senseRead t) 0x0710 4 ∧ barred (.streamStatusRead t) 0x0814 4
    ∧ barred (.laneTest t) 0x0911 8 ∧ barred (.twinRingStatusRead t) 0x0A11 4 ∧ barred (.healthRead t) 0x0B10 4 ∧ barred (.nkStatusRead t) 0x0C13 0
    ∧ barred (.calStatusRead t) 0x0D14 4 ∧ barred (.dmaXfer t) 0x0E10 20
    ∧ (∀ r : Req, r.mb ≠ 0 → exec (.eventRead t r) s = .next (advance t s) ∧ exec (.fwWrite t r) s = .next (advance t s)
        ∧ exec (.fwUpdate t (r.mb, r.tag) r.payload) s = .next (advance t s) ∧ exec (.devReset t r) s = .next (advance t s))
    ∧ (∀ r : Req, r.mb = 0 → (mb s 0).st ≠ 1 →
        (r.payload.length = 4 → fld r.payload 0 1 ≤ 5 → allZero (r.payload.drop 1) = true →
          Runs (.eventRead t r) s (fun u => (mb u 0).st = 2 ∧ (mb u 0).lastResult = rOK ∧ (mb u 0).lastOpcode = 0x0012 ∧ DeskOnly 0 (advance t s) u))
        ∧ (let n := fld r.payload 4 2
           r.payload.length = 8 + n → 1 ≤ n → n ≤ 240 → fld r.payload 0 4 + n ≤ slotSize → fld r.payload 6 2 = 0 → flashBusy s = false →
           s.nk.wrHeld = false →
           CompletesOk (.fwWrite t r) r 0x0013 s (slotPut (fld r.payload 0 4) (r.payload.drop 8) (advance t s)) (fun p => p = []))
        ∧ (r.payload.length = 4 → allZero (r.payload.drop 1) = true → flashBusy s = false → s.nk.wrHeld = false →
           let bad := imageStep s (1 - s.desk.slot)
           (fld r.payload 0 1 = 1 → Runs (.fwUpdate t (r.mb, r.tag) r.payload) s (fun u => (mb u 0).st = 1
             ∧ DeskOnly 0 { advance t s with desk.erase := some 0 } u))
           ∧ (fld r.payload 0 1 = 2 → Runs (.fwUpdate t (r.mb, r.tag) r.payload) s (fun u =>
               Answered r 0x0014 (if bad = 0 then rOK else rCheckMismatch) (fwAnswer s (1 - s.desk.slot) bad) u
               ∧ DeskOnly 0 (if bad = 0 then dirWrite (1 - s.desk.slot) 1 0 (advance t s) else advance t s) u))
           ∧ (fld r.payload 0 1 = 3 ∨ fld r.payload 0 1 = 4 → RefusedWith (.fwUpdate t (r.mb, r.tag) r.payload) r 0x0014 rNotPermitted t s))
        ∧ (r.payload.length = 4 → s.desk.cmdReset = none → fld r.payload 0 4 = s.nv.serial % 2 ^ 32 →
           CompletesOk (.devReset t r) r 0x0015 s { advance t s with desk.cmdReset := some ((advance t s).dev + tMs) } (fun p => p = []))))

/-- SENSE_READ, SENSE_FIR_WRITE, SENSE_LEAD_MEASURE and SENSE_STATUS_READ complete (R261 to R264): the read removes the entries it
returns, the FIR set is stored, a lead phase starts with a settling interval, and the status read changes nothing.
Model's own choices: log entries 1, 86. -/
def Obligations.SenseCommandsComplete : Prop :=
  (∀ (t : Nat) (r : Req) (s : State), Ready r s → r.payload.length = 4 → fld r.payload 0 1 ≤ 7 → fld r.payload 1 1 ≤ 14 → fld r.payload 2 2 = 0 →
    let n := fld r.payload 0 1
    let x := sense s n
    let out := x.queue.take (fld r.payload 1 1)
    let rest := x.queue.drop (fld r.payload 1 1)
    CompletesOk (.senseRead t r) r 0x0710 s (setSense (advance t s) n { x with queue := rest })
      (fun p => p = le 1 n ++ le 1 out.length ++ le 2 (b2n x.dropped.wrap) ++ le 4 x.dropped.val.toNat ++ le 4 rest.length ++ out.flatMap smpBytes)) ∧
  (∀ (t : Nat) (r : Req) (s : State), Ready r s → r.payload.length = 132 → fld r.payload 0 1 ≤ 7 → allZero ((r.payload.drop 1).take 3) = true →
    let hs := (List.range 32).map (fun i => fldI r.payload (4 + 4 * i) 4)
    (∀ h ∈ hs, -131072 ≤ h ∧ h ≤ 131071) → 0 < sumI hs →
    let n := fld r.payload 0 1
    let x : Sense := { sense s n with fir := hs }
    let c := snsCfg s n
    CompletesOk (.senseFirWrite t r) r 0x0711 s
      (setSense (advance t s) n (if x.on = true ∧ c.getD 10 0 = 1 then
          { x with chain := decimClear x.chain, d := if c.getD 13 0 = 2 then x.d else 0, settle := some ((advance t s).dev + snsSettle c) }
        else x))
      (fun p => p.length = 8 ∧ p.take 4 = leI 4 (2 * sumI hs))) ∧
  (∀ (t : Nat) (r : Req) (s : State), Ready r s → r.payload.length = 4 → fld r.payload 0 1 ≤ 7 → allZero (r.payload.drop 1) = true →
    let n := fld r.payload 0 1
    let x := sense s n
    x.on = true → x.cfg.getD 5 2 ≠ 0 → x.cfg.getD 2 0 ≠ 0 → x.openAt = none → x.lead = none →
    CompletesOk (.senseLeadMeasure t r) r 0x0712 s
      (setSense (advance t s) n { x with
        lead := some { step := 1, n := 0, sum := (0, 1), cur := 0 }, settle := some ((advance t s).dev + snsSettle x.cfg) })
      (fun p => p = [])) ∧
  (∀ (t : Nat) (r : Req) (s : State), Ready r s → r.payload.length = 4 → fld r.payload 0 1 ≤ 7 → allZero (r.payload.drop 1) = true →
    let n := fld r.payload 0 1
    let f := snsShown s n
    CompletesOk (.senseStatusRead t r) r 0x0713 s (advance t s)
      (fun p => ∃ k, p = le 1 n ++ le 1 f.st ++ le 1 f.g ++ le 1 (b2n f.compl + 2 * b2n f.wraps.1 + 4 * b2n f.wraps.2) ++ le 4 f.cur ++ le 4 f.term
        ++ le 4 f.rl ++ le 4 k ++ le 4 (40250 * f.r) ++ le 4 (104250 * f.r) ++ le 4 (1000 * f.r * f.df) ++ le 4 f.opens ++ le 4 f.ranges))

/-- The sense events complete (R246, R252, R256, R259, R293): a decimation block starts an enabled channel, or passes its R bits through the
chain and records what it measured; a sample that is due enters the queue of 256 with its time, gain, sequence and trimmed value; settling
and lead phases end when their intervals have run, and the laser interlock's timeout holds charging. Model's own choices: log entries 7, 86. -/
def Obligations.SenseEventsComplete : Prop :=
  (∀ (t n cur term : Nat) (clip : Bool) (bits : List Bool) (s : State), n < 8 → sensesRun s = true → par s pSenseEnable n ≠ 0 →
    let x := sense s n
    (x.on = true → bits.length = cfgR x.cfg) →
    Runs (.decimationBlock t n cur term clip bits) s (fun u =>
      (sense u n).on = true ∧ (sense u n).cur = cur ∧ (sense u n).term = term ∧ (sense u n).compl = decide (3000000 ≤ term)
        ∧ (x.on = true → x.openAt = none → term < 3000000 → clip = false → 1000 ≤ cur → x.chainWr = false → x.cfg = snsCfgNow s n →
            (sense u n).chain = decimStep x.cfg x.chain bits)
        ∧ GuardActs { advance t s with sns := u.sns } u ∧ ∀ k, k ≠ n → sense u k = sense s k)) ∧
  (∀ (t n : Nat) (s : State), n < 8 → sensesRun s = true → (sense s n).on = true → (sense s n).chain.due = true →
    let x := sense s n
    Runs (.senseSample t (n.testBit 2) (n.testBit 1) (n.testBit 0)) s (fun u =>
      (∃ e : Smp, (sense u n).queue = (if 256 ≤ x.queue.length then x.queue.tail else x.queue) ++ [e] ∧ e.seq = x.seq
        ∧ e.time = ((advance t s).dev - snsTau x.cfg) / 64 ∧ e.gain = x.g ∧ (x.openAt ≠ none → e.value = 0)
        ∧ (x.openAt = none → x.cfg.getD 13 0 = 0 → x.cfg.getD 2 0 ≠ 1 →
            e.value = sat24 (rnd ((decimOut x x.cfg - tget 0 s.cal.senseO (8 * n + x.g)) * tget (2 ^ 30) s.cal.senseM (8 * n + x.g)) (2 ^ 30))))
      ∧ (sense u n).chain.due = false ∧ GuardActs { advance t s with sns := u.sns } u ∧ ∀ k, k ≠ n → sense u k = sense s k)) ∧
  (∀ (t n e : Nat) (s : State), n < 8 → Awake s → (sense s n).settle = some e → e ≤ (advance t s).dev →
    exec (.settlingEnd t n) s = .next (setSense (advance t s) n { sense s n with settle := none })) ∧
  (∀ (t n : Nat) (l : Lead) (s : State), n < 8 → Awake s → (sense s n).lead = some l → l.step = 3 → settling (advance t s) (sense s n) = false →
    Runs (.senseLeadDone t n) s (LogOnly (setSense (advance t s) n { sense s n with lead := none, settle := none }))) ∧
  (∀ (t : Nat) (s : State), (∀ a, s.nk.laserAt = some a → a + 100 * tMs ≤ max s.wall t) →
    Runs (.laserTempTimeout t) s (fun u => u.nk.laserOut = true ∧ u.nk.chgHeld = true ∧ u.pins.lsrA = s.pins.lsrA ∧ u.nv = s.nv
      ∧ u.par = s.par ∧ u.sns = s.sns))

/-- The motion service (R365, R371): MOTION_FEED takes its samples, the last one becoming the newest; a service without samples for
MOTION.STALE goes stale. Model's own choice: log entry 52. -/
def Obligations.MotionServiceRuns : Prop :=
  (∀ (t : Nat) (r : Req) (s : State), Ready r s →
    let n := fld r.payload 0 1
    let ms := (List.range n).map (feedSample s r.payload)
    r.payload.length = 8 + 32 * n → 1 ≤ n → n ≤ 7 → allZero ((r.payload.drop 1).take 7) = true → s.tim.st ≠ 0 →
    inOrder (match s.mot.newest with | some m => m.time | none => 0) ms = true →
    Runs (.motionFeed t r) s (fun u => Answered r 0x0813 rOK [] u ∧ DeskOnly r.mb { advance t s with mot := u.mot } u
      ∧ u.mot.newest = ms.getLast? ∧ u.mot.lastAt = (advance t s).dev ∧ u.mot.stale = s.mot.stale)) ∧
  (∀ (t : Nat) (s : State), motionOn s = true → s.mot.stale = false → 2 ≤ s.desk.st → s.desk.st ≠ 7 →
    s.mot.lastAt + par0 s pMotionStale * tMs ≤ (advance t s).dev →
    Runs (.motionStale t) s (LogOnly { advance t s with mot.stale := true, mot.back := false }))

/-- The time service (R330, R363, R364): a gPTP frame on TIME.PORT raises its source and acts by its kind: an Announce no better than the
master's changes nothing, a Sync counts from the master alone; a lost Sync starts holdover, and ten seconds of it end free-running at ρ = 0; the initiator sends its peer-delay requests.
Model's own choices: log entries 7, 10, 53. -/
def Obligations.TimeServiceRuns : Prop :=
  (∀ (t l : Nat) (m : Gptp) (s : State), gptpFrame.servicesOff s = false → par0 s pTimeSource ≠ 1 → l = par0 s pTimePort → linkUp s l = true →
    Runs (.gptpFrame t l m) s (fun u =>
      (icSrc u 229).pending = true ∧ LogOnly { advance t s with tim := u.tim, ic := u.ic } u
      ∧ (∀ d src sq o c, m = .sync d src sq true o c → fromMaster d src (advance t s) = true → u.tim.sync = some (src, sq, (advance t s).dev, c))
      ∧ (∀ d a, m = .announce d a → d = par0 s pTimeDomain → a.steps < 255 → masterNow (advance t s) = none →
          u.tim.gm = a.gm ∧ u.tim.master = some (a, (advance t s).dev))
      ∧ (∀ d a b, m = .announce d a → masterNow (advance t s) = some b → a.src ≠ b.src → vecBetter (annVector a) (annVector b) = false → u.tim = s.tim)
      ∧ (∀ sq, m = .pdelayReq sq → u.tim.answer = some (sq, (advance t s).dev, (advance t s).dev))
      ∧ (∀ sq t3 c t1 t2 t4 c2, m = .pdelayRespFollowUp sq t3 c → s.tim.pdReq = some (sq, t1) → s.tim.pdResp = some (sq, t2, t4, c2) →
          ∃ d : Int, u.tim.delay = some d ∧ u.tim.pdReq = none
            ∧ (2 * d - ((((t4 - t1) * 512 : Nat) : Int) - (((t3 : Int) - t2) * 65536 + c - c2))).natAbs ≤ 1))) ∧
  (∀ (t : Nat) (s : State), Awake s → s.tim.st = 1 →
    Runs (.syncReceiptTimeout t) s (LogOnly { advance t s with
      tim.master := none, tim.sync := none, tim.st := 2, tim.holdAt := (advance t s).dev })) ∧
  (∀ (t : Nat) (s : State), Awake s → s.tim.st = 2 → s.tim.holdAt + 10 * tSec ≤ (advance t s).dev →
    Runs (.timeHoldoverExpiry t) s (fun u => u.tim.st = 0 ∧ u.tim.rho = 0 ∧ u.tim.mapD = (advance t s).dev
      ∧ LogOnly { advance t s with tim := u.tim } u)) ∧
  (∀ (t : Nat) (s : State), 2 ≤ s.desk.st → s.desk.st ≠ 7 → par0 s pTimeSource ≠ 1 → linkUp s (par0 s pTimePort) = true →
    exec (.peerDelayRequest t) s = .next { advance t s with
      tim.pdReq := some (s.tim.pdSeq, (advance t s).dev), tim.pdSeq := (s.tim.pdSeq + 1) % 65536, tim.pdResp := none })

/-- Nerrak's overexposure faults (R287, R288, R289): each raising event latches its fault; in an emitting state the device goes to
SAFE_STOP, both enables fall and HV_CUT_N is asserted or due, while non-volatile memory, calibration, servos and sense channels stay.
Model's own choices: log entries 29, 31. -/
def Obligations.OverexposureFaultsStopEmission : Prop :=
  let hit := fun (b : Nat) (s u : State) =>
    u.nk.faults.getLsbD b = true ∧ u.nv = s.nv ∧ u.cal = s.cal ∧ u.sns = s.sns ∧ u.srv = s.srv ∧ u.tim = s.tim
      ∧ (stEmits s = true → s.nk.faults.getLsbD b = false → s.pins.lsrA = s.pins.lsrB →
          u.desk.st = 6 ∧ u.pins.lsrA = false ∧ u.pins.lsrB = false ∧ (u.pins.hvCut = true ∨ u.nk.cutDue = true))
  (∀ (t n : Nat) (s : State), n < 9500 ∨ 10500 < n → Runs (.clockCheck t n) s (fun u => u.nk.clockBad = true ∧ (nkChecks s = true → hit 9 s u)
    ∧ (nkChecks s = false → u = { advance t s with nk.clockBad := true }))) ∧
  (∀ (t : Nat) (s : State), s.pins.lsrA = true → Runs (.tAbsent t) s (fun u => u.nk.clockBad = true ∧ hit 9 s u)) ∧
  (∀ (t : Nat) (high : Bool) (s : State), headClosed { advance t s with pins.headSw := high } = false →
    Runs (.headSwitch t high) s (fun u => u.pins.headSw = high ∧ hit 7 s u)) ∧
  (∀ (t pin : Nat) (v : Bool) (s : State), pin < 3 → v ≠ (if pin = 0 then s.pins.lsrA else if pin = 1 then s.pins.lsrB else !s.pins.hvCut) →
    Runs (.enableReadback t (pin, some v)) s (fun u => padDiffers { u with pins := s.pins } pin = true ∧ (nkChecks s = true → hit 8 s u)
      ∧ (nkChecks s = false → u = { advance t s with nk.pads := tput none s.nk.pads pin (some v) }))) ∧
  (∀ (t : Nat) (s : State), nkChecks s = true → s.pins.hvFb = true → s.pins.hvCut = true → s.pins.peerCut = true →
    max s.nk.hvAt (max s.nk.cutAt s.nk.peerAt) + 20 * tMs ≤ max s.wall t → Runs (.contactorStuck t) s (hit 10 s)) ∧
  (∀ (t k e : Nat) (st : List Host.Cell) (s : State), k < 4 → nkChecks s = true → governing s = some st →
    inGate (pmon s k) (advance t s).dev = false → sf st 52 4 < e →
    Runs (.strayPulse t k e) s (hit 2 s)) ∧
  (∀ (t item : Nat) (codes : List Nat) (s : State), s.nk.testing = true → s.pins.porstN = true → item ≤ 4 →
    1 ≤ item ∨ (∃ k, k < 4 ∧ (codes.getD k 64 < 32 ∨ 96 < codes.getD k 64)) →
    Runs (.nkSelftest t (item, codes)) s (fun u => u.nk.testing = false ∧ u.nk.passed = false ∧ hit 11 s u))

/-- Nerrak's quiet events complete (R266 to R272, R286, R291, R402): the checks that pass, the pins' levels, the contactor's cut, the grant of
permission, the degraded clock's clearing. Model's own choices: log entries 7, 28, 31, 50. -/
def Obligations.NerrakEventsComplete : Prop :=
  (∀ (t n : Nat) (s : State), 9500 ≤ n → n ≤ 10500 → exec (.clockCheck t n) s = .next { advance t s with nk.clockBad := false }) ∧
  (∀ (t : Nat) (high : Bool) (s : State), headClosed { advance t s with pins.headSw := high } = true →
    Runs (.headSwitch t high) s (fun u => u.pins.headSw = high ∧ u.nk.faults = s.nk.faults ∧ u.desk.st = s.desk.st ∧ u.nv = s.nv)) ∧
  (∀ (t : Nat) (closed : Bool) (s : State), s.pins.hvFb ≠ closed →
    Runs (.hvFbChange t closed) s (fun u => u.pins.hvFb = closed ∧ u.nk.hvAt = max s.wall t ∧ u.nv = s.nv ∧ u.sns = s.sns
      ∧ (closed = true → u.nk.faults.getLsbD 19 = false))) ∧
  (∀ (t : Nat) (s : State), nkChecks s = true → s.pins.hvFb = false → s.pins.hvCut = false → max s.nk.hvAt s.nk.uncutAt + 20 * tMs ≤ max s.wall t →
    Runs (.hvFbOpen t) s (fun u => u.nk.faults.getLsbD 19 = true ∧ u.nv = s.nv ∧ u.sns = s.sns)) ∧
  (∀ (t : Nat) (high : Bool) (s : State), s.pins.peerCut ≠ !high →
    exec (.nkPeerCutNChange t high) s = .next { advance t s with pins.peerCut := !high, nk.peerAt := max s.wall t }) ∧
  (∀ (t : Nat) (s : State), s.nk.cutDue = true → max s.nk.lsrFell s.nk.cutFrom + 5 * tUs / 2 ≤ max s.wall t → wantCut s = true →
    Runs (.hvCutNAssert t) s (fun u => u.pins.hvCut = true ∧ u.nk.cutDue = false ∧ u.nk.cutAt = max s.wall t ∧ u.nv = s.nv)) ∧
  (∀ (t : Nat) (s : State), permOk (advance t s) = true → s.pins.lsrA = false →
    exec (.permissionGrant t) s = .next { advance t s with pins.lsrA := true, pins.lsrB := true, nk.disagree := 0 }) ∧
  (∀ (t mv : Nat) (s : State), s.pins.lsrA = s.pins.lsrB →
    Runs (.vddNkWindowChange t mv) s (fun u => (u.pins.vddNk = true ↔ 752 ≤ mv ∧ mv ≤ 848) ∧ u.nv = s.nv
      ∧ (mv < 752 ∨ 848 < mv → u.pins.hvCut = true ∧ u.pins.lsrA = false ∧ u.pins.lsrB = false))) ∧
  (∀ (t : Nat) (codes : List Nat) (s : State), s.nk.testing = true → s.pins.porstN = true →
    (∀ k, k < 4 → 32 ≤ codes.getD k 64 ∧ codes.getD k 64 ≤ 96) →
    Runs (.nkSelftest t (0, codes)) s (fun u => u.nk.testing = false ∧ u.nk.passed = true
      ∧ (if (List.range 3).any (padDiffers s) then u.nk.faults.getLsbD 8 = true else u.nk.faults = s.nk.faults)
      ∧ (∀ f, s.nv.otpCal = some f → u.nk.gain = f.pmon) ∧ u.nv = s.nv)) ∧
  (∀ (t : Nat) (s : State), s.nk.degOn.isSome = true → 5820000000 * 1280 * 100 ≤ degTicks (advance t s) * 103 →
    Runs (.nkDegradedClock t) s (fun u => u.desk.st = 6 ∧ u.nv = s.nv ∧ u.sns = s.sns)) ∧
  (∀ (t w : Nat) (s : State), s.nk.cleanAt = some w → w + 60 * tSec ≤ max s.wall t → s.desk.st = 4 →
    exec (.degradedClockClear t) s = .next { advance t s with nk.degAcc := 0 })

/-- Nerrak's view of the scan and its ledger (R269, R283, R285, R286): the stall window takes Θ and the advance, an uncorrectable
account rises to its limit and no other changes, and the cap follows the fills at a sub-bin boundary. Model's own choices: log entries 30, 33. -/
def Obligations.NerrakLedgerAndScan : Prop :=
  (∀ (t : Nat) (s : State), 9700 * 1280 * 100 ≤ (max s.wall t - s.nk.stallAt) * 103 →
    let th := thetaN (advance t s) (max s.wall t)
    Runs (.stallWindowEnd t) s (fun u => u.nk.stallAt = max s.wall t ∧ u.nk.stallTh = th ∧ u.nk.stallAdv = (th + 2 ^ 32 - s.nk.stallTh % 2 ^ 32) % 2 ^ 32
      ∧ u.nk.ledger = s.nk.ledger ∧ u.nv = s.nv)) ∧
  (∀ (t : Nat) (s : State), (max s.wall t - s.nk.stallAt) * 103 < 9700 * 1280 * 100 → exec (.stallWindowEnd t) s = .next (advance t s)) ∧
  (∀ (t c : Nat) (st : List Host.Cell) (s : State), nkChecks s = true → governing s = some st → c < 4096 →
    Runs (.ledgerScrub t [c]) s (fun u =>
      (∀ w, w < 3 → (((account u st w c * 128 : Nat) : Int) - (cellLimit s st w c : Nat)).natAbs < 128)
      ∧ (∀ d, d ≠ c → nkCell u d = nkCell s d) ∧ u.nv = s.nv ∧ u.pins.lsrA = s.pins.lsrA)) ∧
  (∀ (t w : Nat) (st : List Host.Cell) (s : State), governing s = some st → w < 3 → (advance t s).dev % subTicks st w = 0 →
    let fs := s.nk.ledger.map (fun p => fill3 (advance t s) st p.1)
    Runs (.subBinBoundary t w) s (fun u => u.nk.ledger = s.nk.ledger ∧ u.nv = s.nv
      ∧ (s.nk.cap = false → (∃ f ∈ fs, 240 ≤ f) → u.nk.cap = true) ∧ (s.nk.cap = true → (∀ f ∈ fs, f < 224) → u.nk.cap = false)))

/-- Pulse monitors and segments (R269, R273 to R281): a sound fire record opens a gate, copies that differ raise FIRE_LOG, a measured gate
leaves the queue, its energy is Q above the baseline and one too high raises ENERGY_HIGH, captures start and re-arm, a baseline fault is
raised, begun again and cleared per channel. Model's own choices: log entries 24, 29, 110, 111. -/
def Obligations.PulseMonitorsRun : Prop :=
  (∀ (t : Nat) (a : FireRec) (rest : List FireRec) (st : List Host.Cell) (s : State), s.nk.links = a :: rest → governing s = some st →
    s.nk.lastSeq = none ∨ s.nk.lastSeq = some (a.seq - 1) ∧ 1 ≤ a.seq →
    (sMask st).testBit a.str = true → sScale st (8 * a.str + a.em) ≠ 0 → a.iset ≤ sf st 42 2 →
    (∀ g, (pmon s (a.str % 4)).last = some g → g.stop + 5 * tNs ≤ a.stamp) →
    Runs (.fireRecord t .asSent .asSent) s (fun u => u.nk.links = rest ∧ u.nk.lastSeq = some a.seq ∧ u.nk.faults = s.nk.faults
      ∧ u.nk.ledger = s.nk.ledger ∧ u.nv = s.nv ∧ u.sch = s.sch
      ∧ ∃ g : Gate, (pmon u (a.str % 4)).gates = (pmon s (a.str % 4)).gates ++ [g] ∧ g.str = a.str ∧ g.em = a.em ∧ g.stamp = a.stamp
          ∧ g.stop = a.stamp + par0 s pNkIntegGate * 32)) ∧
  (∀ (t : Nat) (a b : LinkRx) (sent : FireRec) (rest : List FireRec) (s : State), s.nk.links = sent :: rest → linkCopy a sent ≠ linkCopy b sent →
    Runs (.fireRecord t a b) s (fun u => u.nk.links = rest ∧ u.nk.faults.getLsbD 3 = true ∧ u.nv = s.nv)) ∧
  (∀ (t k : Nat) (gate outside : List Nat) (g : Gate) (rest : List Gate) (st : List Host.Cell) (s : State), k < 4 → governing s = some st →
    (pmon s k).gates = g :: rest → g.stop ≤ (advance t s).dev → gate.length * 32 = g.stop - g.stamp →
    let base := (outside.reverse ++ (pmon s k).base).take 256
    let q := gateSum gate base
    let em := energyOf s st g.str k q.1 q.2
    Runs (.integrationDone t k (gate, outside)) s (fun u => (pmon u k).gates = rest ∧ (pmon u k).base = base ∧ u.nv = s.nv ∧ u.sns = s.sns ∧ u.cal = s.cal
      ∧ (base ≠ [] → (pmon s k).active = false → 6 * (g.ex : Int) < 5 * em → ((sf st 52 4 : Nat) : Int) < em - g.ex → u.nk.faults.getLsbD 1 = true))) ∧
  (∀ (t k trig : Nat) (before xs : List Nat) (s : State), k < 4 → xs.length = 64 → trigOk s k (pmon s k) trig before xs = true → (pmon s k).busy = none →
    Runs (.segmentTrigger t k trig (before, xs)) s (fun u =>
      (pmon u k).busy = some ((advance t s).dev - par0 s pNkPretrigger * 32 + 63 * 32) ∧ u.nk.faults = s.nk.faults ∧ u.nv = s.nv ∧ u.sch = s.sch)) ∧
  (∀ (t k e : Nat) (s : State), k < 4 → (pmon s k).busy = some e → e ≤ (advance t s).dev →
    Runs (.segmentRearm t k) s (fun u => pmon u k = { pmon s k with busy := none } ∧ (∀ j, j ≠ k → pmon u j = pmon s j)
      ∧ (∀ g ∈ u.nk.segs, g.chan = k → g.gate = none → g.known = true)
      ∧ u.nk.faults = s.nk.faults ∧ u.nk.ledger = s.nk.ledger ∧ u.nv = s.nv ∧ u.sns = s.sns ∧ u.sch = s.sch)) ∧
  (∀ (t k code : Nat) (s : State), k < 4 → code < 32 ∨ 96 < code → (pmon s k).active = false →
    Runs (.pmonBaselineFault t (k, code)) s (fun u => (pmon u k).active = true ∧ (pmon u k).at_ = max s.wall t ∧ u.nk.faults.getLsbD 16 = true ∧ u.nv = s.nv)) ∧
  (∀ (t k code : Nat) (s : State), k < 4 → code < 32 ∨ 96 < code → (pmon s k).active = true →
    exec (.pmonBaselineFault t (k, code)) s = .next (setPmon (advance t s) k { pmon s k with baseOk := false, at_ := max s.wall t })) ∧
  (∀ (t k code : Nat) (s : State), k < 4 → 32 ≤ code → code ≤ 96 → (pmon s k).active = true → (pmon s k).at_ + 100 * tMs ≤ max s.wall t → 16 ≤ (pmon s k).clean →
    (pmon s k).lowHad = false →
    Runs (.pmonChannelClear t (k, code)) s (fun u => (pmon u k).active = false ∧ u.nv = s.nv
      ∧ ((∀ j, j < 4 → j ≠ k → (pmon s j).active = false) → u.nk.faults.getLsbD 16 = false)))

/-- Commissioning (R298, R299, R302, R556): NK_COMMISSION enters and leaves, NK_SET_WRITE fills the candidate and voids the nonce,
NK_CONFIRM gives a nonce and then waits for the record, whose verification confirms the set; its timeout, or a write block, keeps the earlier one.
Model's own choices: log entries 20, 51, 112, 118. -/
def Obligations.CommissioningRuns : Prop :=
  (∀ (t : Nat) (r : Req) (s : State), Ready r s → r.mb = 4 → r.payload = le 1 1 ++ zeros 3 → s.desk.st = 2 → itinReady s = true → s.cal.factory = none →
    let c := s.nk.conf.getD []
    headOpen { s with desk.st := 3, nk.cand := c, nk.candOk := (setInvalid c).isNone } = false →
    Runs (.nkCommission t r) s (fun u => Answered r 0x0C10 rOK [] u ∧ u.desk.st = 3 ∧ u.nk.cand = c
      ∧ u.nk.nonce = none ∧ u.nv = s.nv ∧ u.sns = s.sns ∧ u.cal = s.cal ∧ u.tim = s.tim)) ∧
  (∀ (t : Nat) (r : Req) (s : State), Ready r s → r.mb = 4 → r.payload = le 1 2 ++ zeros 3 → s.desk.st = 3 →
    Runs (.nkCommission t r) s (fun u => Answered r 0x0C10 rOK [] u ∧ u.nv = s.nv ∧ u.sns = s.sns
      ∧ (s.sch.running = true → u.desk.st = 3 ∧ u.desk.pendExit = true) ∧ (s.sch.running = false → u.desk.st = 2))) ∧
  (∀ (t : Nat) (r : Req) (s : State), Ready r s → r.mb = 4 → s.desk.st = 3 →
    let o := fld r.payload 0 2
    let n := fld r.payload 2 2
    r.payload.length = 4 + n → o + n ≤ 1984 → 1 ≤ n → n ≤ 240 → s.nk.wrHeld = false →
    let c := cputs 0 s.nk.cand o (r.payload.drop 4)
    headOpen { s with nk.cand := c, nk.candOk := (setInvalid c).isNone } = false →
    Runs (.nkSetWrite t r) s (fun u => Answered r 0x0C11 rOK [] u ∧ u.nk.cand = c
      ∧ u.nk.candOk = (setInvalid u.nk.cand).isNone ∧ u.nk.nonce = none ∧ u.nk.conf = s.nk.conf ∧ u.nv = s.nv ∧ u.desk.st = 3)) ∧
  (∀ (t : Nat) (r : Req) (s : State), Ready r s → r.mb = 4 → s.desk.st = 3 → r.payload = le 1 1 ++ zeros 11 → setInvalid s.nk.cand = none →
    Runs (.nkConfirm t r) s (fun u => ∃ n p, n < 2 ^ 32 ∧ p.length = 16 ∧ p.take 10 = le 4 n ++ le 4 (sf s.nk.cand 4 4) ++ le 2 0xFFFF
      ∧ Answered r 0x0C12 rOK p u ∧ DeskOnly 4 { advance t s with nk.nonce := some (n, max s.wall t) } u)) ∧
  (∀ (t n a : Nat) (r : Req) (s : State), Ready r s → r.mb = 4 → s.desk.st = 3 → s.nk.nonce = some (n, a) → n < 2 ^ 32 → max s.wall t ≤ a + 10 * tSec →
    r.payload = le 1 2 ++ zeros 3 ++ le 4 n ++ le 4 (setCheck s.nk.cand) → s.nk.wrHeld = false →
    Runs (.nkConfirm t r) s (fun u => (mb u 4).st = 1
      ∧ DeskOnly 4 { advance t s with nk.nonce := none, nk.confirm := some (4, r.tag, max s.wall t) } u)) ∧
  (∀ (t k tag a : Nat) (s : State), Awake s → s.nk.confirm = some (k, tag, a) → max s.wall t ≤ a + 2 * tSec → s.nk.wrHeld = false →
    s.desk.st = 3 ∨ s.par.awaiting = [] →
    Runs (.nkSetConfirmed t) s (fun u => u.nk.conf = some s.nk.cand ∧ u.nk.confirm = none ∧ u.desk.confirmed = true
      ∧ (mb u k).st = 2 ∧ (mb u k).lastResult = rOK ∧ u.nv.calFile = s.nv.calFile
      ∧ (∃ c j, j < 2 ∧ setCopy u j = (s.nk.cand, some c) ∧ setCopy u (1 - j) = setCopy s (1 - j)
          ∧ (setReasonOf s (setGov s) = 0 → j ≠ setGov s) ∧ (∀ i, i < 2 → setCount s i < c.count) ∧ c.check = setCheck s.nk.cand ∧ c.serial = s.nv.serial
          ∧ c.sig = signRecord (recordBytes c.check c.setId c.serial c.count) s.nv.signs)
      ∧ (s.desk.st = 3 → s.sch.running = false → u.desk.st = 2))) ∧
  (∀ (t k tag a : Nat) (s : State), Awake s → s.nk.confirm = some (k, tag, a) → max s.wall t ≤ a + 2 * tSec → s.nk.wrHeld = true →
    Runs (.nkSetConfirmed t) s (fun u => u.nk.confirm = none ∧ (mb u k).st = 2 ∧ (mb u k).lastResult = rSafetyLocked
      ∧ u.nv = s.nv ∧ u.nk.conf = s.nk.conf ∧ u.desk.st = s.desk.st)) ∧
  (∀ (t k tag a : Nat) (s : State), Awake s → s.nk.confirm = some (k, tag, a) → a + 2 * tSec ≤ max s.wall t →
    Runs (.confirmWriteTimeout t) s (fun u => u.nk.confirm = none ∧ (mb u k).st = 2 ∧ (mb u k).lastResult = rTimeout
      ∧ u.nv = s.nv ∧ u.nk.conf = s.nk.conf ∧ u.desk.st = s.desk.st))

/-- Nerrak's reads (R285, R287) and NK_FAULT_CLEAR (R303): the reads change nothing, and the clear answers the latches that remain, with every fault
whose raising condition is absent cleared. Model's own choices: log entries 28, 32, 33. -/
def Obligations.NerrakReadsAndClear : Prop :=
  (∀ (t : Nat) (r : Req) (s : State), Ready r s → r.payload = [] →
    CompletesOk (.nkStatusRead t r) r 0x0C13 s (advance t s)
      (fun p => p.length = 40 ∧ (p.drop 4).take 4 = le 4 s.nk.faults.toNat)) ∧
  (∀ (t : Nat) (r : Req) (s : State), Ready r s → r.payload.length = 4 → fld r.payload 0 1 ≤ 15 → fld r.payload 1 1 ≤ 2 → fld r.payload 2 2 = 0 →
    CompletesOk (.nkLedgerRead t r) r 0x0C14 s (advance t s)
      (fun p => p.length = 48 ∧ p.take 2 = le 1 (fld r.payload 0 1) ++ le 1 (fld r.payload 1 1))) ∧
  (∀ (t : Nat) (r : Req) (s : State), Ready r s → r.mb = 4 → r.payload = [] → s.desk.st = 2 ∨ s.desk.st = 6 →
    Runs (.nkFaultClear t r) s (fun u => Answered r 0x0C15 rOK (le 4 (oFaults u).toNat) u ∧ u.nv = s.nv ∧ u.desk.st = s.desk.st
      ∧ (∀ b, b < 12 → faultAbsent (advance t s) b = true → u.nk.faults.getLsbD b = false)
      ∧ (∀ b, b < 12 → faultAbsent (advance t s) b = false → u.nk.faults.getLsbD b = s.nk.faults.getLsbD b)))

/-- The servo and timing-port commands complete (R237 to R240): a law waits for the next sample, table entries reach the shadow, the
status read changes nothing, and TP_READ removes the stamps it returns. Model's own choice: log entry 48. -/
def Obligations.ServoCommandsComplete : Prop :=
  (∀ (t : Nat) (r : Req) (s : State), Ready r s → r.payload.length = 20 →
    let n := fld r.payload 0 1
    let m := fld r.payload 1 1
    let o := fld r.payload 2 1
    let b := (List.range 4).map (fun i => fldI r.payload (4 + 2 * i) 2)
    let a := (List.range 3).map (fun i => fldI r.payload (12 + 2 * i) 2)
    n < 4 → 1 ≤ m → m ≤ 3 → o = 3 ∨ o = 2 ∧ b.getD 3 0 = 0 ∧ a.getD 2 0 = 0 → fld r.payload 3 1 ≤ 8 → fld r.payload 18 2 = 0 →
    CompletesOk (.servoLawWrite t r) r 0x0610 s
      (setServo (advance t s) n { servo s n with
        lawDue := tput none (servo s n).lawDue m (some { order := o, b := b, a := a, shift := fld r.payload 3 1 }) })
      (fun p => p = le 1 n ++ le 1 m ++ le 2 0)) ∧
  (∀ (t : Nat) (r : Req) (s : State), Ready r s →
    let n := fld r.payload 0 1
    let tb := fld r.payload 1 1
    let first := fld r.payload 4 2
    let cnt := fld r.payload 6 2
    let e := fun i => fldI r.payload (8 + 2 * i) 2
    r.payload.length = 8 + 2 * cnt → n < 4 → tb ≤ 1 → fld r.payload 2 1 ≤ 1 → fld r.payload 3 1 = 0 → cnt ≤ 112 → first ≤ 1023 → first + cnt ≤ 1024 →
    (tb = 1 → ∀ i, i < cnt → 0 ≤ e i) →
    Runs (.servoTableWrite t r) s (fun u => Answered r 0x0611 rOK (le 1 n ++ le 1 tb ++ le 2 cnt) u
      ∧ DeskOnly r.mb { advance t s with srv := u.srv } u ∧ (∀ k, k ≠ n → servo u k = servo s k)
      ∧ (servo u n).cog = (servo s n).cog ∧ (servo u n).fri = (servo s n).fri
      ∧ (∀ i, i < cnt → tget 0 (if tb = 0 then (servo u n).cogSh else (servo u n).friSh) (first + i) = e i)
      ∧ (fld r.payload 2 1 = 1 → (if tb = 0 then (servo u n).cogDue else (servo u n).friDue) = true))) ∧
  (∀ (t : Nat) (r : Req) (s : State), Ready r s → r.payload.length = 4 → fld r.payload 0 1 ≤ 3 → allZero (r.payload.drop 1) = true →
    CompletesOk (.servoStatusRead t r) r 0x0612 s (advance t s)
      (fun p => p.length = 36 ∧ p.take 2 = le 1 (fld r.payload 0 1) ++ le 1 (servo s (fld r.payload 0 1)).mode)) ∧
  (∀ (t : Nat) (r : Req) (s : State), Ready r s → r.payload.length = 4 → fld r.payload 0 1 ≤ 15 → fld r.payload 1 1 ≤ 26 → fld r.payload 2 2 = 0 →
    let p := fld r.payload 0 1
    let x := tport s p
    let out := x.queue.take (fld r.payload 1 1)
    CompletesOk (.tpRead t r) r 0x0613 s (setTport (advance t s) p { x with queue := x.queue.drop (fld r.payload 1 1) })
      (fun b => b.take 2 = le 1 p ++ le 1 out.length
        ∧ b.drop 36 = out.flatMap (fun e => le 8 (e.1 % 2 ^ 63 + b2n e.2 * 2 ^ 63))))

/-- A servo sample and the polygon's marks (R214, R215, R222, R282): the command stays on 16 bits and drives one sample later, other
servos keep theirs; a polygon mark reaches Nerrak, and over every port of source 2 that selects the edge the servos of that port; an
overdue mark is a feedback fault. Model's own choices: log entries 7, 49, 108, 109. -/
def Obligations.ServoEventsComplete : Prop :=
  (∀ (t n : Nat) (x : Int) (s : State), n < 4 → servosRun s = true → -32768 ≤ x → x ≤ 32767 → sampleDue (advance t s) n = true →
    Runs (.servoSample t n x) s (fun u =>
      (servo u n).x = x ∧ (servo u n).at_ = some (advance t s).dev ∧ (servo u n).mode = par s pServoMode n ∧ (servo u n).drv = (takeAdopted (servo s n)).u ∧ (∀ k, k ≠ n → servo u k = servo s k)
      ∧ (-32768 ≤ (takeAdopted (servo s n)).u → (takeAdopted (servo s n)).u ≤ 32767 → -32768 ≤ (servo u n).u ∧ (servo u n).u ≤ 32767)
      ∧ u.nv = s.nv ∧ u.sns = s.sns ∧ u.cal = s.cal)) ∧
  (∀ (t raw : Nat) (s : State), raw < 64 → servosRun s = true →
    let stamp := coarse (advance t s) * 64 + raw
    Runs (.polyMark t raw) s (fun u => u.nv = s.nv ∧ u.sns = s.sns
      ∧ (∀ m, markAccept s.nk.marks (wallOf (advance t s) stamp) = some m → u.nk.marks = m)
      ∧ (∀ q n m, q < 16 → par s pTpSource q = 2 → (par s pTpEdge q).testBit 0 = true → (∀ e, (tport s q).hold = some e → e ≤ (advance t s).dev) →
          n < 4 → (servo s n).port = q → markAccept (servo s n).marks stamp = some m → (servo u n).marks = m)
      ∧ (∀ n, n < 4 → par s pTpSource (servo s n).port ≠ 2 → servo u n = servo s n))) ∧
  (∀ (t a p : Nat) (s : State), servosRun s = true →
    let v := servo s (polyNo s)
    v.marks.ta = some a → v.marks.tm = some p → v.marks.missing = false → 3 * p ≤ 2 * ((advance t s).dev - a) →
    Runs (.markMissing t) s (LogOnly { setServo (advance t s) (polyNo s) { v with marks.missing := true } with srv.poly.fault := true }))

/-- The timing ports (R232 to R235): an edge of its source outside the hold-off is stamped to one tick, starts the hold-off and enters the
queue while it holds fewer than 64, at every port that takes the source, none at an Off port; a hold-off ends, a gate hands its stamps to the regression, and its result becomes valid.
Model's own choices: log entries 7, 87, 109. -/
def Obligations.TimingPortsRun : Prop :=
  (∀ (t p raw : Nat) (rising : Bool) (s : State), p < 16 → raw < 64 → servosRun s = true → par s pTpSource p ≠ 7 →
    (par s pTpEdge p).testBit (if rising then 0 else 1) = true → (∀ e, (tport s p).hold = some e → e ≤ (advance t s).dev) →
    let stamp := coarse (advance t s) * 64 + raw
    let q := (tport s p).queue
    Runs (.tpEdge t p raw rising) s (fun u => (par s pTpSource p ≠ 2 → LogOnly { advance t s with srv := u.srv, ic := u.ic } u)
      ∧ (tport u p).hold = some (stamp + par s pTpHoldoff p * 64) ∧ (tport u p).queue = (if q.length < 64 then q ++ [(stamp, rising)] else q)
      ∧ (∀ k, k ≠ p → par s pTpSource p = 0 ∨ par s pTpSource k ≠ par s pTpSource p → tport u k = tport s k))) ∧
  (∀ (t p raw e : Nat) (rising : Bool) (s : State), p < 16 → servosRun s = true → par s pTpSource p ≠ 7 →
    (par s pTpEdge p).testBit (if rising then 0 else 1) = true → (tport s p).hold = some e → (advance t s).dev < e →
    Runs (.tpEdge t p raw rising) s (fun u => tport u p = { tport s p with heldOff := (tport s p).heldOff + 1 }
      ∧ (par s pTpSource p = 0 → u = { setTport (advance t s) p { tport s p with heldOff := (tport s p).heldOff + 1 } with ic := u.ic, free := u.free }))) ∧
  (∀ (t p raw : Nat) (rising : Bool) (s : State), par s pTpSource p = 7 → exec (.tpEdge t p raw rising) s = .next (advance t s)) ∧
  (∀ (t p e : Nat) (s : State), p < 16 → Awake s → (tport s p).hold = some e → e ≤ (advance t s).dev →
    exec (.tpHoldoffEnd t p) s = .next (setTport (advance t s) p { tport s p with hold := none })) ∧
  (∀ (t p : Nat) (s : State), p < 16 → servosRun s = true →
    let x := tport s p
    let stop := x.gate + par s pTpGate p * tUs
    stop ≤ (advance t s).dev →
    Runs (.tpGateEnd t p) s (fun u => LogOnly { advance t s with srv := u.srv } u
      ∧ (tport u p).gate = stop ∧ (tport u p).stamps = [] ∧ (tport u p).queue = x.queue
      ∧ (tport u p).fitting = (if x.stamps.length < 2 then none else some (stop, x.stamps, x.unused)))) ∧
  (∀ (t p stop k : Nat) (ts : List Nat) (s : State), p < 16 → Awake s → (tport s p).fitting = some (stop, ts, k) →
    exec (.tpGateResult t p) s = .next (setTport (advance t s) p { tport s p with
      fitting := none, valid := true, full := decide (0 < k), gateEnd := stop, period := (regress ts).1, used := ts.length, resid := (regress ts).2 }))

/-- Line starts and ends (R182, R185, R186, R424): a line-start event that finds the scheduler ready runs the next line from its first
slot, also after a line whose slots are over, one that finds slots left counts them first and ends the frame's last line; one of another
facet or another head's turn is passed and counted, one that finds the scheduler not ready or the frame's last line over is passed; the first
after a truncated FBE hands line 0's elevation; after the last slot the line's shed counts start again.
Model's own choices: log entries 7, 36, 37, 38, 39. -/
def Obligations.LinesRun : Prop :=
  (∀ (t facet : Nat) (s : State),
    let a := advance t s
    let run : LineRun :=
      { line := s.sch.nextLine, tls := coarse a, facet := facet, p := linePeriod s.par.inForce.itin s.sch.nextLine
        slots := lineSlots (pvForce s) s.par.inForce.itin s.sch.nextLine }
    twinMode s = false → servosRun s = true → s.par.inForce.itinHas = true → lineHanded a facet = true → s.sch.rehand = false →
    elevSettled s = true →
    (lineReady a = false ∨ s.sch.truncated = true → Runs (.lineStart t facet) s (fun u =>
      u.srv.poly.lastLs = (handedPass a facet).map (fun q => (facet, q)) ∧ u = { a with srv := u.srv })) ∧
    (lineReady a = true → s.sch.truncated = false → facetOk facet s = true → turnOk a = false →
      s.sch.line = none ∧ s.sch.fbeAt = none ∨ (∃ l, s.sch.line = some l ∧ (lineOpen s l = true ∨ l.line + 1 ≠ lineCount s)) →
      Runs (.lineStart t facet) s (fun u => u.twn.turnC = s.twn.turnC.add 1 ∧ LogOnly { a with srv := u.srv, twn := u.twn } u)) ∧
    (∀ l, lineReady a = true → s.sch.truncated = false → s.sch.line = some l → lineOpen s l = false → l.line + 1 = lineCount s →
      Runs (.lineStart t facet) s (fun u => u = { a with srv := u.srv })) ∧
    (lineReady a = true → s.sch.truncated = false → turnOk a = true →
    Runs (.lineStart t facet) s (fun u => u.srv.poly.lastLs = (handedPass a facet).map (fun q => (facet, q)) ∧ SealsJudged { a with
          amb := u.amb, ch := u.ch, ic := u.ic, mot := u.mot, nk := u.nk, sch := u.sch, srv := u.srv, str := u.str, twn := u.twn } u
      ∧ (facetOk facet s = true → s.sch.fbeAt = none → s.sch.line = none →
          u.sch.line = some run ∧ u.sch.nextLine = lineAfter s s.sch.nextLine ∧ u.sch.overrun = s.sch.overrun ∧ ∀ i, i < 16 → (strng u i).nextSlot = 0)
      ∧ (∀ l, facetOk facet s = true → s.sch.fbeAt = none → s.sch.line = some l → lineOpen s l = true → l.line + 1 ≠ lineCount s →
          u.sch.line = some run ∧ u.sch.overrun = s.sch.overrun.add (slotsLeft s l) ∧ ∀ i, i < 16 → (strng u i).nextSlot = 0)
      ∧ (∀ l, facetOk facet s = true → s.sch.line = some l → lineOpen s l = false → l.line + 1 ≠ lineCount s →
          u.sch.line = some run ∧ u.sch.nextLine = lineAfter s s.sch.nextLine ∧ u.sch.overrun = s.sch.overrun
          ∧ ∀ i, i < 16 → (strng u i).nextSlot = 0)
      ∧ (∀ l, facetOk facet s = true → s.sch.line = some l → lineOpen s l = true → l.line + 1 = lineCount s →
          u.sch.line = none ∧ u.sch.overrun = s.sch.overrun.add (slotsLeft s l) ∧ u.sch.fbeAt.isSome = true)
      ∧ (facetOk facet s = false →
          s.sch.line = none ∧ s.sch.fbeAt = none ∨ (∃ l, s.sch.line = some l ∧ (lineOpen s l = true ∨ l.line + 1 ≠ lineCount s)) →
          u.sch.line = s.sch.line ∧ u.sch.facetW = s.sch.facetW.add 1)))) ∧
  (∀ (t facet : Nat) (s : State),
    let a := advance t s
    let g := par0 s pEmitGalvoServo
    twinMode s = false → servosRun s = true → s.par.inForce.itinHas = true → lineHanded a facet = true → s.sch.rehand = true → emitting s = true →
    g < 4 → lineElev s.par.inForce.itin 0 ≠ 0x8000 →
    Runs (.lineStart t facet) s (fun u => (servo u g).due = some (sgn 16 (lineElev s.par.inForce.itin 0)) ∧ u.sch = { s.sch with rehand := false }
      ∧ LogOnly { a with sch := u.sch, srv := u.srv } u)) ∧
  (∀ (t : Nat) (l : LineRun) (s : State), Awake s → s.sch.line = some l → l.tls + l.slots * l.p ≤ coarse (advance t s) → s.sch.elevSent = false →
    Runs (.lineEnd t) s (fun u => u.sch = { s.sch with elevSent := true }
      ∧ (∀ c, c < 1024 → (ch u c).lnQueued = 0 ∧ (ch u c).lnShed = 0) ∧ (twinMode s = false → u.twn = s.twn)
      ∧ LogOnly { advance t s with ch := u.ch, sch := u.sch, srv := u.srv, str := u.str, twn := u.twn } u))

/-- A set instant (R96, R99, R188, R192, R195): the slot draws from the string's registers; a selected, present, permitted emitter gets
an edge in whole coarse cycles after its nominal one and 15 ns after the last, its FIRE trim, ISET at most the ceiling and its shunt; any other slot
places nothing. Other strings keep theirs. Model's own choices: log entries 12, 37. -/
def Obligations.SetInstantPlacesShots : Prop :=
  ∀ (t i : Nat) (l : LineRun) (s : State), Awake s → i < 16 → s.sch.line = some l →
    let a := advance t s
    let q := (strng s i).nextSlot
    let dr := drawSlot s (strng s i) q
    let e := dr.1.perm.getD (q % 8) 0
    let e0 := nominalEdge s l i q + dr.2 * 64
    q < l.slots → setCycle s l i q ≤ coarse a →
    Runs (.setInstant t i) s (fun u =>
      (strng u i).nextSlot = q + 1 ∧ (strng u i).order = dr.1.order ∧ (strng u i).dither = dr.1.dither ∧ (∀ k, k ≠ i → strng u k = strng s k)
      ∧ u.sch.frameShots = s.sch.frameShots ∧ u.sch.line = s.sch.line
      ∧ SealsJudged { a with sch := u.sch, twn := u.twn } u
      ∧ ∀ ci cell pt x, cellAt (lineCells (pvForce s) s.par.inForce.itin l.line) 0 0 0 (q / 8) = some (ci, cell, pt, x) →
        if bit (cell.masks.getD i 0) e = true ∧ bit (present s i) e = true ∧ emitting s = true ∧ s.sch.notBefore ≤ e0 + sepShift s e0 * 64 ∧ q / 8 % s.sch.rdiv = 0 then
          ∃ p, (strng u i).placed = some p ∧ p.slot = q ∧ p.em = e ∧ p.edge = e0 + sepShift s e0 * 64 ∧ p.launch = 16 * (p.edge : Int) - tget 0 s.cal.fire i ∧ p.iset ≤ s.sch.ceil
            ∧ u.sch.lastEdge = some p.edge ∧ (∀ b, s.sch.lastEdge = some b → b + 1920 ≤ p.edge)
            ∧ (strng u i).shunt = (if p.drive then 2 ^ e else 0) ∧ (strng u i).iset = (if p.drive then p.iset else 0)
        else (strng u i).placed = none ∧ (strng u i).shunt = 0 ∧ u.sch.lastEdge = s.sch.lastEdge
            ∧ (twinMode s = false → (strng u i).iset = (strng s i).iset))

/-- Fire edges (R187, R190 to R193, R411): at its edge a driven shot raises FIRE, is counted and its fire record sent, FIRE falls after its width, the shunts
return 50 ns after the edge while ISET holds; a standby keeps the first line copy whose check is valid.
Model's own choices: log entries 7, 35. -/
def Obligations.ShotsFire : Prop :=
  (∀ (t i : Nat) (p : Placed) (l : LineRun) (s : State), Awake s → (strng s i).placed = some p → p.drive = true → p.edge ≤ (advance t s).dev →
    s.sch.line = some l → (cellAt (lineCells (pvForce s) s.par.inForce.itin l.line) 0 0 0 (p.slot / 8)).isSome = true →
    Runs (.fireEdge t i) s (fun u =>
      (strng u i).fire = true ∧ (strng u i).fireEdge = p.edge ∧ (strng u i).placed = none ∧ (strng u i).iset = (strng s i).iset
      ∧ (∀ k, k ≠ i → strng u k = strng s k) ∧ u.sch.fired = s.sch.fired + 1 ∧ u.sch.frameShots = s.sch.frameShots + 1
      ∧ u.sch.shifts = s.sch.shifts + b2n p.shift ∧ u.sch.shots.head?.map (fun h => (h.str, h.em, h.stamp)) = some (i, p.em, p.edge)
      ∧ u.nk = { s.nk with
          links := s.nk.links ++ [{ str := i, em := p.em, stamp := p.edge, iset := p.iset, seq := s.nk.sendSeq }], sendSeq := s.nk.sendSeq + 1 }
      ∧ LogOnly { advance t s with amb.interval := u.amb.interval, ch := u.ch, nk := u.nk, sch := u.sch, tal := u.tal } u)) ∧
  (∀ (t i : Nat) (s : State), Awake s → (strng s i).fire = true → (strng s i).fireEdge + par0 s pEmitFireWidth * 64 ≤ (advance t s).dev →
    exec (.fireWidthEnd t i) s = .next (setStrng (advance t s) i { strng s i with fire := false })) ∧
  (∀ (t i : Nat) (s : State), Awake s → (strng s i).shunt ≠ 0 → (strng s i).holdEdge + 6400 ≤ (advance t s).dev →
    exec (.shuntHoldEnd t i) s = .next (setStrng (advance t s) i { strng s i with shunt := 0 })) ∧
  (∀ (t : Nat) (b : List Byte) (s : State), twinMode s = true → s.twn.owner = false → 2 ≤ s.desk.st → s.desk.st ≠ 7 → s.twn.copy = none →
    exec (.lineCopy t b) s = .next (if copyCheckOk b then { advance t s with twn.copy := some (b, (advance t s).dev), twn.copyBad := false }
      else { advance t s with twn.copyBad := true }))

/-- The channel commands complete (R54, R77 to R79): CHMAP_WRITE puts its entries into the shadow and no others, CHMAP_READ returns a
set's entries, CH_COUNTERS_READ returns and clears, CH_EVENT_CAPTURE starts the capture, and the capture's end answers its request.
Model's own choice: log entry 1. -/
def Obligations.ChannelCommandsComplete : Prop :=
  (∀ (t : Nat) (r : Req) (s : State), Ready r s →
    let first := fld r.payload 0 2
    let n := fld r.payload 2 2
    r.payload.length = 4 + 24 * n → 1 ≤ n → n ≤ 10 → first + n ≤ 1024 → mapFail first r.payload n 0 = none →
    Runs (.chmapWrite t r) s (fun u => Answered r 0x0110 rOK (le 2 65535 ++ le 1 0 ++ le 1 0) u
      ∧ DeskOnly r.mb { advance t s with par.shadow.chmap := u.par.shadow.chmap } u
      ∧ (∀ i, i < n → setMap u.par.shadow (first + i) = (parseMap (first + i) ((r.payload.drop (4 + 24 * i)).take 24)).1)
      ∧ ∀ c, c < first ∨ first + n ≤ c → setMap u.par.shadow c = setMap s.par.shadow c)) ∧
  (∀ (t : Nat) (r : Req) (s : State), Ready r s → r.payload.length = 8 →
    let first := fld r.payload 0 2
    let n := fld r.payload 2 2
    1 ≤ n → n ≤ 10 → first + n ≤ 1024 → fld r.payload 4 1 ≤ 1 → allZero (r.payload.drop 5) = true →
    CompletesOk (.chmapRead t r) r 0x0111 s (advance t s) (fun p =>
      p = le 2 first ++ le 2 n ++ (List.range n).flatMap
        (fun i => mapBytes (setMap (if fld r.payload 4 1 = 0 then s.par.shadow else s.par.inForce) (first + i))))) ∧
  (∀ (t : Nat) (r : Req) (s : State), Ready r s → r.payload.length = 4 → fld r.payload 0 2 ≤ 1023 → fld r.payload 2 2 < 4 →
    let x := ch s (fld r.payload 0 2)
    let a := bit (fld r.payload 2 2) 0
    let b := bit (fld r.payload 2 2) 1
    CompletesOk (.chCountersRead t r) r 0x0112 s (setCh (advance t s) (fld r.payload 0 2) { x with
        shedTotal := x.shedTotal.clear a b, attrOver := x.attrOver.clear a b, satPoints := x.satPoints.clear a b
        stamped := if a then 0 else x.stamped, queued := if a then 0 else x.queued })
      (fun p => p.take 2 = le 2 (fld r.payload 0 2) ∧ p.drop 4 = le 4 x.shedTotal.val.toNat ++ le 8 x.stamped ++ le 8 x.queued
        ++ le 4 x.attrOver.val.toNat ++ le 4 x.satPoints.val)) ∧
  (∀ (t : Nat) (r : Req) (s : State), Ready r s → r.payload.length = 8 → s.capture = none →
    let n := fld r.payload 2 2
    let us := fld r.payload 4 4
    fld r.payload 0 2 ≤ 1023 → 1 ≤ n → n ≤ 29 → 1 ≤ us → us ≤ 1000000 →
    let k : Capture := { chan := fld r.payload 0 2, count := n, until_ := (advance t s).dev + us * tUs, stamps := [], mb := r.mb, tag := r.tag }
    Runs (.chEventCapture t r) s (fun u => (mb u r.mb).st = 1 ∧ DeskOnly r.mb { advance t s with capture := some k } u)) ∧
  (∀ (t : Nat) (k : Capture) (s : State), Awake s → s.capture = some k → k.mb < 8 → k.stamps.length ≤ 29 → (mb s k.mb).origin = none →
    k.count ≤ k.stamps.length ∨ k.until_ ≤ (advance t s).dev →
    Runs (.captureDone t) s (fun u => DeskOnly k.mb { advance t s with capture := none } u
      ∧ Answered { mb := k.mb, tag := k.tag, payload := [] } 0x0113 (if k.count ≤ k.stamps.length then rOK else rTimeout)
          (le 2 k.chan ++ le 2 k.stamps.length ++ le 4 0 ++ k.stamps.flatMap (le 8)) u))

/-- Detector events (R50 to R53, R59, R61, R69, R83, R89 to R91, R305): an armed channel disarms and stamps the event in its coarse cycle by
its raw code, a window that covers it makes it pending; re-arming, stuck-high and the gate's decision, by the set that governs the event,
act on that channel alone: a refused event counts, a passed one enters a queue of eight 22-bit words, or is shed.
Model's own choices: log entries 7, 87, 96. -/
def Obligations.ChannelEventsComplete : Prop :=
  (∀ (t c passed : Nat) (s : State), c < 1024 → detectorsRun s = true → (ch s c).armed = true → chEnabled s c = true → inOutage s c = false →
    let a := advance t s
    Runs (.detectorEvent t c passed) s (fun u => ∃ f, f < 64 ∧ (ch u c).armed = false ∧ (ch u c).det = true ∧ (ch u c).detSince = a.dev
      ∧ (ch u c).last = coarse a * 64 + f ∧ (ch u c).stamped = (ch s c).stamped + 1 ∧ (ch u c).recent.head? = some (coarse a * 64 + f)
      ∧ (∃ k, f = fineCode (calCh s c) (rawCode (calCh s c).mask passed) k)
      ∧ (covering a c (coarse a * 64 + f) = [] → (ch u c).pend = (ch s c).pend)
      ∧ (∀ sh l, covering a c (coarse a * 64 + f) = sh :: l → (ch u c).pend = (ch s c).pend
          ++ [{ stamp := coarse a * 64 + f, gen := sh.gen, out := !inRegion a c (coarse a * 64 + f) (ch s c).region }])
      ∧ (ch u c).queue = (ch s c).queue ∧ (∀ k, k ≠ c → ch u k = ch s k)
      ∧ LogOnly { a with cal := u.cal, capture := u.capture, ch := u.ch } u)) ∧
  (∀ (t c passed : Nat) (s : State), c < 1024 → detectorsRun s = true →
    (ch s c).armed = false ∨ chEnabled s c = false ∨ inOutage s c = true →
    exec (.detectorEvent t c passed) s = .next (setCh (advance t s) c { ch s c with det := true, detSince := (advance t s).dev })) ∧
  (∀ (t c : Nat) (s : State), c < 1024 → detectorsRun s = true → (ch s c).armed = false →
    (ch s c).last + par s pChDeadTime c * 64 ≤ (advance t s).dev →
    exec (.rearm t c) s = .next (setCh (advance t s) c { ch s c with
      det := false, armed := true, offs := ((ch s c).last, (advance t s).dev) :: (ch s c).offs })) ∧
  (∀ (t c : Nat) (s : State), c < 1024 → detectorsRun s = true → chEnabled s c = true → (ch s c).det = true → (ch s c).stuckFr = false →
    max (ch s c).detSince (ch s c).enSince + 10 * tUs ≤ (advance t s).dev →
    Runs (.chStuckHigh t c) s (LogOnly (setCh (advance t s) c { ch s c with stuckFr := true }))) ∧
  (∀ (t c : Nat) (e : QEnt) (rest : List QEnt) (s : State), Awake s → (ch s c).pend = e :: rest →
    (e.stamp / 64 + cdiv (gPar s e.gen pCoincWindow (c / 16)) 2 + 2) * 64 ≤ (advance t s).dev →
    let a := advance t s
    let x := ambRod s (c / 16)
    (coincCount s e.gen c e.stamp < depthG s e.gen c → exec (.coincidenceDecision t c) s =
      .next (setAmbRod (setCh a c { ch s c with pend := rest }) (c / 16) { x with
        rejects := x.rejects + 1, v := x.v.add (2 ^ 32 - 1) (b2n e.out), u := x.u.add (2 ^ 32 - 1) 0 })) ∧
    (depthG s e.gen c ≤ coincCount s e.gen c e.stamp →
      Runs (.coincidenceDecision t c) s (fun u => (ch u c).pend = rest ∧ (∀ k, k ≠ c → ch u k = ch s k)
        ∧ LogOnly { a with amb := u.amb, ch := u.ch, tal := u.tal } u
        ∧ (ambRod u (c / 16)).v = x.v.add (2 ^ 32 - 1) (b2n e.out) ∧ (ambRod u (c / 16)).u = x.u.add (2 ^ 32 - 1) (b2n e.out)
        ∧ ((if (ch s c).shedding then (ch s c).queue.length ≤ 4 else (ch s c).queue.length < 8) →
            (ch u c).queue = (ch s c).queue ++ [queueWord e.stamp] ∧ (ch u c).queued = (ch s c).queued + 1 ∧ u.tal = s.tal)
        ∧ ((if (ch s c).shedding then 4 < (ch s c).queue.length else 8 ≤ (ch s c).queue.length) →
            (ch u c).queue = (ch s c).queue ∧ (ch u c).shedTotal = (ch s c).shedTotal.add 1 ∧ (ch u c).shedding = true))))

/-- The ambient engine (R81 to R87, R109, R110): the reads return the published figures and the seeds of R101, a point start opens an
interval, and the next point start or the line's last window publishes every rod's figures with its interrupt source.
Model's own choices: log entries 7, 12, 46, 97. -/
def Obligations.AmbientRuns : Prop :=
  (∀ (t : Nat) (r : Req) (s : State), Ready r s → r.payload.length = 4 → fld r.payload 0 1 ≤ 7 → allZero (r.payload.drop 1) = true →
    CompletesOk (.ambientRead t r) r 0x0210 s (advance t s) (fun p =>
      p = le 1 (fld r.payload 0 1) ++ zeros 3 ++ le 4 s.amb.pubFrame ++ le 2 s.amb.pubIdx ++ le 2 0 ++
        (List.range 8).flatMap (fun i =>
          let x := ambRod s (8 * fld r.payload 0 1 + i)
          le 4 x.lam ++ le 2 x.disp ++ le 2 (b2n x.fb + 2 * b2n x.lc) ++ le 8 x.rejects))) ∧
  (∀ (t : Nat) (r : Req) (s : State), Ready r s → r.payload.length = 8 → fld r.payload 0 1 ≤ 15 → allZero ((r.payload.drop 1).take 3) = true →
    let i := fld r.payload 0 1
    let f := if fld r.payload 4 4 = 0xFFFFFFFF then s.sch.frameNo.val.toNat else fld r.payload 4 4
    let n := seedInForce s
    let q := seeds n.1 (par0 s pPassportFamily) n.2 i f
    CompletesOk (.passportRead t r) r 0x0211 s (advance t s) (fun p =>
      p.take 1 = le 1 i ∧ (p.drop 4).take 4 = le 4 f ∧ (p.drop 12).take 4 = le 4 (seedX n.1 (par0 s pPassportFamily) i f)
        ∧ p.drop 16 = le 4 q.1 ++ le 4 q.2)) ∧
  (∀ (t c : Nat) (l : LineRun) (s : State), Awake s → s.sch.line = some l → pointStartCycle s l s.amb.nextIdx = some c → c ≤ coarse (advance t s) →
    Runs (.ambientIntervalStart t) s (fun u => LogOnly { advance t s with amb := u.amb, ch := u.ch, ic := u.ic } u
      ∧ u.amb.interval = some { start := (advance t s).dev, frame := s.sch.frameNo.val.toNat, line := l.line, idx := s.amb.nextIdx, close := s.sch.lineClose }
      ∧ u.amb.nextIdx = s.amb.nextIdx + 1)) ∧
  (∀ (t : Nat) (iv : Interval) (s : State), Awake s → s.amb.interval = some iv →
    ivEnd (advance t s) iv ≤ (advance t s).dev ∨ s.sch.line = none ∧ iv.close = 0 →
    Runs (.ambientPublish t) s (fun u => LogOnly { advance t s with amb := u.amb, ch := u.ch, ic := u.ic } u
      ∧ u.amb.interval = none ∧ u.amb.pubFrame = iv.frame ∧ u.amb.pubIdx = iv.idx ∧ (∀ c, c < 1024 → (ch u c).ambA = 0)
      ∧ ∀ r, r < 64 → (icSrc u (105 + r)).pending = true))

/-- The tally and extractor commands complete (R139, R140, R151, R171, R172): counters are returned and cleared as asked, the stack status
is read, a template reaches the shadow. Model's own choice: log entry 1. -/
def Obligations.TallyCommandsComplete : Prop :=
  (∀ (t : Nat) (r : Req) (s : State), Ready r s → r.payload.length = 4 → fld r.payload 0 1 ≤ 63 → fld r.payload 1 1 < 4 → fld r.payload 2 2 = 0 →
    let n := fld r.payload 0 1
    let x := talRod s n
    let a := bit (fld r.payload 1 1) 0
    let b := bit (fld r.payload 1 1) 1
    CompletesOk (.tallyCountersRead t r) r 0x0310 s (setTalRod (advance t s) n { x with
        closed := if a then 0 else x.closed, incs := if a then 0 else x.incs, mergedC := x.mergedC.clear a b
        dropped := x.dropped.clear a b, satPages := x.satPages.clear a b, empty := x.empty.clear a b })
      (fun p => p.take 1 = le 1 n ∧ p.drop 4 = le 8 x.closed ++ le 8 x.incs ++ le 4 x.mergedC.val.toNat ++ le 4 x.dropped.val.toNat
        ++ le 4 x.satPages.val.toNat ++ le 4 x.empty.val.toNat)) ∧
  (∀ (t : Nat) (r : Req) (s : State), Ready r s → r.payload.length = 4 → fld r.payload 0 1 ≤ 7 → allZero (r.payload.drop 1) = true →
    let x := talDeck s (fld r.payload 0 1)
    CompletesOk (.stackStatusRead t r) r 0x0311 s (advance t s) (fun p => p.length = 48
      ∧ p.take 36 = le 1 (fld r.payload 0 1) ++ zeros 3 ++ le 4 x.lFrame ++ le 8 x.lAllow ++ le 8 x.lCharged ++ le 4 x.lAdmitted
        ++ le 4 x.lRefused ++ le 4 x.lExported)) ∧
  (∀ (t : Nat) (r : Req) (s : State), Ready r s → r.payload.length = 20 →
    let k := fld r.payload 0 1
    let l := fld r.payload 1 1
    let m : Tmpl := { taps := (List.range l).map (fun i => fld r.payload (4 + i) 1), anchor := fld r.payload 2 1 }
    k ≤ 3 → 1 ≤ l → l ≤ 16 → m.anchor < l → fld r.payload 3 1 = 0 → allZero (r.payload.drop (4 + l)) = true → 0 < sumN m.taps →
    CompletesOk (.templateWrite t r) r 0x0410 s
      { advance t s with par.shadow.tmpl := tput none s.par.shadow.tmpl k (if m = bootTmpl k then none else some m) }
      (fun p => p = le 1 k ++ le 1 (tmplHalf m) ++ le 2 (tmplGamma m) ++ le 2 (sumN m.taps) ++ le 2 0)) ∧
  (∀ (t : Nat) (r : Req) (s : State), Ready r s → r.payload.length = 4 → fld r.payload 0 1 ≤ 7 → fld r.payload 1 1 < 4 → fld r.payload 2 2 = 0 →
    let d := fld r.payload 0 1
    let x := extDeck s d
    let a := bit (fld r.payload 1 1) 0
    let b := bit (fld r.payload 1 1) 1
    CompletesOk (.extCountersRead t r) r 0x0411 s (setExtDeck (advance t s) d { x with
        served := if a then 0 else x.served, reported := if a then 0 else x.reported, peak := if a then 0 else x.peak
        suppr := x.suppr.clear a b, candDrop := x.candDrop.clear a b, holds := x.holds.clear a b
        discarded := x.discarded.clear a b, pileup := x.pileup.clear a b })
      (fun p => p.take 2 = le 1 d ++ le 1 x.peak ∧ p.drop 4 = le 8 x.served ++ le 8 x.reported ++ le 4 x.suppr.val.toNat
        ++ le 4 x.candDrop.val.toNat ++ le 4 x.holds.val.toNat ++ le 4 x.discarded.val.toNat ++ le 4 x.pileup.val.toNat))

/-- Points and pages (R17, R64, R112, R115, R116, R120 to R123, R125, R131, R145): the engine takes a rod's next event, rebuilt from its 22
bits, and each attribution raises its coarse bin and its fine bin up to their maxima, or is held for the scout; a point's first shot opens a
FREE page, but merges into the channel's page that four waiting groups hold; an ended point counts its loss or ends its page, a HELD page closes when it may, its
stacking contribution charged, a served page is freed. Model's own choices: log entries 7, 44, 105, 128. -/
def Obligations.PagesLive : Prop :=
  (∀ (t rod c w : Nat) (rest : List Nat) (s : State), Awake s → rod < 64 → nextQueue s rod (talRod s rod).rr = some c →
    (ch s c).queue = w :: rest →
    let now := (advance t s).dev
    let te := rebuild (now - 1) w
    let att := attributed s c te
    let delta := fun (sh : Shot) => te - useStamp s sh
    let pt := fun (sh : Shot) => (ch s c).pts.find? (fun p => p.frame == sh.frame && p.line == sh.line && p.point == sh.point)
    let hits := fun (k : Nat) (sh : Shot) => (pt sh).bind (·.page) == some k
    let fills := fun (k : Nat) (sh : Shot) => hits k sh && decide ((page s k).d.zoom ≠ 2)
      && ((match pt sh with | some p => p.merged | none => false) || decide ((page s k).d.zoom = 1) || decide ((page s k).seff < sh.nth))
    let waits := fun (k : Nat) => decide ((page s k).scout = 1) || decide ((page s k).scout = 2)
    Runs (.tallyService t rod) s (fun u => (w % 2 ^ 22 < now → te % 2 ^ 22 = w % 2 ^ 22 ∧ te < now ∧ now ≤ te + 2 ^ 22) ∧ (ch u c).queue = rest ∧ (talRod u rod).rr = (c + 1) % 16
      ∧ (talRod u rod).incs = (talRod s rod).incs + att.length ∧ (∀ k, k ≠ c → ch u k = ch s k)
      ∧ (∀ k j, tget 0 (page u k).coarse j = binAfter 4095 (tget 0 (page s k).coarse j)
          (att.filter (fun sh => hits k sh && decide (delta sh / 2 ^ (page s k).d.b = (page s k).d.o + j) && decide (j < 2048))).length)
      ∧ (∀ k j, tget 0 (page u k).fine j = binAfter 16383 (tget 0 (page s k).fine j)
          (att.filter (fun sh => fills k sh && !waits k && fineAt (page s k).d (delta sh) == some j)).length)
      ∧ (talRod u rod).hold = (talRod s rod).hold ++ att.filterMap (fun sh => ((pt sh).bind (·.page)).bind (fun k =>
          if fills k sh && waits k then some { page := k, delta := delta sh } else none))
      ∧ (∀ k, page u k = { page s k with coarse := (page u k).coarse, fine := (page u k).fine, d.sat := (page u k).d.sat })
      ∧ LogOnly { advance t s with ch := u.ch, tal := u.tal, ic := u.ic } u)) ∧
  (∀ (t c : Nat) (sh : Shot) (rest : List Shot) (s : State), Awake s → newShots s c = sh :: rest → sh.nth = 1 → (page s (2 * c)).st = 0 →
    (∀ k, latestPage (ch s c) = some k → groupHeld (advance t s) k = false) →
    Runs (.pointStart t c) s (fun u => (page u (2 * c)).st = 1 ∧ (page u (2 * c)).d.first = sh.stamp ∧ (page u (2 * c)).d.line = sh.line
      ∧ (page u (2 * c)).d.point = sh.point ∧ (∃ p ∈ (ch u c).pts, p.line = sh.line ∧ p.point = sh.point ∧ p.page = some (2 * c))
      ∧ (∀ k, k ≠ 2 * c → page u k = page s k) ∧ (∀ k, k ≠ c → ch u k = ch s k) ∧ LogOnly { advance t s with ch := u.ch, tal := u.tal } u)) ∧
  (∀ (t c k : Nat) (sh : Shot) (rest : List Shot) (s : State), Awake s → newShots s c = sh :: rest → sh.nth = 1 →
    latestPage (ch s c) = some k → groupHeld (advance t s) k = true →
    let g := page s k
    g.d.frame = sh.frame → g.d.gen = sh.gen → g.d.b = sh.b → g.d.f = sh.f → g.d.o = sh.o → g.d.shots + sh.n ≤ 255 →
    Runs (.pointStart t c) s (fun u => (page u k).st = 1 ∧ (page u k).d.merged = true ∧ (page u k).points = g.points + 1
      ∧ (talRod u (c / 16)).mergedC = (talRod s (c / 16)).mergedC.add 1
      ∧ (∃ p ∈ (ch u c).pts, p.line = sh.line ∧ p.point = sh.point ∧ p.page = some k ∧ p.merged = true)
      ∧ (∀ j, j ≠ k → page u j = page s j) ∧ (∀ j, j ≠ c → ch u j = ch s j) ∧ LogOnly { advance t s with ch := u.ch, tal := u.tal } u)) ∧
  (∀ (t c : Nat) (p : PtRef) (s : State), Awake s → endedPoint (advance t s) c = some p →
    Runs (.pointEnd t c) s (fun u => LogOnly { advance t s with
          ch := u.ch, ext := u.ext, sch.planStat := u.sch.planStat, str := u.str, tal := u.tal } u
      ∧ (∀ k, k ≠ c → ch u k = ch s k)
      ∧ (p.page = none → (talRod u (c / 16)).dropped = (talRod s (c / 16)).dropped.add p.shots ∧ u.tal.pages = s.tal.pages
          ∧ ∀ q ∈ (ch u c).pts, ¬(q.frame = p.frame ∧ q.line = p.line ∧ q.point = p.point))
      ∧ ∀ k, p.page = some k → (∀ q ∈ (ch s c).pts, q.page = some k → q.ended = true ∨ q.frame = p.frame ∧ q.line = p.line ∧ q.point = p.point) →
          (page u k).endedAt = (advance t s).dev ∧ ((page u k).st = 2 ∨ (page u k).st = 3) ∧ ∀ j, j ≠ k → page u j = page s j)) ∧
  (∀ (t c k : Nat) (s : State), Awake s → heldPage s c = some k → pageFree s k = true → groupFree (advance t s) (k / 32) = true →
    Runs (.pageClose t c) s (fun u => (page u k).st = 3 ∧ (page u k).slotEnd = none ∧ (talRod u (k / 32)).closed = (talRod s (k / 32)).closed + 1
      ∧ (∀ j, j ≠ k → page u j = page s j) ∧ (extDeck u (k / 256)).queue.any (fun g => g.rod == k / 32 && g.pages.contains k) = true
      ∧ LogOnly { advance t s with ext := u.ext, tal := u.tal } u
      ∧ let g := page s k
        let x := talDeck s (k / 256)
        gPar s g.d.gen pTallyStackMask (k / 2) = 1 → stackWaits s g.d.frame = false → g.d.frame % gPar s g.d.gen pTallyStackDepth 0 = 0 →
          x.refused0 = 0 → x.charged + 2080 ≤ x.allow →
          stackUsed (setPage s k { g with st := 3, slotEnd := none }) + 1040 ≤ s.mem.stackMB * 1048576 →
          (page u k).stackDue = true ∧ (talDeck u (k / 256)).charged = x.charged + 2080 ∧ (talDeck u (k / 256)).admitted = x.admitted + 1)) ∧
  (∀ (t c k : Nat) (s : State), Awake s → c ≤ 1023 → servedPage (advance t s) c = some k →
    Runs (.pageRelease t c) s (fun u => page u k = {} ∧ (∀ j, j ≠ k → page u j = page s j) ∧ (∀ p ∈ (ch u (k / 2)).pts, p.page ≠ some k)
      ∧ LogOnly { advance t s with ch := u.ch, tal := u.tal } u))

/-- The scout and the stack (R116, R127, R128, R131 to R133, R136): a run starts on the page due, ends 80 ns later with at most four windows, held fine
parts are replayed into their fine bins, and a served page's contribution enters the store, a stack's first in place of any before it, a
later one added to its entry, the last one sent as a STACKED_HIST record.
Model's own choices: log entries 7, 42, 104, 131. -/
def Obligations.ScoutAndStackRun : Prop :=
  (∀ (t rod k : Nat) (s : State), Awake s → (talRod s rod).run = none → scoutNext (advance t s) rod = some k →
    exec (.scoutRunStart t rod) s = .next (setTalRod (setPage (advance t s) k { page s k with scout := 2 }) rod
      { talRod s rod with run := some (k, (advance t s).dev) })) ∧
  (∀ (t rod k b : Nat) (s : State), Awake s → (talRod s rod).run = some (k, b) → b + 80 * tNs ≤ (advance t s).dev →
    Runs (.scoutRunEnd t rod) s (fun u => (talRod u rod).run = none ∧ (page u k).scout = 3 ∧ (page u k).d.win.length ≤ 4
      ∧ (page u k).coarse = (page s k).coarse ∧ (∀ j, j ≠ k → page u j = page s j)
      ∧ ((page u k).d.win = [] → (talRod u rod).empty = (talRod s rod).empty.add 1) ∧ LogOnly { advance t s with tal := u.tal } u)) ∧
  (∀ (t rod : Nat) (s : State), Awake s →
    Runs (.fineReplayDone t rod) s (fun u =>
      let due := (talRod s rod).hold.filter (fun h => (page s h.page).scout != 1 && (page s h.page).scout != 2)
      (talRod u rod).hold = (talRod s rod).hold.filter (fun h => (page s h.page).scout == 1 || (page s h.page).scout == 2)
      ∧ (∀ k j, tget 0 (page u k).fine j = binAfter 16383 (tget 0 (page s k).fine j)
          (due.filter (fun h => h.page == k && fineAt (page s k).d h.delta == some j)).length)
      ∧ (∀ k, page u k = { page s k with fine := (page u k).fine, d.sat := (page u k).d.sat })
      ∧ LogOnly { advance t s with tal := u.tal } u)) ∧
  (∀ (t c k : Nat) (s : State), Awake s → stackPage s c = some k →
    let g := page s k
    let dd := gPar s g.d.gen pTallyStackDepth 0
    Runs (.stackReadDone t c) s (fun u => (page u k).stackDue = false ∧ (page u k).newEnt = false ∧ (page u k).st = 3 ∧ (∀ j, j ≠ k → page u j = page s j)
      ∧ LogOnly { advance t s with ic := u.ic, nk.segs := u.nk.segs, str := u.str, tal := u.tal, twn := u.twn } u
      ∧ (par s pTallyStackMask c = 1 → stackWaits s g.d.frame = false → g.d.frame % dd = 0 → (g.d.frame + 1) % dd ≠ 0 →
          u.tal.stack = s.tal.stack.filter (fun e => !stackKey c g.d e) ++ [
            { chan := c, line := g.d.line, point := g.d.point, first := g.d.frame, frames := 1, shots := g.d.shots, b := g.d.b, o := g.d.o
              counts := stackCounts (gPar s g.d.gen pTallyStackStart 0) g }])
      ∧ (∀ e, par s pTallyStackMask c = 1 → stackWaits s g.d.frame = false → g.d.frame % dd ≠ 0 → stackEntry s c g.d = some e → e.b = g.d.b →
          e.o = g.d.o → twf 0 none g.coarse = true → ∃ m : Tab Nat,
            (∀ i, tget 0 m i = tget 0 e.counts i + (if i < 512 then tget 0 g.coarse (gPar s g.d.gen pTallyStackStart 0 + i) else 0))
            ∧ (let rest := s.tal.stack.filter (fun e => !stackKey c g.d e)
               let sum : StackEnt := { e with frames := e.frames + 1, shots := e.shots + g.d.shots, counts := m }
               ((g.d.frame + 1) % dd ≠ 0 → u.tal.stack = rest ++ [sum])
               ∧ ((g.d.frame + 1) % dd = 0 → u.tal.stack = rest ∧ (talDeck u (c / 128)).exported = (talDeck s (c / 128)).exported + 1
                  ∧ ∃ r, u.str.inq.getLast? = some (c / 128, r) ∧ r.cls = 4 ∧ r.chan = c ∧ r.frame = g.d.frame
                    ∧ r.bytes = le 1 0x12 ++ le 1 sum.frames ++ le 2 1040 ++ le 2 (c + (sum.b - 5) * 2048) ++ le 2 sum.point ++ le 4 sum.first
                        ++ le 4 (sum.shots % 4096 + sum.line % 64 * 4096 + sum.o * 2 ^ 18) ++ (List.range 512).flatMap (fun i => le 2 (tget 0 m i)))))))

/-- The deck extractors (R142, R143, R154, R160, R165, R166): a service slot of 156 P cycles takes the first page of the group served next;
every return is a candidate above the threshold, and where there is a candidate there is a return; its range follows its time; a page with no
reported return produces a POINT record only under EMPTY_POINTS; a completed extraction hands its returns back and is counted. Model's own
choices: log entries 42, 43. -/
def Obligations.ExtractorsRun : Prop :=
  (∀ (t d k : Nat) (gr : Group) (rest : List Nat) (s : State), Awake s → d ≤ 7 → (extDeck s d).busyUntil ≤ 5 * (advance t s).dev + 4 →
    nextGroup (extDeck s d).queue = some gr → gr.pages = k :: rest → k < 2048 →
    let fin := slotStart (advance t s) (extDeck s d) + 79872
    let gp := fun (id i : Nat) => gPar s (page s k).d.gen id i
    let cand := fun (q : Chain) (i : Nat) => decide (i < q.nb) && decide (16 * (q.mu : Int) + gp pExtCfarK (k / 32) * q.sig < 16 * q.yAt i)
      && decide (q.yAt (i - 1) < q.yAt i) && decide (q.yAt (i + 1) ≤ q.yAt i)
    Runs (.extractorService t d) s (fun u => (extDeck u d).busyUntil = fin ∧ (extDeck u d).served = (extDeck s d).served + 1
      ∧ (page u k).slotEnd = some (fin / 5) ∧ (page u k).st = (page s k).st ∧ (∀ j, j ≠ k → page u j = page s j)
      ∧ (∃ v, (extDeck u d).services = (extDeck s d).services ++ [v] ∧ v.page = k ∧ v.rep.length ≤ min 8 (gp pExtMaxReturns (k / 32))
          ∧ (∃ fv, let q := chain s k fv
             (∀ r ∈ v.rep ++ v.sup, cand q r.bin = true)
             ∧ (∀ i, cand q i = true → 1 ≤ gp pExtMaxReturns (k / 32) → v.rep ++ v.sup ≠ []))
          ∧ (∀ r ∈ v.rep, (r.range : Int) = max 0 (min 0xFFFFFF
              (((r.tq * gp pExtRangeScale 0 + 2 ^ 27) / 2 ^ 28 : Nat) - sgn 64 (gp pExtRangeOffset (k / 2)))))
          ∧ (v.rep = [] → gp pExtEmptyPoints 0 = 0 → ∀ r ∈ v.recs, r.cls ≠ 1)
          ∧ (gp pExtEmptyPoints 0 ≠ 0 ∨ v.rep ≠ [] → ∃ r ∈ v.recs, r.cls = 1 ∧ fld r.bytes 4 2 / 2048 = v.rep.length)) ∧ (∀ j, j ≠ d → extDeck u j = extDeck s j)
      ∧ LogOnly { advance t s with ext := u.ext, tal := u.tal } u)) ∧
  (∀ (t d : Nat) (v : Service) (rest : List Service) (s : State), Awake s → (extDeck s d).services = v :: rest →
    let lp : LastPt :=
      { frame := v.frame, line := v.line, done := (advance t s).dev, rep := v.rep.map (fun r => r.tq / 256), sup := v.sup.map (fun r => r.tq / 256) }
    Runs (.extractionComplete t d) s (fun u => (extDeck u d).services = rest ∧ (talDeck u d).points = (talDeck s d).points + 1
      ∧ (tget [] u.ext.last v.chan).head? = some lp
      ∧ LogOnly { advance t s with
        cal.meas := u.cal.meas, ext := u.ext, ic := u.ic, nk.segs := u.nk.segs, sch.planStat := u.sch.planStat, str := u.str, tal := u.tal, twn := u.twn } u))

/-- The emission commands complete (R201, R206 to R210, R555): itinerary bytes reach the shadow or the base, which a write disarms and a
passing validation may arm; reads, curves, regions of interest and counters act as their tables say. Model's own choice: log entry 41. -/
def Obligations.EmissionCommandsComplete : Prop :=
  (∀ (t : Nat) (r : Req) (s : State), Ready r s →
    let n := fld r.payload 2 2
    let o := fld r.payload 4 4
    r.payload.length = 8 + n → fld r.payload 1 1 = 0 → 1 ≤ n → n ≤ 240 → o + n ≤ 131072 →
    (fld r.payload 0 1 = 1 → CompletesOk (.itinWrite t r) r 0x0510 s { advance t s with
        sch.base := cputs 0 s.sch.base o (r.payload.drop 8), sch.baseArmed := false, sch.planFrom := none }
      (fun p => p = le 4 o ++ le 2 n ++ le 2 0)) ∧
    (fld r.payload 0 1 = 0 → par0 s pPlanMode ≠ 0 → s.sch.copyBack ≤ (advance t s).dev →
      CompletesOk (.itinWrite t r) r 0x0510 s { advance t s with
          par.shadow.itin := cputs 0 s.par.shadow.itin o (r.payload.drop 8), par.shadow.itinHas := true }
        (fun p => p = le 4 o ++ le 2 n ++ le 2 0))) ∧
  (∀ (t : Nat) (r : Req) (s : State), Ready r s → r.payload.length = 8 →
    let n := fld r.payload 2 2
    let o := fld r.payload 4 4
    fld r.payload 0 1 ≤ 2 → fld r.payload 1 1 = 0 → 1 ≤ n → n ≤ 236 → o + n ≤ 131072 →
    CompletesOk (.itinRead t r) r 0x0511 s (advance t s)
      (fun p => p = le 4 o ++ le 2 n ++ le 2 0 ++ cgets 0 (itinTarget s (fld r.payload 0 1)) o n)) ∧
  (∀ (t : Nat) (r : Req) (s : State), Ready r s → r.payload.length = 4 → fld r.payload 0 1 ≤ 1 → fld r.payload 1 1 ≤ fld r.payload 0 1 →
    fld r.payload 2 2 = 0 →
    let img := itinTarget s (fld r.payload 0 1)
    let v := validate (advance t s) s.par.shadow img
    v.reason = 0 →
    CompletesOk (.itinValidate t r) r 0x0512 s
      (if fld r.payload 1 1 = 1 then { advance t s with sch.baseArmed := true, sch.planFrom := none } else advance t s)
      (fun p => p.length = 12 ∧ p.take 8 = le 1 0 ++ le 1 v.line ++ le 2 v.cell ++ le 4 (imId img))) ∧
  (∀ (t : Nat) (r : Req) (s : State), Ready r s →
    let k := fld r.payload 0 1
    let ty := fld r.payload 1 1
    let sh := fld r.payload 2 2
    let first := fld r.payload 4 1
    let n := fld r.payload 5 1
    let es := (List.range n).map (fun i => fld r.payload (8 + 2 * i) 2)
    let c := writeCurve ty sh first es (setCurve s.par.shadow k)
    r.payload.length = 8 + 2 * n → k ≤ 3 → fld r.payload 6 2 = 0 →
    ty = 0 ∧ sh = 0 ∧ 1 ≤ n ∧ n ≤ 112 ∧ first + n ≤ 256 ∧ (∀ e ∈ es, e ≤ 4095) ∨ ty = 1 ∧ first = 0 ∧ n = 0 ∧ 10 ≤ sh ∧ sh ≤ 600
      ∨ ty = 2 ∧ first = 0 ∧ n = 0 ∧ 0x400 ≤ sh ∧ sh ≤ 0x4000 →
    CompletesOk (.curveWrite t r) r 0x0513 s { advance t s with par.shadow.curves := tput {} s.par.shadow.curves k c }
      (fun p => p = le 2 (curveVal c 0) ++ le 2 (curveVal c 255))) ∧
  (∀ (t : Nat) (r : Req) (s : State), Ready r s →
    let n := fld r.payload 0 1
    let rs : List Roi := (List.range n).map (fun i =>
      { azLo := fld r.payload (4 + 8 * i) 2, azHi := fld r.payload (6 + 8 * i) 2
        rowLo := fld r.payload (8 + 8 * i) 2, rowHi := fld r.payload (10 + 8 * i) 2 })
    r.payload.length = 4 + 8 * n → n ≤ 4 → allZero ((r.payload.drop 1).take 3) = true →
    (∀ q ∈ rs, q.azLo ≤ q.azHi ∧ q.rowLo ≤ q.rowHi ∧ q.rowHi ≤ 1023) →
    CompletesOk (.planRoiSet t r) r 0x0514 s { advance t s with sch.rois := rs } (fun p => p = le 1 n ++ zeros 3)) ∧
  (∀ (t : Nat) (r : Req) (s : State), Ready r s → r.payload.length = 4 → fld r.payload 0 1 < 4 → allZero (r.payload.drop 1) = true →
    let a := (fld r.payload 0 1).testBit 0
    let b := (fld r.payload 0 1).testBit 1
    CompletesOk (.emitCountersRead t r) r 0x0515 s { advance t s with
        sch.fired := if a then 0 else s.sch.fired, sch.shifts := if a then 0 else s.sch.shifts, sch.capped := if a then 0 else s.sch.capped
        sch.rateSkip := if a then 0 else s.sch.rateSkip, sch.gap := s.sch.gap.clear a b, sch.overrun := s.sch.overrun.clear a b
        sch.facetW := s.sch.facetW.clear a b }
      (fun p => p.length = 68 ∧ (p.drop 4).take 32 = le 8 s.sch.fired ++ le 8 s.sch.shifts ++ le 8 s.sch.capped ++ le 8 s.sch.rateSkip))

/-- The calibration commands complete (R313, R314, R317, R318, R322 to R326): the factory sequence starts on mailbox 5 in READY with debug
level 1, a reselection and the two measurements start, the status is read and its counters cleared. Model's own choices: log entries 61, 62. -/
def Obligations.CalibrationCommandsComplete : Prop :=
  (∀ (t : Nat) (r : Req) (s : State), Ready r s → r.mb = 5 → 1 ≤ s.desk.debug → r.payload = [] → s.desk.st = 2 → s.cal.factory = none →
    CompletesOk (.calFactoryRun t r) r 0x0D10 s { advance t s with cal.factory := some (advance t s).dev } (fun p => p = [])) ∧
  (∀ (t : Nat) (r : Req) (s : State), Ready r s → r.payload.length = 4 → fld r.payload 0 1 ≤ 63 → allZero (r.payload.drop 1) = true →
    s.desk.st ≠ 1 → s.desk.st ≠ 6 → s.cal.outage = none →
    CompletesOk (.calTapReselect t r) r 0x0D11 s
      { advance t s with cal.outage := some { rod := fld r.payload 0 1, start := if s.desk.st = 2 then some (advance t s).dev else none } }
      (fun p => p = [])) ∧
  (∀ (t : Nat) (r : Req) (s : State), Ready r s → r.payload.length = 12 →
    let n := fld r.payload 2 2
    let d := fld r.payload 4 4
    let k := fld r.payload 8 2
    stEmits s = true → fld r.payload 0 2 ≤ 1023 → 1 ≤ n → fld r.payload 0 2 + n ≤ 1024 → 1 ≤ d → d ≤ 0xFFFFFF → 1 ≤ k → k ≤ 250 →
    fld r.payload 10 1 ≤ 1 → fld r.payload 11 1 = 0 → s.cal.meas = none →
    let m : Measure :=
      { skew := false, first := fld r.payload 0 2, count := n, target := d, frame0 := s.sch.frameNo.val.toNat + b2n (decide (s.sch.linesRun ≠ 0)), n := k
        store := fld r.payload 10 1 == 1, sums := [] }
    CompletesOk (.calOffsetMeasure t r) r 0x0D12 s { advance t s with cal.meas := some m } (fun p => p = [])) ∧
  (∀ (t : Nat) (r : Req) (s : State), Ready r s → r.payload.length = 8 →
    let n := fld r.payload 0 4
    standby s = true → ownerEmits s = true → 1024 ≤ n → n ≤ 1048576 → fld r.payload 4 1 ≤ 1 → allZero (r.payload.drop 5) = true → s.cal.meas = none →
    let m : Measure := { skew := true, first := 0, count := 0, target := 0, frame0 := 0, n := n, store := fld r.payload 4 1 == 1, sums := [] }
    CompletesOk (.calTwinSkewMeasure t r) r 0x0D13 s { advance t s with cal.meas := some m } (fun p => p = [])) ∧
  (∀ (t : Nat) (r : Req) (s : State), Ready r s → r.payload.length = 4 → fld r.payload 0 2 ≤ 1023 → fld r.payload 2 2 < 4 →
    let c := fld r.payload 0 2
    let a := (fld r.payload 2 2).testBit 0
    let b := (fld r.payload 2 2).testBit 1
    let x := calCh s c
    CompletesOk (.calStatusRead t r) r 0x0D14 s
      (setCalCh (advance t s) c { x with accepted := x.accepted.clear a b, rejected := x.rejected.clear a b })
      (fun p => p.length = 112 ∧ p.take 2 = le 2 c ∧ (p.drop 4).take 12 = le 4 x.fill ++ le 4 x.accepted.val.toNat ++ le 4 x.rejected.val.toNat
        ∧ (p.drop 20).take 12 = le 12 x.mask))

/-- The calibration events (R306, R309 to R315, R317, R319, R327): a full histogram gives a candidate that is blended or rejected, blends step
every 40 ms while no frame runs, the file's image is saved when due, a factory run or a measurement ends with its results taken, and a
reselection with the masks its scans select, a failed scan leaving mask and table. Model's own choices: log entries 7, 61, 62, 116. -/
def Obligations.CalibrationEventsComplete : Prop :=
  (∀ (t c : Nat) (s : State), Awake s → 2 ^ par0 s pCalCdEvents ≤ (calCh s c).fill →
    let x := calCh s c
    let w := candidateOf x.hist x.fill
    Runs (.cdCandidate t c) s (fun u => (calCh u c).hist = [] ∧ (calCh u c).fill = 0 ∧ (calCh u c).edges = x.edges
      ∧ (if edgeStep (edgesOf w) x.edges ≤ par0 s pCalCdMaxStep then
          (calCh u c).blend = some { start := x.edges, cand := w, k := 0 } ∧ (calCh u c).accepted = x.accepted.add 1
        else (calCh u c).blend = x.blend ∧ (calCh u c).rejected = x.rejected.add 1)
      ∧ (∀ k, k ≠ c → calCh u k = calCh s k) ∧ LogOnly { advance t s with cal := u.cal } u)) ∧
  (∀ (t : Nat) (s : State), Awake s → s.sch.running = false → s.cal.blendAt + 40 * tMs ≤ (advance t s).dev →
    s.cal.ch.any (fun p => p.2.blend.isSome) = true →
    Runs (.cdBlendStep t) s (fun u => u.cal.blendAt = (advance t s).dev
      ∧ (u.cal.changed = true ↔ s.cal.changed = true ∨ ∃ p ∈ s.cal.ch, tableDiffers s u p.1 = true)
      ∧ (∀ q ∈ s.cal.ch, ∃ p ∈ s.cal.ch, p.1 = q.1 ∧ calCh u q.1 = blendStep p.2)
      ∧ (∀ c, (∀ p ∈ s.cal.ch, p.1 ≠ c) → calCh u c = calCh s c) ∧ LogOnly { advance t s with cal := u.cal } u)) ∧
  (∀ (t : Nat) (s : State), Awake s → par0 s pCalSaveInterval ≠ 0 →
    s.cal.saveTry + par0 s pCalSaveInterval * 60 * tSec ≤ (advance t s).dev → s.cal.changed = true → s.nk.wrHeld = false →
    let img := calImage (fileNow s)
    exec (.calSave t) s = .next { advance t s with
      nv.calFile := if calGov s = some 0 then s.nv.calFile else img, nv.calFile1 := if calGov s = some 0 then img else s.nv.calFile1, cal.saveTry := (advance t s).dev, cal.changed := false, cal.lastSave := (advance t s).dev }) ∧
  (∀ (t : Nat) (f : FactoryResult) (s : State), Awake s → f.failStep = 1 ∨ 7 < f.failStep → exec (.calFactoryDone t f) s = .next (advance t s)) ∧
  (∀ (t : Nat) (f : FactoryResult) (s : State), Awake s → s.cal.factory.isSome = true → f.failStep ≠ 1 → f.failStep ≤ 7 →
    Runs (.calFactoryDone t f) s (fun u => u.cal.factory = none
      ∧ LogOnly { advance t s with cal := u.cal, nv.otpCal := u.nv.otpCal, nv.calFile := u.nv.calFile, nv.calFile1 := u.nv.calFile1 } u
      ∧ (f.failStep ≠ 0 → u.cal = { s.cal with factory := none } ∧ u.nv = s.nv)
      ∧ (f.failStep = 0 → u.nv.otpCal.isSome = true ∧ (∀ i, i < 16 → tget 0 u.cal.fire i = sgn 16 (pat 16 (f.fire.getD i 0)))
          ∧ (s.nv.otpCal.isSome = true → u.nv.otpCal = s.nv.otpCal)
          ∧ (let k := if calGov s = some 0 then 1 else 0
             calCopy u k = (if s.nk.wrHeld then calCopy s k else calImage (fileNow { advance t s with cal := u.cal })) ∧ calCopy u (1 - k) = calCopy s (1 - k))))) ∧
  (∀ (t b : Nat) (o : Outage) (scans : Tab (List Nat)) (s : State), Awake s → s.cal.outage = some o → o.start = some b →
    let got := fun c => scanMask (tget [] scans c)
    Runs (.calReselectDone t scans) s (fun u => u.cal.outage = none
      ∧ (u.cal.changed = true ↔ s.cal.changed = true ∨ ∃ i, i < 16 ∧ tableDiffers s u (16 * o.rod + i) = true)
      ∧ tget 0 u.cal.outFrom o.rod = b ∧ tget 0 u.cal.outEnd o.rod = (advance t s).dev
      ∧ (∀ i, i < 16 → let c := 16 * o.rod + i
          (calCh u c).hist = [] ∧ (calCh u c).blend = none ∧ (calCh u c).mask = (got c).getD (calCh s c).mask
            ∧ (got c = none → (calCh u c).widths = (calCh s c).widths)
            ∧ ∀ m, got c = some m → let n := scanCodes m (tget [] scans c)
                (calCh u c).widths = widthsOf (fun j => n.getD j 0) (sumN n))
      ∧ (∀ c, c / 16 ≠ o.rod → calCh u c = calCh s c) ∧ LogOnly { advance t s with cal := u.cal } u)) ∧
  (∀ (t : Nat) (m : Measure) (s : State), Awake s → s.cal.meas = some m → (if m.skew then m.n ≤ (tget (0, 0) m.sums 0).2 else m.n ≤ m.done) →
    Runs (.calMeasureDone t) s (fun u => u.cal.meas = none ∧ u.cal.ch = s.cal.ch ∧ (m.store = false → u.nv = s.nv)
      ∧ LogOnly { advance t s with cal := u.cal, nv.calFile := u.nv.calFile, nv.calFile1 := u.nv.calFile1, par.shadow.vals := u.par.shadow.vals } u))

/-- The frame boundary event (R24, R26, R28 to R30, R33, R38, R39, R196, R197, R291): at its instant the frame counter rises, the frame's figures restart, the
sets that were timely are in force and the late ones wait for the next, a pending stop or exit reaches READY, a DEGRADED whose
faults have cleared returns to RUN without its caps. The seal deadline judges the
waiting sets, and FRAME_END follows when every page of the frame is done. Model's own choices: log entries 25, 27, 38, 88. -/
def Obligations.FramesEnd : Prop :=
  (∀ (t x : Nat) (s : State), Awake s → s.sch.fbeAt = some x → x ≤ (advance t s).dev →
    Runs (.frameBoundaryEvent t) s (fun u =>
      u.sch.frameNo = s.sch.frameNo.add 1 ∧ u.sch.frameShots = 0 ∧ u.sch.line = none ∧ u.sch.nextLine = 0 ∧ u.sch.rehand = s.sch.truncated
      ∧ (icSrc u (if s.sch.truncated then 21 else 17)).pending = true ∧ (icSrc u 20).pending = true
      ∧ x + 20 * tUs ≤ u.sch.notBefore
      ∧ (s.desk.pendStop = true ∨ s.desk.pendExit = true → u.desk.st = 2)
      ∧ (s.desk.pendStop = false → s.desk.pendExit = false → s.desk.pendRun = false →
          u.desk.st = s.desk.st ∧ u.sch.fbeAt = none ∧ u.sch.running = (stEmits s && !s.sch.truncated)
          ∧ u.par.inForce = newSet s.par.timely s.par.svcTimely s.par.inForce ∧ u.par.timely = s.par.late ∧ u.par.svcTimely = s.par.svcLate
          ∧ u.par.late = none ∧ u.par.svcLate = none
          ∧ u.par.gen = (if s.par.timely.isSome || s.par.svcTimely.isSome then 1 - s.par.gen else s.par.gen))
      ∧ (s.desk.pendStop = false → s.desk.pendExit = false → s.desk.pendRun = true → s.desk.st = 5 →
          u.desk.st = 4 ∧ u.desk.pendRun = false ∧ u.sch.running = !s.sch.truncated
          ∧ u.sch.ceil = min 4095 (min (nkCeil u) (stepCeil u.hlt.applied)) ∧ u.sch.rdiv = max 1 (max (nkDiv u) (stepDiv u.hlt.applied))
          ∧ u.par.inForce = newSet s.par.timely s.par.svcTimely s.par.inForce ∧ u.par.timely = s.par.late ∧ u.par.late = none)
      ∧ LogOnly { advance t s with amb := u.amb, cal := u.cal, ch := u.ch, desk := u.desk, dma := u.dma, ext := u.ext, hlt := u.hlt, ic := u.ic,
                                   lgb := u.lgb, nk := u.nk, par := u.par, pins := u.pins, sch := u.sch, srv := u.srv, str := u.str,
                                   tal := u.tal, twn := u.twn } u)) ∧
  (∀ (t d : Nat) (s : State), Awake s → sealDeadline s = some d → d ≤ (advance t s).dev →
    Runs (.sealDeadline t) s (fun u => u.par.awaiting = [] ∧ (icSrc u 19).pending = true ∧ u.par.inForce = s.par.inForce ∧ u.par.shadow = s.par.shadow
      ∧ LogOnly { advance t s with desk := u.desk, ic := u.ic, par := u.par } u
      ∧ ∀ k tag at_ h, s.par.awaiting = [{ mb := some k, tag := tag, at_ := at_, host := some h, svc := none }] → k < 8 → (mb s k).origin = none →
          (mb u k).st = 2 ∧ (mb u k).lastResult = (if d ≤ at_ then rSealLate else rOK)
          ∧ (d ≤ at_ → u.par.timely = s.par.timely ∧ u.par.late.isSome = true) ∧ (at_ < d → u.par.timely.isSome = true ∧ u.par.late = s.par.late))) ∧
  (∀ (t : Nat) (e : EndRec) (rest : List EndRec) (s : State), Awake s → s.str.ends = e :: rest → frameDone s e.frame = true →
    Runs (.frameEnd t) s (fun u => u.str.ends = rest ∧ tget (0, 0, 0) u.str.forms e.frame = (0, 0, 0)
      ∧ LogOnly { advance t s with cal.meas := u.cal.meas, nk.segs := u.nk.segs, str := u.str, twn := u.twn } u))

/-- The fabric commands complete (R500, R502, R504 to R506): a transfer that overlaps a window access in progress is BUSY; another moves
its bytes to the itinerary, out of the logbook or the freeze capture, or waits as the firmware slot's transfer, whose end writes the slot; LOG_CONTROL triggers or releases the logbook; MEM_STATUS_READ
returns and clears. Model's own choices: log entries 65, 66. -/
def Obligations.FabricCommandsComplete : Prop :=
  (∀ (t : Nat) (r : Req) (s : State), Ready r s → r.payload.length = 20 →
    let tg := fld r.payload 0 1
    let eo := fld r.payload 4 4
    let o := fld r.payload 8 8
    let n := fld r.payload 16 4
    let b := memGet s (memExch + eo) n
    let c := xferSource s tg o n
    tg ≤ 4 → allZero ((r.payload.drop 1).take 3) = true → eo % 8 = 0 → eo + n ≤ 16 * miB → o + n ≤ xferRoom s tg → 8 ≤ n → n % 8 = 0 →
    s.dma.xfer = none → (tg = 0 → par0 s pPlanMode ≠ 0 ∧ s.sch.copyBack ≤ (advance t s).dev) → (tg = 2 → s.desk.erase = none) →
    (winOverlaps s eo n = true → RefusedWith (.dmaXfer t r) r 0x0E10 rBUSY t s) ∧
    (winOverlaps s eo n = false →
    (tg = 0 → memBad s (memExch + eo) n = false →
      CompletesOk (.dmaXfer t r) r 0x0E10 s { advance t s with par.shadow.itin := cputs 0 s.par.shadow.itin o b, par.shadow.itinHas := true }
        (fun p => p = le 4 n ++ le 4 (crc32 b))) ∧
    (tg = 1 → memBad s (memExch + eo) n = false →
      CompletesOk (.dmaXfer t r) r 0x0E10 s { advance t s with sch.base := cputs 0 s.sch.base o b, sch.baseArmed := false, sch.planFrom := none }
        (fun p => p = le 4 n ++ le 4 (crc32 b))) ∧
    (tg = 2 → s.nk.wrHeld = false →
      Runs (.dmaXfer t r) s (fun u => (mb u r.mb).st = 1 ∧ DeskOnly r.mb { advance t s with
        dma.xfer := some { mb := r.mb, tag := r.tag, target := tg, exch := eo, off := o, len := n } } u)) ∧
    (tg = 3 ∨ tg = 4 ∧ memBad s (memFreeze + o) n = false →
      CompletesOk (.dmaXfer t r) r 0x0E10 s (memPut (memExch + eo) c (advance t s)) (fun p => p = le 4 c.length ++ le 4 (crc32 c))))) ∧
  (∀ (t : Nat) (x : Xfer) (s : State), Awake s → s.dma.xfer = some x → s.desk.fwWait = [] → s.nk.wrHeld = false → memBad s (memExch + x.exch) x.len = false →
    x.mb < 8 → (mb s x.mb).origin = none →
    let b := memGet s (memExch + x.exch) x.len
    Runs (.dmaXferDone t) s (fun u => Answered { mb := x.mb, tag := x.tag, payload := [] } 0x0E10 rOK (le 4 b.length ++ le 4 (crc32 b)) u
      ∧ DeskOnly x.mb (slotPut x.off b { advance t s with dma.xfer := none }) u)) ∧
  (∀ (t : Nat) (r : Req) (s : State), Ready r s → r.payload.length = 4 → fld r.payload 0 1 ≤ 2 → allZero (r.payload.drop 1) = true →
    let c := fld r.payload 0 1
    let e := if c = 1 then incident 1 (advance t s)
      else if c = 2 ∧ s.lgb.st = 2 then { advance t s with lgb.st := 0, lgb.kind := 0, lgb.trigAt := 0, lgb.blocks := [] } else advance t s
    CompletesOk (.logControl t r) r 0x0E11 s e (fun p => p.length = 36 ∧ p.take 2 = le 1 e.lgb.st ++ le 1 e.lgb.kind)) ∧
  (∀ (t : Nat) (r : Req) (s : State), Ready r s → r.payload.length = 4 → fld r.payload 0 1 < 4 → allZero (r.payload.drop 1) = true →
    let a := (fld r.payload 0 1).testBit 0
    let b := (fld r.payload 0 1).testBit 1
    CompletesOk (.memStatusRead t r) r 0x0E12 s { advance t s with
        mem.corr := if a then 0 else s.mem.corr, mem.uncorr := s.mem.uncorr.clear a b, dma.shedC := s.dma.shedC.clear a b }
      (fun p => p.length = 36 ∧ p.take 6 = le 4 s.mem.usable ++ le 2 s.mem.rate ∧ (p.drop 8).take 8 = le 8 s.mem.corr))

/-- The DMA engines and the logbook (R482, R488 to R490, R500): GO starts an idle chain at its first descriptor, clearing HALTED resumes
after the bad one, on a logbook channel the oldest record on its way there arrives, on another the given bytes: it joins its queue or is shed, which a queue at
START_WM ends with a GAP record, or a frozen or unwanted logbook discards it; a sink takes bytes; the funnel of R485's example; the logbook freezes when its time has come.
Model's own choices: log entries 7, 65, 82, 120, 140. -/
def Obligations.DmaAndLogbookRun : Prop :=
  (∀ (t n : Nat) (s : State), Awake s → n ≤ 7 → (dmaC s n).busy = false →
    Runs (.dmaGo t n) s (fun u => (dmaC u n).busy = true ∧ (dmaC u n).cur = (dmaC s n).first ∧ (dmaC u n).first = (dmaC s n).first
      ∧ u.dma.shedC = s.dma.shedC ∧ LogOnly { advance t s with dma := u.dma, ic := u.ic, mem := u.mem } u)) ∧
  (∀ (t n : Nat) (s : State), Awake s → n ≤ 31 → (dmaS s n).halted = true →
    Runs (.haltedClear t true n) s (fun u => (dmaS u n).head = ((dmaS s n).head + 1) % ringSize (dmaS s n) ∧ (dmaS u n).queue = (dmaS s n).queue
      ∧ (dmaS u n).ring = (dmaS s n).ring ∧ LogOnly { advance t s with dma := u.dma, ic := u.ic, mem := u.mem } u)) ∧
  (∀ (t n : Nat) (s : State), Awake s → n ≤ 7 → (dmaC s n).halted = true →
    let last := (unle (memGet s ((dmaC s n).cur + 28) 2)).testBit 1
    Runs (.haltedClear t false n) s (fun u => (dmaC u n).busy = !last
      ∧ (dmaC u n).cur = (if last then 0 else unle (memGet s ((dmaC s n).cur + 16) 8))
      ∧ LogOnly { advance t s with dma := u.dma, ic := u.ic, mem := u.mem } u)) ∧
  (∀ (t n : Nat) (o b : List Byte) (s : State), Awake s → n ≤ 31 → n ≠ 16 → n ≠ 17 → (dmaS s n).fromMem = false →
    let x := dmaS s n
    let book := logKind n ≠ 0
    (if n = 9 then s.desk.logDue.head? else if n ≤ 8 then (s.str.logDue.find? (fun p => p.1 == n)).map (·.2) else some o) = some b →
    let e := { advance t s with str.logDue := if n ≤ 8 then s.str.logDue.erase (n, b) else s.str.logDue }
    ((book → s.lgb.st ≠ 2 ∧ (par0 s pLogContent).testBit (logKind n - 1) = true) → x.shed = false → chanFill s n + b.length ≤ x.stopWm * 256 →
      Runs (.dmaRecord t n o) s (fun u => (dmaS u n).queue = x.queue ++ [b] ∧ (dmaS u n).recs = x.recs ++ [(coarse (advance t s), b)]
        ∧ (dmaS u n).head = x.head ∧ (n = 9 → ∃ q, u.desk.logDue = s.desk.logDue.tail ++ q)
        ∧ LogOnly { e with dma := u.dma, ic := u.ic, mem := u.mem } u)) ∧
    ((book → s.lgb.st ≠ 2 ∧ (par0 s pLogContent).testBit (logKind n - 1) = true) → (x.shed = true ∨ x.stopWm * 256 < chanFill s n + b.length) →
      n ≠ 14 → n ≠ 15 →
      let ep := match x.ep with | some p => (p.1, p.2 + 1) | none => ((advance t s).dev, 1)
      let lost : Loss :=
        { kind := 0, frame := 0, stage := 6, cls := n, index := n % 4, start := ep.1, stop := (advance t s).dev, items := ep.2 }
      Runs (.dmaRecord t n o) s (fun u => (dmaS u n).queue = x.queue ∧ u.dma.shedC = s.dma.shedC.add 1
        ∧ (x.startWm * 256 < chanFill s n → (dmaS u n).shed = true ∧ (dmaS u n).ep = some ep
            ∧ LogOnly { e with desk.logDue := u.desk.logDue, dma := u.dma } u)
        ∧ (chanFill s n ≤ x.startWm * 256 → (dmaS u n).shed = false ∧ (dmaS u n).ep = none
            ∧ u.str.logDue = e.str.logDue ++ [(8, lossBytes lost)]
            ∧ LogOnly { e with dma := u.dma, str := u.str } u))) ∧
    (book → (s.lgb.st = 2 ∨ (par0 s pLogContent).testBit (logKind n - 1) = false) →
      exec (.dmaRecord t n o) s = .next (if n = 9 then { e with desk.logDue := s.desk.logDue.tail } else e))) ∧
  (∀ (t n : Nat) (o : List Byte) (s : State), Awake s → n ≤ 31 → n = 16 ∨ n = 17 ∨ (dmaS s n).fromMem = true →
    Runs (.dmaRecord t n o) s (fun u => (dmaS u n).sink = (dmaS s n).sink - o.length ∧ (dmaS u n).queue = (dmaS s n).queue
      ∧ LogOnly { advance t s with dma := u.dma, ic := u.ic, mem := u.mem } u)) ∧
  (funnel 41 0x2023 1000).map (·.2) = [1, 4, 8, 16] ++ List.replicate 30 32 ++ [8, 2, 1] ∧
  (∀ (t : Nat) (s : State), Awake s → s.lgb.st = 1 → s.lgb.stopAt ≤ (advance t s).dev →
    Runs (.logFrozen t) s (fun u => u.lgb.st = 2 ∧ u.lgb.blocks.length = s.lgb.blocks.length ∧ u.lgb.kind = s.lgb.kind
      ∧ LogOnly { advance t s with lgb := u.lgb, mem.bytes := u.mem.bytes, mem.bad := u.mem.bad } u))

/-- The health unit (R294, R509 to R516, R530, R531): samples reach the sensors at their sampling interval and do nothing before it, the write interlock follows them, throttle intervals move the
target by one step, rails keep what was measured, an oscillator's ratio is its count over its OTP value, and the two commands complete.
Model's own choices: log entries 7, 69, 70, 71, 121. -/
def Obligations.HealthRuns : Prop :=
  (∀ (t : Nat) (rs : List (Option Int)) (s : State),
    (intervalOver s.hlt.tempAt (tempPeriod s) (advance t s) = false → exec (.tempSample t rs) s = .next (advance t s)) ∧
    (intervalOver s.hlt.tempAt (tempPeriod s) (advance t s) = true → Runs (.tempSample t rs) s (fun u =>
      (∀ n, n < 24 → (Awake s ∨ n = 14) → (dieSensor u n).t = (match rs.getD n none with | some v => v | none => (dieSensor s n).t)
        ∧ (dieSensor u n).misses = (if (rs.getD n none).isSome then 0 else (dieSensor s n).misses + 1))
      ∧ (∀ n, (dieSensor u n).retired = (dieSensor s n).retired) ∧ u.nk.wrHeld = writeHold u ∧ u.hlt.tempAt = some (advance t s).wall
      ∧ LogOnly { advance t s with desk := u.desk, hlt := u.hlt, ic := u.ic, lgb := u.lgb, nk := u.nk, par := u.par, pins := u.pins, sch := u.sch,
                                   str := u.str, twn := u.twn } u
      ∧ u.par.inForce = s.par.inForce ∧ u.par.shadow = s.par.shadow ∧ u.sch.frameNo = s.sch.frameNo))) ∧
  (∀ (t b : Nat) (s : State), Awake s → par0 s pHealthThermalMode = 0 → b ≤ (advance t s).dev →
    (s.hlt.riseAt = some b → Runs (.throttleStepTimer t) s (fun u => u.hlt.target = min 8 (s.hlt.target + 1)
      ∧ u.hlt.riseAt = some (b + 100 * tMs) ∧ LogOnly { advance t s with hlt := u.hlt, sch.ceil := u.sch.ceil, sch.rdiv := u.sch.rdiv } u)) ∧
    (s.hlt.riseAt = none → s.hlt.coolAt = some b → Runs (.throttleStepTimer t) s (fun u =>
      u.hlt.target = (if s.hlt.barred || substituted s then s.hlt.target else s.hlt.target - 1)
      ∧ u.hlt.coolAt = some (b + tSec) ∧ LogOnly { advance t s with hlt := u.hlt, sch.ceil := u.sch.ceil, sch.rdiv := u.sch.rdiv } u))) ∧
  (∀ (t : Nat) (mvs : List Nat) (s : State),
    (intervalOver s.hlt.voltAt (10 * tUs) (advance t s) = false → exec (.voltageSample t mvs) s = .next (advance t s)) ∧
    (intervalOver s.hlt.voltAt (10 * tUs) (advance t s) = true → Runs (.voltageSample t mvs) s (fun u =>
      (∀ i, i < 12 → (tget {} u.hlt.rails i).mv = (if i < mvs.length then some (mvs.getD i 0) else (tget {} s.hlt.rails i).mv))
      ∧ u.pins.vddNk = (match mvs.head? with | some mv => decide (752 ≤ mv ∧ mv ≤ 848) | none => s.pins.vddNk)
      ∧ GuardActs { advance t s with
          hlt.rails := u.hlt.rails, hlt.voltAt := some (advance t s).wall, rst.cmdUntil := u.rst.cmdUntil, pins.vddNk := u.pins.vddNk } u
      ∧ (u.pins.vddNk = s.pins.vddNk → u = { advance t s with
          hlt.rails := u.hlt.rails, hlt.voltAt := some (advance t s).wall, rst.cmdUntil := u.rst.cmdUntil, ic := u.ic, free := u.free })))) ∧
  (∀ (t i b mv : Nat) (s : State), Awake s → let x := tget {} s.hlt.rails i
    x.out = some b → x.mv = some mv → x.logged = false → b + 100 * tUs ≤ (advance t s).wall →
    Runs (.healthVoltage t i) s (LogOnly { advance t s with
      hlt.rails := tput {} s.hlt.rails i { x with logged := true }, hlt.warns := s.hlt.warns.add 1 })) ∧
  (∀ (t : Nat) (cs : List Nat) (s : State), Awake s →
    (intervalOver s.hlt.ageAt tSec (advance t s) = false → exec (.ageingMeasure t cs) s = .next (advance t s)) ∧
    (intervalOver s.hlt.ageAt tSec (advance t s) = true → Runs (.ageingMeasure t cs) s (fun u =>
      (∀ i, i < 16 → i < cs.length →
        (tget 0 s.nv.osc i ≠ 0 → tget 0 u.hlt.osc i = min 65535 (cs.getD i 0 * 32768 / tget 0 s.nv.osc i))
        ∧ (100 * tget 0 u.hlt.osc i < 95 * 32768 → u.hlt.oscLow.testBit i = true)
        ∧ (s.hlt.oscLow.testBit i = true → u.hlt.oscLow.testBit i = true))
      ∧ LogOnly { advance t s with hlt.osc := u.hlt.osc, hlt.oscLow := u.hlt.oscLow, hlt.ageAt := some (advance t s).wall, ic := u.ic } u))) ∧
  (∀ (t : Nat) (s : State), Awake s → Runs (.healthScoreUpdate t) s (fun u =>
      u.hlt.score = scoreBase s.desk.st - sumN (penalties (advance t s)) ∧ u.desk.health = u.hlt.score
      ∧ u = { advance t s with desk.health := u.desk.health, hlt.score := u.hlt.score, hlt.penal := u.hlt.penal })) ∧
  (∀ (t : Nat) (r : Req) (s : State), Ready r s → r.payload.length = 4 → fld r.payload 0 1 < 4 → allZero (r.payload.drop 1) = true →
    let a := (fld r.payload 0 1).testBit 0
    let b := (fld r.payload 0 1).testBit 1
    CompletesOk (.healthRead t r) r 0x0B10 s
      { advance t s with hlt.steps := s.hlt.steps.clear a b, hlt.warns := s.hlt.warns.clear a b } (fun p => p = healthPayload s)) ∧
  (∀ (t : Nat) (r : Req) (s : State), Ready r s → r.payload.length = 4 → allZero (r.payload.drop 1) = true →
    let n := fld r.payload 0 1
    n < 24 → 12 ≤ ((List.range 24).filter (fun k => (dieSensor s k).valid && k != n)).length →
    Runs (.healthSensorRetire t r) s (fun u => Answered r 0x0B11 rOK (le 4 (retiredMask u)) u
      ∧ dieSensor u n = { dieSensor s n with retired := true, subst := none } ∧ (∀ k, k ≠ n → dieSensor u k = dieSensor s k)
      ∧ u.nk.wrHeld = writeHold u ∧ u.nv = s.nv ∧ u.par.inForce = s.par.inForce ∧ u.par.shadow = s.par.shadow ∧ u.mem = s.mem ∧ u.cal = s.cal
      ∧ u.tal = s.tal ∧ u.ext = s.ext))

/-- The lane commands complete (R388, R389, R391 to R393, R395 to R398): retraining restarts the enabled lanes named and no others, a test
mode is taken or left with its injection, the status is read and cleared, and an eye scan answers at its end with the offsets it reached. Model's own choices: log entries 72, 73, 74. -/
def Obligations.LaneCommandsComplete : Prop :=
  (∀ (t : Nat) (r : Req) (s : State), Ready r s → r.payload.length = 4 → fld r.payload 0 2 ≤ 1023 → fld r.payload 2 2 = 0 →
    Runs (.laneRetrain t r) s (fun u => Answered r 0x0910 rOK [] u
      ∧ DeskOnly r.mb { advance t s with lan.ch := u.lan.ch, str.paths := u.str.paths, tim := u.tim } u
      ∧ ∀ l, l < 10 → if (fld r.payload 0 2).testBit l = true ∧ par s pLaneEnable l = 1 then 1 ≤ (lane u l).st ∧ (lane u l).st ≤ 3 ∧ (lane u l).struck = 0
          else lane u l = lane s l)) ∧
  (∀ (t : Nat) (r : Req) (s : State), Ready r s → r.payload.length = 8 →
    let l := fld r.payload 0 1
    let pt := fld r.payload 2 1
    let x := lane s l
    let kind := fld r.payload 3 1
    let n := fld r.payload 4 1
    let y := x.injected + injDue (advance t s) x
    let ok := fun (m : Nat) (u : State) => Answered r 0x0911 rOK (le 1 l ++ le 1 m ++ le 2 0) u
      ∧ DeskOnly r.mb { advance t s with lan.ch := u.lan.ch, str.paths := u.str.paths, tim := u.tim } u ∧ (lane u l).mode = m
      ∧ ∀ k, k ≠ l → lane u k = lane s k
    let injects := fun (u : State) => (kind = 0 → (lane u l).inject = 0 ∧ (lane u l).injected = y)
      ∧ (kind = 1 → (lane u l).inject = 0 ∧ (lane u l).injected = y + 1) ∧ (kind = 2 → (lane u l).inject = 0 ∧ (lane u l).injected = y + n)
      ∧ (kind = 3 → (lane u l).inject = 3 ∧ (lane u l).injN = n ∧ (lane u l).injected = y)
    l < 10 → allZero (r.payload.drop 5) = true → injectOk kind n = true →
    (fld r.payload 1 1 = 1 → x.everUp = true → pt ≤ 4 → (pt = 4 → 1 < testRate x) →
      Runs (.laneTest t r) s (fun u => ok 1 u ∧ (lane u l).st = 5 ∧ (lane u l).pattern = pt ∧ (lane u l).rate = testRate x ∧ injects u)) ∧
    (fld r.payload 1 1 = 2 → x.st ≠ 0 → kind = 0 →
      let v := if x.st = 6 ∨ x.st = 2 then 0 else testRate x
      pt ≤ 4 → (pt = 4 → 1 < v) →
      Runs (.laneTest t r) s (fun u => ok 2 u ∧ (lane u l).st = 5 ∧ (lane u l).pattern = pt ∧ (lane u l).rate = v
        ∧ (v = 0 → (lane u l).fec = 0) ∧ (lane u l).inject = 0 ∧ (lane u l).injected = y)) ∧
    (fld r.payload 1 1 = 3 → x.everUp = true → kind = 0 →
      Runs (.laneTest t r) s (fun u => ok 3 u ∧ (lane u l).st = 5 ∧ (lane u l).rate = testRate x ∧ (lane u l).inject = 0 ∧ (lane u l).injected = y)) ∧
    (fld r.payload 1 1 = 0 → x.st = 5 →
      Runs (.laneTest t r) s (fun u => ok 0 u ∧ (lane u l).st = 3 ∧ (lane u l).target = x.rate ∧ (lane u l).injected = y)) ∧
    (fld r.payload 1 1 = 0 → x.st = 4 → x.mode = 0 →
      Runs (.laneTest t r) s (fun u => ok 0 u ∧ (lane u l).st = 4 ∧ (lane u l).rate = x.rate ∧ injects u)) ∧
    (fld r.payload 1 1 = 2 ∨ fld r.payload 1 1 = 3 → kind ≠ 0 → x.everUp = true → x.st ≠ 0 → RefusedWith (.laneTest t r) r 0x0911 rBadParam t s) ∧
    (fld r.payload 1 1 = 1 ∨ fld r.payload 1 1 = 3 → x.everUp = false → RefusedWith (.laneTest t r) r 0x0911 rNotPermitted t s)) ∧
  (∀ (t : Nat) (r : Req) (s : State), Ready r s → r.payload.length = 4 → fld r.payload 1 1 < 4 → fld r.payload 2 2 = 0 →
    let l := fld r.payload 0 1
    l < 10 →
    Runs (.laneStatusRead t r) s (fun u => (∃ p, p.length = 68 ∧ p.take 2 = le 1 l ++ le 1 (lane s l).st
        ∧ (p.drop 40).take 16 = le 8 ((lane s l).words + wordsDue (advance t s) (lane s l)) ++ le 8 ((lane s l).injected + injDue (advance t s) (lane s l))
        ∧ Answered r 0x0912 rOK p u)
      ∧ DeskOnly r.mb { advance t s with lan.ch := u.lan.ch } u ∧ (lane u l).st = (lane s l).st ∧ (lane u l).rate = (lane s l).rate
      ∧ ((fld r.payload 1 1).testBit 0 = true → (lane u l).corrected = 0 ∧ (lane u l).uncorr = 0 ∧ (lane u l).symbols = 0 ∧ (lane u l).words = 0
          ∧ (lane u l).injected = 0 ∧ (lane u l).downs.val = 0 ∧ (lane u l).losses.val = 0 ∧ (lane u l).steps.val = 0)
      ∧ ∀ k, k ≠ l → lane u k = lane s k)) ∧
  (∀ (t : Nat) (r : Req) (s : State), Ready r s → r.payload.length = 8 →
    let l := fld r.payload 0 1
    let k := fld r.payload 1 1
    let d := fld r.payload 2 1
    let x := lane s l
    l < 10 → (x.st = 4 ∨ x.st = 5 ∧ x.mode = 1 ∧ x.locked = true) → k ≤ 2 → 20 ≤ d → d ≤ 40 → fld r.payload 3 1 = 0 →
    (if k = 2 then -32 ≤ fldI r.payload 4 1 ∧ fldI r.payload 4 1 ≤ 31 ∧ -127 ≤ fldI r.payload 5 1 else fld r.payload 6 2 ≠ 0) →
    scanOffsets k * 2 ^ d * 32 ≤ 60000000000 * rate32 x.rate → s.lan.scan = none →
    Runs (.laneEyeScan t r) s (fun u => (mb u r.mb).st = 1
      ∧ DeskOnly r.mb { advance t s with lan.scan := some {
          lane := l, kind := k, d := d, h := fldI r.payload 4 1, v := fldI r.payload 5 1, thr := fld r.payload 6 2, eyes := if x.rate ≤ 1 then 1 else 3
          mb := r.mb, tag := r.tag } } u)) ∧
  (∀ (t : Nat) (low high : List (List Nat)) (count : List Nat) (e : EyeScan) (s : State), Awake s → s.lan.scan = some e → e.mb < 8 →
    (mb s e.mb).origin = none → e.eyes = 1 ∨ e.eyes = 3 →
    Runs (.eyeScanDone t low high count) s (fun u => DeskOnly e.mb { advance t s with lan.scan := none } u
      ∧ ∃ p, p.length = 28 ∧ p.take 4 = le 1 e.lane ++ le 1 e.eyes ++ le 2 0
        ∧ (∀ i, i < e.eyes → let field := (p.drop (4 + 8 * i)).take 8
            (e.kind = 2 → field = le 8 (min (count.getD i 0) (2 ^ e.d)))
            ∧ (e.kind ≠ 2 → ∀ o, eyeReach e (low.getD i []) (high.getD i []) = some o → field = leI 2 o.1 ++ leI 2 o.2 ++ le 4 0))
        ∧ Answered { mb := e.mb, tag := e.tag, payload := [] } 0x0913 rOK p u))

/-- Lane bring-up (R377 to R387, R391): each event moves its lane as the steps of bring-up say, and touches no other lane;
a lane that fails in UP loses the frame it was sending. Model's own choices: log entries 7, 72. -/
def Obligations.LaneEventsComplete : Prop :=
  (∀ (t l : Nat) (ok : Bool) (s : State), Awake s → l < 10 → (lane s l).st = 1 →
    Runs (.laneSelfCheckDone t l ok) s (fun u => (ok = false → (lane u l).st = 0 ∧ (lane u l).failed = true)
      ∧ (ok = true → (lane s l).since + tMs ≤ (advance t s).dev → (lane u l).st = 2 ∨ (lane u l).st = 3)
      ∧ (ok = true → (advance t s).dev < (lane s l).since + tMs → lane u l = lane s l)
      ∧ (∀ k, k ≠ l → lane u k = lane s k) ∧ LogOnly { advance t s with lan.ch := u.lan.ch, str.paths := u.str.paths, tim := u.tim, ic := u.ic } u)) ∧
  (∀ (t l m c : Nat) (s : State), Awake s → l < 8 → (lane s l).st = 2 → (lane s l).an = 0 →
    ((laneRates l s).filter (fun c => m.testBit c)).getLast? = some c →
    Runs (.negotiationComplete t l m) s (fun u => (lane u l).st = 3 ∧ (lane u l).target = c ∧ (lane u l).partner = m ∧ (lane u l).anDone = true
      ∧ (∀ k, k ≠ l → lane u k = lane s k) ∧ LogOnly { advance t s with lan.ch := u.lan.ch, str.paths := u.str.paths, tim := u.tim, ic := u.ic } u)) ∧
  (∀ (t l : Nat) (h : Hello) (s : State), Awake s → 8 ≤ l → l < 10 → (lane s l).st = 2 →
    Runs (.twinHello t l h) s (fun u => (h.serial = s.nv.serial % 2 ^ 24 → (lane u l).st = 6)
      ∧ (∀ c, h.serial ≠ s.nv.serial % 2 ^ 24 → (lane s l).lastHello = some h → 2 ≤ (lane s l).helloN → h.ack = s.nv.serial % 2 ^ 24 →
          (twinRates l h s).getLast? = some c →
          (lane u l).st = 3 ∧ (lane u l).target = c ∧ (lane u l).partner = h.mask)
      ∧ (h.serial ≠ s.nv.serial % 2 ^ 24 → h.ack ≠ s.nv.serial % 2 ^ 24 → (lane u l).st = 2 ∧ (lane u l).lastHello = some h)
      ∧ (∀ k, k ≠ l → lane u k = lane s k) ∧ LogOnly { advance t s with lan.ch := u.lan.ch, str.paths := u.str.paths, tim := u.tim, ic := u.ic } u)) ∧
  (∀ (t l : Nat) (s : State), Awake s → l < 10 → (8 ≤ l ∨ (lane s l).an = 1 → (lane s l).since + par s pLaneTrainTimeout l * tMs ≤ (advance t s).dev) →
    let x := lane s l
    Runs (.trainTimeout t l) s (fun u =>
      (x.st = 3 → x.tries + 1 < par s pLaneTrainAttempts l → (lane u l).st = 3 ∧ (lane u l).tries = x.tries + 1 ∧ (lane u l).target = x.target)
      ∧ (x.st = 3 → par s pLaneTrainAttempts l ≤ x.tries + 1 → (laneRates l s).all (fun c => decide (x.target ≤ c)) = true → (lane u l).st = 6)
      ∧ (∀ c, x.st = 3 → par s pLaneTrainAttempts l ≤ x.tries + 1 → ((laneRates l s).filter (fun c => decide (c < x.target))).getLast? = some c →
          (lane u l).steps = x.steps.add 1 ∧ (lane u l).struck = x.struck ||| 2 ^ x.target ∧ (lane u l).tries = 0
          ∧ (8 ≤ l ∨ x.an = 1 → (lane u l).st = 3 ∧ (lane u l).target = c) ∧ (l < 8 → x.an = 0 → (lane u l).st = 2 ∨ (lane u l).st = 3))
      ∧ (x.st = 2 → 8 ≤ l → (lane u l).st = 6) ∧ (x.st ≠ 2 → x.st ≠ 3 → lane u l = x)
      ∧ (∀ k, k ≠ l → lane u k = lane s k) ∧ LogOnly { advance t s with lan.ch := u.lan.ch, str.paths := u.str.paths, tim := u.tim, ic := u.ic } u)) ∧
  (∀ (t l : Nat) (s : State), Awake s → l < 10 → (lane s l).st = 3 →
    Runs (.laneUp t l) s (fun u => (lane u l).st = 4 ∧ (lane u l).rate = (lane s l).target ∧ (lane u l).everUp = true
      ∧ (∀ k, k ≠ l → lane u k = lane s k) ∧ LogOnly { advance t s with lan.ch := u.lan.ch, str.paths := u.str.paths, tim := u.tim, ic := u.ic } u)) ∧
  (∀ (t l n : Nat) (s : State), Awake s → l < 10 → (lane s l).st = 4 →
    (n = 1 ∧ (lane s l).since + tMs ≤ (advance t s).dev) ∨ (n = 3 ∧ (lane s l).fec ≠ 0) →
    Runs (.laneDown t l n) s (fun u => (lane u l).st = 3 ∧ (lane u l).target = (lane s l).rate ∧ (lane u l).tries = 0
      ∧ (lane u l).downs = (lane s l).downs.add 1 ∧ (lane u l).cap = (lane s l).rate
      ∧ (∀ k, k ≠ l → lane u k = lane s k) ∧ LogOnly { advance t s with
          lan.ch := u.lan.ch, str.tx := tput {} s.str.tx l {}, str.paths := u.str.paths, tim := u.tim, ic := u.ic } u)) ∧
  (∀ (t l : Nat) (s : State), Awake s → l < 10 → (lane s l).st = 6 → (lane s l).since + par s pLaneRetryInterval l * tMs ≤ (advance t s).dev →
    Runs (.laneRetry t l) s (fun u => ((lane u l).st = 2 ∨ (lane u l).st = 3) ∧ (lane u l).struck = 0 ∧ (lane u l).tries = 0
      ∧ (∀ k, k ≠ l → lane u k = lane s k) ∧ LogOnly { advance t s with lan.ch := u.lan.ch, str.paths := u.str.paths, tim := u.tim, ic := u.ic } u)) ∧
  (∀ (t l : Nat) (s : State), Awake s → l < 10 → (lane s l).st = 5 → (lane s l).mode ≠ 3 → (lane s l).locked = false →
    exec (.checkerLock t l) s = .next (setLane (advance t s) l { lane s l with
      locked := true, lockFrom := (advance t s).dev, lockAt := (advance t s).dev })) ∧
  (∀ (t l n : Nat) (s : State), Awake s → l < 10 → (lane s l).locked = true → 16384 ≤ n → n ≤ 65536 →
    65536 ≤ bitsIn (lane s l).rate ((advance t s).dev - (lane s l).lockFrom) →
    let b := bitsDue (advance t s) (lane s l)
    Runs (.checkerLockLoss t l n) s (fun u => (lane u l).locked = false ∧ (lane u l).losses = (lane s l).losses.add 1
      ∧ (∃ e, lossLow b n ≤ e ∧ e ≤ lossHigh b n ∧ (lane u l).errors = (lane s l).errors.add (2 ^ 48 - 1) e)
      ∧ (lane u l).words = (lane s l).words + wordsDue (advance t s) (lane s l) ∧ (lane u l).st = (lane s l).st
      ∧ (∀ k, k ≠ l → lane u k = lane s k) ∧ LogOnly { advance t s with lan.ch := u.lan.ch } u))

/-- The stream's commands complete (R330, R368, R369, R370, R372): a slot's configuration, a raw request from the next frame on, the security
associations, and the status with its clears. Model's own choices: log entries 54, 55. -/
def Obligations.StreamCommandsComplete : Prop :=
  (∀ (t : Nat) (r : Req) (s : State), Ready r s → r.payload.length = 16 →
    let k := fld r.payload 0 1
    let id := fld r.payload 4 2
    let tci := fld r.payload 6 2
    let x := slot s k
    k ≤ 7 → fld r.payload 1 1 ≤ 1 → fld r.payload 2 1 ≤ 1 → fld r.payload 3 1 ≤ 1 → fld r.payload 14 2 = 0 →
    (fld r.payload 3 1 = 1 → tci % 4096 ≠ 0 ∧ tci % 4096 ≠ 4095 ∧ tci.testBit 12 = false) →
    let c : SlotCfg :=
      { enable := fld r.payload 1 1 == 1, path := fld r.payload 2 1, vlan := fld r.payload 3 1 == 1, id := id, tci := tci, dest := fld r.payload 8 6 }
    CompletesOk (.streamConfig t r) r 0x0810 s (setSlot (advance t s) k { x with cfg := c, epoch := x.epoch + b2n (decide (id ≠ x.cfg.id)) })
      (fun p => p = [])) ∧
  (∀ (t : Nat) (r : Req) (s : State), Ready r s →
    let n := fld r.payload 1 1
    let first := (s.sch.frameNo.val.toNat + b2n (decide (s.sch.linesRun ≠ 0))) % 2 ^ 32
    r.payload.length = 4 + 12 * n → fld r.payload 0 1 ≤ 1 → n ≤ 8 → fld r.payload 2 2 = 0 →
    (∀ i, i < n → fld r.payload (12 + 12 * i) 1 ≤ 3 ∧ fld r.payload (13 + 12 * i) 3 = 0) →
    let q : RawReq := { first := first, fine := fld r.payload 0 1 == 1, regions := (List.range n).map (rawRegion r.payload) }
    CompletesOk (.rawRequest t r) r 0x0811 s { advance t s with str.raws := (q :: s.str.raws.filter (fun x => x.first != first)).take 64 }
      (fun p => p = le 4 first)) ∧
  (∀ (t : Nat) (r : Req) (s : State), Ready r s → r.payload.length = 68 →
    let p := fld r.payload 0 1
    let d := fld r.payload 1 1
    let an := fld r.payload 2 1
    let k := p * 8 + d * 4 + an
    p ≤ 1 → d ≤ 1 → an ≤ 3 →
    (fld r.payload 3 1 = 1 → fld r.payload 12 8 < pnSpace s → (par0 s pMacsecCipher % 2 = 0 → allZero (r.payload.drop 52) = true) →
      (∀ a, tget none s.str.sas k = some a → a.active = false) →
      let a : Sa :=
        { sci := fld r.payload 4 8, pn := fld r.payload 12 8, ssci := fld r.payload 20 4, salt := (r.payload.drop 24).take 12, key := r.payload.drop 36 }
      CompletesOk (.macsecKeySet t r) r 0x0812 s { advance t s with str.sas := tput none s.str.sas k (some a) } (fun p => p = [])) ∧
    (∀ a, tget none s.str.sas k = some a →
      (fld r.payload 3 1 = 3 →
        CompletesOk (.macsecKeySet t r) r 0x0812 s { advance t s with str.sas := tput none s.str.sas k none } (fun p => p = [])) ∧
      (fld r.payload 3 1 = 2 → a.pn < pnSpace s →
        Runs (.macsecKeySet t r) s (fun u => Answered r 0x0812 rOK [] u
          ∧ DeskOnly r.mb { advance t s with str.sas := u.str.sas, str.paths := u.str.paths } u
          ∧ (∃ b, tget none u.str.sas k = some b ∧ b.active = true ∧ b.pn = a.pn ∧ b.key = a.key)
          ∧ (d = 0 → ∀ n b, n < 4 → n ≠ an → tget none u.str.sas (p * 8 + n) = some b → b.active = false))))) ∧
  (∀ (t : Nat) (r : Req) (s : State), Ready r s → r.payload.length = 4 → fld r.payload 0 1 ≤ 1 → fld r.payload 1 1 < 4 → fld r.payload 2 2 = 0 →
    let p := fld r.payload 0 1
    let k := (fld r.payload 1 1).testBit 0
    let g := (fld r.payload 1 1).testBit 1
    let e := assemble (advance t s)
    let x := path e p
    CompletesOk (.streamStatusRead t r) r 0x0814 s (setPath e p { x with
        frames := if k then 0 else x.frames, bytes := if k then 0 else x.bytes
        shed := (List.range 5).foldl (fun m i => tput {} m (i + 1) ((tget {} m (i + 1) : CntW).clear k g)) x.shed
        repl := x.repl.clear k g, lossC := x.lossC.clear k g, ceil := x.ceil.clear k g })
      (fun b => b.length = 56 ∧ b.take 4 = le 1 p ++ le 1 (linksUp s p) ++ le 2 (capacity s p) ∧ (b.drop 8).take 16 = le 8 (path s p).frames ++ le 8 (path s p).bytes))

/-- The stream's events (R330, R332, R335, R358, R360, R361, R415): the decks' waiting records are assembled, frames whose time has come leave,
of the free links of a path the one free longest takes the copy held for the path or its next frame, one token per 20 P cycles falls due, up to 256,
a frame of no accepted kind is counted. Model's own choices: log entries 7, 56, 114, 115. -/
def Obligations.StreamEventsComplete : Prop :=
  (∀ (t k c : Nat) (s : State), Awake s → Runs (.bluwardFlush t k c) s (fun u =>
      u.str.opens = (assemble (advance t s)).str.opens.filter (fun o => !flushDue (advance t s) k c o)
      ∧ LogOnly { advance t s with nk.segs := u.nk.segs, str := u.str, twn.lateC := u.twn.lateC } u)) ∧
  (∀ (t k c : Nat) (s : State), Awake s → Runs (.keyClose t k c) s (fun u =>
      u.str.opens = (assemble (advance t s)).str.opens.filter (fun o => !keyDue (advance t s) k c o)
      ∧ LogOnly { advance t s with nk.segs := u.nk.segs, str := u.str, twn.lateC := u.twn.lateC } u)) ∧
  (∀ (t l : Nat) (s : State), Awake s →
    let e := assemble (advance t s)
    let p := l / 4
    let until_ := fun (v : State) j => (tget {} v.str.tx j).until_
    let can := linkUp s l = true ∧ until_ s l ≤ e.dev ∧ maySend s p (macsecOn s) = true
    Runs (.linkFree t l) s (fun u =>
      LogOnly { advance t s with mem.spill := u.mem.spill, nk.segs := u.nk.segs, str := u.str, twn.lateC := u.twn.lateC } u
      ∧ (¬can → u.str.tx = s.str.tx)
      ∧ (can → ∃ k, k / 4 = p ∧ linkUp s k = true ∧ until_ s k ≤ e.dev
        ∧ (∀ j, j / 4 = p → linkUp s j = true → until_ s j ≤ e.dev → until_ s k < until_ s j ∨ until_ s k = until_ s j ∧ k ≤ j)
        ∧ (∀ f q rest, (path s p).buf = (f, q) :: rest → (path u p).buf = rest ∧ (path u p).frames = (path s p).frames + 1
            ∧ (tget {} u.str.tx k).payload = f.payload ∧ until_ u k = e.dev + chargedNow s f * 1024 / max 1 (macRate (lane s k).rate))
        ∧ (∀ q f v, (path s p).buf = [] → nextFrame p e = some (q, f, v) → (path u p).frames = (path s p).frames + 1
            ∧ (tget {} u.str.tx k).payload = f.payload ∧ until_ u k = e.dev + chargedNow s f * 1024 / max 1 (macRate (lane s k).rate))
        ∧ ((path s p).buf = [] → nextFrame p e = none → u.str.tx = s.str.tx)
        ∧ ∀ j, j ≠ k → tget {} u.str.tx j = tget {} s.str.tx j))) ∧
  (∀ (t : Nat) (s : State), Awake s →
    let e := assemble (advance t s)
    let n := (e.dev - e.str.tokAt) / 2048
    exec (.pointToken t) s = .next { e with str.tokens := min 256 (e.str.tokens + n), str.tokAt := e.str.tokAt + n * 2048 }
    ∧ LogOnly { advance t s with str := e.str, nk.segs := e.nk.segs, twn.lateC := e.twn.lateC } e) ∧
  (∀ (t : Nat) (f : Frame) (s : State), Awake s → f.lane ≤ 7 → mgmtOk f s = false → ¬(f.etherType = 0x88F7 ∧ f.lane = par0 s pTimePort) →
    exec (.receivedFrameDropped t f) s = .next { advance t s with str.rxDrop := s.str.rxDrop + 1 })

/-- Twins (R403 to R410, R413, R318): each microsecond's claim round latches the number and ends with the higher one as owner, the status exchange gives Δ or
a strap conflict, notices and their misses set the standby's line instant, an owner's set is sealed, an owner's shot counts and its
fire record goes to Nerrak. Model's own choices: log entries 7, 57. -/
def Obligations.TwinsRun : Prop :=
  (∀ (t : Nat) (s : State), Awake s → twinMode s = true →
    let k := refMicro (advance t s)
    let starts := refOf (advance t s) (coarse (advance t s)) % 2000 = 0 ∧ s.twn.roundNo ≠ some k
    (starts → exec (.claimRoundStart t) s = .next { advance t s with
      twn.claim := claimNumber s, twn.round := true, twn.roundNo := some k, twn.roundAt := (advance t s).dev, pins.claimLo := true })
    ∧ (¬starts → exec (.claimRoundStart t) s = .next (advance t s))) ∧
  (∀ (t n : Nat) (low : Bool) (s : State), Awake s → twinMode s = true → s.twn.round = true →
    s.twn.roundAt + tUs ≤ (advance t s).dev →
    let c := claimCells s.twn.claim n 16 false false
    Runs (.claimRoundEnd t low n) s (fun u => (icSrc u 232).pending = true ∧ u.twn.round = false
      ∧ (u.twn.owner = true ↔ s.twn.conflict = false ∧ low = false ∧ c = (false, false)) ∧ (c.1 = true → u.twn.partner = n % 65536)
      ∧ (c.1 = false → (lane s 8).st ≠ 4 → (lane s 9).st ≠ 4 → u.twn.partner = 0)
      ∧ (u.twn.owner ≠ s.twn.owner → u.twn.ownerC = s.twn.ownerC.add 1)
      ∧ (low = true → u.twn.faultNow = true ∧ u.twn.faultWhy = 1) ∧ (low = false → c.2 = true → u.twn.faultNow = true ∧ u.twn.faultWhy = 2)
      ∧ (low = false → c.2 = false → u.twn.faultNow = false)
      ∧ LogOnly { advance t s with ic := u.ic, twn := u.twn, pins.claimLo := false } u)) ∧
  (∀ (t sp hd t1 t2 t3 t4 : Nat) (s : State), Awake s → twinMode s = true →
    Runs (.twinStatus t sp hd t1 t2 t3 t4) s (fun u => (icSrc u 231).pending = true ∧ u.twn.lastX = some (advance t s).dev ∧ u.twn.held = false
      ∧ u.twn.delta = (if s.twn.strap % 2 = 1 then sgn 32 (pat 32 (128 * (((t2 : Int) - t1) - ((t4 : Int) - t3)))) else s.twn.delta)
      ∧ (s.twn.conflict = false → (sp % 2 = s.twn.strap % 2 ∨ hd ≠ par0 s pTwinHeadId) → u.twn.conflict = true ∧ u.twn.owner = false
          ∧ u.twn.own = 0 ∧ u.twn.srvOwn = 0)
      ∧ (sp % 2 ≠ s.twn.strap % 2 → hd = par0 s pTwinHeadId → u.twn.conflict = s.twn.conflict ∧ u.twn.owner = s.twn.owner)
      ∧ LogOnly { advance t s with ic := u.ic, twn := u.twn } u)) ∧
  (∀ (t : Nat) (s : State), Awake s → twinMode s = true → s.twn.lastX.getD 0 + tMs ≤ (advance t s).dev →
    exec (.twinStatusTimeout t) s = .next { advance t s with twn.held := true }) ∧
  (∀ (t f l k n : Nat) (s : State), Awake s → standby s = true →
    exec (.lineNotice t f l k n) s = .next { advance t s with twn.notice := some (f, l, k, n) }) ∧
  (∀ (t : Nat) (s : State), Awake s → standby s = true →
    let due := noticed (advance t s) = false ∧ ∃ f, f < par0 s pPolyFacets ∧ (handedAt (advance t s) f (coarse (advance t s) + 2000)).isSome = true
    (¬due → exec (.noticeMiss t) s = .next (advance t s)) ∧
    (due → Runs (.noticeMiss t) s (LogOnly { advance t s with twn.ownInst := some (coarse (advance t s) + 2000), twn.missC := s.twn.missC.add 1 }))) ∧
  (∀ (t : Nat) (v : SvcSet) (s : State), Awake s → standby s = true → v.kind ≤ 2 → svcAuto s v.kind = true →
    let e := svcSeal
      { vals := (v.values.filter (fun p => svcOwns v.kind p.1)).foldl (fun m p => tput none m p.1 (some p.2)) []
        image := if v.kind = 2 then some (v.image.foldl (fun m p => cput 0 m p.1 p.2) []) else none } (advance t s)
    (s.sch.fbeAt = none → exec (.serviceSetReceived t v) s = .next e)
    ∧ (s.sch.fbeAt ≠ none → Runs (.serviceSetReceived t v) s (fun u => u.par.awaiting = [] ∧ SealsJudged e u))) ∧
  (∀ (t i : Nat) (p : Placed) (l : LineRun) (s : State), Awake s → twinMode s = true → (strng s i).placed = some p → p.drive = false →
    let d : Int := (((advance t s).dev : Int) - p.edge) * 256 - parI s pCalTwinSkew 0
    (d < -65536 ∨ 65536 < d → Runs (.ownerFireStamp t i) s (fun u => u = { advance t s with cal.meas := u.cal.meas }
      ∧ (standby s = false → u = advance t s))) ∧
    (d ≥ -65536 → d ≤ 65536 → s.sch.line = some l →
    (cellAt (lineCells (pvForce s) s.par.inForce.itin l.line) 0 0 0 (p.slot / 8)).isSome = true →
    Runs (.ownerFireStamp t i) s (fun u => (strng u i).placed = none ∧ (strng u i).fire = (strng s i).fire ∧ u.sch.fired = s.sch.fired + 1
      ∧ u.sch.shots.head?.map (fun h => (h.str, h.em, h.stamp)) = some (i, p.em, p.edge)
      ∧ u.nk = { s.nk with
          links := s.nk.links ++ [{ str := i, em := p.em, stamp := p.edge, iset := p.iset, seq := s.nk.sendSeq }], sendSeq := s.nk.sendSeq + 1 }
      ∧ LogOnly { advance t s with amb.interval := u.amb.interval, cal.meas := u.cal.meas, ch := u.ch, nk := u.nk, sch := u.sch, tal := u.tal } u)))

/-- The caravan ring (R419 to R424): a follower takes a beat's figures, its position and its lock, and the lead
from a leader that it outranks; a leader's cycle starts with its beat; nodes engage, leave, lead, hold over and
lose lock as their events say. Model's own choices: log entries 7, 58. -/
def Obligations.RingRuns : Prop :=
  (∀ (t : Nat) (b : Beat) (l : List RingSlot) (s : State), Awake s → ringOn s = true → s.rng.leader = false →
    let near := match s.rng.lastBeat with | some x => decide ((advance t s).dev - x < 10 * tUs) | none => false
    let n := if near then s.rng.beats + 1 else 1
    let me := s.nv.serial % 2 ^ 32
    let locked := s.rng.locked || (s.rng.engaged && decide (2 ≤ n))
    let lead := s.rng.engaged && locked && (match l.find? (fun x => x.position == 0) with
      | some x => decide (par0 s pRingRank < x.rank ∨ par0 s pRingRank = x.rank ∧ me < x.serial) | none => false)
    Runs (.ringBeat t b l) s (fun u => (icSrc u 230).pending = true ∧ u.rng.lastBeat = some (advance t s).dev ∧ u.rng.beats = n
      ∧ u.rng.nodes = b.nodes ∧ u.rng.cycle = b.turnCycle ∧ u.rng.period = b.linePeriod ∧ u.rng.salt = b.salt ∧ u.rng.loop = b.loop
      ∧ u.rng.slots = l ∧ u.rng.leader = lead ∧ u.rng.pos = (if lead then 0 else myPos s l) ∧ (lead = true → u.rng.serial = me) ∧ u.rng.mapDev = coarse (advance t s) ∧ u.rng.holdover = false ∧ u.rng.engaged = s.rng.engaged
      ∧ u.rng.locked = locked
      ∧ LogOnly { advance t s with ic := u.ic, rng := u.rng, twn.reformC := u.twn.reformC } u)) ∧
  (∀ (t : Nat) (s : State), Awake s → s.rng.leave = false → ringOn s = true → s.rng.engaged = false → 2 ≤ s.rng.beats →
    exec (.ringInsertion t) s = .next { advance t s with rng.engaged := true, rng.beats := 0, pins.ringEng := true }) ∧
  (∀ (t : Nat) (s : State), Awake s → s.rng.leave = true →
    let u := { advance t s with
      rng.leave := false, rng.engaged := false, rng.locked := false, rng.leader := false, rng.holdover := false
      rng.beats := 0, rng.pos := 255, pins.ringEng := false }
    exec (.ringInsertion t) s = .next (if s.rng.locked then turnWithdraw u else u)) ∧
  (∀ (t : Nat) (s : State), Awake s → ringOn s = true → s.rng.locked = true → s.rng.leader = false →
    s.rng.lastBeat.getD 0 + 15 * tUs + 5 * tUs * rankOrder s ≤ (advance t s).dev →
    Runs (.leaderTakeover t) s (fun u => u.rng.leader = true ∧ u.rng.pos = 0 ∧ u.rng.nodes = 1 ∧ u.rng.serial = s.nv.serial % 2 ^ 32
      ∧ u.rng.mapRing = (ringOf s (coarse (advance t s))).toNat ∧ u.rng.mapDev = coarse (advance t s) ∧ u.rng.rate = 2 ^ 32 ∧ u.rng.locked = true ∧ LogOnly { advance t s with rng := u.rng } u)) ∧
  (∀ (t : Nat) (s : State), Awake s → s.rng.locked = true → s.rng.leader = false → s.rng.holdover = false →
    s.rng.lastBeat.getD 0 + 15 * tUs < (advance t s).dev →
    Runs (.ringHoldover t) s (LogOnly { advance t s with rng.holdover := true, rng.holdAt := (advance t s).dev })) ∧
  (∀ (t : Nat) (s : State), Awake s → s.rng.holdover = true → s.rng.holdAt + par0 s pRingHoldover * tMs ≤ (advance t s).dev →
    Runs (.ringLockLost t) s (fun u => u.rng = { s.rng with locked := false, holdover := false, engaged := false, beats := 0, pos := 255 }
      ∧ u.pins.ringEng = false ∧ (par0 s pRingTurnRequired = 0 → u.sch = s.sch)
      ∧ (par0 s pRingTurnRequired ≠ 0 → s.sch.running = true → s.sch.turnStop = false → u.sch.turnStop = true ∧ u.sch.fbeAt.isSome = true)
      ∧ LogOnly { advance t s with desk := u.desk, par := u.par, pins.ringEng := false, rng := u.rng, sch := u.sch } u)) ∧
  (∀ (t : Nat) (s : State), Awake s → ringOn s = true → s.rng.leader = true →
    Runs (.ringCycleStart t) s (fun u => u.rng.outBeat = beatBytes (leaderBeat (advance t s)) ∧ u.rng.outAt = (advance t s).dev ∧ u.rng.cycle = par0 s pRingTurnCycle ∧ u.rng.period = par0 s pRingLinePeriod
      ∧ u.rng.salt = par0 s pPassportSalt ∧ (icSrc u 230).pending = true ∧ u.rng.txTrig = s.rng.txTrig.tail
      ∧ (∃ x, u.rng.outSlot = some x ∧ x.position = 0 ∧ x.serial = s.nv.serial % 2 ^ 32 ∧ x.trigger = (s.rng.txTrig.headD (0, 0)).1)
      ∧ LogOnly { advance t s with ic := u.ic, rng := u.rng } u))

/-- Triggers and the ring's status (R426 to R429): a pulse on TRIG_IO is an edge of every timing port that takes it; one of 20 ns, or TRIG_SEND, enters a trigger that acts RING.TRIG_LATENCY later, its action time
runs its actions, and the status read clears as asked. Model's own choices: log entries 7, 59, 109. -/
def Obligations.TriggersRun : Prop :=
  (∀ (t raw w : Nat) (s : State), raw < 64 → servosRun s = true →
    let at_ := ringNow (advance t s) + par0 s pRingTrigLatency * 2000
    let stamp := coarse (advance t s) * 64 + raw
    Runs (.trigIoPulse t (raw, w)) s (fun u =>
      (20 ≤ w → u.rng.trigs.any (fun x => x.code == par0 s pRingTrigLocalCode && x.action == at_) = true
        ∧ u.rng.txTrig = (if s.rng.locked = true ∧ standby s = false then s.rng.txTrig ++ [(par0 s pRingTrigLocalCode, at_)] else s.rng.txTrig))
      ∧ (w < 20 → u.rng = s.rng)
      ∧ (∀ p, p < 16 → par s pTpSource p ≠ 3 → tport u p = tport s p)
      ∧ (∀ p, p < 16 → par s pTpSource p = 3 → (par s pTpEdge p).testBit 1 = true → (∀ e, (tport s p).hold = some e → e ≤ (advance t s).dev) →
          (tport u p).hold = some (stamp + par s pTpHoldoff p * 64)
          ∧ (tport u p).queue = (if (tport s p).queue.length < 64 then (tport s p).queue ++ [(stamp, false)] else (tport s p).queue))
      ∧ LogOnly { advance t s with rng.trigs := u.rng.trigs, rng.txTrig := u.rng.txTrig, srv := u.srv } u)) ∧
  (∀ (t : Nat) (r : Req) (s : State), Ready r s → 6 ≤ r.mb → r.payload.length = 4 → allZero (r.payload.drop 1) = true →
    let c := fld r.payload 0 1
    let at_ := ringNow (advance t s) + par0 s pRingTrigLatency * 2000
    1 ≤ c → c ≤ 15 →
    Runs (.trigSend t r) s (fun u => Answered r 0x0A10 rOK (le 8 at_) u ∧ u.rng.trigs.any (fun x => x.code == c && x.action == at_) = true
      ∧ u.rng.txTrig = (if s.rng.locked then s.rng.txTrig ++ [(c, at_)] else s.rng.txTrig)
      ∧ DeskOnly r.mb { advance t s with rng.trigs := u.rng.trigs, rng.txTrig := u.rng.txTrig } u)) ∧
  (∀ (t c : Nat) (x : Trig) (s : State), Awake s → s.rng.trigs.find? (fun x => x.code == c && decide (x.dev ≤ coarse (advance t s))) = some x →
    let act := par s pRingTrigAction c
    Runs (.triggerAction t c) s (fun u => u.rng.trigs = s.rng.trigs.filter (fun y => y ≠ x)
      ∧ (act.testBit 1 = true → u.desk.st = 7)
      ∧ (act.testBit 1 = false →
          (act.testBit 0 = true → standby s = false → u.pins.trigIo = some ((advance t s).dev + 100 * tNs))
          ∧ LogOnly { advance t s with lgb := u.lgb, pins.trigIo := u.pins.trigIo, rng.trigs := u.rng.trigs } u))) ∧
  (∀ (t : Nat) (r : Req) (s : State), Ready r s → r.payload.length = 4 → fld r.payload 0 1 < 4 → allZero (r.payload.drop 1) = true →
    let k := (fld r.payload 0 1).testBit 0
    let f := (fld r.payload 0 1).testBit 1
    CompletesOk (.twinRingStatusRead t r) r 0x0A11 s { advance t s with
        twn.ownerC := s.twn.ownerC.clear k f, twn.staleC := s.twn.staleC.clear k f, twn.missC := s.twn.missC.clear k f
        twn.reformC := s.twn.reformC.clear k f, twn.turnC := s.twn.turnC.clear k f, twn.lateC := s.twn.lateC.clear k f }
      (fun p => p.length = 44 ∧ (p.drop 4).take 12 = le 2 s.twn.claim ++ le 2 s.twn.partner ++ leI 4 s.twn.delta ++ le 4 s.rng.loop))

/-- The reset causes (R443, R463, R511, R520 to R523): each enters RESET (a RESET_N pulse from 1.08 µs on, never one below 1 µs), where
the enables are low, the parameters are at their
defaults and non-volatile memory, memory contents and the waiting commands stand as they were; PORST_N clears memory too.
Model's own choices: log entries 75, 76. -/
def Obligations.ResetsEnter : Prop :=
  let held := fun (cause : Nat) (s u : State) =>
    u.desk.st = 0 ∧ u.rst.causes = s.rst.causes ||| 2 ^ cause ∧ u.pins.lsrA = false ∧ u.pins.lsrB = false ∧ u.pins.ringEng = false
      ∧ u.pins.trigIo = none ∧ u.par.inForce = {} ∧ u.par.im = [] ∧ u.par.bo = s.par.bo ∧ u.mem.bytes = s.mem.bytes ∧ u.nv = s.nv
      ∧ u.nk.conf = s.nk.conf ∧ u.pending = s.pending
      ∧ (∀ i, i ≠ 7 → i ≠ 17 → u.nk.faults.getLsbD i = s.nk.faults.getLsbD i)
      ∧ (s.nk.faults.getLsbD 7 = true → u.nk.faults.getLsbD 7 = true) ∧ u.nk.faults.getLsbD 17 = false
  (∀ (t : Nat) (s : State), Runs (.porstNAssert t) s (fun u => u.desk = { st := 0 } ∧ u.rst = { causes := 1 } ∧ u.par = {} ∧ u.mem = {}
      ∧ u.sch = {} ∧ u.pins.porstN = false ∧ u.pins.lsrA = false ∧ u.pins.lsrB = false ∧ u.pins.hvCut = true ∧ u.nv = s.nv
      ∧ u.dev = 0 ∧ u.wall = max s.wall t ∧ u.nk.conf = none ∧ u.pending = s.pending)) ∧
  (∀ (t : Nat) (s : State), s.pins.porstN = false →
    let a := advance t s
    exec (.porstNRelease t) s = .next { a with
      pins.porstN := true, nk.relAt := a.wall, nk.stallAt := a.wall, nk.testing := true, nk.passed := false
      rst.causes := if s.pins.resetN then s.rst.causes else s.rst.causes ||| 2
      rst.heldAt := if s.pins.resetN then none else some a.wall }) ∧
  (∀ (t w : Nat) (s : State), s.pins.resetN = true → s.pins.porstN = true → s.desk.st ≠ 0 →
    let acts := fun u => held 1 s u ∧ u.pins.resetN = false ∧ u.rst.heldAt = some (max s.wall t)
      ∧ u.rst.wasFrozen = (s.rst.wasFrozen || s.desk.st == 7)
    Runs (.resetNAssert ⟨t, w⟩) s (fun u => (1080 ≤ w → acts u) ∧ (w < 1000 → u = advance t s)
      ∧ (acts u ∨ u = { advance t s with free := u.free }))) ∧
  (∀ (t w : Nat) (s : State), s.pins.resetN = true → s.pins.porstN = false → 1080 ≤ w →
    exec (.resetNAssert ⟨t, w⟩) s = .next { advance t s with pins.resetN := false }) ∧
  (∀ (t a : Nat) (s : State), Awake s → s.desk.cmdReset = some a → a ≤ (advance t s).dev → Runs (.commandReset t) s (held 3 s)) ∧
  (∀ (t a : Nat) (s : State), s.desk.cmdReset = some a → (advance t s).dev < a → exec (.commandReset t) s = .next (advance t s)) ∧
  (∀ (t : Nat) (s : State), Awake s →
    let due := s.rst.bootAt + par0 s pHealthWatchdog * tMs
    (due ≤ (advance t s).dev → Runs (.watchdog t false) s (fun u => held 4 s u ∧ u.rst.cmdUntil = some (max s.wall t + 10 * tUs))) ∧
    ((advance t s).dev < due → exec (.watchdog t false) s = .next (advance t s))) ∧
  (∀ (t : Nat) (s : State), s.desk.st = 1 → s.desk.trial = true → s.rst.bootAt + par0 s pFwTrialTimeout * tSec ≤ (advance t s).dev →
    Runs (.watchdog t true) s (fun u => held 4 s u ∧ u.rst.cmdUntil = some (max s.wall t + 10 * tUs))) ∧
  (∀ (t i a : Nat) (s : State), s.desk.st ≠ 0 → s.pins.porstN = true → (tget {} s.hlt.rails i).fault = some a → a + 2 * tUs ≤ max s.wall t →
    Runs (.voltageFault t i) s (fun u => held 6 s u ∧ u.rst.cmdUntil = some (max s.wall t + tMs)))

/-- The release of RESET (R266, R443, R466, R467, R521, R522, R525): the causes and LONG, the strap, the boot-only values, the image
slots tried in the order of the boot directory, whose copy follows a trial's boots, recovery when neither image verifies, FROZEN in its place
when a freeze was held; BOOT_COMPLETE runs the boot ROM first where it has not run; of the two sets in flash a valid one with a signed
record is confirmed, of two the one of higher count. Model's own choices: log entries 28, 75, 77, 78, 118, 139. -/
def Obligations.ResetReleases : Prop :=
  (∀ (t strap : Nat) (s : State), s.desk.st = 0 → s.pins.porstN = true → (∀ w, s.rst.cmdUntil = some w → w ≤ max s.wall t) →
    let d := bootDir s
    let giveUp := d.trial = 1 ∧ 1 ≤ d.boots
    let k := if giveUp then 1 - d.active else d.active
    let first := imageStep s k = 0
    let second := imageStep s (1 - k) = 0
    let held := match s.rst.heldAt with | some w => some (max (s.rst.heldFor.getD 0) (max s.wall t - w)) | none => s.rst.heldFor
    let long := match held with | some h => decide (10 * tSec < h) | none => false
    Runs (.resetNRelease t (strap / 4) (strap.testBit 1) (strap.testBit 0)) s (fun u => u.pins.resetN = true ∧ u.twn.strap = strap ∧ u.par.boBoot = s.par.bo
      ∧ u.desk.st = (if s.rst.frzHeld then 7 else 1)
      ∧ (∀ i, i ≠ 5 → u.desk.resetCause.testBit i = (s.rst.causes.testBit i || (i == 2 && long)))
      ∧ (held = none → u.desk.held = {})
      ∧ (s.rst.frzHeld = true → u.desk.rom = false ∧ u.desk.recovery = false ∧ u.nv = s.nv ∧ u.desk.resetCause.testBit 5 = s.rst.causes.testBit 5)
      ∧ (s.rst.frzHeld = false → u.desk.rom = true ∧ u.desk.recovery = decide (¬first ∧ ¬second)
          ∧ u.desk.resetCause.testBit 5 = (s.rst.causes.testBit 5 || decide (giveUp ∨ ¬first ∧ second)))
      ∧ (s.rst.frzHeld = false → first ∨ second → u.desk.slot = (if first then k else 1 - k) ∧ u.desk.trial = decide (first ∧ d.trial = 1 ∧ d.boots = 0)
          ∧ u.desk.fwVersion = BitVec.ofNat 32 (slotVersion s (if first then k else 1 - k)))
      ∧ (s.rst.frzHeld = false → s.nk.wrHeld = false → d.seq + 1 < 2 ^ 32 → d.trial = 1 → bootDir u =
          (if giveUp then { seq := d.seq + 1, active := k, trial := 0, boots := 0 } else { seq := d.seq + 1, active := k, trial := 1, boots := 1 }))
      ∧ (s.nk.wrHeld = true ∨ d.trial ≠ 1 → u.nv = s.nv)
      ∧ u.mem.bytes = s.mem.bytes ∧ u.nv.slotA = s.nv.slotA ∧ u.nv.slotB = s.nv.slotB ∧ u.nv.serial = s.nv.serial ∧ u.pending = s.pending)) ∧
  (∀ (t strap w : Nat) (s : State), s.desk.st = 0 → s.pins.porstN = true → s.rst.cmdUntil = some w → max s.wall t < w →
    exec (.resetNRelease t (strap / 4) (strap.testBit 1) (strap.testBit 0)) s = .next { advance t s with
      pins.resetN := true, rst.heldAt := none
      rst.heldFor := match s.rst.heldAt with | some w => some (max (s.rst.heldFor.getD 0) (max s.wall t - w)) | none => s.rst.heldFor }) ∧
  (∀ (t strap : Nat) (s : State), s.desk.st = 0 → s.pins.porstN = false →
    exec (.resetNRelease t (strap / 4) (strap.testBit 1) (strap.testBit 0)) s = .next { advance t s with pins.resetN := true }) ∧
  (∀ (t : Nat) (b : BootInfo) (s : State), s.desk.st = 1 → s.desk.recovery = false → s.desk.rom = true →
    let good := fun k => match (setCopy s k).2 with
      | some r => recordSigned r && decide (r.serial = s.nv.serial) && decide (setCheck (setCopy s k).1 = r.check) && (setInvalid (setCopy s k).1).isNone
      | none => false
    Runs (.bootComplete t b) s (fun u => u.desk.st = 2 ∧ u.mem.usable = capacityMiB s b.capacity * 31 / 32 ∧ u.desk.pendFallback = none
      ∧ u.desk.confirmed = (good 0 || good 1)
      ∧ u.nk.conf = (if good 0 = true ∧ (good 1 = false ∨ setCount s 1 ≤ setCount s 0) then some (setCopy s 0).1
          else if good 1 then some (setCopy s 1).1 else none)
      ∧ (b.layoutSame = false → u.mem.bytes = [] ∧ u.mem.kept = false)
      ∧ u.desk.slot = s.desk.slot ∧ u.desk.resetCause = s.desk.resetCause ∧ u.pending = s.pending)) ∧
  (∀ (t : Nat) (b : BootInfo) (s : State), s.desk.st = 1 → s.desk.recovery = false → s.desk.rom = false →
    let d := bootDir s
    let k := if d.trial = 1 ∧ 1 ≤ d.boots then 1 - d.active else d.active
    Runs (.bootComplete t b) s (fun u => u.desk.rom = true ∧ u.pending = s.pending
      ∧ (imageStep s k ≠ 0 → imageStep s (1 - k) ≠ 0 → u.desk.st = 1 ∧ u.desk.recovery = true
          ∧ (s.desk.lostCount = 0 → s.desk.eventCount.val ≠ BitVec.allOnes 32 → u.desk.eventCount = s.desk.eventCount.add 1))
      ∧ (imageStep s k = 0 → u.desk.st = 2 ∧ u.desk.slot = k)
      ∧ (imageStep s k ≠ 0 → imageStep s (1 - k) = 0 → u.desk.st = 2 ∧ u.desk.slot = 1 - k ∧ u.desk.resetCause.testBit 5 = true))) ∧
  (∀ (t : Nat) (b : BootInfo) (s : State), (s.desk.st = 1 ∧ s.desk.recovery = true ∧ s.desk.rom = true) ∨ 1 < s.desk.st →
    exec (.bootComplete t b) s = .next (advance t s))

/-- Patrol scrub, block by block at its pace, the firmware timers and the fabric's bursts (R472, R480, R482, R483, R486, R487, R492): a stream
burst fills the descriptor's buffer from its queue and completes it when it is full, at a record end asked for or when the request is
withdrawn, a control burst copies up or down or fills, a burst from memory feeds its sink; beside these and the descriptor only the status of a descriptor
that then halts its channel is written. Model's own choices: log entries 67, 82, 119, 140. -/
def Obligations.ScrubAndTimersRun : Prop :=
  (∀ (t a k : Nat) (s : State), Awake s →
    let due := a / 64 = s.mem.scrub ∧ a < memEnd s ∧ s.mem.scrubAt + scrubPace s ≤ (advance t s).dev
    (due → a < memFreeze → k = 2 → Runs (.patrolScrub t a k) s (fun u =>
      u.desk.st = 0 ∧ u.rst.causes = s.rst.causes ||| 16 ∧ u.rst.cmdUntil = some (max s.wall t + 10 * tUs) ∧ u.mem.bytes = s.mem.bytes)) ∧
    (due → k ≠ 2 ∨ memFreeze ≤ a → Runs (.patrolScrub t a k) s (fun u =>
      u.mem.scrub = (if memEnd s ≤ a / 64 * 64 + 64 then 0 else a / 64 + 1) ∧ u.mem.scrubAt = (advance t s).dev
      ∧ u.mem.bytes = s.mem.bytes ∧ u.desk.st = s.desk.st
      ∧ u.mem.corr = s.mem.corr + b2n (k == 1) ∧ u.mem.uncorr = (if k = 2 then s.mem.uncorr.add 1 else s.mem.uncorr)
      ∧ (k ≠ 2 → u.mem.bad = s.mem.bad ∧ LogOnly { advance t s with ic := u.ic, mem := u.mem } u)
      ∧ LogOnly { advance t s with ic := u.ic, lgb := u.lgb, mem := u.mem, nk.lost := u.nk.lost, tal := u.tal } u)) ∧
    (¬due → exec (.patrolScrub t a k) s = .next (advance t s))) ∧
  (∀ (t n : Nat) (s : State), Awake s → n < 16 → Runs (.firmwareTimer t n) s (fun u =>
      (icSrc u (341 + n)).pending = true
      ∧ ((icSrc u (341 + n)).count = (icSrc s (341 + n)).count.add 15 1
        ∨ icNear (icWake (advance t s)) (icSrc s (341 + n)) = true ∧ (icSrc u (341 + n)).count = (icSrc s (341 + n)).count)
      ∧ (∀ k, k ≠ 341 + n → icSrc u k = icSrc s k) ∧ u = { advance t s with ic := u.ic })) ∧
  (∀ (t e c : Nat) (s : State), Awake s → e < 4 → (dmaE s e).chan = some c →
    let g := dmaE s e
    let noted := fun (a : Nat) =>
      (List.range 32).any (fun n => let x := dmaS s n
        [x.head, (x.head + 1) % ringSize x].any (fun h => decide (x.ring + 32 * h + 14 ≤ a) && decide (a < x.ring + 32 * h + 16)))
      || (List.range 8).any (fun n => [(dmaC s n).cur, unle (memGet s (g.desc + 16) 8)].any (fun d => decide (d + 30 ≤ a) && decide (a < d + 32)))
    Runs (.dmaBurstEnd t e 0 false) s (fun u =>
      LogOnly { advance t s with dma := u.dma, ic := u.ic, lgb := u.lgb, mem := u.mem, str.logDue := u.str.logDue, str.paths := u.str.paths } u
      ∧ (c < 32 → (dmaS s c).fromMem = false →
          let x := dmaS s c
          let taken := takeBytes g.burst x.queue
          let b := taken.1
          let to_ := unle (memGet s g.desc 8) + g.moved
          let fl := unle (memGet s (g.desc + 12) 2)
          let full := decide (unle (memGet s (g.desc + 8) 4) ≤ g.moved + b.length)
          let atEnd := taken.2.2 && decide (b ≠ [])
          let ends := full || fl.testBit 2 && atEnd
          let withdrawn := !ends && (g.flushed || !({ x with queue := taken.2.1 } : DmaS).pace.request)
          let done := ends || withdrawn
          g.desc + 32 ≤ to_ ∨ to_ + b.length ≤ g.desc →
          (dmaS u c).queue = taken.2.1
          ∧ (∀ i, i < b.length → noted (to_ + i) = false → cget 0 u.mem.bytes (to_ + i) = b.getD i 0)
          ∧ (done = true → (dmaS u c).head = (if g.flushed then x.head else (x.head + 1) % ringSize x)
              ∧ ∀ i, i < 20 → noted (g.desc + 12 + i) = false → cget 0 u.mem.bytes (g.desc + 12 + i)
                = (le 2 ((fl &&& 0xFFF2) + 4 * b2n atEnd + 8 * b2n withdrawn) ++ le 2 0 ++ le 8 (coarse (advance t s))
                    ++ le 4 (g.moved + b.length) ++ le 4 0).getD i 0)
          ∧ (done = false → (dmaE u e).chan = some c ∧ (dmaE u e).moved = g.moved + b.length ∧ (dmaS u c).head = x.head)
          ∧ (∀ a, a < to_ ∨ to_ + b.length ≤ a → done = false ∨ a < g.desc + 12 ∨ g.desc + 32 ≤ a → noted a = false →
              cget 0 u.mem.bytes a = cget 0 s.mem.bytes a))
      ∧ (32 ≤ c →
          let src := unle (memGet s g.desc 8)
          let to_ := unle (memGet s (g.desc + 8) 8) + ctlOff s e
          let fl := unle (memGet s (g.desc + 28) 2)
          let done := decide (unle (memGet s (g.desc + 24) 4) ≤ g.moved + g.burst)
          g.desc + 32 ≤ to_ ∨ to_ + g.burst ≤ g.desc →
          (∀ i, i < g.burst → noted (to_ + i) = false → cget 0 u.mem.bytes (to_ + i)
            = (if fl.testBit 2 then (le 8 src).getD ((ctlOff s e + i) % 8) 0 else cget 0 s.mem.bytes (src + ctlOff s e + i)))
          ∧ (done = true → (dmaC u (c - 32)).busy = !fl.testBit 1 ∧ (dmaC u (c - 32)).cur = (if fl.testBit 1 then 0 else unle (memGet s (g.desc + 16) 8)))
          ∧ (∀ a, a < to_ ∨ to_ + g.burst ≤ a → done = false ∨ a < g.desc + 30 ∨ g.desc + 32 ≤ a → noted a = false →
              cget 0 u.mem.bytes a = cget 0 s.mem.bytes a)))) ∧
  (∀ (t e n : Nat) (s : State), Awake s → e < 4 → n < 32 → (dmaE s e).chan = some n → (dmaS s n).fromMem = true →
    let g := dmaE s e
    Runs (.dmaBurstEnd t e 0 false) s (fun u => (dmaS u n).sink = (dmaS s n).sink + g.burst ∧ (dmaS u n).queue = (dmaS s n).queue
      ∧ (g.flushed = false → g.moved + g.burst < unle (memGet s (g.desc + 8) 4) → (dmaS s n).sink + g.burst ≤ (dmaS s n).startWm * 256 →
          (dmaE u e).chan = some n ∧ (dmaE u e).moved = g.moved + g.burst ∧ u.mem.bytes = s.mem.bytes)
      ∧ LogOnly { advance t s with dma := u.dma, ic := u.ic, mem := u.mem, str.logDue := u.str.logDue, str.paths := u.str.paths } u))

/-- Freeze and thaw (R433, R443, R524 to R526): a keyed write or FREEZE_N enters FROZEN with the registers below 0x040 held, a keyed
thaw leaves it in the lab alone; a wrong key does nothing. Model's own choices: log entries 13, 60. -/
def Obligations.FreezeAndThaw : Prop :=
  let froze := fun (s u : State) =>
    u.desk.st = 7 ∧ u.rst.from_ = s.desk.st ∧ u.mem.refresh = true ∧ u.mem.bytes = s.mem.bytes ∧ u.pins.ringEng = false
      ∧ u.pins.trigIo = none ∧ u.pins.claimLo = false ∧ u.rng.engaged = false ∧ u.par.im = s.par.im ∧ u.par.inForce = s.par.inForce
      ∧ u.par.shadow = s.par.shadow ∧ u.nv = s.nv ∧ u.nk.conf = s.nk.conf ∧ u.desk.snap.length = 16
      ∧ u.desk.snap.getD 8 0 = BitVec.ofNat 32 (stateWord u) ∧ u.pending = s.pending
  (∀ (t : Nat) (v : Word) (s : State), Awake s → v.toNat / 65536 = 0xA5C3 → v.getLsbD 0 = true → Runs (.freeze t v) s (froze s)) ∧
  (∀ (t w : Nat) (s : State), Awake s → 10 ≤ w → Runs (.freezeN t w) s (froze s)) ∧
  (∀ (t w : Nat) (s : State), s.desk.st = 0 → 10 ≤ w → exec (.freezeN t w) s = .next { advance t s with rst.frzHeld := true }) ∧
  (∀ (t w : Nat) (s : State), w < 10 ∨ s.desk.st = 7 → exec (.freezeN t w) s = .next (advance t s)) ∧
  (∀ (t : Nat) (v : Word) (s : State), v.toNat / 65536 ≠ 0xA5C3 →
    exec (.freeze t v) s = .next (advance t s) ∧ exec (.thaw t v) s = .next (advance t s)) ∧
  (∀ (t : Nat) (v : Word) (s : State), s.desk.st = 7 → s.desk.lab = true → v.toNat / 65536 = 0xA5C3 → v.getLsbD 1 = true →
    Runs (.thaw t v) s (fun u => u.desk.st = (if s.rst.from_ = 3 ∨ s.rst.from_ = 4 ∨ s.rst.from_ = 5 then 2 else s.rst.from_)
      ∧ u.mem.refresh = false ∧ u.mem.bytes = s.mem.bytes ∧ u.rng.locked = false ∧ u.rng.leader = false ∧ u.rng.beats = 0
      ∧ u.desk.pendStop = false ∧ u.desk.pendRun = false ∧ u.desk.pendExit = false ∧ u.dev = s.dev
      ∧ u.par.im = s.par.im ∧ u.par.inForce = s.par.inForce ∧ u.nv = s.nv ∧ u.pending = s.pending)) ∧
  (∀ (t : Nat) (v : Word) (s : State), s.desk.st = 7 → s.desk.lab = false →
    exec (.freeze t v) s = .next (advance t s) ∧ exec (.thaw t v) s = .next (advance t s))

/-- A take (R473 to R475): a read of IC_TAKE returns the eligible source of highest PRIO, the lowest number on ties, with its priority, makes it
ACTIVE and ends an edge's PENDING; with none eligible it returns 0x300 if LATCHED is set and 0x000 otherwise, and makes none ACTIVE; every read clears
LATCHED; whoever evaluates the line sets LATCHED at its rise alone. Model's own choice: log entry 16. -/
def Obligations.TakeReturnsTheBestSource : Prop :=
  (∀ (t n : Nat) (s : State), Awake s → icBest s = some n → Runs (.icTake t) s (fun u =>
      u.ic.taken = (icSrc s n).prio * 1024 + n
      ∧ icSrc u n = { icSrc s n with active := true, pending := (icSrc s n).pending && !icEdge n }
      ∧ (∀ m, m ≠ n → icSrc u m = icSrc s m) ∧ u.ic.mods = s.ic.mods ∧ u.ic.floor = s.ic.floor ∧ u.ic.badFin = s.ic.badFin
      ∧ u.ic.latched = false ∧ u = { advance t s with ic := u.ic })) ∧
  (∀ (t : Nat) (s : State), Awake s → icBest s = none →
    exec (.icTake t) s = .next { advance t s with ic.taken := if s.ic.latched then 0x300 else 0, ic.latched := false }) ∧
  (∀ s : State, twf {} none s.ic.src = true →
    (∀ n, icBest s = some n → icEligible s (icSrc s n) = true ∧ ∀ m, icEligible s (icSrc s m) = true →
      (icSrc s m).prio < (icSrc s n).prio ∨ ((icSrc s m).prio = (icSrc s n).prio ∧ n ≤ m)) ∧
    (icBest s = none → ∀ m, icEligible s (icSrc s m) = false)) ∧
  (∀ s : State, (icLine s).ic.line = s.ic.src.any (fun p => icEligible s p.2)
    ∧ ((icLine s).ic.latched = true ↔ s.ic.latched = true ∨ (s.ic.line = false ∧ (icLine s).ic.line = true)))

/-- Finishes (R476): FINISH clears ACTIVE; on a source whose ACTIVE bit is clear it is ignored, counted in BAD_FINISHES and logged as
IRQ_BAD_FINISH. -/
def Obligations.SourcesFinish : Prop :=
  (∀ (t n : Nat) (s : State), Awake s → 1 ≤ n → n ≤ 767 → (icSrc s n).active = true → Runs (.finish t n) s (fun u =>
      icSrc u n = { icSrc s n with active := false } ∧ (∀ m, m ≠ n → icSrc u m = icSrc s m) ∧ u.ic.badFin = s.ic.badFin
      ∧ u = { advance t s with ic := u.ic })) ∧
  (∀ (t n : Nat) (s : State), Awake s → 1 ≤ n → n ≤ 767 → (icSrc s n).active = false →
    Runs (.finish t n) s (fun u => LogOnly { advance t s with ic.badFin := s.ic.badFin.add 65535 1 } u
      ∧ (s.desk.events.length < 1024 → s.desk.lostCount = 0 → u.desk.events.take (s.desk.events.length + 1) = s.desk.events ++ [
          { code := 0x0E09, seq := (s.desk.eventCount.add 1).val, time := coarse (advance t s), data := le 2 n }])))

/-- Moderation, clears and software sources (R473, R478 to R480): a group's release makes every held member of it eligible, a processor that
waits with the line low releases every holding group; CNT_CLR clears COUNT; each bit of IC_SOFT is an edge, and two edges less than four
cycles apart may count as one; IC_SRC reads its fields back; numbers that name no source do nothing. Model's own choices: log entries 7, 16, 17, 119. -/
def Obligations.SourcesAndModerationRun : Prop :=
  (∀ (t g e : Nat) (s : State), Awake s → (tget {} s.ic.mods g).hold = some e → e ≤ (advance t s).dev →
    Runs (.moderationRelease t g) s (fun u => (tget {} u.ic.mods g).hold = none ∧ (tget {} u.ic.mods g).timer = (tget {} s.ic.mods g).timer
      ∧ (∀ n, icSrc u n = { icSrc s n with held := (icSrc s n).held && (icSrc s n).group != g })
      ∧ (∀ k, k ≠ g → tget {} u.ic.mods k = tget {} s.ic.mods k) ∧ u = { advance t s with ic := u.ic })) ∧
  (∀ (t g : Nat) (s : State), (∀ e, (tget {} s.ic.mods g).hold = some e → (advance t s).dev < e) →
    exec (.moderationRelease t g) s = .next (advance t s)) ∧
  (∀ (t : Nat) (s : State), Awake s → s.ic.line = false → Runs (.processorIdle t) s (fun u =>
      (∀ g, (tget {} u.ic.mods g).hold = none ∧ (tget {} u.ic.mods g).timer = (tget {} s.ic.mods g).timer)
      ∧ (∀ n, (tget {} s.ic.mods (icSrc s n).group).hold.isSome = true → (icSrc u n).held = false)
      ∧ (∀ n, (icSrc u n).pending = (icSrc s n).pending ∧ (icSrc u n).count = (icSrc s n).count)
      ∧ u = { advance t s with ic := u.ic })) ∧
  (∀ (t : Nat) (s : State), s.ic.line = true → exec (.processorIdle t) s = .next (advance t s)) ∧
  (∀ (t n : Nat) (s : State), Awake s → 1 ≤ n → n ≤ 767 →
    exec (.cntClr t n) s = .next (setIcSrc (advance t s) n { icSrc s n with count := { val := 0, sat := (icSrc s n).count.sat } })) ∧
  (∀ (t n : Nat) (s : State), n = 0 ∨ 767 < n → exec (.finish t n) s = .next (advance t s) ∧ exec (.cntClr t n) s = .next (advance t s)) ∧
  (∀ (n : Nat) (s : State), 1 ≤ n → n ≤ 767 →
    let x := icSrc s n
    x.prio < 8 → x.group < 16 → x.count.val < 16 →
    let v := fabricRead s (0x02000000 + 4 * n)
    bits v 2 0 = x.prio ∧ v.testBit 3 = x.enable ∧ bits v 7 4 = x.group ∧ v.testBit 8 = x.mod ∧ v.testBit 9 = icEdge n
      ∧ v.testBit 10 = x.pending ∧ v.testBit 11 = x.active ∧ bits v 15 12 = x.count.val) ∧
  (∀ (t : Nat) (v : Word) (s : State), Awake s → Runs (.icSoft t v) s (fun u => u = { advance t s with ic := u.ic }
      ∧ (∀ i, i < 16 → v.getLsbD i = true →
          (icSrc u (357 + i)).pending = true ∧ ((icSrc u (357 + i)).count = (icSrc s (357 + i)).count.add 15 1
            ∨ icNear (icWake (advance t s)) (icSrc s (357 + i)) = true ∧ (icSrc u (357 + i)).count = (icSrc s (357 + i)).count))
      ∧ (∀ m, (∀ i, i < 16 → v.getLsbD i = true → m ≠ 357 + i) → icSrc u m = icSrc s m)))

/-- The parameter commands (R7, R457 to R461): a read of a copy, a write checked whole before any value is written, and the list.
Model's own choices: log entries 1, 21, 22, 23. -/
def Obligations.ParameterAccess : Prop :=
  (∀ (t : Nat) (r : Req) (p : PRow) (s : State), Ready r s → r.payload.length = 8 →
    let id := fld r.payload 0 2
    let i := fld r.payload 2 2
    let n := fld r.payload 4 2
    let copy := fld r.payload 6 1
    paramRow id = some p → inScope p i n = true → n ≤ 29 → copy ≤ 3 → fld r.payload 7 1 = 0 →
    CompletesOk (.paramGet t r) r 0x0001 s (advance t s) (fun b => b = le 2 id ++ le 2 i ++ le 2 n ++ le 2 (copyFlags s p copy)
      ++ (List.range n).flatMap (fun k => le 8 (copyVal s p copy (i + k))))) ∧
  (∀ (t : Nat) (r : Req) (p : PRow) (s : State), Ready r s →
    let id := fld r.payload 0 2
    let i := fld r.payload 2 2
    let n := fld r.payload 4 2
    let val := fun k => fld r.payload (8 + 8 * k) 8
    r.payload.length = 8 + 8 * n → n ≤ 29 → fld r.payload 6 2 = 0 → paramRow id = some p → inScope p i n = true → i + n < 0xFFFF →
    (ownedNow s id = true → RefusedWith (.paramSet t r) r 0x0002 rNotPermitted t s) ∧
    (setBarred s id ((List.range n).map (i + ·)) ((List.range n).map val) = false →
      ((∃ k, k < n ∧ (inRange p (val k) = false ∨ valueFits s id (i + k) (val k) = false)) → RefusedWith (.paramSet t r) r 0x0002 rRange t s) ∧
      ((∀ k, k < n → inRange p (val k) = true ∧ valueFits s id (i + k) (val k) = true) →
        Runs (.paramSet t r) s (fun u => Answered r 0x0002 rOK (le 2 id ++ le 2 i ++ le 2 n ++ le 2 (b2n (p.cls == 2))) u
          ∧ (∀ k, k < n →
              (p.cls = 0 → tget none u.par.shadow.vals (pKey id (i + k)) = some (val k))
              ∧ (p.cls = 1 → tget none u.par.im (pKey id (i + k)) = some (val k))
              ∧ (p.cls = 2 → tget none u.par.bo (pKey id (i + k)) = some (val k)))
          ∧ (p.cls = 0 → DeskOnly r.mb { advance t s with par.shadow := u.par.shadow } u)
          ∧ (p.cls = 2 → DeskOnly r.mb { advance t s with par.bo := u.par.bo } u)
          ∧ (p.cls = 1 → DeskOnly r.mb { advance t s with
                par.im := u.par.im, par.shadow := u.par.shadow, amb := u.amb, hlt := u.hlt, lan.ch := u.lan.ch, rng := u.rng, sch := u.sch
                sns := u.sns, srv := u.srv, str.paths := u.str.paths, tim := u.tim } u)
          ∧ (p.cls = 1 → ¬([pLaneEnable, pLaneMaxRate, pLaneMinRate, pRingEnable, pHealthThermalMode, pHealthThrottleStep, pServoSetpoint,
                pTpSource, pTimeSource, pTimePort, pTimeDomain, pCoincAdaptMode, pIfmMode, pPlanMode].contains id = true
                ∨ (pSenseCicDecimation ≤ id ∧ id ≤ pSenseShifts)) →
              DeskOnly r.mb { advance t s with par.im := u.par.im } u))))) ∧
  (∀ (t : Nat) (r : Req) (p : PRow) (s : State), Ready r s → r.payload.length = 16 →
    let id := fld r.payload 0 2
    let idx := (List.range p.count).map (p.first + ·)
    let v := fld r.payload 8 8
    fld r.payload 2 2 = 0xFFFF → fld r.payload 4 2 = 1 → fld r.payload 6 2 = 0 → paramRow id = some p → p.cls = 0 →
    setBarred s id idx [v] = false → inRange p v = true → (∀ k, k ∈ idx → valueFits s id k v = true) →
    Runs (.paramSet t r) s (fun u => Answered r 0x0002 rOK (le 2 id ++ le 2 0xFFFF ++ le 2 p.count ++ le 2 0) u
      ∧ (∀ k, k ∈ idx → tget none u.par.shadow.vals (pKey id k) = some v)
      ∧ DeskOnly r.mb { advance t s with par.shadow := u.par.shadow } u)) ∧
  (∀ (t : Nat) (r : Req) (s : State), Ready r s → r.payload.length = 4 → fld r.payload 2 1 ≤ 14 ∨ fld r.payload 2 1 = 255 → fld r.payload 3 1 = 0 →
    let l := params.filter (fun p => decide (fld r.payload 0 2 ≤ p.id) && (fld r.payload 2 1 == 255 || p.id / 256 == fld r.payload 2 1))
    CompletesOk (.paramList t r) r 0x0004 s (advance t s) (fun b => b.length = 4 + 16 * min 14 l.length
      ∧ b.take 4 = le 1 (min 14 l.length) ++ le 1 0 ++ le 2 (match (l.drop 14).head? with | some p => p.id | none => 0)))

/-- The seal (R27 to R33, R180, R460): refused with the verdict, answered at once when it only validates, committed at once while no
frame runs, left to wait for the running frame's FBE time, and judged at once where that time is fixed. Model's own choices: log entries 25, 26. -/
def Obligations.SealsRun : Prop :=
  (∀ (t : Nat) (r : Req) (s : State), Ready r s → r.payload.length = 4 → s.desk.st ≠ 1 → fld r.payload 0 1 ≤ 1 → allZero (r.payload.drop 1) = true →
    let v := sealVerdict s
    (v.reason ≠ 0 → Runs (.paramSeal t r) s (fun u => Answered r 0x0003 rBadParam (sealPayload 0 0 v.reason v.line v.cell) u
      ∧ DeskOnly r.mb (advance t s) u)) ∧
    (v.reason = 0 → fld r.payload 0 1 = 1 →
      CompletesOk (.paramSeal t r) r 0x0003 s (advance t s) (fun p => p = sealPayload 0 0 0 255 65535)) ∧
    (v.reason = 0 → fld r.payload 0 1 = 0 →
      (s.sch.running = false → s.par.timely = none → s.par.late = none →
        Runs (.paramSeal t r) s (fun u => Answered r 0x0003 rOK (sealPayload s.sch.frameNo.val.toNat 4 0 255 65535) u
          ∧ u.par.inForce = applyHost (snapshot s) s.par.inForce ∧ u.par.prev = s.par.inForce ∧ u.par.gen = 1 - s.par.gen
          ∧ u.par.shadow.vals = s.par.shadow.vals ∧ u.par.shadow.fades = 0 ∧ u.par.im = s.par.im ∧ u.par.boBoot = s.par.boBoot
          ∧ u.desk.st = s.desk.st ∧ u.nv = s.nv ∧ u.pending = s.pending)) ∧
      (s.sch.running = true → s.sch.fbeAt = none →
        Runs (.paramSeal t r) s (fun u => (mb u r.mb).st = 1 ∧ u.par.inForce = s.par.inForce ∧ u.par.shadow.fades = 0
          ∧ u.par.awaiting = s.par.awaiting ++ [{ mb := some r.mb, tag := r.tag, at_ := (advance t s).dev, host := some (snapshot s), svc := none }]
          ∧ DeskOnly r.mb { advance t s with par := u.par } u)) ∧
      (s.sch.running = true → s.par.awaiting = [] → ∀ f, s.sch.fbeAt = some f →
        let late := decide (max (f - 2 * tUs) s.sch.lastTls ≤ (advance t s).dev)
        let first := (s.sch.frameNo.val.toNat + if late then 2 else 1) % 2 ^ 32
        let was := if late then s.par.late else s.par.timely
        let put := some (sealMerge was { snapshot s with first := first })
        Runs (.paramSeal t r) s (fun u =>
          Answered r 0x0003 (if late then rSealLate else rOK) (sealPayload first (b2n late + 2 * b2n was.isSome) 0 255 65535) u
          ∧ u.par = { s.par with
              shadow.fades := 0, timely := if late then s.par.timely else put, late := if late then put else s.par.late }
          ∧ DeskOnly r.mb { advance t s with par := u.par } u)))) ∧
  (∀ (t : Nat) (r : Req) (s : State), Ready r s → r.payload.length = 4 → s.desk.st = 1 → RefusedWith (.paramSeal t r) r 0x0003 rNotPermitted t s)

/-- The device commands (R38, R181, R456, R462 to R464): run and stop with the frame they name, the event read, the reset that follows
1 ms later, and the identity. Model's own choices: log entries 18, 27, 80. -/
def Obligations.DeviceCommandsComplete : Prop :=
  (∀ (t : Nat) (r : Req) (s : State), Ready r s → r.payload = [] →
    (s.desk.st = 2 → itinReady s = true → s.cal.factory = none → runWithheld s = false →
      Runs (.devRun t r) s (fun u => Answered r 0x0010 rOK (le 4 s.sch.frameNo.val.toNat) u ∧ u.desk.st = 4 ∧ u.par.inForce = s.par.inForce
        ∧ u.par.shadow = s.par.shadow ∧ u.par.im = s.par.im ∧ u.nv = s.nv ∧ u.mem.bytes = s.mem.bytes ∧ u.nk.conf = s.nk.conf ∧ u.pending = s.pending)) ∧
    (s.desk.st ≠ 2 ∨ itinReady s = false ∨ s.cal.factory ≠ none → RefusedWith (.devRun t r) r 0x0010 rNotPermitted t s) ∧
    (s.desk.st = 2 → itinReady s = true → s.cal.factory = none → runWithheld s = true → RefusedWith (.devRun t r) r 0x0010 rSafetyLocked t s) ∧
    (s.desk.st = 4 ∨ s.desk.st = 5 →
      (s.sch.running = true → CompletesOk (.devStop t r) r 0x0011 s { advance t s with desk.pendStop := true, desk.pendRun := false }
        (fun p => p = le 4 s.sch.frameNo.val.toNat)) ∧
      (s.sch.running = false → Runs (.devStop t r) s (fun u => Answered r 0x0011 rOK (le 4 0xFFFFFFFF) u ∧ u.desk.st = 2
        ∧ u.desk.pendStop = false ∧ u.desk.pendRun = false ∧ u.desk.pendExit = false
        ∧ u.par.inForce = s.par.inForce ∧ u.par.im = s.par.im ∧ u.nv = s.nv ∧ u.mem.bytes = s.mem.bytes ∧ u.pending = s.pending))) ∧
    (s.desk.st ≠ 4 → s.desk.st ≠ 5 → RefusedWith (.devStop t r) r 0x0011 rNotPermitted t s) ∧
    CompletesOk (.devIdentity t r) r 0x0018 s (advance t s) (fun p => p.length = 72 ∧ p = le 8 s.nv.serial ++ identityKey)) ∧
  (∀ (t : Nat) (r : Req) (s : State), Ready r s → r.payload.length = 4 → fld r.payload 0 1 ≤ 5 → allZero (r.payload.drop 1) = true →
    s.desk.lostCount = 0 →
    let n := fld r.payload 0 1
    let out := s.desk.events.take n
    Runs (.eventRead t r) s (fun u => DeskOnly r.mb (advance t s) u
      ∧ Answered r 0x0012 rOK (le 1 out.length ++ le 1 0 ++ le 2 (s.desk.events.length - out.length) ++ le 4 s.desk.eventCount.val.toNat
          ++ out.flatMap evBytes) u
      ∧ ((mb s r.mb).completed.wraps 1 = false → u.desk.events = s.desk.events.drop n ∧ u.desk.eventCount = s.desk.eventCount))) ∧
  (∀ (t : Nat) (r : Req) (s : State), Ready r s → r.payload.length ≠ 4 ∨ 5 < fld r.payload 0 1 ∨ allZero (r.payload.drop 1) = false →
    RefusedWith (.eventRead t r) r 0x0012 rBadParam t s) ∧
  (∀ (t : Nat) (r : Req) (s : State), Ready r s → r.payload.length = 4 →
    (fld r.payload 0 4 = s.nv.serial % 2 ^ 32 → s.desk.cmdReset = none →
      CompletesOk (.devReset t r) r 0x0015 s { advance t s with desk.cmdReset := some ((advance t s).dev + tMs) } (fun p => p = [])) ∧
    (fld r.payload 0 4 ≠ s.nv.serial % 2 ^ 32 → RefusedWith (.devReset t r) r 0x0015 rBadParam t s))

/-- Firmware update (R294, R465, R468): bytes into the slot not running, the four actions, the six steps that verify an image in their
order, a directory write into the copy that does not govern, the end of an erase; a request that finds the flash taken waits for it.
Model's own choices: log entries 68, 78, 79, 118. -/
def Obligations.FirmwareUpdateRuns : Prop :=
  (∀ (t : Nat) (r : Req) (s : State), Ready r s →
    let o := fld r.payload 0 4
    let n := fld r.payload 4 2
    r.payload.length = 8 + n → 1 ≤ n → n ≤ 240 → o + n ≤ slotSize → fld r.payload 6 2 = 0 →
    (flashBusy s = true → Runs (.fwWrite t r) s (fun u => (mb u r.mb).st = 1
      ∧ DeskOnly r.mb { advance t s with desk.fwWait := s.desk.fwWait ++ [r.mb] } u)) ∧
    (flashBusy s = false → s.nk.wrHeld = false → CompletesOk (.fwWrite t r) r 0x0013 s (slotPut o (r.payload.drop 8) (advance t s)) (fun p => p = [])) ∧
    (flashBusy s = false → s.nk.wrHeld = true → RefusedWith (.fwWrite t r) r 0x0013 rSafetyLocked t s)) ∧
  (∀ (t : Nat) (r : Req) (s : State), Ready r s → r.payload.length = 4 → allZero (r.payload.drop 1) = true →
    flashBusy s = false → s.nk.wrHeld = false →
    let a := fld r.payload 0 1
    let o := 1 - s.desk.slot
    let d := bootDir s
    let bad := imageStep s o
    (a = 1 → Runs (.fwUpdate t (r.mb, r.tag) r.payload) s (fun u => (mb u r.mb).st = 1 ∧ u.desk.erase = some r.mb
      ∧ DeskOnly r.mb { advance t s with desk.erase := some r.mb } u)) ∧
    (a = 2 → Runs (.fwUpdate t (r.mb, r.tag) r.payload) s (fun u => Answered r 0x0014 (if bad = 0 then rOK else rCheckMismatch) (fwAnswer s o bad) u
      ∧ DeskOnly r.mb (if bad = 0 then dirWrite o 1 0 (advance t s) else advance t s) u)) ∧
    (a = 3 → s.desk.trial = true → 2 ≤ s.desk.st → CompletesOk (.fwUpdate t (r.mb, r.tag) r.payload) r 0x0014 s
      (dirWrite d.active 0 d.boots { advance t s with
        desk.trial := false, nv.rollback := max s.nv.rollback (slotRollback s s.desk.slot) })
      (fun p => p = fwAnswer s s.desk.slot 0)) ∧
    (a = 3 → s.desk.trial = false → RefusedWith (.fwUpdate t (r.mb, r.tag) r.payload) r 0x0014 rNotPermitted t s) ∧
    (a = 4 → d.trial = 1 → d.boots = 0 → d.active ≠ s.desk.slot → CompletesOk (.fwUpdate t (r.mb, r.tag) r.payload) r 0x0014 s
      (dirWrite s.desk.slot (b2n s.desk.trial) (b2n s.desk.trial) (advance t s)) (fun p => p = fwAnswer s d.active 0))) ∧
  (∀ (t : Nat) (r : Req) (s : State), Ready r s → r.payload.length = 4 → allZero (r.payload.drop 1) = true → flashBusy s = true →
    fld r.payload 0 1 = 1 ∨ fld r.payload 0 1 = 2 →
    Runs (.fwUpdate t (r.mb, r.tag) r.payload) s (fun u => (mb u r.mb).st = 1
      ∧ DeskOnly r.mb { advance t s with desk.fwWait := s.desk.fwWait ++ [r.mb] } u)) ∧
  (∀ (k : Nat) (s : State),
    let key := slotGet s k 24 64
    let slot := slotNum s k 20 1
    let steps := [headerOk s k, keyKnown s.nv.imgKeys slot key, !s.nv.imgRevoked.testBit slot, decide (s.nv.rollback ≤ slotRollback s k),
      slotGet s k 88 32 == digest (slotGet s k 256 (slotNum s k 16 4)), Config.ecdsaOk key (digest (slotGet s k 0 120)) (slotGet s k 120 64)]
    imageStep s k = (match steps.findIdx? (· == false) with | some i => i + 1 | none => 0)) ∧
  (∀ (a tr n : Nat) (s : State), a < 2 → tr < 256 → n < 256 → (bootDir s).seq + 1 < 2 ^ 32 →
    let u := dirWrite a tr n s
    bootDir u = { seq := (bootDir s).seq + 1, active := a, trial := tr, boots := n } ∧ dirCopy u ≠ dirCopy s
    ∧ u = { s with nv.dir0 := if dirCopy s = some 0 then s.nv.dir0 else u.nv.dir0, nv.dir1 := if dirCopy s = some 0 then u.nv.dir1 else s.nv.dir1 }) ∧
  (∀ (t k : Nat) (s : State), Awake s → s.desk.erase = some k → s.desk.fwWait = [] → (mb s k).origin = none → s.nk.wrHeld = false →
    Runs (.fwEraseDone t) s (fun u => (mb u k).st = 2 ∧ (mb u k).lastResult = rOK ∧ (mb u k).lastOpcode = 0x0014
      ∧ u.nv = (if s.desk.slot = 1 then { s.nv with slotA := [] } else if s.desk.slot = 0 then { s.nv with slotB := [] } else u.nv)
      ∧ DeskOnly k { advance t s with nv := u.nv, desk.erase := none } u)) ∧
  (∀ (t k j : Nat) (s : State), Awake s → s.desk.erase = some k → s.desk.fwWait = [j] → j ≠ k → s.nk.wrHeld = false →
    (∀ x, s.dma.xfer = some x → x.target ≠ 2) → s.desk.slot = 0 →
    let p := cgets 0 (mb s j).buf 8 (cgetLE 0 (mb s j).buf 2 2)
    cgetLE 0 (mb s j).buf 0 2 = 0x0013 → 1 ≤ fld p 4 2 → fld p 4 2 ≤ 240 → fld p 0 4 + fld p 4 2 ≤ slotSize → fld p 6 2 = 0 →
    Runs (.fwEraseDone t) s (fun u => u.desk.fwWait = [] ∧ (mb u k).st = 2 ∧ (mb u j).st = 2 ∧ (mb u j).lastResult = rOK
      ∧ u.nv = { s.nv with slotB := cputs 0xFF#8 [] (fld p 0 4) (p.drop 8) }))

/-- Debug authentication (R469): a challenge holds its nonce for 60 s, a response whose key and signature
hold raises the level and sets LAB at level 3, another one counts, three lock it until reset. Model's own choices: log entries 81, 118. -/
def Obligations.DebugAuthenticates : Prop :=
  (∀ (t : Nat) (r : Req) (s : State), Ready r s → r.mb = 5 → s.desk.recovery = false → r.payload.length = 4 →
    1 ≤ fld r.payload 0 1 → fld r.payload 0 1 ≤ 3 → allZero (r.payload.drop 1) = true →
    (s.desk.debugFails < 3 → Runs (.debugChallenge t r) s (fun u => ∃ nonce : List Byte, nonce.length = 16
      ∧ u.desk.challenge = some { nonce := nonce, level := fld r.payload 0 1, at_ := (advance t s).dev }
      ∧ Answered r 0x0016 rOK (le 1 (fld r.payload 0 1) ++ zeros 3 ++ le 8 s.nv.serial ++ nonce) u
      ∧ DeskOnly 5 { advance t s with desk.challenge := u.desk.challenge } u)) ∧
    (3 ≤ s.desk.debugFails → RefusedWith (.debugChallenge t r) r 0x0016 rSafetyLocked t s)) ∧
  (∀ (t : Nat) (r : Req) (s : State), Ready r s → r.mb = 5 → r.payload.length = 132 →
    fld r.payload 0 1 ≤ 1 → allZero ((r.payload.drop 1).take 3) = true →
    (∀ c, s.desk.challenge = some c → s.desk.debugFails < 3 →
      let slot := fld r.payload 0 1
      let key := (r.payload.drop 4).take 64
      let ok := decide ((advance t s).dev ≤ c.at_ + 60 * tSec) && keyKnown s.nv.dbgKeys slot key && !s.nv.dbgRevoked.testBit slot
        && Config.ecdsaOk key (digest (c.nonce ++ le 8 s.nv.serial ++ le 1 c.level)) ((r.payload.drop 68).take 64)
      let d := max s.desk.debug c.level
      Runs (.debugResponse t (r.mb, r.tag) r.payload) s (fun u => Answered r 0x0017 (if ok then rOK else rCheckMismatch) [] u
        ∧ DeskOnly 5 (if ok then { advance t s with desk.challenge := none, desk.debug := d, desk.lab := decide (3 ≤ d) }
          else { advance t s with desk.challenge := none, desk.debugFails := s.desk.debugFails + 1 }) u)) ∧
    (s.desk.challenge = none → s.desk.debugFails < 3 → Runs (.debugResponse t (r.mb, r.tag) r.payload) s (fun u => Answered r 0x0017 rCheckMismatch [] u
      ∧ DeskOnly 5 { advance t s with desk.debugFails := s.desk.debugFails + 1 } u)) ∧
    (3 ≤ s.desk.debugFails → RefusedWith (.debugResponse t (r.mb, r.tag) r.payload) r 0x0017 rSafetyLocked t s)) ∧
  (∀ (t : Nat) (r : Req) (s : State), Ready r s → r.mb ≠ 5 → RefusedWith (.debugChallenge t r) r 0x0016 rSafetyLocked t s)

/-- ATTENTION and its line (R5, R6, R442, R445): a write clears the bits it names but for EVENT while an entry is queued and those hardware
sets in the same cycle, whichever comes first, the enables decide the line, its timer asserts it. Model's own choice: log entry 11. -/
def Obligations.AttentionWorks : Prop :=
  (∀ (t : Nat) (v : Word) (s : State), Awake s → Runs (.attentionClear t v) s (fun u =>
      (∀ i, i < 32 → u.desk.attention.getLsbD i = (s.desk.attention.getLsbD i
        && !(v.getLsbD i && decide (i < 14) && !(i == 8 && !s.desk.events.isEmpty)
          && !(decide (s.desk.setAt = some (cycleNow (advance t s))) && s.desk.setBits.getLsbD i))))
      ∧ (attnA u = 0 → u.pins.attnN = false ∧ u.desk.attnTimer = none)
      ∧ (∃ c, u.desk.clr = some c ∧ c.cyc = cycleNow (advance t s)
          ∧ ∀ i, i < 32 → s.desk.attention.getLsbD i = true → u.desk.attention.getLsbD i = false → c.bits.getLsbD i = true)
      ∧ u = { advance t s with
          desk.attention := u.desk.attention, desk.clr := u.desk.clr, desk.attnTimer := u.desk.attnTimer, pins.attnN := u.pins.attnN })) ∧
  (∀ (t : Nat) (v : Word) (s : State), Awake s → Runs (.attnEnableWrite t v) s (fun u =>
      u.desk.attnEnable = v &&& 0x3FFF#32
      ∧ (attnA u = 0 → u.pins.attnN = false ∧ u.desk.attnTimer = none)
      ∧ (attnA s = 0 → attnA u ≠ 0 → s.pins.attnN = false →
          ((s.desk.attnDelay = 0 ∨ ((attnA u).getLsbD 11 = true ∧ s.desk.attnEnable.getLsbD 11 = false)) → u.pins.attnN = true)
          ∧ (s.desk.attnDelay ≠ 0 → (attnA u).getLsbD 11 = false → u.pins.attnN = false
              ∧ u.desk.attnTimer = some ((advance t s).dev + s.desk.attnDelay * tUs)))
      ∧ u = { advance t s with desk.attnEnable := u.desk.attnEnable, desk.attnTimer := u.desk.attnTimer, pins.attnN := u.pins.attnN })) ∧
  (∀ (t e : Nat) (s : State), Awake s → s.desk.attnTimer = some e → e ≤ (advance t s).dev →
    exec (.attnModerationExpiry t) s = .next { advance t s with desk.attnTimer := none, pins.attnN := decide (attnA s ≠ 0) }) ∧
  (∀ (t : Nat) (s : State), (∀ e, s.desk.attnTimer = some e → (advance t s).dev < e) →
    exec (.attnModerationExpiry t) s = .next (advance t s)) ∧
  (∀ (bits : Word) (c : AttnClear) (s : State), s.desk.clr = some c → c.cyc = cycleNow s → bits &&& c.bits &&& s.desk.attnEnable ≠ 0 →
    c.pin = true → (attnRaise bits s).desk.attention = s.desk.attention ||| bits ∧ (attnRaise bits s).pins.attnN = true)

/-- Register writes and the doorbell's overrun (R433, R443, R446, R447): the mailbox buffer while the mailbox is not BUSY,
MB_STATUS's flags, the delay, a doorbell that submits, and no effect in RESET or FROZEN; over SPI (R431, R432) a command word with its data
words; the test port (R527), which alters nothing else and never drives an observe-only ball.
Model's own choices: log entries 8, 18, 92, 117. -/
def Obligations.RegisterWritesAct : Prop :=
  (∀ (t k : Nat) (s : State), Awake s → s.desk.recovery = false → k < 8 → (mb s k).st = 1 →
    Runs (.mailboxOverrun t k) s (fun u => LogOnly (setMb (advance t s) k { mb s k with overrun := true }) u)) ∧
  (∀ (t k o : Nat) (v : Word) (s : State), Awake s → k < 8 → o < 64 →
    exec (.registerWrite t (.fabric (0x800 + 256 * k + 4 * o)) v) s = .next (setMb (advance t s) k
      (if (mb s k).st = 1 then { mb s k with writeIgnored := true } else { mb s k with buf := cputs 0 (mb s k).buf (4 * o) (le 4 v.toNat) }))) ∧
  (∀ (t k : Nat) (v : Word) (s : State), Awake s → k < 8 →
    exec (.registerWrite t (.fabric (0x104 + 32 * k)) v) s = .next (setMb (advance t s) k { mb s k with
      overrun := (mb s k).overrun && !v.getLsbD 8, writeIgnored := (mb s k).writeIgnored && !v.getLsbD 10 })) ∧
  (∀ (t : Nat) (v : Word) (s : State), Awake s →
    exec (.registerWrite t (.fabric 0x02C) v) s = .next { advance t s with desk.attnDelay := min 10000 (v.toNat % 16384) }
    ∧ exec (.registerWrite t (.fabric 0x024) v) s = exec (.attentionClear t v) s
    ∧ exec (.registerWrite t (.fabric 0x028) v) s = exec (.attnEnableWrite t v) s) ∧
  (∀ (t k : Nat) (v : Word) (s : State), Awake s → s.desk.recovery = false → k < 8 → v.getLsbD 0 = true → (mb s k).st ≠ 1 →
    opcodes.contains (cgetLE 0 (mb s k).buf 0 2) = true → (∀ j ∈ s.desk.waiting, opcodes.contains (cgetLE 0 (mb s j).buf 0 2) = true) →
    Runs (.registerWrite t (.fabric (0x100 + 32 * k)) v) s (fun u => (mb u k).st = 1 ∧ (mb u k).origin = none ∧ (mb u k).buf = (mb s k).buf
      ∧ u.desk.waiting = ringOrder (advance t s) k s.desk.waiting ∧ (icSrc u (1 + k)).pending = true
      ∧ DeskOnly k { advance t s with desk.waiting := u.desk.waiting } u)) ∧
  (∀ (t a : Nat) (v : Word) (s : State), s.desk.st = 0 ∨ (s.desk.st = 7 ∧ a / 4 ≠ 12) →
    exec (.registerWrite t (.fabric a) v) s = .next (advance t s)) ∧
  (∀ (t n a : Nat) (v y : Word) (rd : Bool) (rsv data : List Bool) (s : State), s.desk.st ≠ 0 → n < 128 → a < 1024 → rsv.length = 12 →
    let msb := fun (k x : Nat) => (List.range k).map (fun i => x.testBit (k - 1 - i))
    let head := [rd] ++ msb 7 n ++ rsv ++ msb 12 (4 * a)
    let wire := fun (x : Nat) => msb 8 x ++ msb 8 (x / 256) ++ msb 8 (x / 65536) ++ msb 8 (x / 16777216)
    (rsv.any id = true → exec (.registerWrite t (.spi (head ++ data)) y) s = .next { advance t s with desk.miso := some [] }) ∧
    (rsv.any id = false → rd = false → n = 0 →
      exec (.registerWrite t (.spi (head ++ wire v.toNat)) y) s = .next (registerWrite (4 * a) v { advance t s with desk.miso := some [] })
      ∧ (data.length < 32 → exec (.registerWrite t (.spi (head ++ data)) y) s = .next { advance t s with desk.miso := some [] })) ∧
    (rsv.any id = false → rd = true → data.length = 32 * (n + 2) → Runs (.registerWrite t (.spi (head ++ data)) y) s (fun u =>
      u.desk.miso.map (·.drop 32) = some ((List.range (n + 1)).flatMap (fun i => wire (if 1024 ≤ a + i then 0 else deskRead s (4 * a + 4 * i))))
      ∧ u = { advance t s with free := u.free, desk.miso := u.desk.miso }))) ∧
  (∀ (t : Nat) (bits : List Bool) (y : Word) (s : State), s.desk.st = 0 → exec (.registerWrite t (.spi bits) y) s = .next { advance t s with desk.miso := none }) ∧
  (∀ (t : Nat) (tms tdi low : Bool) (y : Word) (s : State), Runs (.registerWrite t (.test tms tdi low) y) s (fun u =>
    (low = true → u.tap.st = .reset ∧ u.tap.instr = .idcode ∧ u.tap.sibs = 0) ∧ (low = false → u.tap.st = tapNext s.tap.st tms)
    ∧ u = { advance t s with free := u.free, tap := u.tap })) ∧
  (∀ (b n : Nat) (s : State), (observeOnly b = true ↔ b < 16 ∨ b = 148 ∨ b = 149 ∨ b = 150) ∧ (observeOnly b = true → ballOut s b = ballLevel s b)
    ∧ (s.desk.debug < 2 → segOpen s n = false)) ∧
  (∀ x : TapSt, tapNext (tapNext (tapNext (tapNext (tapNext x true) true) true) true) true = .reset)

/-- In-band management (R434 to R437, R447) and window frames (R481, R488, R496, R497): a request rings its mailbox with its origin kept; one
delivered twice is discarded while it is in progress and answered again with its kind 2 response once it was completed, and never run a
second time; a BUSY mailbox refuses another; register frames are answered, mailbox registers are not written in-band. A window write acts on
the exchange region alone, a read answers its bytes, a frame whose channel's engine serves a descriptor waits, a refusal names its reason.
Model's own choices: log entries 66, 83, 84. -/
def Obligations.InBandFramesAct : Prop :=
  (∀ (t : Nat) (f : Frame) (s : State), Awake s → mgmtOk f s = true → mVersion f = 1 → mKind f = 1 → 16 ≤ f.payload.length →
    let k := fld f.payload 2 1
    let n := fld f.payload 10 2
    k ≤ 7 → fld f.payload 3 1 = 0 → 16 + n ≤ f.payload.length →
    (k = 4 → (par0 s pMacsecEnable).testBit 1 = true) →
    (s.desk.recovery = false → (mb s k).st ≠ 1 → sameOrigin f (mb s k).lastOrigin = false → opcodes.contains (fld f.payload 8 2) = true →
      (∀ j ∈ s.desk.waiting, opcodes.contains (cgetLE 0 (mb s j).buf 0 2) = true) →
      Runs (.mgmtRequest t f) s (fun u => (mb u k).st = 1 ∧ (mb u k).inBand = true ∧ u.desk.waiting = ringOrder (advance t s) k s.desk.waiting
        ∧ (mb u k).origin = some { lane := f.lane, src := f.src, tci := f.tci, secured := f.secured.isSome, trans := fld f.payload 4 4 }
        ∧ cgets 0 (mb u k).buf 0 (min 256 (8 + n)) = ((f.payload.drop 8).take (8 + n)).take 256
        ∧ DeskOnly k { advance t s with desk.waiting := u.desk.waiting } u)) ∧
    ((mb s k).st = 1 → sameOrigin f (mb s k).origin = true →
      Runs (.mgmtRequest t f) s (fun u => u = { advance t s with ic := u.ic })) ∧
    (sameOrigin f (mb s k).lastOrigin = true → ¬((mb s k).st = 1 ∧ sameOrigin f (mb s k).origin = true) →
      Runs (.mgmtRequest t f) s (fun u => (tget none u.desk.replies f.lane).map (·.body) = some (mb s k).lastKind2
        ∧ u = { advance t s with ic := u.ic, desk.replies := u.desk.replies })) ∧
    ((mb s k).st = 1 → sameOrigin f (mb s k).origin = false → sameOrigin f (mb s k).lastOrigin = false →
      Runs (.mgmtRequest t f) s (fun u => (mb u k).overrun = true
        ∧ (tget none u.desk.replies f.lane).map (·.body) = some (mgmtHdr 6 k 1 (fld f.payload 4 4))
        ∧ DeskOnly k { advance t s with desk.replies := u.desk.replies } u))) ∧
  (∀ (t : Nat) (f : Frame) (s : State), Awake s → mgmtOk f s = true → mVersion f = 1 → mKind f = 3 → regFrameOk f 0 = true →
    Runs (.mgmtRegisterRead t f) s (fun u =>
      (tget none u.desk.replies f.lane).map (·.body) = some (mgmtHdr 5 0 0 (fld f.payload 4 4) ++ le 2 (fld f.payload 8 2) ++ le 2 (fld f.payload 10 2)
        ++ (List.range (fld f.payload 10 2)).flatMap (fun i => le 4 (deskRead s (fld f.payload 8 2 + 4 * i))))
      ∧ u = { advance t s with ic := u.ic, desk.replies := u.desk.replies })) ∧
  (∀ (t : Nat) (f : Frame) (s : State), Awake s → mgmtOk f s = true → mVersion f = 1 → mKind f = 4 → regFrameOk f 4 = true →
    (0x100 < fld f.payload 8 2 + 4 * fld f.payload 10 2 → Runs (.mgmtRegisterWrite t f) s (fun u =>
      (tget none u.desk.replies f.lane).map (·.body) = some (mgmtHdr 6 0 3 (fld f.payload 4 4))
      ∧ u = { advance t s with ic := u.ic, desk.replies := u.desk.replies })) ∧
    (fld f.payload 8 2 = 0x2C → fld f.payload 10 2 = 1 → Runs (.mgmtRegisterWrite t f) s (fun u =>
      u.desk.attnDelay = min 10000 (fld f.payload 12 4 % 16384)
      ∧ (tget none u.desk.replies f.lane).map (·.body) = some (mgmtHdr 5 0 0 (fld f.payload 4 4) ++ le 2 0x2C ++ le 2 0)
      ∧ u = { advance t s with ic := u.ic, desk.replies := u.desk.replies, desk.attnDelay := u.desk.attnDelay }))) ∧
  (∀ (t : Nat) (f : Frame) (s : State), Awake s → mgmtOk f s = true → mVersion f = 2 → mKind f = 1 → s.dma.wins = [] →
    let n := fld f.payload 2 2
    let o := fld f.payload 8 4
    let w : WinReq := { frame := f, write := true }
    Runs (.windowWrite t f) s (fun u =>
      (winReason f true s = 0 → engineIdle s (winChan w) = false → u = { advance t s with ic := u.ic, dma.wins := [w] })
      ∧ (winReason f true s = 0 → engineIdle s (winChan w) = true → (∀ i, i < n → cget 0 u.mem.bytes (memExch + o + i) = f.payload.getD (16 + i) 0)
        ∧ (∀ a, a < memExch + o ∨ memExch + o + n ≤ a → cget 0 u.mem.bytes a = cget 0 s.mem.bytes a)
        ∧ (tget none u.desk.replies f.lane).map (fun x => x.body.take 2) = some (le 1 2 ++ le 1 4)
        ∧ u = { advance t s with ic := u.ic, desk.replies := u.desk.replies, mem.bytes := u.mem.bytes, mem.bad := u.mem.bad })
      ∧ (winReason f true s ≠ 0 → (tget none u.desk.replies f.lane).map (fun x => x.body.getD 12 0) = some (BitVec.ofNat 8 (winReason f true s))
        ∧ u = { advance t s with ic := u.ic, desk.replies := u.desk.replies }))) ∧
  (∀ (t : Nat) (f : Frame) (s : State), Awake s → mgmtOk f s = true → mVersion f = 2 → mKind f = 2 → s.dma.wins = [] →
    let n := fld f.payload 2 2
    let o := fld f.payload 8 4
    let w : WinReq := { frame := f, write := false }
    Runs (.windowRead t f) s (fun u =>
      (winReason f false s = 0 → engineIdle s (winChan w) = false → u = { advance t s with ic := u.ic, dma.wins := [w] })
      ∧ (winReason f false s = 0 → engineIdle s (winChan w) = true → memBad s (memExch + o) n = false →
        (tget none u.desk.replies f.lane).map (fun x => x.body.drop 16) = some (memGet s (memExch + o) n)
        ∧ u = { advance t s with ic := u.ic, desk.replies := u.desk.replies })
      ∧ (winReason f false s ≠ 0 → (tget none u.desk.replies f.lane).map (fun x => x.body.getD 12 0) = some (BitVec.ofNat 8 (winReason f false s))
        ∧ u = { advance t s with ic := u.ic, desk.replies := u.desk.replies })))

/-- Mailbox 4 in-band (R438): while bit 1 of MACSEC.ENABLE is clear every request for it is answered with kind 6 reason 2 and nothing else
follows; while it is set, only frames that arrive protected are accepted, and mailbox 4 takes their requests. -/
def Obligations.MailboxFourNeedsMacsec : Prop :=
  (∀ (t : Nat) (f : Frame) (s : State), Awake s → mgmtOk f s = true → mVersion f = 1 → mKind f = 1 → 16 ≤ f.payload.length →
    fld f.payload 2 1 = 4 → fld f.payload 3 1 = 0 → 16 + fld f.payload 10 2 ≤ f.payload.length →
    let on := (par0 s pMacsecEnable).testBit 1
    (on = false → Runs (.mgmtRequest t f) s (fun u =>
      (tget none u.desk.replies f.lane).map (·.body) = some (mgmtHdr 6 4 2 (fld f.payload 4 4))
      ∧ u = { advance t s with ic := u.ic, desk.replies := u.desk.replies })) ∧
    (on = true → (mb s 4).st ≠ 1 → sameOrigin f (mb s 4).lastOrigin = false → s.desk.recovery = false → opcodes.contains (fld f.payload 8 2) = true →
      (∀ j ∈ s.desk.waiting, opcodes.contains (cgetLE 0 (mb s j).buf 0 2) = true) →
      Runs (.mgmtRequest t f) s (fun u => (mb u 4).st = 1 ∧ (mb u 4).inBand = true ∧ u.desk.waiting.contains 4 = true))) ∧
  (∀ (f : Frame) (s : State), mgmtOk f s = true → (par0 s pMacsecEnable).testBit 1 = true → rxProtected f s = true)
end
end

