-- ==== Sys2Proof/Laws/Table.lean ====
section
/-! SUPPORT. Laws/Table.lean: the laws of sparse tables and byte memories: a read after a write, and that every memory operation
keeps the canonical form. -/

namespace Sys2Proof.Machine

variable {α : Type}

@[simp] theorem tget_nil (d : α) (k : Nat) : tget d [] k = d := rfl

theorem tget_tdel (d : α) (k k' : Nat) (m : Tab α) : tget d (tdel k m) k' = if k' = k then d else tget d m k' := by
  induction m with
  | nil => simp [tdel, tget]
  | cons p m ih =>
    obtain ⟨j, w⟩ := p
    by_cases hj : j = k <;> by_cases hk : k' = k <;> by_cases hkj : k' = j <;> simp_all [tdel, tget]

theorem tget_tins (d v : α) (k k' : Nat) (m : Tab α) : tget d (tins k v m) k' = if k' = k then v else tget d m k' := by
  induction m with
  | nil => simp [tins, tget]
  | cons p m ih =>
    obtain ⟨j, w⟩ := p
    simp only [tins]
    split
    · rfl
    · split <;> by_cases hk : k' = k <;> by_cases hkj : k' = j <;> simp_all [tget]

/-- A read after a write: the key written reads the value, every other key reads as before. On every table, canonical or not. -/
@[simp] theorem tget_tput [DecidableEq α] (d v : α) (k k' : Nat) (m : Tab α) :
    tget d (tput d m k v) k' = if k' = k then v else tget d m k' := by
  unfold tput
  split
  · next h => rw [tget_tdel, h]
  · rw [tget_tins]

@[simp] theorem tget_tmod [DecidableEq α] (d : α) (k k' : Nat) (f : α → α) (m : Tab α) :
    tget d (tmod d m k f) k' = if k' = k then f (tget d m k) else tget d m k' := by
  simp [tmod]

/-! ### The canonical form -/

/-- A table that is canonical above a bound is canonical above a lower one. -/
theorem twf_mono [DecidableEq α] {d : α} {lo lo' : Nat} (h : lo' ≤ lo) {m : Tab α} (w : twf d (some lo) m = true) :
    twf d (some lo') m = true := by
  cases m with
  | nil => rfl
  | cons p m =>
    simp only [twf, Bool.and_eq_true, decide_eq_true_eq] at w ⊢
    exact ⟨⟨by omega, w.1.2⟩, w.2⟩

theorem twf_tdel [DecidableEq α] {d : α} (k : Nat) {lo : Nat} {m : Tab α} (w : twf d (some lo) m = true) : twf d (some lo) (tdel k m) = true := by
  induction m generalizing lo with
  | nil => rfl
  | cons p m ih =>
    simp only [twf, Bool.and_eq_true, decide_eq_true_eq] at w
    simp only [tdel]
    split
    · exact ih (twf_mono (by omega) w.2)
    · simp only [twf, Bool.and_eq_true, decide_eq_true_eq]
      exact ⟨w.1, ih w.2⟩

theorem twf_tins [DecidableEq α] {d v : α} (hv : v ≠ d) {k lo : Nat} (hk : lo < k) {m : Tab α} (w : twf d (some lo) m = true) :
    twf d (some lo) (tins k v m) = true := by
  induction m generalizing lo with
  | nil => simp [tins, twf, hk, hv]
  | cons p m ih =>
    simp only [twf, Bool.and_eq_true, decide_eq_true_eq] at w
    simp only [tins]
    split
    · next h => simp only [twf, Bool.and_eq_true, decide_eq_true_eq]; exact ⟨⟨hk, hv⟩, ⟨h, w.1.2⟩, w.2⟩
    · split
      · next h => subst h; simp only [twf, Bool.and_eq_true, decide_eq_true_eq]; exact ⟨⟨hk, hv⟩, w.2⟩
      · simp only [twf, Bool.and_eq_true, decide_eq_true_eq]
        exact ⟨w.1, ih (by omega) w.2⟩

/-- Canonical from the bottom: the first key may be 0. -/
theorem twf_none [DecidableEq α] {d v : α} {k : Nat} {m : Tab α} : twf d none ((k, v) :: m) = true ↔ v ≠ d ∧ twf d (some k) m = true := by
  simp [twf]

theorem twf_none_of_some [DecidableEq α] {d : α} {lo : Nat} {m : Tab α} (w : twf d (some lo) m = true) : twf d none m = true := by
  cases m with
  | nil => rfl
  | cons p m =>
    simp only [twf, Bool.and_eq_true, decide_eq_true_eq] at w
    exact twf_none.2 ⟨w.1.2, w.2⟩

/-- Every write keeps the canonical form. -/
theorem twf_tput [DecidableEq α] {d v : α} {k : Nat} {m : Tab α} (w : twf d none m = true) : twf d none (tput d m k v) = true := by
  unfold tput
  split
  · cases m with
    | nil => rfl
    | cons p m =>
      obtain ⟨hv, hm⟩ := twf_none.1 w
      simp only [tdel]
      split
      · exact twf_none_of_some (twf_tdel k hm)
      · exact twf_none.2 ⟨hv, twf_tdel k hm⟩
  · next h =>
    cases m with
    | nil => simp [tins, twf, h]
    | cons p m =>
      obtain ⟨hv, hm⟩ := twf_none.1 w
      simp only [tins]
      split
      · next hlt => exact twf_none.2 ⟨h, by simp only [twf, Bool.and_eq_true, decide_eq_true_eq]; exact ⟨⟨hlt, hv⟩, hm⟩⟩
      · split
        · next heq => exact twf_none.2 ⟨h, heq ▸ hm⟩
        · exact twf_none.2 ⟨hv, twf_tins h (by omega) hm⟩

/-- Dropping entries keeps the canonical form. -/
theorem twf_filter [DecidableEq α] {d : α} (p : Nat × α → Bool) {lo : Nat} {m : Tab α} (w : twf d (some lo) m = true) :
    twf d (some lo) (m.filter p) = true := by
  induction m generalizing lo with
  | nil => rfl
  | cons a m ih =>
    simp only [twf, Bool.and_eq_true, decide_eq_true_eq] at w
    rw [List.filter_cons]
    split
    · simp only [twf, Bool.and_eq_true, decide_eq_true_eq]
      exact ⟨w.1, ih w.2⟩
    · exact ih (twf_mono (by omega) w.2)

theorem twf_none_filter [DecidableEq α] {d : α} (p : Nat × α → Bool) {m : Tab α} (w : twf d none m = true) : twf d none (m.filter p) = true := by
  cases m with
  | nil => rfl
  | cons a m =>
    obtain ⟨hv, hm⟩ := twf_none.1 w
    rw [List.filter_cons]
    split
    · exact twf_none.2 ⟨hv, twf_filter p hm⟩
    · exact twf_none_of_some (twf_filter p hm)

/-! ### Byte memories -/

@[simp] theorem cget_cput (d b : Byte) (m : List Host.Cell) (a a' : Nat) : cget d (cput d m a b) a' = if a' = a then b else cget d m a' :=
  tget_tput d b a a' m

/-- A read after consecutive writes: inside them the byte written there, outside them as before. -/
theorem cget_cputs (d : Byte) (l : List Byte) (m : List Host.Cell) (a a' : Nat) :
    cget d (cputs d m a l) a' = if a ≤ a' ∧ a' < a + l.length then l.getD (a' - a) 0 else cget d m a' := by
  induction l generalizing m a with
  | nil => simp [cputs]
  | cons b l ih =>
    simp only [cputs, ih, cget_cput, List.length_cons]
    by_cases h : a' = a
    · subst h; simp
    · by_cases h1 : a + 1 ≤ a' ∧ a' < a + 1 + l.length
      · have e : a' - a = (a' - (a + 1)) + 1 := by omega
        rw [if_pos h1, if_pos (by omega), e, List.getD_cons_succ]
      · rw [if_neg h1, if_neg h, if_neg (by omega)]

/-- Reads of `n` bytes look at those bytes alone. -/
theorem cgets_congr (d : Byte) {m m' : List Host.Cell} {a n : Nat} (h : ∀ x, a ≤ x → x < a + n → cget d m x = cget d m' x) :
    cgets d m a n = cgets d m' a n := by
  induction n generalizing a with
  | zero => rfl
  | succ n ih => simp only [cgets]; rw [h a le_rfl (by omega), ih fun x h1 h2 => h x (by omega) (by omega)]

@[simp] theorem length_cgets (d : Byte) (m : List Host.Cell) (a n : Nat) : (cgets d m a n).length = n := by
  induction n generalizing a with
  | zero => rfl
  | succ n ih => simp [cgets, ih]

theorem cget_of_cputs_before (d : Byte) (l : List Byte) (m : List Host.Cell) {a a' : Nat} (h : a' < a) :
    cget d (cputs d m a l) a' = cget d m a' := by
  rw [cget_cputs, if_neg (by omega)]

/-- What is written reads back. -/
theorem cgets_cputs (d : Byte) (l : List Byte) (m : List Host.Cell) (a : Nat) : cgets d (cputs d m a l) a l.length = l := by
  induction l generalizing m a with
  | nil => rfl
  | cons b l ih =>
    simp only [cputs, List.length_cons, cgets, ih]
    rw [cget_of_cputs_before d l _ (Nat.lt_succ_self a), cget_cput, if_pos rfl]

theorem wf_cput {d : Byte} {m : List Host.Cell} {a : Nat} {b : Byte} (w : Memory.wf d m = true) : Memory.wf d (cput d m a b) = true :=
  twf_tput w

/-- Consecutive writes keep the canonical form. -/
theorem wf_cputs {d : Byte} {m : List Host.Cell} {a : Nat} {l : List Byte} (w : Memory.wf d m = true) : Memory.wf d (cputs d m a l) = true := by
  induction l generalizing m a with
  | nil => exact w
  | cons b l ih => exact ih (wf_cput w)

/-- Dropping cells keeps the canonical form. -/
theorem wf_filter {d : Byte} {m : List Host.Cell} (p : Host.Cell → Bool) (w : Memory.wf d m = true) : Memory.wf d (m.filter p) = true :=
  twf_none_filter p w

end Sys2Proof.Machine
end

