-- ==== Sys2Proof/Laws/State.lean ====
section
/-! SUPPORT. Laws/State.lean: what each named update of the state leaves and reads back, so that no proof unfolds a record update. -/

namespace Sys2Proof.Machine

/-! ### Time -/

@[simp] theorem advance_wall (t : Nat) (s : State) : (advance t s).wall = max s.wall t := rfl
@[simp] theorem advance_dev (t : Nat) (s : State) :
    (advance t s).dev = if s.desk.st = 7 then s.dev else s.dev + (max s.wall t - s.wall) := rfl
theorem dev_le_advance (t : Nat) (s : State) : s.dev ≤ (advance t s).dev := by
  rw [advance_dev]
  split <;> omega
@[simp] theorem advance_free (t : Nat) (s : State) : (advance t s).free = s.free := rfl
@[simp] theorem advance_pins (t : Nat) (s : State) : (advance t s).pins = s.pins := rfl
@[simp] theorem advance_nv (t : Nat) (s : State) : (advance t s).nv = s.nv := rfl
@[simp] theorem advance_desk (t : Nat) (s : State) : (advance t s).desk = s.desk := rfl
@[simp] theorem advance_par (t : Nat) (s : State) : (advance t s).par = s.par := rfl
@[simp] theorem advance_ch (t : Nat) (s : State) : (advance t s).ch = s.ch := rfl
@[simp] theorem advance_capture (t : Nat) (s : State) : (advance t s).capture = s.capture := rfl
@[simp] theorem advance_amb (t : Nat) (s : State) : (advance t s).amb = s.amb := rfl
@[simp] theorem advance_tal (t : Nat) (s : State) : (advance t s).tal = s.tal := rfl
@[simp] theorem advance_ext (t : Nat) (s : State) : (advance t s).ext = s.ext := rfl
@[simp] theorem advance_sch (t : Nat) (s : State) : (advance t s).sch = s.sch := rfl
@[simp] theorem advance_srv (t : Nat) (s : State) : (advance t s).srv = s.srv := rfl
@[simp] theorem advance_sns (t : Nat) (s : State) : (advance t s).sns = s.sns := rfl
@[simp] theorem advance_nk (t : Nat) (s : State) : (advance t s).nk = s.nk := rfl
@[simp] theorem advance_cal (t : Nat) (s : State) : (advance t s).cal = s.cal := rfl
@[simp] theorem advance_str (t : Nat) (s : State) : (advance t s).str = s.str := rfl
@[simp] theorem advance_tim (t : Nat) (s : State) : (advance t s).tim = s.tim := rfl
@[simp] theorem advance_mot (t : Nat) (s : State) : (advance t s).mot = s.mot := rfl
@[simp] theorem advance_lan (t : Nat) (s : State) : (advance t s).lan = s.lan := rfl
@[simp] theorem advance_twn (t : Nat) (s : State) : (advance t s).twn = s.twn := rfl
@[simp] theorem advance_rng (t : Nat) (s : State) : (advance t s).rng = s.rng := rfl
@[simp] theorem advance_ic (t : Nat) (s : State) : (advance t s).ic = s.ic := rfl
@[simp] theorem advance_dma (t : Nat) (s : State) : (advance t s).dma = s.dma := rfl
@[simp] theorem advance_mem (t : Nat) (s : State) : (advance t s).mem = s.mem := rfl
@[simp] theorem advance_lgb (t : Nat) (s : State) : (advance t s).lgb = s.lgb := rfl
@[simp] theorem advance_hlt (t : Nat) (s : State) : (advance t s).hlt = s.hlt := rfl
@[simp] theorem advance_rst (t : Nat) (s : State) : (advance t s).rst = s.rst := rfl
@[simp] theorem advance_pending (t : Nat) (s : State) : (advance t s).pending = s.pending := rfl

/-! ### Chan -/

@[simp] theorem ch_setCh (s : State) (c j : Nat) (v : Chan) : ch (setCh s c v) j = if j = c then v else ch s j :=
  tget_tput _ _ _ _ _
@[simp] theorem ch_advance (t : Nat) (s : State) (c : Nat) : ch (advance t s) c = ch s c := rfl
@[simp] theorem setCh_wall (s : State) (c : Nat) (v : Chan) : (setCh s c v).wall = s.wall := rfl
@[simp] theorem setCh_dev (s : State) (c : Nat) (v : Chan) : (setCh s c v).dev = s.dev := rfl
@[simp] theorem setCh_free (s : State) (c : Nat) (v : Chan) : (setCh s c v).free = s.free := rfl
@[simp] theorem setCh_pins (s : State) (c : Nat) (v : Chan) : (setCh s c v).pins = s.pins := rfl
@[simp] theorem setCh_nv (s : State) (c : Nat) (v : Chan) : (setCh s c v).nv = s.nv := rfl
@[simp] theorem setCh_desk (s : State) (c : Nat) (v : Chan) : (setCh s c v).desk = s.desk := rfl
@[simp] theorem setCh_par (s : State) (c : Nat) (v : Chan) : (setCh s c v).par = s.par := rfl
@[simp] theorem setCh_capture (s : State) (c : Nat) (v : Chan) : (setCh s c v).capture = s.capture := rfl
@[simp] theorem setCh_amb (s : State) (c : Nat) (v : Chan) : (setCh s c v).amb = s.amb := rfl
@[simp] theorem setCh_tal (s : State) (c : Nat) (v : Chan) : (setCh s c v).tal = s.tal := rfl
@[simp] theorem setCh_ext (s : State) (c : Nat) (v : Chan) : (setCh s c v).ext = s.ext := rfl
@[simp] theorem setCh_sch (s : State) (c : Nat) (v : Chan) : (setCh s c v).sch = s.sch := rfl
@[simp] theorem setCh_srv (s : State) (c : Nat) (v : Chan) : (setCh s c v).srv = s.srv := rfl
@[simp] theorem setCh_sns (s : State) (c : Nat) (v : Chan) : (setCh s c v).sns = s.sns := rfl
@[simp] theorem setCh_nk (s : State) (c : Nat) (v : Chan) : (setCh s c v).nk = s.nk := rfl
@[simp] theorem setCh_cal (s : State) (c : Nat) (v : Chan) : (setCh s c v).cal = s.cal := rfl
@[simp] theorem setCh_str (s : State) (c : Nat) (v : Chan) : (setCh s c v).str = s.str := rfl
@[simp] theorem setCh_tim (s : State) (c : Nat) (v : Chan) : (setCh s c v).tim = s.tim := rfl
@[simp] theorem setCh_mot (s : State) (c : Nat) (v : Chan) : (setCh s c v).mot = s.mot := rfl
@[simp] theorem setCh_lan (s : State) (c : Nat) (v : Chan) : (setCh s c v).lan = s.lan := rfl
@[simp] theorem setCh_twn (s : State) (c : Nat) (v : Chan) : (setCh s c v).twn = s.twn := rfl
@[simp] theorem setCh_rng (s : State) (c : Nat) (v : Chan) : (setCh s c v).rng = s.rng := rfl
@[simp] theorem setCh_ic (s : State) (c : Nat) (v : Chan) : (setCh s c v).ic = s.ic := rfl
@[simp] theorem setCh_dma (s : State) (c : Nat) (v : Chan) : (setCh s c v).dma = s.dma := rfl
@[simp] theorem setCh_mem (s : State) (c : Nat) (v : Chan) : (setCh s c v).mem = s.mem := rfl
@[simp] theorem setCh_lgb (s : State) (c : Nat) (v : Chan) : (setCh s c v).lgb = s.lgb := rfl
@[simp] theorem setCh_hlt (s : State) (c : Nat) (v : Chan) : (setCh s c v).hlt = s.hlt := rfl
@[simp] theorem setCh_rst (s : State) (c : Nat) (v : Chan) : (setCh s c v).rst = s.rst := rfl
@[simp] theorem setCh_pending (s : State) (c : Nat) (v : Chan) : (setCh s c v).pending = s.pending := rfl

/-! ### Mailbox -/

@[simp] theorem mb_setMb (s : State) (k j : Nat) (v : Mailbox) : mb (setMb s k v) j = if j = k then v else mb s j :=
  tget_tput _ _ _ _ _
@[simp] theorem mb_advance (t : Nat) (s : State) (k : Nat) : mb (advance t s) k = mb s k := rfl
@[simp] theorem setMb_wall (s : State) (k : Nat) (v : Mailbox) : (setMb s k v).wall = s.wall := rfl
@[simp] theorem setMb_dev (s : State) (k : Nat) (v : Mailbox) : (setMb s k v).dev = s.dev := rfl
@[simp] theorem setMb_free (s : State) (k : Nat) (v : Mailbox) : (setMb s k v).free = s.free := rfl
@[simp] theorem setMb_pins (s : State) (k : Nat) (v : Mailbox) : (setMb s k v).pins = s.pins := rfl
@[simp] theorem setMb_nv (s : State) (k : Nat) (v : Mailbox) : (setMb s k v).nv = s.nv := rfl
@[simp] theorem setMb_par (s : State) (k : Nat) (v : Mailbox) : (setMb s k v).par = s.par := rfl
@[simp] theorem setMb_ch (s : State) (k : Nat) (v : Mailbox) : (setMb s k v).ch = s.ch := rfl
@[simp] theorem setMb_capture (s : State) (k : Nat) (v : Mailbox) : (setMb s k v).capture = s.capture := rfl
@[simp] theorem setMb_amb (s : State) (k : Nat) (v : Mailbox) : (setMb s k v).amb = s.amb := rfl
@[simp] theorem setMb_tal (s : State) (k : Nat) (v : Mailbox) : (setMb s k v).tal = s.tal := rfl
@[simp] theorem setMb_ext (s : State) (k : Nat) (v : Mailbox) : (setMb s k v).ext = s.ext := rfl
@[simp] theorem setMb_sch (s : State) (k : Nat) (v : Mailbox) : (setMb s k v).sch = s.sch := rfl
@[simp] theorem setMb_srv (s : State) (k : Nat) (v : Mailbox) : (setMb s k v).srv = s.srv := rfl
@[simp] theorem setMb_sns (s : State) (k : Nat) (v : Mailbox) : (setMb s k v).sns = s.sns := rfl
@[simp] theorem setMb_nk (s : State) (k : Nat) (v : Mailbox) : (setMb s k v).nk = s.nk := rfl
@[simp] theorem setMb_cal (s : State) (k : Nat) (v : Mailbox) : (setMb s k v).cal = s.cal := rfl
@[simp] theorem setMb_str (s : State) (k : Nat) (v : Mailbox) : (setMb s k v).str = s.str := rfl
@[simp] theorem setMb_tim (s : State) (k : Nat) (v : Mailbox) : (setMb s k v).tim = s.tim := rfl
@[simp] theorem setMb_mot (s : State) (k : Nat) (v : Mailbox) : (setMb s k v).mot = s.mot := rfl
@[simp] theorem setMb_lan (s : State) (k : Nat) (v : Mailbox) : (setMb s k v).lan = s.lan := rfl
@[simp] theorem setMb_twn (s : State) (k : Nat) (v : Mailbox) : (setMb s k v).twn = s.twn := rfl
@[simp] theorem setMb_rng (s : State) (k : Nat) (v : Mailbox) : (setMb s k v).rng = s.rng := rfl
@[simp] theorem setMb_ic (s : State) (k : Nat) (v : Mailbox) : (setMb s k v).ic = s.ic := rfl
@[simp] theorem setMb_dma (s : State) (k : Nat) (v : Mailbox) : (setMb s k v).dma = s.dma := rfl
@[simp] theorem setMb_mem (s : State) (k : Nat) (v : Mailbox) : (setMb s k v).mem = s.mem := rfl
@[simp] theorem setMb_lgb (s : State) (k : Nat) (v : Mailbox) : (setMb s k v).lgb = s.lgb := rfl
@[simp] theorem setMb_hlt (s : State) (k : Nat) (v : Mailbox) : (setMb s k v).hlt = s.hlt := rfl
@[simp] theorem setMb_rst (s : State) (k : Nat) (v : Mailbox) : (setMb s k v).rst = s.rst := rfl
@[simp] theorem setMb_pending (s : State) (k : Nat) (v : Mailbox) : (setMb s k v).pending = s.pending := rfl

/-! ### AmbRod -/

@[simp] theorem ambRod_setAmbRod (s : State) (r j : Nat) (v : AmbRod) : ambRod (setAmbRod s r v) j = if j = r then v else ambRod s j :=
  tget_tput _ _ _ _ _
@[simp] theorem ambRod_advance (t : Nat) (s : State) (r : Nat) : ambRod (advance t s) r = ambRod s r := rfl
@[simp] theorem setAmbRod_wall (s : State) (r : Nat) (v : AmbRod) : (setAmbRod s r v).wall = s.wall := rfl
@[simp] theorem setAmbRod_dev (s : State) (r : Nat) (v : AmbRod) : (setAmbRod s r v).dev = s.dev := rfl
@[simp] theorem setAmbRod_free (s : State) (r : Nat) (v : AmbRod) : (setAmbRod s r v).free = s.free := rfl
@[simp] theorem setAmbRod_pins (s : State) (r : Nat) (v : AmbRod) : (setAmbRod s r v).pins = s.pins := rfl
@[simp] theorem setAmbRod_nv (s : State) (r : Nat) (v : AmbRod) : (setAmbRod s r v).nv = s.nv := rfl
@[simp] theorem setAmbRod_desk (s : State) (r : Nat) (v : AmbRod) : (setAmbRod s r v).desk = s.desk := rfl
@[simp] theorem setAmbRod_par (s : State) (r : Nat) (v : AmbRod) : (setAmbRod s r v).par = s.par := rfl
@[simp] theorem setAmbRod_ch (s : State) (r : Nat) (v : AmbRod) : (setAmbRod s r v).ch = s.ch := rfl
@[simp] theorem setAmbRod_capture (s : State) (r : Nat) (v : AmbRod) : (setAmbRod s r v).capture = s.capture := rfl
@[simp] theorem setAmbRod_tal (s : State) (r : Nat) (v : AmbRod) : (setAmbRod s r v).tal = s.tal := rfl
@[simp] theorem setAmbRod_ext (s : State) (r : Nat) (v : AmbRod) : (setAmbRod s r v).ext = s.ext := rfl
@[simp] theorem setAmbRod_sch (s : State) (r : Nat) (v : AmbRod) : (setAmbRod s r v).sch = s.sch := rfl
@[simp] theorem setAmbRod_srv (s : State) (r : Nat) (v : AmbRod) : (setAmbRod s r v).srv = s.srv := rfl
@[simp] theorem setAmbRod_sns (s : State) (r : Nat) (v : AmbRod) : (setAmbRod s r v).sns = s.sns := rfl
@[simp] theorem setAmbRod_nk (s : State) (r : Nat) (v : AmbRod) : (setAmbRod s r v).nk = s.nk := rfl
@[simp] theorem setAmbRod_cal (s : State) (r : Nat) (v : AmbRod) : (setAmbRod s r v).cal = s.cal := rfl
@[simp] theorem setAmbRod_str (s : State) (r : Nat) (v : AmbRod) : (setAmbRod s r v).str = s.str := rfl
@[simp] theorem setAmbRod_tim (s : State) (r : Nat) (v : AmbRod) : (setAmbRod s r v).tim = s.tim := rfl
@[simp] theorem setAmbRod_mot (s : State) (r : Nat) (v : AmbRod) : (setAmbRod s r v).mot = s.mot := rfl
@[simp] theorem setAmbRod_lan (s : State) (r : Nat) (v : AmbRod) : (setAmbRod s r v).lan = s.lan := rfl
@[simp] theorem setAmbRod_twn (s : State) (r : Nat) (v : AmbRod) : (setAmbRod s r v).twn = s.twn := rfl
@[simp] theorem setAmbRod_rng (s : State) (r : Nat) (v : AmbRod) : (setAmbRod s r v).rng = s.rng := rfl
@[simp] theorem setAmbRod_ic (s : State) (r : Nat) (v : AmbRod) : (setAmbRod s r v).ic = s.ic := rfl
@[simp] theorem setAmbRod_dma (s : State) (r : Nat) (v : AmbRod) : (setAmbRod s r v).dma = s.dma := rfl
@[simp] theorem setAmbRod_mem (s : State) (r : Nat) (v : AmbRod) : (setAmbRod s r v).mem = s.mem := rfl
@[simp] theorem setAmbRod_lgb (s : State) (r : Nat) (v : AmbRod) : (setAmbRod s r v).lgb = s.lgb := rfl
@[simp] theorem setAmbRod_hlt (s : State) (r : Nat) (v : AmbRod) : (setAmbRod s r v).hlt = s.hlt := rfl
@[simp] theorem setAmbRod_rst (s : State) (r : Nat) (v : AmbRod) : (setAmbRod s r v).rst = s.rst := rfl
@[simp] theorem setAmbRod_pending (s : State) (r : Nat) (v : AmbRod) : (setAmbRod s r v).pending = s.pending := rfl

/-! ### Page -/

@[simp] theorem page_setPage (s : State) (k j : Nat) (v : Page) : page (setPage s k v) j = if j = k then v else page s j :=
  tget_tput _ _ _ _ _
@[simp] theorem page_advance (t : Nat) (s : State) (k : Nat) : page (advance t s) k = page s k := rfl
@[simp] theorem setPage_wall (s : State) (k : Nat) (v : Page) : (setPage s k v).wall = s.wall := rfl
@[simp] theorem setPage_dev (s : State) (k : Nat) (v : Page) : (setPage s k v).dev = s.dev := rfl
@[simp] theorem setPage_free (s : State) (k : Nat) (v : Page) : (setPage s k v).free = s.free := rfl
@[simp] theorem setPage_pins (s : State) (k : Nat) (v : Page) : (setPage s k v).pins = s.pins := rfl
@[simp] theorem setPage_nv (s : State) (k : Nat) (v : Page) : (setPage s k v).nv = s.nv := rfl
@[simp] theorem setPage_desk (s : State) (k : Nat) (v : Page) : (setPage s k v).desk = s.desk := rfl
@[simp] theorem setPage_par (s : State) (k : Nat) (v : Page) : (setPage s k v).par = s.par := rfl
@[simp] theorem setPage_ch (s : State) (k : Nat) (v : Page) : (setPage s k v).ch = s.ch := rfl
@[simp] theorem setPage_capture (s : State) (k : Nat) (v : Page) : (setPage s k v).capture = s.capture := rfl
@[simp] theorem setPage_amb (s : State) (k : Nat) (v : Page) : (setPage s k v).amb = s.amb := rfl
@[simp] theorem setPage_ext (s : State) (k : Nat) (v : Page) : (setPage s k v).ext = s.ext := rfl
@[simp] theorem setPage_sch (s : State) (k : Nat) (v : Page) : (setPage s k v).sch = s.sch := rfl
@[simp] theorem setPage_srv (s : State) (k : Nat) (v : Page) : (setPage s k v).srv = s.srv := rfl
@[simp] theorem setPage_sns (s : State) (k : Nat) (v : Page) : (setPage s k v).sns = s.sns := rfl
@[simp] theorem setPage_nk (s : State) (k : Nat) (v : Page) : (setPage s k v).nk = s.nk := rfl
@[simp] theorem setPage_cal (s : State) (k : Nat) (v : Page) : (setPage s k v).cal = s.cal := rfl
@[simp] theorem setPage_str (s : State) (k : Nat) (v : Page) : (setPage s k v).str = s.str := rfl
@[simp] theorem setPage_tim (s : State) (k : Nat) (v : Page) : (setPage s k v).tim = s.tim := rfl
@[simp] theorem setPage_mot (s : State) (k : Nat) (v : Page) : (setPage s k v).mot = s.mot := rfl
@[simp] theorem setPage_lan (s : State) (k : Nat) (v : Page) : (setPage s k v).lan = s.lan := rfl
@[simp] theorem setPage_twn (s : State) (k : Nat) (v : Page) : (setPage s k v).twn = s.twn := rfl
@[simp] theorem setPage_rng (s : State) (k : Nat) (v : Page) : (setPage s k v).rng = s.rng := rfl
@[simp] theorem setPage_ic (s : State) (k : Nat) (v : Page) : (setPage s k v).ic = s.ic := rfl
@[simp] theorem setPage_dma (s : State) (k : Nat) (v : Page) : (setPage s k v).dma = s.dma := rfl
@[simp] theorem setPage_mem (s : State) (k : Nat) (v : Page) : (setPage s k v).mem = s.mem := rfl
@[simp] theorem setPage_lgb (s : State) (k : Nat) (v : Page) : (setPage s k v).lgb = s.lgb := rfl
@[simp] theorem setPage_hlt (s : State) (k : Nat) (v : Page) : (setPage s k v).hlt = s.hlt := rfl
@[simp] theorem setPage_rst (s : State) (k : Nat) (v : Page) : (setPage s k v).rst = s.rst := rfl
@[simp] theorem setPage_pending (s : State) (k : Nat) (v : Page) : (setPage s k v).pending = s.pending := rfl
@[simp] theorem talRod_setPage (s : State) (k j : Nat) (v : Page) : talRod (setPage s k v) j = talRod s j := rfl
@[simp] theorem talDeck_setPage (s : State) (k j : Nat) (v : Page) : talDeck (setPage s k v) j = talDeck s j := rfl

/-! ### TalRod -/

@[simp] theorem talRod_setTalRod (s : State) (r j : Nat) (v : TalRod) : talRod (setTalRod s r v) j = if j = r then v else talRod s j :=
  tget_tput _ _ _ _ _
@[simp] theorem talRod_advance (t : Nat) (s : State) (r : Nat) : talRod (advance t s) r = talRod s r := rfl
@[simp] theorem setTalRod_wall (s : State) (r : Nat) (v : TalRod) : (setTalRod s r v).wall = s.wall := rfl
@[simp] theorem setTalRod_dev (s : State) (r : Nat) (v : TalRod) : (setTalRod s r v).dev = s.dev := rfl
@[simp] theorem setTalRod_free (s : State) (r : Nat) (v : TalRod) : (setTalRod s r v).free = s.free := rfl
@[simp] theorem setTalRod_pins (s : State) (r : Nat) (v : TalRod) : (setTalRod s r v).pins = s.pins := rfl
@[simp] theorem setTalRod_nv (s : State) (r : Nat) (v : TalRod) : (setTalRod s r v).nv = s.nv := rfl
@[simp] theorem setTalRod_desk (s : State) (r : Nat) (v : TalRod) : (setTalRod s r v).desk = s.desk := rfl
@[simp] theorem setTalRod_par (s : State) (r : Nat) (v : TalRod) : (setTalRod s r v).par = s.par := rfl
@[simp] theorem setTalRod_ch (s : State) (r : Nat) (v : TalRod) : (setTalRod s r v).ch = s.ch := rfl
@[simp] theorem setTalRod_capture (s : State) (r : Nat) (v : TalRod) : (setTalRod s r v).capture = s.capture := rfl
@[simp] theorem setTalRod_amb (s : State) (r : Nat) (v : TalRod) : (setTalRod s r v).amb = s.amb := rfl
@[simp] theorem setTalRod_ext (s : State) (r : Nat) (v : TalRod) : (setTalRod s r v).ext = s.ext := rfl
@[simp] theorem setTalRod_sch (s : State) (r : Nat) (v : TalRod) : (setTalRod s r v).sch = s.sch := rfl
@[simp] theorem setTalRod_srv (s : State) (r : Nat) (v : TalRod) : (setTalRod s r v).srv = s.srv := rfl
@[simp] theorem setTalRod_sns (s : State) (r : Nat) (v : TalRod) : (setTalRod s r v).sns = s.sns := rfl
@[simp] theorem setTalRod_nk (s : State) (r : Nat) (v : TalRod) : (setTalRod s r v).nk = s.nk := rfl
@[simp] theorem setTalRod_cal (s : State) (r : Nat) (v : TalRod) : (setTalRod s r v).cal = s.cal := rfl
@[simp] theorem setTalRod_str (s : State) (r : Nat) (v : TalRod) : (setTalRod s r v).str = s.str := rfl
@[simp] theorem setTalRod_tim (s : State) (r : Nat) (v : TalRod) : (setTalRod s r v).tim = s.tim := rfl
@[simp] theorem setTalRod_mot (s : State) (r : Nat) (v : TalRod) : (setTalRod s r v).mot = s.mot := rfl
@[simp] theorem setTalRod_lan (s : State) (r : Nat) (v : TalRod) : (setTalRod s r v).lan = s.lan := rfl
@[simp] theorem setTalRod_twn (s : State) (r : Nat) (v : TalRod) : (setTalRod s r v).twn = s.twn := rfl
@[simp] theorem setTalRod_rng (s : State) (r : Nat) (v : TalRod) : (setTalRod s r v).rng = s.rng := rfl
@[simp] theorem setTalRod_ic (s : State) (r : Nat) (v : TalRod) : (setTalRod s r v).ic = s.ic := rfl
@[simp] theorem setTalRod_dma (s : State) (r : Nat) (v : TalRod) : (setTalRod s r v).dma = s.dma := rfl
@[simp] theorem setTalRod_mem (s : State) (r : Nat) (v : TalRod) : (setTalRod s r v).mem = s.mem := rfl
@[simp] theorem setTalRod_lgb (s : State) (r : Nat) (v : TalRod) : (setTalRod s r v).lgb = s.lgb := rfl
@[simp] theorem setTalRod_hlt (s : State) (r : Nat) (v : TalRod) : (setTalRod s r v).hlt = s.hlt := rfl
@[simp] theorem setTalRod_rst (s : State) (r : Nat) (v : TalRod) : (setTalRod s r v).rst = s.rst := rfl
@[simp] theorem setTalRod_pending (s : State) (r : Nat) (v : TalRod) : (setTalRod s r v).pending = s.pending := rfl
@[simp] theorem page_setTalRod (s : State) (r j : Nat) (v : TalRod) : page (setTalRod s r v) j = page s j := rfl
@[simp] theorem talDeck_setTalRod (s : State) (r j : Nat) (v : TalRod) : talDeck (setTalRod s r v) j = talDeck s j := rfl

/-! ### TalDeck -/

@[simp] theorem talDeck_setTalDeck (s : State) (d j : Nat) (v : TalDeck) : talDeck (setTalDeck s d v) j = if j = d then v else talDeck s j :=
  tget_tput _ _ _ _ _
@[simp] theorem talDeck_advance (t : Nat) (s : State) (d : Nat) : talDeck (advance t s) d = talDeck s d := rfl
@[simp] theorem setTalDeck_wall (s : State) (d : Nat) (v : TalDeck) : (setTalDeck s d v).wall = s.wall := rfl
@[simp] theorem setTalDeck_dev (s : State) (d : Nat) (v : TalDeck) : (setTalDeck s d v).dev = s.dev := rfl
@[simp] theorem setTalDeck_free (s : State) (d : Nat) (v : TalDeck) : (setTalDeck s d v).free = s.free := rfl
@[simp] theorem setTalDeck_pins (s : State) (d : Nat) (v : TalDeck) : (setTalDeck s d v).pins = s.pins := rfl
@[simp] theorem setTalDeck_nv (s : State) (d : Nat) (v : TalDeck) : (setTalDeck s d v).nv = s.nv := rfl
@[simp] theorem setTalDeck_desk (s : State) (d : Nat) (v : TalDeck) : (setTalDeck s d v).desk = s.desk := rfl
@[simp] theorem setTalDeck_par (s : State) (d : Nat) (v : TalDeck) : (setTalDeck s d v).par = s.par := rfl
@[simp] theorem setTalDeck_ch (s : State) (d : Nat) (v : TalDeck) : (setTalDeck s d v).ch = s.ch := rfl
@[simp] theorem setTalDeck_capture (s : State) (d : Nat) (v : TalDeck) : (setTalDeck s d v).capture = s.capture := rfl
@[simp] theorem setTalDeck_amb (s : State) (d : Nat) (v : TalDeck) : (setTalDeck s d v).amb = s.amb := rfl
@[simp] theorem setTalDeck_ext (s : State) (d : Nat) (v : TalDeck) : (setTalDeck s d v).ext = s.ext := rfl
@[simp] theorem setTalDeck_sch (s : State) (d : Nat) (v : TalDeck) : (setTalDeck s d v).sch = s.sch := rfl
@[simp] theorem setTalDeck_srv (s : State) (d : Nat) (v : TalDeck) : (setTalDeck s d v).srv = s.srv := rfl
@[simp] theorem setTalDeck_sns (s : State) (d : Nat) (v : TalDeck) : (setTalDeck s d v).sns = s.sns := rfl
@[simp] theorem setTalDeck_nk (s : State) (d : Nat) (v : TalDeck) : (setTalDeck s d v).nk = s.nk := rfl
@[simp] theorem setTalDeck_cal (s : State) (d : Nat) (v : TalDeck) : (setTalDeck s d v).cal = s.cal := rfl
@[simp] theorem setTalDeck_str (s : State) (d : Nat) (v : TalDeck) : (setTalDeck s d v).str = s.str := rfl
@[simp] theorem setTalDeck_tim (s : State) (d : Nat) (v : TalDeck) : (setTalDeck s d v).tim = s.tim := rfl
@[simp] theorem setTalDeck_mot (s : State) (d : Nat) (v : TalDeck) : (setTalDeck s d v).mot = s.mot := rfl
@[simp] theorem setTalDeck_lan (s : State) (d : Nat) (v : TalDeck) : (setTalDeck s d v).lan = s.lan := rfl
@[simp] theorem setTalDeck_twn (s : State) (d : Nat) (v : TalDeck) : (setTalDeck s d v).twn = s.twn := rfl
@[simp] theorem setTalDeck_rng (s : State) (d : Nat) (v : TalDeck) : (setTalDeck s d v).rng = s.rng := rfl
@[simp] theorem setTalDeck_ic (s : State) (d : Nat) (v : TalDeck) : (setTalDeck s d v).ic = s.ic := rfl
@[simp] theorem setTalDeck_dma (s : State) (d : Nat) (v : TalDeck) : (setTalDeck s d v).dma = s.dma := rfl
@[simp] theorem setTalDeck_mem (s : State) (d : Nat) (v : TalDeck) : (setTalDeck s d v).mem = s.mem := rfl
@[simp] theorem setTalDeck_lgb (s : State) (d : Nat) (v : TalDeck) : (setTalDeck s d v).lgb = s.lgb := rfl
@[simp] theorem setTalDeck_hlt (s : State) (d : Nat) (v : TalDeck) : (setTalDeck s d v).hlt = s.hlt := rfl
@[simp] theorem setTalDeck_rst (s : State) (d : Nat) (v : TalDeck) : (setTalDeck s d v).rst = s.rst := rfl
@[simp] theorem setTalDeck_pending (s : State) (d : Nat) (v : TalDeck) : (setTalDeck s d v).pending = s.pending := rfl
@[simp] theorem page_setTalDeck (s : State) (d j : Nat) (v : TalDeck) : page (setTalDeck s d v) j = page s j := rfl
@[simp] theorem talRod_setTalDeck (s : State) (d j : Nat) (v : TalDeck) : talRod (setTalDeck s d v) j = talRod s j := rfl

/-! ### ExtDeck -/

@[simp] theorem extDeck_setExtDeck (s : State) (d j : Nat) (v : ExtDeck) : extDeck (setExtDeck s d v) j = if j = d then v else extDeck s j :=
  tget_tput _ _ _ _ _
@[simp] theorem extDeck_advance (t : Nat) (s : State) (d : Nat) : extDeck (advance t s) d = extDeck s d := rfl
@[simp] theorem setExtDeck_wall (s : State) (d : Nat) (v : ExtDeck) : (setExtDeck s d v).wall = s.wall := rfl
@[simp] theorem setExtDeck_dev (s : State) (d : Nat) (v : ExtDeck) : (setExtDeck s d v).dev = s.dev := rfl
@[simp] theorem setExtDeck_free (s : State) (d : Nat) (v : ExtDeck) : (setExtDeck s d v).free = s.free := rfl
@[simp] theorem setExtDeck_pins (s : State) (d : Nat) (v : ExtDeck) : (setExtDeck s d v).pins = s.pins := rfl
@[simp] theorem setExtDeck_nv (s : State) (d : Nat) (v : ExtDeck) : (setExtDeck s d v).nv = s.nv := rfl
@[simp] theorem setExtDeck_desk (s : State) (d : Nat) (v : ExtDeck) : (setExtDeck s d v).desk = s.desk := rfl
@[simp] theorem setExtDeck_par (s : State) (d : Nat) (v : ExtDeck) : (setExtDeck s d v).par = s.par := rfl
@[simp] theorem setExtDeck_ch (s : State) (d : Nat) (v : ExtDeck) : (setExtDeck s d v).ch = s.ch := rfl
@[simp] theorem setExtDeck_capture (s : State) (d : Nat) (v : ExtDeck) : (setExtDeck s d v).capture = s.capture := rfl
@[simp] theorem setExtDeck_amb (s : State) (d : Nat) (v : ExtDeck) : (setExtDeck s d v).amb = s.amb := rfl
@[simp] theorem setExtDeck_tal (s : State) (d : Nat) (v : ExtDeck) : (setExtDeck s d v).tal = s.tal := rfl
@[simp] theorem setExtDeck_sch (s : State) (d : Nat) (v : ExtDeck) : (setExtDeck s d v).sch = s.sch := rfl
@[simp] theorem setExtDeck_srv (s : State) (d : Nat) (v : ExtDeck) : (setExtDeck s d v).srv = s.srv := rfl
@[simp] theorem setExtDeck_sns (s : State) (d : Nat) (v : ExtDeck) : (setExtDeck s d v).sns = s.sns := rfl
@[simp] theorem setExtDeck_nk (s : State) (d : Nat) (v : ExtDeck) : (setExtDeck s d v).nk = s.nk := rfl
@[simp] theorem setExtDeck_cal (s : State) (d : Nat) (v : ExtDeck) : (setExtDeck s d v).cal = s.cal := rfl
@[simp] theorem setExtDeck_str (s : State) (d : Nat) (v : ExtDeck) : (setExtDeck s d v).str = s.str := rfl
@[simp] theorem setExtDeck_tim (s : State) (d : Nat) (v : ExtDeck) : (setExtDeck s d v).tim = s.tim := rfl
@[simp] theorem setExtDeck_mot (s : State) (d : Nat) (v : ExtDeck) : (setExtDeck s d v).mot = s.mot := rfl
@[simp] theorem setExtDeck_lan (s : State) (d : Nat) (v : ExtDeck) : (setExtDeck s d v).lan = s.lan := rfl
@[simp] theorem setExtDeck_twn (s : State) (d : Nat) (v : ExtDeck) : (setExtDeck s d v).twn = s.twn := rfl
@[simp] theorem setExtDeck_rng (s : State) (d : Nat) (v : ExtDeck) : (setExtDeck s d v).rng = s.rng := rfl
@[simp] theorem setExtDeck_ic (s : State) (d : Nat) (v : ExtDeck) : (setExtDeck s d v).ic = s.ic := rfl
@[simp] theorem setExtDeck_dma (s : State) (d : Nat) (v : ExtDeck) : (setExtDeck s d v).dma = s.dma := rfl
@[simp] theorem setExtDeck_mem (s : State) (d : Nat) (v : ExtDeck) : (setExtDeck s d v).mem = s.mem := rfl
@[simp] theorem setExtDeck_lgb (s : State) (d : Nat) (v : ExtDeck) : (setExtDeck s d v).lgb = s.lgb := rfl
@[simp] theorem setExtDeck_hlt (s : State) (d : Nat) (v : ExtDeck) : (setExtDeck s d v).hlt = s.hlt := rfl
@[simp] theorem setExtDeck_rst (s : State) (d : Nat) (v : ExtDeck) : (setExtDeck s d v).rst = s.rst := rfl
@[simp] theorem setExtDeck_pending (s : State) (d : Nat) (v : ExtDeck) : (setExtDeck s d v).pending = s.pending := rfl

/-! ### Strng -/

@[simp] theorem strng_setStrng (s : State) (i j : Nat) (v : Strng) : strng (setStrng s i v) j = if j = i then v else strng s j :=
  tget_tput _ _ _ _ _
@[simp] theorem strng_advance (t : Nat) (s : State) (i : Nat) : strng (advance t s) i = strng s i := rfl
@[simp] theorem setStrng_wall (s : State) (i : Nat) (v : Strng) : (setStrng s i v).wall = s.wall := rfl
@[simp] theorem setStrng_dev (s : State) (i : Nat) (v : Strng) : (setStrng s i v).dev = s.dev := rfl
@[simp] theorem setStrng_free (s : State) (i : Nat) (v : Strng) : (setStrng s i v).free = s.free := rfl
@[simp] theorem setStrng_pins (s : State) (i : Nat) (v : Strng) : (setStrng s i v).pins = s.pins := rfl
@[simp] theorem setStrng_nv (s : State) (i : Nat) (v : Strng) : (setStrng s i v).nv = s.nv := rfl
@[simp] theorem setStrng_desk (s : State) (i : Nat) (v : Strng) : (setStrng s i v).desk = s.desk := rfl
@[simp] theorem setStrng_par (s : State) (i : Nat) (v : Strng) : (setStrng s i v).par = s.par := rfl
@[simp] theorem setStrng_ch (s : State) (i : Nat) (v : Strng) : (setStrng s i v).ch = s.ch := rfl
@[simp] theorem setStrng_capture (s : State) (i : Nat) (v : Strng) : (setStrng s i v).capture = s.capture := rfl
@[simp] theorem setStrng_amb (s : State) (i : Nat) (v : Strng) : (setStrng s i v).amb = s.amb := rfl
@[simp] theorem setStrng_tal (s : State) (i : Nat) (v : Strng) : (setStrng s i v).tal = s.tal := rfl
@[simp] theorem setStrng_ext (s : State) (i : Nat) (v : Strng) : (setStrng s i v).ext = s.ext := rfl
@[simp] theorem setStrng_srv (s : State) (i : Nat) (v : Strng) : (setStrng s i v).srv = s.srv := rfl
@[simp] theorem setStrng_sns (s : State) (i : Nat) (v : Strng) : (setStrng s i v).sns = s.sns := rfl
@[simp] theorem setStrng_nk (s : State) (i : Nat) (v : Strng) : (setStrng s i v).nk = s.nk := rfl
@[simp] theorem setStrng_cal (s : State) (i : Nat) (v : Strng) : (setStrng s i v).cal = s.cal := rfl
@[simp] theorem setStrng_str (s : State) (i : Nat) (v : Strng) : (setStrng s i v).str = s.str := rfl
@[simp] theorem setStrng_tim (s : State) (i : Nat) (v : Strng) : (setStrng s i v).tim = s.tim := rfl
@[simp] theorem setStrng_mot (s : State) (i : Nat) (v : Strng) : (setStrng s i v).mot = s.mot := rfl
@[simp] theorem setStrng_lan (s : State) (i : Nat) (v : Strng) : (setStrng s i v).lan = s.lan := rfl
@[simp] theorem setStrng_twn (s : State) (i : Nat) (v : Strng) : (setStrng s i v).twn = s.twn := rfl
@[simp] theorem setStrng_rng (s : State) (i : Nat) (v : Strng) : (setStrng s i v).rng = s.rng := rfl
@[simp] theorem setStrng_ic (s : State) (i : Nat) (v : Strng) : (setStrng s i v).ic = s.ic := rfl
@[simp] theorem setStrng_dma (s : State) (i : Nat) (v : Strng) : (setStrng s i v).dma = s.dma := rfl
@[simp] theorem setStrng_mem (s : State) (i : Nat) (v : Strng) : (setStrng s i v).mem = s.mem := rfl
@[simp] theorem setStrng_lgb (s : State) (i : Nat) (v : Strng) : (setStrng s i v).lgb = s.lgb := rfl
@[simp] theorem setStrng_hlt (s : State) (i : Nat) (v : Strng) : (setStrng s i v).hlt = s.hlt := rfl
@[simp] theorem setStrng_rst (s : State) (i : Nat) (v : Strng) : (setStrng s i v).rst = s.rst := rfl
@[simp] theorem setStrng_pending (s : State) (i : Nat) (v : Strng) : (setStrng s i v).pending = s.pending := rfl

/-! ### IcSrc -/

@[simp] theorem icSrc_setIcSrc (s : State) (n j : Nat) (v : IcSrc) : icSrc (setIcSrc s n v) j = if j = n then v else icSrc s j :=
  tget_tput _ _ _ _ _
@[simp] theorem icSrc_advance (t : Nat) (s : State) (n : Nat) : icSrc (advance t s) n = icSrc s n := rfl
@[simp] theorem setIcSrc_wall (s : State) (n : Nat) (v : IcSrc) : (setIcSrc s n v).wall = s.wall := rfl
@[simp] theorem setIcSrc_dev (s : State) (n : Nat) (v : IcSrc) : (setIcSrc s n v).dev = s.dev := rfl
@[simp] theorem setIcSrc_free (s : State) (n : Nat) (v : IcSrc) : (setIcSrc s n v).free = s.free := rfl
@[simp] theorem setIcSrc_pins (s : State) (n : Nat) (v : IcSrc) : (setIcSrc s n v).pins = s.pins := rfl
@[simp] theorem setIcSrc_nv (s : State) (n : Nat) (v : IcSrc) : (setIcSrc s n v).nv = s.nv := rfl
@[simp] theorem setIcSrc_desk (s : State) (n : Nat) (v : IcSrc) : (setIcSrc s n v).desk = s.desk := rfl
@[simp] theorem setIcSrc_par (s : State) (n : Nat) (v : IcSrc) : (setIcSrc s n v).par = s.par := rfl
@[simp] theorem setIcSrc_ch (s : State) (n : Nat) (v : IcSrc) : (setIcSrc s n v).ch = s.ch := rfl
@[simp] theorem setIcSrc_capture (s : State) (n : Nat) (v : IcSrc) : (setIcSrc s n v).capture = s.capture := rfl
@[simp] theorem setIcSrc_amb (s : State) (n : Nat) (v : IcSrc) : (setIcSrc s n v).amb = s.amb := rfl
@[simp] theorem setIcSrc_tal (s : State) (n : Nat) (v : IcSrc) : (setIcSrc s n v).tal = s.tal := rfl
@[simp] theorem setIcSrc_ext (s : State) (n : Nat) (v : IcSrc) : (setIcSrc s n v).ext = s.ext := rfl
@[simp] theorem setIcSrc_sch (s : State) (n : Nat) (v : IcSrc) : (setIcSrc s n v).sch = s.sch := rfl
@[simp] theorem setIcSrc_srv (s : State) (n : Nat) (v : IcSrc) : (setIcSrc s n v).srv = s.srv := rfl
@[simp] theorem setIcSrc_sns (s : State) (n : Nat) (v : IcSrc) : (setIcSrc s n v).sns = s.sns := rfl
@[simp] theorem setIcSrc_nk (s : State) (n : Nat) (v : IcSrc) : (setIcSrc s n v).nk = s.nk := rfl
@[simp] theorem setIcSrc_cal (s : State) (n : Nat) (v : IcSrc) : (setIcSrc s n v).cal = s.cal := rfl
@[simp] theorem setIcSrc_str (s : State) (n : Nat) (v : IcSrc) : (setIcSrc s n v).str = s.str := rfl
@[simp] theorem setIcSrc_tim (s : State) (n : Nat) (v : IcSrc) : (setIcSrc s n v).tim = s.tim := rfl
@[simp] theorem setIcSrc_mot (s : State) (n : Nat) (v : IcSrc) : (setIcSrc s n v).mot = s.mot := rfl
@[simp] theorem setIcSrc_lan (s : State) (n : Nat) (v : IcSrc) : (setIcSrc s n v).lan = s.lan := rfl
@[simp] theorem setIcSrc_twn (s : State) (n : Nat) (v : IcSrc) : (setIcSrc s n v).twn = s.twn := rfl
@[simp] theorem setIcSrc_rng (s : State) (n : Nat) (v : IcSrc) : (setIcSrc s n v).rng = s.rng := rfl
@[simp] theorem setIcSrc_dma (s : State) (n : Nat) (v : IcSrc) : (setIcSrc s n v).dma = s.dma := rfl
@[simp] theorem setIcSrc_mem (s : State) (n : Nat) (v : IcSrc) : (setIcSrc s n v).mem = s.mem := rfl
@[simp] theorem setIcSrc_lgb (s : State) (n : Nat) (v : IcSrc) : (setIcSrc s n v).lgb = s.lgb := rfl
@[simp] theorem setIcSrc_hlt (s : State) (n : Nat) (v : IcSrc) : (setIcSrc s n v).hlt = s.hlt := rfl
@[simp] theorem setIcSrc_rst (s : State) (n : Nat) (v : IcSrc) : (setIcSrc s n v).rst = s.rst := rfl
@[simp] theorem setIcSrc_pending (s : State) (n : Nat) (v : IcSrc) : (setIcSrc s n v).pending = s.pending := rfl

/-! ### DieSensor -/

@[simp] theorem dieSensor_setDieSensor (s : State) (n j : Nat) (v : DieSensor) : dieSensor (setDieSensor s n v) j = if j = n then v else dieSensor s j :=
  tget_tput _ _ _ _ _
@[simp] theorem dieSensor_advance (t : Nat) (s : State) (n : Nat) : dieSensor (advance t s) n = dieSensor s n := rfl
@[simp] theorem setDieSensor_wall (s : State) (n : Nat) (v : DieSensor) : (setDieSensor s n v).wall = s.wall := rfl
@[simp] theorem setDieSensor_dev (s : State) (n : Nat) (v : DieSensor) : (setDieSensor s n v).dev = s.dev := rfl
@[simp] theorem setDieSensor_free (s : State) (n : Nat) (v : DieSensor) : (setDieSensor s n v).free = s.free := rfl
@[simp] theorem setDieSensor_pins (s : State) (n : Nat) (v : DieSensor) : (setDieSensor s n v).pins = s.pins := rfl
@[simp] theorem setDieSensor_nv (s : State) (n : Nat) (v : DieSensor) : (setDieSensor s n v).nv = s.nv := rfl
@[simp] theorem setDieSensor_desk (s : State) (n : Nat) (v : DieSensor) : (setDieSensor s n v).desk = s.desk := rfl
@[simp] theorem setDieSensor_par (s : State) (n : Nat) (v : DieSensor) : (setDieSensor s n v).par = s.par := rfl
@[simp] theorem setDieSensor_ch (s : State) (n : Nat) (v : DieSensor) : (setDieSensor s n v).ch = s.ch := rfl
@[simp] theorem setDieSensor_capture (s : State) (n : Nat) (v : DieSensor) : (setDieSensor s n v).capture = s.capture := rfl
@[simp] theorem setDieSensor_amb (s : State) (n : Nat) (v : DieSensor) : (setDieSensor s n v).amb = s.amb := rfl
@[simp] theorem setDieSensor_tal (s : State) (n : Nat) (v : DieSensor) : (setDieSensor s n v).tal = s.tal := rfl
@[simp] theorem setDieSensor_ext (s : State) (n : Nat) (v : DieSensor) : (setDieSensor s n v).ext = s.ext := rfl
@[simp] theorem setDieSensor_sch (s : State) (n : Nat) (v : DieSensor) : (setDieSensor s n v).sch = s.sch := rfl
@[simp] theorem setDieSensor_srv (s : State) (n : Nat) (v : DieSensor) : (setDieSensor s n v).srv = s.srv := rfl
@[simp] theorem setDieSensor_sns (s : State) (n : Nat) (v : DieSensor) : (setDieSensor s n v).sns = s.sns := rfl
@[simp] theorem setDieSensor_nk (s : State) (n : Nat) (v : DieSensor) : (setDieSensor s n v).nk = s.nk := rfl
@[simp] theorem setDieSensor_cal (s : State) (n : Nat) (v : DieSensor) : (setDieSensor s n v).cal = s.cal := rfl
@[simp] theorem setDieSensor_str (s : State) (n : Nat) (v : DieSensor) : (setDieSensor s n v).str = s.str := rfl
@[simp] theorem setDieSensor_tim (s : State) (n : Nat) (v : DieSensor) : (setDieSensor s n v).tim = s.tim := rfl
@[simp] theorem setDieSensor_mot (s : State) (n : Nat) (v : DieSensor) : (setDieSensor s n v).mot = s.mot := rfl
@[simp] theorem setDieSensor_lan (s : State) (n : Nat) (v : DieSensor) : (setDieSensor s n v).lan = s.lan := rfl
@[simp] theorem setDieSensor_twn (s : State) (n : Nat) (v : DieSensor) : (setDieSensor s n v).twn = s.twn := rfl
@[simp] theorem setDieSensor_rng (s : State) (n : Nat) (v : DieSensor) : (setDieSensor s n v).rng = s.rng := rfl
@[simp] theorem setDieSensor_ic (s : State) (n : Nat) (v : DieSensor) : (setDieSensor s n v).ic = s.ic := rfl
@[simp] theorem setDieSensor_dma (s : State) (n : Nat) (v : DieSensor) : (setDieSensor s n v).dma = s.dma := rfl
@[simp] theorem setDieSensor_mem (s : State) (n : Nat) (v : DieSensor) : (setDieSensor s n v).mem = s.mem := rfl
@[simp] theorem setDieSensor_lgb (s : State) (n : Nat) (v : DieSensor) : (setDieSensor s n v).lgb = s.lgb := rfl
@[simp] theorem setDieSensor_rst (s : State) (n : Nat) (v : DieSensor) : (setDieSensor s n v).rst = s.rst := rfl
@[simp] theorem setDieSensor_pending (s : State) (n : Nat) (v : DieSensor) : (setDieSensor s n v).pending = s.pending := rfl

/-! ### Servo -/

@[simp] theorem servo_setServo (s : State) (n j : Nat) (v : Servo) : servo (setServo s n v) j = if j = n then v else servo s j :=
  tget_tput _ _ _ _ _
@[simp] theorem servo_advance (t : Nat) (s : State) (n : Nat) : servo (advance t s) n = servo s n := rfl
@[simp] theorem setServo_wall (s : State) (n : Nat) (v : Servo) : (setServo s n v).wall = s.wall := rfl
@[simp] theorem setServo_dev (s : State) (n : Nat) (v : Servo) : (setServo s n v).dev = s.dev := rfl
@[simp] theorem setServo_free (s : State) (n : Nat) (v : Servo) : (setServo s n v).free = s.free := rfl
@[simp] theorem setServo_pins (s : State) (n : Nat) (v : Servo) : (setServo s n v).pins = s.pins := rfl
@[simp] theorem setServo_nv (s : State) (n : Nat) (v : Servo) : (setServo s n v).nv = s.nv := rfl
@[simp] theorem setServo_desk (s : State) (n : Nat) (v : Servo) : (setServo s n v).desk = s.desk := rfl
@[simp] theorem setServo_par (s : State) (n : Nat) (v : Servo) : (setServo s n v).par = s.par := rfl
@[simp] theorem setServo_ch (s : State) (n : Nat) (v : Servo) : (setServo s n v).ch = s.ch := rfl
@[simp] theorem setServo_capture (s : State) (n : Nat) (v : Servo) : (setServo s n v).capture = s.capture := rfl
@[simp] theorem setServo_amb (s : State) (n : Nat) (v : Servo) : (setServo s n v).amb = s.amb := rfl
@[simp] theorem setServo_tal (s : State) (n : Nat) (v : Servo) : (setServo s n v).tal = s.tal := rfl
@[simp] theorem setServo_ext (s : State) (n : Nat) (v : Servo) : (setServo s n v).ext = s.ext := rfl
@[simp] theorem setServo_sch (s : State) (n : Nat) (v : Servo) : (setServo s n v).sch = s.sch := rfl
@[simp] theorem setServo_sns (s : State) (n : Nat) (v : Servo) : (setServo s n v).sns = s.sns := rfl
@[simp] theorem setServo_nk (s : State) (n : Nat) (v : Servo) : (setServo s n v).nk = s.nk := rfl
@[simp] theorem setServo_cal (s : State) (n : Nat) (v : Servo) : (setServo s n v).cal = s.cal := rfl
@[simp] theorem setServo_str (s : State) (n : Nat) (v : Servo) : (setServo s n v).str = s.str := rfl
@[simp] theorem setServo_tim (s : State) (n : Nat) (v : Servo) : (setServo s n v).tim = s.tim := rfl
@[simp] theorem setServo_mot (s : State) (n : Nat) (v : Servo) : (setServo s n v).mot = s.mot := rfl
@[simp] theorem setServo_lan (s : State) (n : Nat) (v : Servo) : (setServo s n v).lan = s.lan := rfl
@[simp] theorem setServo_twn (s : State) (n : Nat) (v : Servo) : (setServo s n v).twn = s.twn := rfl
@[simp] theorem setServo_rng (s : State) (n : Nat) (v : Servo) : (setServo s n v).rng = s.rng := rfl
@[simp] theorem setServo_ic (s : State) (n : Nat) (v : Servo) : (setServo s n v).ic = s.ic := rfl
@[simp] theorem setServo_dma (s : State) (n : Nat) (v : Servo) : (setServo s n v).dma = s.dma := rfl
@[simp] theorem setServo_mem (s : State) (n : Nat) (v : Servo) : (setServo s n v).mem = s.mem := rfl
@[simp] theorem setServo_lgb (s : State) (n : Nat) (v : Servo) : (setServo s n v).lgb = s.lgb := rfl
@[simp] theorem setServo_hlt (s : State) (n : Nat) (v : Servo) : (setServo s n v).hlt = s.hlt := rfl
@[simp] theorem setServo_rst (s : State) (n : Nat) (v : Servo) : (setServo s n v).rst = s.rst := rfl
@[simp] theorem setServo_pending (s : State) (n : Nat) (v : Servo) : (setServo s n v).pending = s.pending := rfl
@[simp] theorem tport_setServo (s : State) (n j : Nat) (v : Servo) : tport (setServo s n v) j = tport s j := rfl

/-! ### Sense -/

@[simp] theorem sense_setSense (s : State) (n j : Nat) (v : Sense) : sense (setSense s n v) j = if j = n then v else sense s j :=
  tget_tput _ _ _ _ _
@[simp] theorem sense_advance (t : Nat) (s : State) (n : Nat) : sense (advance t s) n = sense s n := rfl
@[simp] theorem setSense_wall (s : State) (n : Nat) (v : Sense) : (setSense s n v).wall = s.wall := rfl
@[simp] theorem setSense_dev (s : State) (n : Nat) (v : Sense) : (setSense s n v).dev = s.dev := rfl
@[simp] theorem setSense_free (s : State) (n : Nat) (v : Sense) : (setSense s n v).free = s.free := rfl
@[simp] theorem setSense_pins (s : State) (n : Nat) (v : Sense) : (setSense s n v).pins = s.pins := rfl
@[simp] theorem setSense_nv (s : State) (n : Nat) (v : Sense) : (setSense s n v).nv = s.nv := rfl
@[simp] theorem setSense_desk (s : State) (n : Nat) (v : Sense) : (setSense s n v).desk = s.desk := rfl
@[simp] theorem setSense_par (s : State) (n : Nat) (v : Sense) : (setSense s n v).par = s.par := rfl
@[simp] theorem setSense_ch (s : State) (n : Nat) (v : Sense) : (setSense s n v).ch = s.ch := rfl
@[simp] theorem setSense_capture (s : State) (n : Nat) (v : Sense) : (setSense s n v).capture = s.capture := rfl
@[simp] theorem setSense_amb (s : State) (n : Nat) (v : Sense) : (setSense s n v).amb = s.amb := rfl
@[simp] theorem setSense_tal (s : State) (n : Nat) (v : Sense) : (setSense s n v).tal = s.tal := rfl
@[simp] theorem setSense_ext (s : State) (n : Nat) (v : Sense) : (setSense s n v).ext = s.ext := rfl
@[simp] theorem setSense_sch (s : State) (n : Nat) (v : Sense) : (setSense s n v).sch = s.sch := rfl
@[simp] theorem setSense_srv (s : State) (n : Nat) (v : Sense) : (setSense s n v).srv = s.srv := rfl
@[simp] theorem setSense_nk (s : State) (n : Nat) (v : Sense) : (setSense s n v).nk = s.nk := rfl
@[simp] theorem setSense_cal (s : State) (n : Nat) (v : Sense) : (setSense s n v).cal = s.cal := rfl
@[simp] theorem setSense_str (s : State) (n : Nat) (v : Sense) : (setSense s n v).str = s.str := rfl
@[simp] theorem setSense_tim (s : State) (n : Nat) (v : Sense) : (setSense s n v).tim = s.tim := rfl
@[simp] theorem setSense_mot (s : State) (n : Nat) (v : Sense) : (setSense s n v).mot = s.mot := rfl
@[simp] theorem setSense_lan (s : State) (n : Nat) (v : Sense) : (setSense s n v).lan = s.lan := rfl
@[simp] theorem setSense_twn (s : State) (n : Nat) (v : Sense) : (setSense s n v).twn = s.twn := rfl
@[simp] theorem setSense_rng (s : State) (n : Nat) (v : Sense) : (setSense s n v).rng = s.rng := rfl
@[simp] theorem setSense_ic (s : State) (n : Nat) (v : Sense) : (setSense s n v).ic = s.ic := rfl
@[simp] theorem setSense_dma (s : State) (n : Nat) (v : Sense) : (setSense s n v).dma = s.dma := rfl
@[simp] theorem setSense_mem (s : State) (n : Nat) (v : Sense) : (setSense s n v).mem = s.mem := rfl
@[simp] theorem setSense_lgb (s : State) (n : Nat) (v : Sense) : (setSense s n v).lgb = s.lgb := rfl
@[simp] theorem setSense_hlt (s : State) (n : Nat) (v : Sense) : (setSense s n v).hlt = s.hlt := rfl
@[simp] theorem setSense_rst (s : State) (n : Nat) (v : Sense) : (setSense s n v).rst = s.rst := rfl
@[simp] theorem setSense_pending (s : State) (n : Nat) (v : Sense) : (setSense s n v).pending = s.pending := rfl

/-! ### Pmon -/

@[simp] theorem pmon_setPmon (s : State) (k j : Nat) (v : Pmon) : pmon (setPmon s k v) j = if j = k then v else pmon s j :=
  tget_tput _ _ _ _ _
@[simp] theorem pmon_advance (t : Nat) (s : State) (k : Nat) : pmon (advance t s) k = pmon s k := rfl
@[simp] theorem setPmon_wall (s : State) (k : Nat) (v : Pmon) : (setPmon s k v).wall = s.wall := rfl
@[simp] theorem setPmon_dev (s : State) (k : Nat) (v : Pmon) : (setPmon s k v).dev = s.dev := rfl
@[simp] theorem setPmon_free (s : State) (k : Nat) (v : Pmon) : (setPmon s k v).free = s.free := rfl
@[simp] theorem setPmon_pins (s : State) (k : Nat) (v : Pmon) : (setPmon s k v).pins = s.pins := rfl
@[simp] theorem setPmon_nv (s : State) (k : Nat) (v : Pmon) : (setPmon s k v).nv = s.nv := rfl
@[simp] theorem setPmon_desk (s : State) (k : Nat) (v : Pmon) : (setPmon s k v).desk = s.desk := rfl
@[simp] theorem setPmon_par (s : State) (k : Nat) (v : Pmon) : (setPmon s k v).par = s.par := rfl
@[simp] theorem setPmon_ch (s : State) (k : Nat) (v : Pmon) : (setPmon s k v).ch = s.ch := rfl
@[simp] theorem setPmon_capture (s : State) (k : Nat) (v : Pmon) : (setPmon s k v).capture = s.capture := rfl
@[simp] theorem setPmon_amb (s : State) (k : Nat) (v : Pmon) : (setPmon s k v).amb = s.amb := rfl
@[simp] theorem setPmon_tal (s : State) (k : Nat) (v : Pmon) : (setPmon s k v).tal = s.tal := rfl
@[simp] theorem setPmon_ext (s : State) (k : Nat) (v : Pmon) : (setPmon s k v).ext = s.ext := rfl
@[simp] theorem setPmon_sch (s : State) (k : Nat) (v : Pmon) : (setPmon s k v).sch = s.sch := rfl
@[simp] theorem setPmon_srv (s : State) (k : Nat) (v : Pmon) : (setPmon s k v).srv = s.srv := rfl
@[simp] theorem setPmon_sns (s : State) (k : Nat) (v : Pmon) : (setPmon s k v).sns = s.sns := rfl
@[simp] theorem setPmon_cal (s : State) (k : Nat) (v : Pmon) : (setPmon s k v).cal = s.cal := rfl
@[simp] theorem setPmon_str (s : State) (k : Nat) (v : Pmon) : (setPmon s k v).str = s.str := rfl
@[simp] theorem setPmon_tim (s : State) (k : Nat) (v : Pmon) : (setPmon s k v).tim = s.tim := rfl
@[simp] theorem setPmon_mot (s : State) (k : Nat) (v : Pmon) : (setPmon s k v).mot = s.mot := rfl
@[simp] theorem setPmon_lan (s : State) (k : Nat) (v : Pmon) : (setPmon s k v).lan = s.lan := rfl
@[simp] theorem setPmon_twn (s : State) (k : Nat) (v : Pmon) : (setPmon s k v).twn = s.twn := rfl
@[simp] theorem setPmon_rng (s : State) (k : Nat) (v : Pmon) : (setPmon s k v).rng = s.rng := rfl
@[simp] theorem setPmon_ic (s : State) (k : Nat) (v : Pmon) : (setPmon s k v).ic = s.ic := rfl
@[simp] theorem setPmon_dma (s : State) (k : Nat) (v : Pmon) : (setPmon s k v).dma = s.dma := rfl
@[simp] theorem setPmon_mem (s : State) (k : Nat) (v : Pmon) : (setPmon s k v).mem = s.mem := rfl
@[simp] theorem setPmon_lgb (s : State) (k : Nat) (v : Pmon) : (setPmon s k v).lgb = s.lgb := rfl
@[simp] theorem setPmon_hlt (s : State) (k : Nat) (v : Pmon) : (setPmon s k v).hlt = s.hlt := rfl
@[simp] theorem setPmon_rst (s : State) (k : Nat) (v : Pmon) : (setPmon s k v).rst = s.rst := rfl
@[simp] theorem setPmon_pending (s : State) (k : Nat) (v : Pmon) : (setPmon s k v).pending = s.pending := rfl
@[simp] theorem nkCell_setPmon (s : State) (k j : Nat) (v : Pmon) : nkCell (setPmon s k v) j = nkCell s j := rfl

/-! ### Lane -/

@[simp] theorem lane_setLane (s : State) (l j : Nat) (v : Lane) : lane (setLane s l v) j = if j = l then v else lane s j :=
  tget_tput _ _ _ _ _
@[simp] theorem lane_advance (t : Nat) (s : State) (l : Nat) : lane (advance t s) l = lane s l := rfl
@[simp] theorem setLane_wall (s : State) (l : Nat) (v : Lane) : (setLane s l v).wall = s.wall := rfl
@[simp] theorem setLane_dev (s : State) (l : Nat) (v : Lane) : (setLane s l v).dev = s.dev := rfl
@[simp] theorem setLane_free (s : State) (l : Nat) (v : Lane) : (setLane s l v).free = s.free := rfl
@[simp] theorem setLane_pins (s : State) (l : Nat) (v : Lane) : (setLane s l v).pins = s.pins := rfl
@[simp] theorem setLane_nv (s : State) (l : Nat) (v : Lane) : (setLane s l v).nv = s.nv := rfl
@[simp] theorem setLane_desk (s : State) (l : Nat) (v : Lane) : (setLane s l v).desk = s.desk := rfl
@[simp] theorem setLane_par (s : State) (l : Nat) (v : Lane) : (setLane s l v).par = s.par := rfl
@[simp] theorem setLane_ch (s : State) (l : Nat) (v : Lane) : (setLane s l v).ch = s.ch := rfl
@[simp] theorem setLane_capture (s : State) (l : Nat) (v : Lane) : (setLane s l v).capture = s.capture := rfl
@[simp] theorem setLane_amb (s : State) (l : Nat) (v : Lane) : (setLane s l v).amb = s.amb := rfl
@[simp] theorem setLane_tal (s : State) (l : Nat) (v : Lane) : (setLane s l v).tal = s.tal := rfl
@[simp] theorem setLane_ext (s : State) (l : Nat) (v : Lane) : (setLane s l v).ext = s.ext := rfl
@[simp] theorem setLane_sch (s : State) (l : Nat) (v : Lane) : (setLane s l v).sch = s.sch := rfl
@[simp] theorem setLane_srv (s : State) (l : Nat) (v : Lane) : (setLane s l v).srv = s.srv := rfl
@[simp] theorem setLane_sns (s : State) (l : Nat) (v : Lane) : (setLane s l v).sns = s.sns := rfl
@[simp] theorem setLane_nk (s : State) (l : Nat) (v : Lane) : (setLane s l v).nk = s.nk := rfl
@[simp] theorem setLane_cal (s : State) (l : Nat) (v : Lane) : (setLane s l v).cal = s.cal := rfl
@[simp] theorem setLane_str (s : State) (l : Nat) (v : Lane) : (setLane s l v).str = s.str := rfl
@[simp] theorem setLane_tim (s : State) (l : Nat) (v : Lane) : (setLane s l v).tim = s.tim := rfl
@[simp] theorem setLane_mot (s : State) (l : Nat) (v : Lane) : (setLane s l v).mot = s.mot := rfl
@[simp] theorem setLane_twn (s : State) (l : Nat) (v : Lane) : (setLane s l v).twn = s.twn := rfl
@[simp] theorem setLane_rng (s : State) (l : Nat) (v : Lane) : (setLane s l v).rng = s.rng := rfl
@[simp] theorem setLane_ic (s : State) (l : Nat) (v : Lane) : (setLane s l v).ic = s.ic := rfl
@[simp] theorem setLane_dma (s : State) (l : Nat) (v : Lane) : (setLane s l v).dma = s.dma := rfl
@[simp] theorem setLane_mem (s : State) (l : Nat) (v : Lane) : (setLane s l v).mem = s.mem := rfl
@[simp] theorem setLane_lgb (s : State) (l : Nat) (v : Lane) : (setLane s l v).lgb = s.lgb := rfl
@[simp] theorem setLane_hlt (s : State) (l : Nat) (v : Lane) : (setLane s l v).hlt = s.hlt := rfl
@[simp] theorem setLane_rst (s : State) (l : Nat) (v : Lane) : (setLane s l v).rst = s.rst := rfl
@[simp] theorem setLane_pending (s : State) (l : Nat) (v : Lane) : (setLane s l v).pending = s.pending := rfl

/-! ### Path -/

@[simp] theorem path_setPath (s : State) (p j : Nat) (v : Path) : path (setPath s p v) j = if j = p then v else path s j :=
  tget_tput _ _ _ _ _
@[simp] theorem path_advance (t : Nat) (s : State) (p : Nat) : path (advance t s) p = path s p := rfl
@[simp] theorem setPath_wall (s : State) (p : Nat) (v : Path) : (setPath s p v).wall = s.wall := rfl
@[simp] theorem setPath_dev (s : State) (p : Nat) (v : Path) : (setPath s p v).dev = s.dev := rfl
@[simp] theorem setPath_free (s : State) (p : Nat) (v : Path) : (setPath s p v).free = s.free := rfl
@[simp] theorem setPath_pins (s : State) (p : Nat) (v : Path) : (setPath s p v).pins = s.pins := rfl
@[simp] theorem setPath_nv (s : State) (p : Nat) (v : Path) : (setPath s p v).nv = s.nv := rfl
@[simp] theorem setPath_desk (s : State) (p : Nat) (v : Path) : (setPath s p v).desk = s.desk := rfl
@[simp] theorem setPath_par (s : State) (p : Nat) (v : Path) : (setPath s p v).par = s.par := rfl
@[simp] theorem setPath_ch (s : State) (p : Nat) (v : Path) : (setPath s p v).ch = s.ch := rfl
@[simp] theorem setPath_capture (s : State) (p : Nat) (v : Path) : (setPath s p v).capture = s.capture := rfl
@[simp] theorem setPath_amb (s : State) (p : Nat) (v : Path) : (setPath s p v).amb = s.amb := rfl
@[simp] theorem setPath_tal (s : State) (p : Nat) (v : Path) : (setPath s p v).tal = s.tal := rfl
@[simp] theorem setPath_ext (s : State) (p : Nat) (v : Path) : (setPath s p v).ext = s.ext := rfl
@[simp] theorem setPath_sch (s : State) (p : Nat) (v : Path) : (setPath s p v).sch = s.sch := rfl
@[simp] theorem setPath_srv (s : State) (p : Nat) (v : Path) : (setPath s p v).srv = s.srv := rfl
@[simp] theorem setPath_sns (s : State) (p : Nat) (v : Path) : (setPath s p v).sns = s.sns := rfl
@[simp] theorem setPath_nk (s : State) (p : Nat) (v : Path) : (setPath s p v).nk = s.nk := rfl
@[simp] theorem setPath_cal (s : State) (p : Nat) (v : Path) : (setPath s p v).cal = s.cal := rfl
@[simp] theorem setPath_tim (s : State) (p : Nat) (v : Path) : (setPath s p v).tim = s.tim := rfl
@[simp] theorem setPath_mot (s : State) (p : Nat) (v : Path) : (setPath s p v).mot = s.mot := rfl
@[simp] theorem setPath_lan (s : State) (p : Nat) (v : Path) : (setPath s p v).lan = s.lan := rfl
@[simp] theorem setPath_twn (s : State) (p : Nat) (v : Path) : (setPath s p v).twn = s.twn := rfl
@[simp] theorem setPath_rng (s : State) (p : Nat) (v : Path) : (setPath s p v).rng = s.rng := rfl
@[simp] theorem setPath_ic (s : State) (p : Nat) (v : Path) : (setPath s p v).ic = s.ic := rfl
@[simp] theorem setPath_dma (s : State) (p : Nat) (v : Path) : (setPath s p v).dma = s.dma := rfl
@[simp] theorem setPath_mem (s : State) (p : Nat) (v : Path) : (setPath s p v).mem = s.mem := rfl
@[simp] theorem setPath_lgb (s : State) (p : Nat) (v : Path) : (setPath s p v).lgb = s.lgb := rfl
@[simp] theorem setPath_hlt (s : State) (p : Nat) (v : Path) : (setPath s p v).hlt = s.hlt := rfl
@[simp] theorem setPath_rst (s : State) (p : Nat) (v : Path) : (setPath s p v).rst = s.rst := rfl
@[simp] theorem setPath_pending (s : State) (p : Nat) (v : Path) : (setPath s p v).pending = s.pending := rfl
@[simp] theorem slot_setPath (s : State) (p j : Nat) (v : Path) : slot (setPath s p v) j = slot s j := rfl

/-! ### Slot -/

@[simp] theorem slot_setSlot (s : State) (k j : Nat) (v : Slot) : slot (setSlot s k v) j = if j = k then v else slot s j :=
  tget_tput _ _ _ _ _
@[simp] theorem slot_advance (t : Nat) (s : State) (k : Nat) : slot (advance t s) k = slot s k := rfl
@[simp] theorem setSlot_wall (s : State) (k : Nat) (v : Slot) : (setSlot s k v).wall = s.wall := rfl
@[simp] theorem setSlot_dev (s : State) (k : Nat) (v : Slot) : (setSlot s k v).dev = s.dev := rfl
@[simp] theorem setSlot_free (s : State) (k : Nat) (v : Slot) : (setSlot s k v).free = s.free := rfl
@[simp] theorem setSlot_pins (s : State) (k : Nat) (v : Slot) : (setSlot s k v).pins = s.pins := rfl
@[simp] theorem setSlot_nv (s : State) (k : Nat) (v : Slot) : (setSlot s k v).nv = s.nv := rfl
@[simp] theorem setSlot_desk (s : State) (k : Nat) (v : Slot) : (setSlot s k v).desk = s.desk := rfl
@[simp] theorem setSlot_par (s : State) (k : Nat) (v : Slot) : (setSlot s k v).par = s.par := rfl
@[simp] theorem setSlot_ch (s : State) (k : Nat) (v : Slot) : (setSlot s k v).ch = s.ch := rfl
@[simp] theorem setSlot_capture (s : State) (k : Nat) (v : Slot) : (setSlot s k v).capture = s.capture := rfl
@[simp] theorem setSlot_amb (s : State) (k : Nat) (v : Slot) : (setSlot s k v).amb = s.amb := rfl
@[simp] theorem setSlot_tal (s : State) (k : Nat) (v : Slot) : (setSlot s k v).tal = s.tal := rfl
@[simp] theorem setSlot_ext (s : State) (k : Nat) (v : Slot) : (setSlot s k v).ext = s.ext := rfl
@[simp] theorem setSlot_sch (s : State) (k : Nat) (v : Slot) : (setSlot s k v).sch = s.sch := rfl
@[simp] theorem setSlot_srv (s : State) (k : Nat) (v : Slot) : (setSlot s k v).srv = s.srv := rfl
@[simp] theorem setSlot_sns (s : State) (k : Nat) (v : Slot) : (setSlot s k v).sns = s.sns := rfl
@[simp] theorem setSlot_nk (s : State) (k : Nat) (v : Slot) : (setSlot s k v).nk = s.nk := rfl
@[simp] theorem setSlot_cal (s : State) (k : Nat) (v : Slot) : (setSlot s k v).cal = s.cal := rfl
@[simp] theorem setSlot_tim (s : State) (k : Nat) (v : Slot) : (setSlot s k v).tim = s.tim := rfl
@[simp] theorem setSlot_mot (s : State) (k : Nat) (v : Slot) : (setSlot s k v).mot = s.mot := rfl
@[simp] theorem setSlot_lan (s : State) (k : Nat) (v : Slot) : (setSlot s k v).lan = s.lan := rfl
@[simp] theorem setSlot_twn (s : State) (k : Nat) (v : Slot) : (setSlot s k v).twn = s.twn := rfl
@[simp] theorem setSlot_rng (s : State) (k : Nat) (v : Slot) : (setSlot s k v).rng = s.rng := rfl
@[simp] theorem setSlot_ic (s : State) (k : Nat) (v : Slot) : (setSlot s k v).ic = s.ic := rfl
@[simp] theorem setSlot_dma (s : State) (k : Nat) (v : Slot) : (setSlot s k v).dma = s.dma := rfl
@[simp] theorem setSlot_mem (s : State) (k : Nat) (v : Slot) : (setSlot s k v).mem = s.mem := rfl
@[simp] theorem setSlot_lgb (s : State) (k : Nat) (v : Slot) : (setSlot s k v).lgb = s.lgb := rfl
@[simp] theorem setSlot_hlt (s : State) (k : Nat) (v : Slot) : (setSlot s k v).hlt = s.hlt := rfl
@[simp] theorem setSlot_rst (s : State) (k : Nat) (v : Slot) : (setSlot s k v).rst = s.rst := rfl
@[simp] theorem setSlot_pending (s : State) (k : Nat) (v : Slot) : (setSlot s k v).pending = s.pending := rfl
@[simp] theorem path_setSlot (s : State) (k j : Nat) (v : Slot) : path (setSlot s k v) j = path s j := rfl

/-! ### TPort -/

@[simp] theorem tport_setTport (s : State) (p j : Nat) (v : TPort) : tport (setTport s p v) j = if j = p then v else tport s j :=
  tget_tput _ _ _ _ _
@[simp] theorem tport_advance (t : Nat) (s : State) (p : Nat) : tport (advance t s) p = tport s p := rfl
@[simp] theorem setTport_wall (s : State) (p : Nat) (v : TPort) : (setTport s p v).wall = s.wall := rfl
@[simp] theorem setTport_dev (s : State) (p : Nat) (v : TPort) : (setTport s p v).dev = s.dev := rfl
@[simp] theorem setTport_free (s : State) (p : Nat) (v : TPort) : (setTport s p v).free = s.free := rfl
@[simp] theorem setTport_pins (s : State) (p : Nat) (v : TPort) : (setTport s p v).pins = s.pins := rfl
@[simp] theorem setTport_nv (s : State) (p : Nat) (v : TPort) : (setTport s p v).nv = s.nv := rfl
@[simp] theorem setTport_desk (s : State) (p : Nat) (v : TPort) : (setTport s p v).desk = s.desk := rfl
@[simp] theorem setTport_par (s : State) (p : Nat) (v : TPort) : (setTport s p v).par = s.par := rfl
@[simp] theorem setTport_ch (s : State) (p : Nat) (v : TPort) : (setTport s p v).ch = s.ch := rfl
@[simp] theorem setTport_capture (s : State) (p : Nat) (v : TPort) : (setTport s p v).capture = s.capture := rfl
@[simp] theorem setTport_amb (s : State) (p : Nat) (v : TPort) : (setTport s p v).amb = s.amb := rfl
@[simp] theorem setTport_tal (s : State) (p : Nat) (v : TPort) : (setTport s p v).tal = s.tal := rfl
@[simp] theorem setTport_ext (s : State) (p : Nat) (v : TPort) : (setTport s p v).ext = s.ext := rfl
@[simp] theorem setTport_sch (s : State) (p : Nat) (v : TPort) : (setTport s p v).sch = s.sch := rfl
@[simp] theorem setTport_sns (s : State) (p : Nat) (v : TPort) : (setTport s p v).sns = s.sns := rfl
@[simp] theorem setTport_nk (s : State) (p : Nat) (v : TPort) : (setTport s p v).nk = s.nk := rfl
@[simp] theorem setTport_cal (s : State) (p : Nat) (v : TPort) : (setTport s p v).cal = s.cal := rfl
@[simp] theorem setTport_str (s : State) (p : Nat) (v : TPort) : (setTport s p v).str = s.str := rfl
@[simp] theorem setTport_tim (s : State) (p : Nat) (v : TPort) : (setTport s p v).tim = s.tim := rfl
@[simp] theorem setTport_mot (s : State) (p : Nat) (v : TPort) : (setTport s p v).mot = s.mot := rfl
@[simp] theorem setTport_lan (s : State) (p : Nat) (v : TPort) : (setTport s p v).lan = s.lan := rfl
@[simp] theorem setTport_twn (s : State) (p : Nat) (v : TPort) : (setTport s p v).twn = s.twn := rfl
@[simp] theorem setTport_rng (s : State) (p : Nat) (v : TPort) : (setTport s p v).rng = s.rng := rfl
@[simp] theorem setTport_ic (s : State) (p : Nat) (v : TPort) : (setTport s p v).ic = s.ic := rfl
@[simp] theorem setTport_dma (s : State) (p : Nat) (v : TPort) : (setTport s p v).dma = s.dma := rfl
@[simp] theorem setTport_mem (s : State) (p : Nat) (v : TPort) : (setTport s p v).mem = s.mem := rfl
@[simp] theorem setTport_lgb (s : State) (p : Nat) (v : TPort) : (setTport s p v).lgb = s.lgb := rfl
@[simp] theorem setTport_hlt (s : State) (p : Nat) (v : TPort) : (setTport s p v).hlt = s.hlt := rfl
@[simp] theorem setTport_rst (s : State) (p : Nat) (v : TPort) : (setTport s p v).rst = s.rst := rfl
@[simp] theorem setTport_pending (s : State) (p : Nat) (v : TPort) : (setTport s p v).pending = s.pending := rfl
@[simp] theorem servo_setTport (s : State) (p j : Nat) (v : TPort) : servo (setTport s p v) j = servo s j := rfl

/-! ### CalCh -/

@[simp] theorem calCh_setCalCh (s : State) (c j : Nat) (v : CalCh) : calCh (setCalCh s c v) j = if j = c then v else calCh s j :=
  tget_tput _ _ _ _ _
@[simp] theorem calCh_advance (t : Nat) (s : State) (c : Nat) : calCh (advance t s) c = calCh s c := rfl
@[simp] theorem setCalCh_wall (s : State) (c : Nat) (v : CalCh) : (setCalCh s c v).wall = s.wall := rfl
@[simp] theorem setCalCh_dev (s : State) (c : Nat) (v : CalCh) : (setCalCh s c v).dev = s.dev := rfl
@[simp] theorem setCalCh_free (s : State) (c : Nat) (v : CalCh) : (setCalCh s c v).free = s.free := rfl
@[simp] theorem setCalCh_pins (s : State) (c : Nat) (v : CalCh) : (setCalCh s c v).pins = s.pins := rfl
@[simp] theorem setCalCh_nv (s : State) (c : Nat) (v : CalCh) : (setCalCh s c v).nv = s.nv := rfl
@[simp] theorem setCalCh_desk (s : State) (c : Nat) (v : CalCh) : (setCalCh s c v).desk = s.desk := rfl
@[simp] theorem setCalCh_par (s : State) (c : Nat) (v : CalCh) : (setCalCh s c v).par = s.par := rfl
@[simp] theorem setCalCh_ch (s : State) (c : Nat) (v : CalCh) : (setCalCh s c v).ch = s.ch := rfl
@[simp] theorem setCalCh_capture (s : State) (c : Nat) (v : CalCh) : (setCalCh s c v).capture = s.capture := rfl
@[simp] theorem setCalCh_amb (s : State) (c : Nat) (v : CalCh) : (setCalCh s c v).amb = s.amb := rfl
@[simp] theorem setCalCh_tal (s : State) (c : Nat) (v : CalCh) : (setCalCh s c v).tal = s.tal := rfl
@[simp] theorem setCalCh_ext (s : State) (c : Nat) (v : CalCh) : (setCalCh s c v).ext = s.ext := rfl
@[simp] theorem setCalCh_sch (s : State) (c : Nat) (v : CalCh) : (setCalCh s c v).sch = s.sch := rfl
@[simp] theorem setCalCh_srv (s : State) (c : Nat) (v : CalCh) : (setCalCh s c v).srv = s.srv := rfl
@[simp] theorem setCalCh_sns (s : State) (c : Nat) (v : CalCh) : (setCalCh s c v).sns = s.sns := rfl
@[simp] theorem setCalCh_nk (s : State) (c : Nat) (v : CalCh) : (setCalCh s c v).nk = s.nk := rfl
@[simp] theorem setCalCh_str (s : State) (c : Nat) (v : CalCh) : (setCalCh s c v).str = s.str := rfl
@[simp] theorem setCalCh_tim (s : State) (c : Nat) (v : CalCh) : (setCalCh s c v).tim = s.tim := rfl
@[simp] theorem setCalCh_mot (s : State) (c : Nat) (v : CalCh) : (setCalCh s c v).mot = s.mot := rfl
@[simp] theorem setCalCh_lan (s : State) (c : Nat) (v : CalCh) : (setCalCh s c v).lan = s.lan := rfl
@[simp] theorem setCalCh_twn (s : State) (c : Nat) (v : CalCh) : (setCalCh s c v).twn = s.twn := rfl
@[simp] theorem setCalCh_rng (s : State) (c : Nat) (v : CalCh) : (setCalCh s c v).rng = s.rng := rfl
@[simp] theorem setCalCh_ic (s : State) (c : Nat) (v : CalCh) : (setCalCh s c v).ic = s.ic := rfl
@[simp] theorem setCalCh_dma (s : State) (c : Nat) (v : CalCh) : (setCalCh s c v).dma = s.dma := rfl
@[simp] theorem setCalCh_mem (s : State) (c : Nat) (v : CalCh) : (setCalCh s c v).mem = s.mem := rfl
@[simp] theorem setCalCh_lgb (s : State) (c : Nat) (v : CalCh) : (setCalCh s c v).lgb = s.lgb := rfl
@[simp] theorem setCalCh_hlt (s : State) (c : Nat) (v : CalCh) : (setCalCh s c v).hlt = s.hlt := rfl
@[simp] theorem setCalCh_rst (s : State) (c : Nat) (v : CalCh) : (setCalCh s c v).rst = s.rst := rfl
@[simp] theorem setCalCh_pending (s : State) (c : Nat) (v : CalCh) : (setCalCh s c v).pending = s.pending := rfl

/-! ### DmaS -/

@[simp] theorem dmaS_setDmaS (s : State) (n j : Nat) (v : DmaS) : dmaS (setDmaS s n v) j = if j = n then v else dmaS s j :=
  tget_tput _ _ _ _ _
@[simp] theorem dmaS_advance (t : Nat) (s : State) (n : Nat) : dmaS (advance t s) n = dmaS s n := rfl
@[simp] theorem setDmaS_wall (s : State) (n : Nat) (v : DmaS) : (setDmaS s n v).wall = s.wall := rfl
@[simp] theorem setDmaS_dev (s : State) (n : Nat) (v : DmaS) : (setDmaS s n v).dev = s.dev := rfl
@[simp] theorem setDmaS_free (s : State) (n : Nat) (v : DmaS) : (setDmaS s n v).free = s.free := rfl
@[simp] theorem setDmaS_pins (s : State) (n : Nat) (v : DmaS) : (setDmaS s n v).pins = s.pins := rfl
@[simp] theorem setDmaS_nv (s : State) (n : Nat) (v : DmaS) : (setDmaS s n v).nv = s.nv := rfl
@[simp] theorem setDmaS_desk (s : State) (n : Nat) (v : DmaS) : (setDmaS s n v).desk = s.desk := rfl
@[simp] theorem setDmaS_par (s : State) (n : Nat) (v : DmaS) : (setDmaS s n v).par = s.par := rfl
@[simp] theorem setDmaS_ch (s : State) (n : Nat) (v : DmaS) : (setDmaS s n v).ch = s.ch := rfl
@[simp] theorem setDmaS_capture (s : State) (n : Nat) (v : DmaS) : (setDmaS s n v).capture = s.capture := rfl
@[simp] theorem setDmaS_amb (s : State) (n : Nat) (v : DmaS) : (setDmaS s n v).amb = s.amb := rfl
@[simp] theorem setDmaS_tal (s : State) (n : Nat) (v : DmaS) : (setDmaS s n v).tal = s.tal := rfl
@[simp] theorem setDmaS_ext (s : State) (n : Nat) (v : DmaS) : (setDmaS s n v).ext = s.ext := rfl
@[simp] theorem setDmaS_sch (s : State) (n : Nat) (v : DmaS) : (setDmaS s n v).sch = s.sch := rfl
@[simp] theorem setDmaS_srv (s : State) (n : Nat) (v : DmaS) : (setDmaS s n v).srv = s.srv := rfl
@[simp] theorem setDmaS_sns (s : State) (n : Nat) (v : DmaS) : (setDmaS s n v).sns = s.sns := rfl
@[simp] theorem setDmaS_nk (s : State) (n : Nat) (v : DmaS) : (setDmaS s n v).nk = s.nk := rfl
@[simp] theorem setDmaS_cal (s : State) (n : Nat) (v : DmaS) : (setDmaS s n v).cal = s.cal := rfl
@[simp] theorem setDmaS_str (s : State) (n : Nat) (v : DmaS) : (setDmaS s n v).str = s.str := rfl
@[simp] theorem setDmaS_tim (s : State) (n : Nat) (v : DmaS) : (setDmaS s n v).tim = s.tim := rfl
@[simp] theorem setDmaS_mot (s : State) (n : Nat) (v : DmaS) : (setDmaS s n v).mot = s.mot := rfl
@[simp] theorem setDmaS_lan (s : State) (n : Nat) (v : DmaS) : (setDmaS s n v).lan = s.lan := rfl
@[simp] theorem setDmaS_twn (s : State) (n : Nat) (v : DmaS) : (setDmaS s n v).twn = s.twn := rfl
@[simp] theorem setDmaS_rng (s : State) (n : Nat) (v : DmaS) : (setDmaS s n v).rng = s.rng := rfl
@[simp] theorem setDmaS_ic (s : State) (n : Nat) (v : DmaS) : (setDmaS s n v).ic = s.ic := rfl
@[simp] theorem setDmaS_mem (s : State) (n : Nat) (v : DmaS) : (setDmaS s n v).mem = s.mem := rfl
@[simp] theorem setDmaS_lgb (s : State) (n : Nat) (v : DmaS) : (setDmaS s n v).lgb = s.lgb := rfl
@[simp] theorem setDmaS_hlt (s : State) (n : Nat) (v : DmaS) : (setDmaS s n v).hlt = s.hlt := rfl
@[simp] theorem setDmaS_rst (s : State) (n : Nat) (v : DmaS) : (setDmaS s n v).rst = s.rst := rfl
@[simp] theorem setDmaS_pending (s : State) (n : Nat) (v : DmaS) : (setDmaS s n v).pending = s.pending := rfl
@[simp] theorem dmaC_setDmaS (s : State) (n j : Nat) (v : DmaS) : dmaC (setDmaS s n v) j = dmaC s j := rfl
@[simp] theorem dmaE_setDmaS (s : State) (n j : Nat) (v : DmaS) : dmaE (setDmaS s n v) j = dmaE s j := rfl

/-! ### DmaC -/

@[simp] theorem dmaC_setDmaC (s : State) (n j : Nat) (v : DmaC) : dmaC (setDmaC s n v) j = if j = n then v else dmaC s j :=
  tget_tput _ _ _ _ _
@[simp] theorem dmaC_advance (t : Nat) (s : State) (n : Nat) : dmaC (advance t s) n = dmaC s n := rfl
@[simp] theorem setDmaC_wall (s : State) (n : Nat) (v : DmaC) : (setDmaC s n v).wall = s.wall := rfl
@[simp] theorem setDmaC_dev (s : State) (n : Nat) (v : DmaC) : (setDmaC s n v).dev = s.dev := rfl
@[simp] theorem setDmaC_free (s : State) (n : Nat) (v : DmaC) : (setDmaC s n v).free = s.free := rfl
@[simp] theorem setDmaC_pins (s : State) (n : Nat) (v : DmaC) : (setDmaC s n v).pins = s.pins := rfl
@[simp] theorem setDmaC_nv (s : State) (n : Nat) (v : DmaC) : (setDmaC s n v).nv = s.nv := rfl
@[simp] theorem setDmaC_desk (s : State) (n : Nat) (v : DmaC) : (setDmaC s n v).desk = s.desk := rfl
@[simp] theorem setDmaC_par (s : State) (n : Nat) (v : DmaC) : (setDmaC s n v).par = s.par := rfl
@[simp] theorem setDmaC_ch (s : State) (n : Nat) (v : DmaC) : (setDmaC s n v).ch = s.ch := rfl
@[simp] theorem setDmaC_capture (s : State) (n : Nat) (v : DmaC) : (setDmaC s n v).capture = s.capture := rfl
@[simp] theorem setDmaC_amb (s : State) (n : Nat) (v : DmaC) : (setDmaC s n v).amb = s.amb := rfl
@[simp] theorem setDmaC_tal (s : State) (n : Nat) (v : DmaC) : (setDmaC s n v).tal = s.tal := rfl
@[simp] theorem setDmaC_ext (s : State) (n : Nat) (v : DmaC) : (setDmaC s n v).ext = s.ext := rfl
@[simp] theorem setDmaC_sch (s : State) (n : Nat) (v : DmaC) : (setDmaC s n v).sch = s.sch := rfl
@[simp] theorem setDmaC_srv (s : State) (n : Nat) (v : DmaC) : (setDmaC s n v).srv = s.srv := rfl
@[simp] theorem setDmaC_sns (s : State) (n : Nat) (v : DmaC) : (setDmaC s n v).sns = s.sns := rfl
@[simp] theorem setDmaC_nk (s : State) (n : Nat) (v : DmaC) : (setDmaC s n v).nk = s.nk := rfl
@[simp] theorem setDmaC_cal (s : State) (n : Nat) (v : DmaC) : (setDmaC s n v).cal = s.cal := rfl
@[simp] theorem setDmaC_str (s : State) (n : Nat) (v : DmaC) : (setDmaC s n v).str = s.str := rfl
@[simp] theorem setDmaC_tim (s : State) (n : Nat) (v : DmaC) : (setDmaC s n v).tim = s.tim := rfl
@[simp] theorem setDmaC_mot (s : State) (n : Nat) (v : DmaC) : (setDmaC s n v).mot = s.mot := rfl
@[simp] theorem setDmaC_lan (s : State) (n : Nat) (v : DmaC) : (setDmaC s n v).lan = s.lan := rfl
@[simp] theorem setDmaC_twn (s : State) (n : Nat) (v : DmaC) : (setDmaC s n v).twn = s.twn := rfl
@[simp] theorem setDmaC_rng (s : State) (n : Nat) (v : DmaC) : (setDmaC s n v).rng = s.rng := rfl
@[simp] theorem setDmaC_ic (s : State) (n : Nat) (v : DmaC) : (setDmaC s n v).ic = s.ic := rfl
@[simp] theorem setDmaC_mem (s : State) (n : Nat) (v : DmaC) : (setDmaC s n v).mem = s.mem := rfl
@[simp] theorem setDmaC_lgb (s : State) (n : Nat) (v : DmaC) : (setDmaC s n v).lgb = s.lgb := rfl
@[simp] theorem setDmaC_hlt (s : State) (n : Nat) (v : DmaC) : (setDmaC s n v).hlt = s.hlt := rfl
@[simp] theorem setDmaC_rst (s : State) (n : Nat) (v : DmaC) : (setDmaC s n v).rst = s.rst := rfl
@[simp] theorem setDmaC_pending (s : State) (n : Nat) (v : DmaC) : (setDmaC s n v).pending = s.pending := rfl
@[simp] theorem dmaS_setDmaC (s : State) (n j : Nat) (v : DmaC) : dmaS (setDmaC s n v) j = dmaS s j := rfl
@[simp] theorem dmaE_setDmaC (s : State) (n j : Nat) (v : DmaC) : dmaE (setDmaC s n v) j = dmaE s j := rfl

/-! ### DmaE -/

@[simp] theorem dmaE_setDmaE (s : State) (n j : Nat) (v : DmaE) : dmaE (setDmaE s n v) j = if j = n then v else dmaE s j :=
  tget_tput _ _ _ _ _
@[simp] theorem dmaE_advance (t : Nat) (s : State) (n : Nat) : dmaE (advance t s) n = dmaE s n := rfl
@[simp] theorem setDmaE_wall (s : State) (n : Nat) (v : DmaE) : (setDmaE s n v).wall = s.wall := rfl
@[simp] theorem setDmaE_dev (s : State) (n : Nat) (v : DmaE) : (setDmaE s n v).dev = s.dev := rfl
@[simp] theorem setDmaE_free (s : State) (n : Nat) (v : DmaE) : (setDmaE s n v).free = s.free := rfl
@[simp] theorem setDmaE_pins (s : State) (n : Nat) (v : DmaE) : (setDmaE s n v).pins = s.pins := rfl
@[simp] theorem setDmaE_nv (s : State) (n : Nat) (v : DmaE) : (setDmaE s n v).nv = s.nv := rfl
@[simp] theorem setDmaE_desk (s : State) (n : Nat) (v : DmaE) : (setDmaE s n v).desk = s.desk := rfl
@[simp] theorem setDmaE_par (s : State) (n : Nat) (v : DmaE) : (setDmaE s n v).par = s.par := rfl
@[simp] theorem setDmaE_ch (s : State) (n : Nat) (v : DmaE) : (setDmaE s n v).ch = s.ch := rfl
@[simp] theorem setDmaE_capture (s : State) (n : Nat) (v : DmaE) : (setDmaE s n v).capture = s.capture := rfl
@[simp] theorem setDmaE_amb (s : State) (n : Nat) (v : DmaE) : (setDmaE s n v).amb = s.amb := rfl
@[simp] theorem setDmaE_tal (s : State) (n : Nat) (v : DmaE) : (setDmaE s n v).tal = s.tal := rfl
@[simp] theorem setDmaE_ext (s : State) (n : Nat) (v : DmaE) : (setDmaE s n v).ext = s.ext := rfl
@[simp] theorem setDmaE_sch (s : State) (n : Nat) (v : DmaE) : (setDmaE s n v).sch = s.sch := rfl
@[simp] theorem setDmaE_srv (s : State) (n : Nat) (v : DmaE) : (setDmaE s n v).srv = s.srv := rfl
@[simp] theorem setDmaE_sns (s : State) (n : Nat) (v : DmaE) : (setDmaE s n v).sns = s.sns := rfl
@[simp] theorem setDmaE_nk (s : State) (n : Nat) (v : DmaE) : (setDmaE s n v).nk = s.nk := rfl
@[simp] theorem setDmaE_cal (s : State) (n : Nat) (v : DmaE) : (setDmaE s n v).cal = s.cal := rfl
@[simp] theorem setDmaE_str (s : State) (n : Nat) (v : DmaE) : (setDmaE s n v).str = s.str := rfl
@[simp] theorem setDmaE_tim (s : State) (n : Nat) (v : DmaE) : (setDmaE s n v).tim = s.tim := rfl
@[simp] theorem setDmaE_mot (s : State) (n : Nat) (v : DmaE) : (setDmaE s n v).mot = s.mot := rfl
@[simp] theorem setDmaE_lan (s : State) (n : Nat) (v : DmaE) : (setDmaE s n v).lan = s.lan := rfl
@[simp] theorem setDmaE_twn (s : State) (n : Nat) (v : DmaE) : (setDmaE s n v).twn = s.twn := rfl
@[simp] theorem setDmaE_rng (s : State) (n : Nat) (v : DmaE) : (setDmaE s n v).rng = s.rng := rfl
@[simp] theorem setDmaE_ic (s : State) (n : Nat) (v : DmaE) : (setDmaE s n v).ic = s.ic := rfl
@[simp] theorem setDmaE_mem (s : State) (n : Nat) (v : DmaE) : (setDmaE s n v).mem = s.mem := rfl
@[simp] theorem setDmaE_lgb (s : State) (n : Nat) (v : DmaE) : (setDmaE s n v).lgb = s.lgb := rfl
@[simp] theorem setDmaE_hlt (s : State) (n : Nat) (v : DmaE) : (setDmaE s n v).hlt = s.hlt := rfl
@[simp] theorem setDmaE_rst (s : State) (n : Nat) (v : DmaE) : (setDmaE s n v).rst = s.rst := rfl
@[simp] theorem setDmaE_pending (s : State) (n : Nat) (v : DmaE) : (setDmaE s n v).pending = s.pending := rfl
@[simp] theorem dmaS_setDmaE (s : State) (n j : Nat) (v : DmaE) : dmaS (setDmaE s n v) j = dmaS s j := rfl
@[simp] theorem dmaC_setDmaE (s : State) (n j : Nat) (v : DmaE) : dmaC (setDmaE s n v) j = dmaC s j := rfl

/-! ### NkCell -/

@[simp] theorem nkCell_setNkCell (s : State) (c j : Nat) (v : NkCell) : nkCell (setNkCell s c v) j = if j = c then v else nkCell s j :=
  tget_tput _ _ _ _ _
@[simp] theorem nkCell_advance (t : Nat) (s : State) (c : Nat) : nkCell (advance t s) c = nkCell s c := rfl
@[simp] theorem setNkCell_wall (s : State) (c : Nat) (v : NkCell) : (setNkCell s c v).wall = s.wall := rfl
@[simp] theorem setNkCell_dev (s : State) (c : Nat) (v : NkCell) : (setNkCell s c v).dev = s.dev := rfl
@[simp] theorem setNkCell_free (s : State) (c : Nat) (v : NkCell) : (setNkCell s c v).free = s.free := rfl
@[simp] theorem setNkCell_pins (s : State) (c : Nat) (v : NkCell) : (setNkCell s c v).pins = s.pins := rfl
@[simp] theorem setNkCell_nv (s : State) (c : Nat) (v : NkCell) : (setNkCell s c v).nv = s.nv := rfl
@[simp] theorem setNkCell_desk (s : State) (c : Nat) (v : NkCell) : (setNkCell s c v).desk = s.desk := rfl
@[simp] theorem setNkCell_par (s : State) (c : Nat) (v : NkCell) : (setNkCell s c v).par = s.par := rfl
@[simp] theorem setNkCell_ch (s : State) (c : Nat) (v : NkCell) : (setNkCell s c v).ch = s.ch := rfl
@[simp] theorem setNkCell_capture (s : State) (c : Nat) (v : NkCell) : (setNkCell s c v).capture = s.capture := rfl
@[simp] theorem setNkCell_amb (s : State) (c : Nat) (v : NkCell) : (setNkCell s c v).amb = s.amb := rfl
@[simp] theorem setNkCell_tal (s : State) (c : Nat) (v : NkCell) : (setNkCell s c v).tal = s.tal := rfl
@[simp] theorem setNkCell_ext (s : State) (c : Nat) (v : NkCell) : (setNkCell s c v).ext = s.ext := rfl
@[simp] theorem setNkCell_sch (s : State) (c : Nat) (v : NkCell) : (setNkCell s c v).sch = s.sch := rfl
@[simp] theorem setNkCell_srv (s : State) (c : Nat) (v : NkCell) : (setNkCell s c v).srv = s.srv := rfl
@[simp] theorem setNkCell_sns (s : State) (c : Nat) (v : NkCell) : (setNkCell s c v).sns = s.sns := rfl
@[simp] theorem setNkCell_cal (s : State) (c : Nat) (v : NkCell) : (setNkCell s c v).cal = s.cal := rfl
@[simp] theorem setNkCell_str (s : State) (c : Nat) (v : NkCell) : (setNkCell s c v).str = s.str := rfl
@[simp] theorem setNkCell_tim (s : State) (c : Nat) (v : NkCell) : (setNkCell s c v).tim = s.tim := rfl
@[simp] theorem setNkCell_mot (s : State) (c : Nat) (v : NkCell) : (setNkCell s c v).mot = s.mot := rfl
@[simp] theorem setNkCell_lan (s : State) (c : Nat) (v : NkCell) : (setNkCell s c v).lan = s.lan := rfl
@[simp] theorem setNkCell_twn (s : State) (c : Nat) (v : NkCell) : (setNkCell s c v).twn = s.twn := rfl
@[simp] theorem setNkCell_rng (s : State) (c : Nat) (v : NkCell) : (setNkCell s c v).rng = s.rng := rfl
@[simp] theorem setNkCell_ic (s : State) (c : Nat) (v : NkCell) : (setNkCell s c v).ic = s.ic := rfl
@[simp] theorem setNkCell_dma (s : State) (c : Nat) (v : NkCell) : (setNkCell s c v).dma = s.dma := rfl
@[simp] theorem setNkCell_mem (s : State) (c : Nat) (v : NkCell) : (setNkCell s c v).mem = s.mem := rfl
@[simp] theorem setNkCell_lgb (s : State) (c : Nat) (v : NkCell) : (setNkCell s c v).lgb = s.lgb := rfl
@[simp] theorem setNkCell_hlt (s : State) (c : Nat) (v : NkCell) : (setNkCell s c v).hlt = s.hlt := rfl
@[simp] theorem setNkCell_rst (s : State) (c : Nat) (v : NkCell) : (setNkCell s c v).rst = s.rst := rfl
@[simp] theorem setNkCell_pending (s : State) (c : Nat) (v : NkCell) : (setNkCell s c v).pending = s.pending := rfl
@[simp] theorem pmon_setNkCell (s : State) (c j : Nat) (v : NkCell) : pmon (setNkCell s c v) j = pmon s j := rfl

end Sys2Proof.Machine
end

