-- ==== Sys2Proof/Laws/Ops.lean ====
section
/-! SUPPORT. Laws/Ops.lean: what each shared operation can do, said once: the event log and ATTENTION, interrupt sources, the mailbox
protocol, the segment store. Statements about a command cite these and unfold none of the operations. -/

namespace Sys2Proof.Machine

/-! ### Changes of the log alone -/

theorem LogOnly.refl (s : State) : LogOnly s s := rfl

theorem LogOnly.trans {s u v : State} (h : LogOnly s u) (g : LogOnly u v) : LogOnly s v := by
  unfold LogOnly at h g ⊢
  rw [h] at g
  exact g

/-- A change of the log alone, after a change that the target state names. -/
theorem LogOnly.mb {s u : State} (h : LogOnly s u) (k : Nat) : mb u k = Machine.mb s k :=
  (congrArg (fun x => Machine.mb x k) (show u = logOf s u from h) : Machine.mb u k = Machine.mb (logOf s u) k)

theorem attnUpdate_logOnly (w : Word) (b : Bool) (s : State) : LogOnly s (attnUpdate w b s) := by
  unfold attnUpdate
  repeat' split
  all_goals rfl

theorem attnUpdate_time (w : Word) (b : Bool) (s : State) :
    (attnUpdate w b s).wall = s.wall ∧ (attnUpdate w b s).dev = s.dev ∧ (attnUpdate w b s).free = s.free := by
  unfold attnUpdate
  repeat' split
  all_goals exact ⟨rfl, rfl, rfl⟩

/-- ATTENTION's bits are or'ed in and nothing else of the desk's log moves (R442). -/
theorem attnUpdate_attention (w : Word) (b : Bool) (s : State) :
    (attnUpdate w b s).desk.attention = s.desk.attention ∧ (attnUpdate w b s).desk.events = s.desk.events
      ∧ (attnUpdate w b s).desk.eventCount = s.desk.eventCount := by
  unfold attnUpdate
  repeat' split
  all_goals exact ⟨rfl, rfl, rfl⟩

theorem attnRaise_logOnly (b : Word) (s : State) : LogOnly s (attnRaise b s) := by
  unfold attnRaise
  simp only
  generalize h : ({ s with desk.attention := _, desk.setAt := _, desk.setBits := _ } : State) = v
  have h1 : LogOnly s (attnUpdate (attnA s) (b.getLsbD 11) v) := LogOnly.trans (u := v) (by rw [← h]; rfl) (attnUpdate_logOnly _ _ _)
  unfold LogOnly at h1
  generalize attnUpdate (attnA s) (b.getLsbD 11) v = w at h1 ⊢
  split
  · split
    · rw [h1]; rfl
    · exact h1
  · exact h1

theorem attnRaise_time (b : Word) (s : State) :
    (attnRaise b s).wall = s.wall ∧ (attnRaise b s).dev = s.dev ∧ (attnRaise b s).free = s.free := by
  unfold attnRaise
  simp only
  generalize h : ({ s with desk.attention := _, desk.setAt := _, desk.setBits := _ } : State) = v
  have h1 := attnUpdate_time (attnA s) (b.getLsbD 11) v
  have h2 : v.wall = s.wall ∧ v.dev = s.dev ∧ v.free = s.free := by rw [← h]; exact ⟨rfl, rfl, rfl⟩
  split
  · split
    · exact ⟨h1.1.trans h2.1, h1.2.1.trans h2.2.1, h1.2.2.trans h2.2.2⟩
    · exact ⟨h1.1.trans h2.1, h1.2.1.trans h2.2.1, h1.2.2.trans h2.2.2⟩
  · exact ⟨h1.1.trans h2.1, h1.2.1.trans h2.2.1, h1.2.2.trans h2.2.2⟩

@[simp] theorem attnRaise_attention (b : Word) (s : State) : (attnRaise b s).desk.attention = s.desk.attention ||| b := by
  unfold attnRaise
  simp only
  split
  · split
    · exact (attnUpdate_attention _ _ _).1
    · exact (attnUpdate_attention _ _ _).1
  · exact (attnUpdate_attention _ _ _).1

@[simp] theorem attnRaise_events (b : Word) (s : State) : (attnRaise b s).desk.events = s.desk.events := by
  unfold attnRaise
  simp only
  split
  · split
    · exact (attnUpdate_attention _ _ _).2.1
    · exact (attnUpdate_attention _ _ _).2.1
  · exact (attnUpdate_attention _ _ _).2.1

theorem attnSet_logOnly (b : Word) (s : State) : LogOnly s (attnSet b s) := by
  unfold attnSet
  split
  · rfl
  · exact attnRaise_logOnly b s

theorem attnSet_time (b : Word) (s : State) : (attnSet b s).wall = s.wall ∧ (attnSet b s).dev = s.dev ∧ (attnSet b s).free = s.free := by
  unfold attnSet
  split
  · exact ⟨rfl, rfl, rfl⟩
  · exact attnRaise_time b s

theorem pushEv_logOnly (c : Nat) (d : List Byte) (s : State) : LogOnly s (pushEv c d s) := by
  unfold pushEv
  simp only
  split
  · refine LogOnly.trans (u := { s with desk.eventCount := _, desk.logDue := _, desk.events := _ }) rfl (attnRaise_logOnly _ _)
  · split
    · refine LogOnly.trans (u := { s with desk.eventCount := _, desk.logDue := _, desk.lostCount := _, desk.lostFirst := _ }) rfl
        (attnRaise_logOnly _ _)
    · rfl

theorem pushEv_time (c : Nat) (d : List Byte) (s : State) :
    (pushEv c d s).wall = s.wall ∧ (pushEv c d s).dev = s.dev ∧ (pushEv c d s).free = s.free := by
  unfold pushEv
  simp only
  split
  · exact attnRaise_time _ _
  · split
    · exact attnRaise_time _ _
    · exact ⟨rfl, rfl, rfl⟩

theorem countEv_logOnly (c : Nat) (d : List Byte) (s : State) : LogOnly s (countEv c d s) := by
  unfold countEv
  split
  · exact (pushEv_logOnly c d s).trans (pushEv_logOnly _ _ _)
  · exact pushEv_logOnly c d s

theorem countEv_time (c : Nat) (d : List Byte) (s : State) :
    (countEv c d s).wall = s.wall ∧ (countEv c d s).dev = s.dev ∧ (countEv c d s).free = s.free := by
  unfold countEv
  have h1 := pushEv_time c d s
  split
  · have h2 := pushEv_time 0x0009 (le 1 1 ++ le 1 0) (pushEv c d s)
    simp_all
  · exact h1

theorem pushLost_logOnly (s : State) : LogOnly s (pushLost s) := by
  unfold pushLost
  split
  · rfl
  · exact LogOnly.trans (u := { s with desk.lostCount := 0, desk.lostFirst := 0 }) rfl (countEv_logOnly _ _ _)

theorem pushLost_time (s : State) : (pushLost s).wall = s.wall ∧ (pushLost s).dev = s.dev ∧ (pushLost s).free = s.free := by
  unfold pushLost
  split
  · exact ⟨rfl, rfl, rfl⟩
  · exact countEv_time _ _ _

theorem logNow_logOnly (c : Nat) (d : List Byte) (s : State) : LogOnly s (logNow c d s) := by
  unfold logNow
  exact ((pushLost_logOnly s).trans (countEv_logOnly c d _)).trans (attnRaise_logOnly (evAttn c) _)

/-- Logging an event changes the event log and ATTENTION alone (R455, R456, R471). -/
theorem logEv_logOnly (c : Nat) (d : List Byte) (s : State) : LogOnly s (logEv c d s) := by
  unfold logEv
  split
  · rfl
  · exact logNow_logOnly c d s

theorem logNow_time (c : Nat) (d : List Byte) (s : State) :
    (logNow c d s).wall = s.wall ∧ (logNow c d s).dev = s.dev ∧ (logNow c d s).free = s.free := by
  unfold logNow
  have h1 := pushLost_time s
  have h2 := countEv_time c d (pushLost s)
  have h3 := attnRaise_time (evAttn c) (countEv c d (pushLost s))
  simp_all

theorem logEv_time (c : Nat) (d : List Byte) (s : State) :
    (logEv c d s).wall = s.wall ∧ (logEv c d s).dev = s.dev ∧ (logEv c d s).free = s.free := by
  unfold logEv
  split
  · exact ⟨rfl, rfl, rfl⟩
  · exact logNow_time c d s

theorem wrapEv_logOnly (o : CntW) (k c : Nat) (d : List Byte) (s : State) : LogOnly s (wrapEv o k c d s) := by
  unfold wrapEv
  split
  · exact logEv_logOnly _ _ _
  · rfl

theorem wrapEv_time (o : CntW) (k c : Nat) (d : List Byte) (s : State) :
    (wrapEv o k c d s).wall = s.wall ∧ (wrapEv o k c d s).dev = s.dev ∧ (wrapEv o k c d s).free = s.free := by
  unfold wrapEv
  split
  · exact logEv_time _ _ _
  · exact ⟨rfl, rfl, rfl⟩

/-! ### The event queue's bounds -/

/-- Bits of ATTENTION that stand survive a set. -/
theorem attnRaise_keeps (b : Word) (s : State) (i : Nat) (h : s.desk.attention.getLsbD i = true) :
    (attnRaise b s).desk.attention.getLsbD i = true := by
  rw [attnRaise_attention, BitVec.getLsbD_or, h, Bool.true_or]

/-- The queue's invariant (R442, R455): at most 1,024 entries, and EVENT reads 1 while one is queued. -/
def QueueOk (s : State) : Prop := s.desk.events.length ≤ 1024 ∧ (s.desk.events ≠ [] → s.desk.attention.getLsbD 8 = true)

theorem attnRaise_queueOk (b : Word) {s : State} (h : QueueOk s) : QueueOk (attnRaise b s) :=
  ⟨by rw [attnRaise_events]; exact h.1, fun g => attnRaise_keeps b s 8 (h.2 (by rwa [attnRaise_events] at g))⟩

theorem attnSet_queueOk (b : Word) {s : State} (h : QueueOk s) : QueueOk (attnSet b s) := by
  unfold attnSet
  split
  · exact h
  · exact attnRaise_queueOk b h

theorem pushEv_queueOk (c : Nat) (d : List Byte) {s : State} (h : QueueOk s) : QueueOk (pushEv c d s) := by
  unfold pushEv
  simp only
  split
  · next hl =>
    refine ⟨?_, fun _ => ?_⟩
    · rw [attnRaise_events]
      simp only [List.length_append, List.length_singleton]
      omega
    · rw [attnRaise_attention, BitVec.getLsbD_or]
      simp
  · split
    · exact attnRaise_queueOk _ h
    · exact h

theorem countEv_queueOk (c : Nat) (d : List Byte) {s : State} (h : QueueOk s) : QueueOk (countEv c d s) := by
  unfold countEv
  split
  · exact pushEv_queueOk _ _ (pushEv_queueOk c d h)
  · exact pushEv_queueOk c d h

theorem pushLost_queueOk {s : State} (h : QueueOk s) : QueueOk (pushLost s) := by
  unfold pushLost
  split
  · exact h
  · exact countEv_queueOk _ _ h

/-- Logging an event keeps the queue's invariant. -/
theorem logEv_queueOk (c : Nat) (d : List Byte) {s : State} (h : QueueOk s) : QueueOk (logEv c d s) := by
  unfold logEv logNow
  split
  · exact h
  · exact attnRaise_queueOk (evAttn c) (countEv_queueOk c d (pushLost_queueOk h))

theorem wrapEv_queueOk (o : CntW) (k c : Nat) (d : List Byte) {s : State} (h : QueueOk s) : QueueOk (wrapEv o k c d s) := by
  unfold wrapEv
  split
  · exact logEv_queueOk _ _ h
  · exact h

/-! ### Interrupt sources -/

theorem icLine_ic (s : State) : icLine s = { s with ic := (icLine s).ic } := rfl

/-- Pending a source changes the interrupt controller alone (R472 to R478). -/
theorem icPend_ic (n : Nat) (s : State) : icPend n s = { s with ic := (icPend n s).ic } := by
  unfold icPend
  simp only
  split
  · rfl
  · split <;> rfl

theorem icWake_ic (s : State) : icWake s = { s with ic := (icWake s).ic } := by
  unfold icWake
  split <;> rfl

theorem irqNow_ic (n : Nat) (s : State) : irqNow n s = { s with ic := (irqNow n s).ic } := by
  unfold irqNow
  rw [icPend_ic]
  unfold icCount
  rw [icWake_ic]
  rfl

theorem irq_ic (n : Nat) (s : State) : irq n s = { s with ic := (irq n s).ic } := by
  unfold irq
  split
  · rfl
  · exact irqNow_ic n s

theorem irqLevel_ic (n : Nat) (b : Bool) (s : State) : irqLevel n b s = { s with ic := (irqLevel n b s).ic } := by
  unfold irqLevel
  simp only
  split
  · rfl
  · split
    · exact irqNow_ic n s
    · rfl

/-- A change of the interrupt controller after one of the count of free values. -/
theorem ic_after_free {s w u : State} (h1 : u = { w with ic := u.ic }) (h2 : w = { s with free := w.free }) :
    u = { s with ic := u.ic, free := u.free } := by
  rw [h2] at h1
  rw [h1]

/-- An open input moves the interrupt controller and the count of free values alone (R472). -/
theorem irqOpen_ic (n : Nat) (s : State) : irqOpen n s = { s with ic := (irqOpen n s).ic, free := (irqOpen n s).free } := by
  unfold irqOpen
  split
  · rfl
  · have hv : (freeVal 2 s).2 = { s with free := (freeVal 2 s).2.free } := rfl
    generalize freeVal 2 s = v at hv ⊢
    simp only
    split
    · split
      · exact ic_after_free (irq_ic n v.2) hv
      · exact ic_after_free rfl hv
    · exact ic_after_free (irqLevel_ic n _ v.2) hv

/-- An edge that reaches a running controller leaves its source pending (R472). -/
theorem irq_pending (n : Nat) (s : State) (h : cStopped s = false) : (icSrc (irq n s) n).pending = true := by
  unfold irq irqNow icPend
  rw [if_neg (by rw [h]; simp)]
  simp only
  split
  · next hp => exact hp
  · split <;> simp [icLine, icSrc, setIcSrc]

/-! ### The mailbox protocol -/

@[simp] theorem length_le (n v : Nat) : (le n v).length = n := by
  induction n generalizing v with
  | zero => rfl
  | succ n ih => simp [le, ih]

@[simp] theorem length_zeros (n : Nat) : (zeros n).length = n := List.length_replicate

theorem respBytes_length (op result tag : Nat) (p : List Byte) (h : result = rOK ∨ result = rBadParam ∨ result = rSealLate ∨ result = rRange) :
    respBytes op result tag p = le 2 op ++ le 2 result ++ le 4 tag ++ le 2 p.length ++ le 2 0 ++ p := by
  unfold respBytes
  rcases h with h | h | h | h <;> subst h <;> rfl

/-- Completion on the mailbox of an SPI request (R447, R452): DONE, MB_LAST and the response bytes, as far as the buffer holds them. -/
theorem mbDone_mailbox (k op result tag : Nat) (p : List Byte) (s : State) (h : (mb s k).origin = none) :
    let u := mbDone k op result tag p s
    (mb u k).st = 2 ∧ (mb u k).lastResult = result ∧ (mb u k).lastOpcode = op
      ∧ (mb u k).buf = cputs 0 (mb s k).buf 0 ((respBytes op result tag p).take 256) := by
  unfold mbDone
  simp only [h]
  rw [LogOnly.mb (attnSet_logOnly _ _), mb_setMb, if_pos rfl]
  exact ⟨rfl, rfl, rfl, rfl⟩

/-- Completion touches the log, ATTENTION and its own mailbox alone (R447). -/
theorem mbDone_deskOnly (k op result tag : Nat) (p : List Byte) (s : State) (h : (mb s k).origin = none) :
    DeskOnly k s (mbDone k op result tag p s) := by
  unfold mbDone
  simp only [h]
  constructor
  · have h1 := wrapEv_logOnly (mb s k).completed 1 0x0009 (le 1 2 ++ le 1 k) s
    unfold LogOnly at h1
    generalize wrapEv (mb s k).completed 1 0x0009 (le 1 2 ++ le 1 k) s = v at h1 ⊢
    generalize ha : setMb v k _ = w
    have h2 := attnSet_logOnly (BitVec.ofNat 32 (2 ^ k)) w
    unfold LogOnly at h2
    generalize attnSet (BitVec.ofNat 32 (2 ^ k)) w = z at h2 ⊢
    rw [h2, ← ha, h1]
    rfl
  · intro j hj
    rw [LogOnly.mb (attnSet_logOnly _ _), mb_setMb, if_neg hj, LogOnly.mb (wrapEv_logOnly _ _ _ _ _)]

theorem take_self_of_length {l : List Byte} {n : Nat} (h : l.length ≤ n) : l.take n = l := List.take_of_length_le h

/-- A response that fits the buffer is what the mailbox holds (R446, R452). -/
theorem mbDone_answered (r : Req) (op result : Nat) (p : List Byte) (s : State) (h : (mb s r.mb).origin = none)
    (hr : result = rOK ∨ result = rBadParam ∨ result = rSealLate ∨ result = rRange) (hp : p.length ≤ 244) :
    Answered r op result p (mbDone r.mb op result r.tag p s) := by
  obtain ⟨h1, h2, h3, h4⟩ := mbDone_mailbox r.mb op result r.tag p s h
  refine ⟨h1, h2, h3, ?_⟩
  rw [h4, respBytes_length op result r.tag p hr]
  have hl : (le 2 op ++ le 2 result ++ le 4 r.tag ++ le 2 p.length ++ le 2 0 ++ p).length = 12 + p.length := by
    simp only [List.length_append, length_le]
  rw [take_self_of_length (by rw [hl]; omega), ← hl, cgets_cputs]

/-- The state a request starts in when nothing else waits: rung on its mailbox and taken from the doorbell order. -/
def started (op t : Nat) (r : Req) (s : State) : State := { mbRing r.mb (reqBytes op r) none (advance t s) with desk.waiting := [] }

/-- A ready desk starts the request at once (R447, R448). -/
theorem command_started {c : CmdSpec} {lenOk : List Byte → Bool} {body : Nat → Req → State → CmdOut} {t : Nat} {r : Req} {s : State}
    (h : Ready r s) : command c lenOk body t r s = runCmd c lenOk body r (started c.op t r s) := by
  obtain ⟨h1, h2, h3, h4, h5, h6⟩ := h
  unfold command
  have a : ¬(7 < r.mb ∨ deskAnswers r.mb (advance t s) = false) := by
    simp only [deskAnswers, advance_desk, h4, Bool.not_false, Bool.true_or, Bool.and_true, not_or]
    exact ⟨by omega, by simp [h2, h3]⟩
  have b : ¬(mb (advance t s) r.mb).st = 1 := h5
  have d : (advance t s).desk.waiting = [] := h6
  simp only [if_neg a, if_neg b, if_pos d, started]

/-- The mailbox of a started request. -/
theorem started_mbs (op t : Nat) (r : Req) (s : State) :
    (started op t r s).desk.mbs = tput {} s.desk.mbs r.mb { bufPut (mb s r.mb) (reqBytes op r) with st := 1, inBand := false, origin := none, rungAt := some (cycleNow (advance t s)) } := by
  unfold started mbRing
  simp only
  rw [irq_ic]
  rfl

theorem started_mb (op t j : Nat) (r : Req) (s : State) :
    mb (started op t r s) j = if j = r.mb then { bufPut (mb s r.mb) (reqBytes op r) with st := 1, inBand := false, origin := none, rungAt := some (cycleNow (advance t s)) } else mb s j := by
  unfold mb
  rw [started_mbs, tget_tput]
  rfl

/-- Starting a request moves time, the interrupt controller and its own mailbox alone. -/
theorem started_deskOnly (op t : Nat) (r : Req) (s : State) (h : s.desk.waiting = []) : DeskOnly r.mb (advance t s) (started op t r s) := by
  constructor
  · unfold started mbRing
    simp only
    rw [irq_ic]
    simp only [logOf, setMb, advance, h, ringOrder]
  · intro j hj
    rw [started_mb, if_neg hj, mb_advance]

/-- A request over the mailbox registers has no in-band origin. -/
theorem started_origin (op t : Nat) (r : Req) (s : State) : (mb (started op t r s) r.mb).origin = none := by
  rw [started_mb, if_pos rfl]

/-- A request that passes the desk's own tests runs its command (R454). -/
theorem runCmd_body {c : CmdSpec} {lenOk : List Byte → Bool} {body : Nat → Req → State → CmdOut} {r : Req} {s : State}
    (h1 : c.mbLo ≤ r.mb) (h2 : r.mb ≤ c.mbHi) (h3 : c.level ≤ s.desk.debug) (h4 : r.payload.length ≤ 248) (h5 : lenOk r.payload = true)
    (h6 : s.desk.recovery = false) :
    runCmd c lenOk body r s = (match body c.op r s with
      | .done result payload u => mbDone r.mb c.op result r.tag payload u
      | .pending u => u) := by
  unfold runCmd
  rw [if_neg (by omega), if_neg (by rw [h5]; simp; omega), if_neg (by rw [h6]; simp)]
  all_goals rfl

/-- A doorbell puts its mailbox among those that wait, and changes nothing of their number or of who they are (R448). -/
theorem ringOrder_perm (s : State) (k : Nat) : ∀ l : List Nat, (ringOrder s k l).Perm (k :: l)
  | [] => .refl _
  | j :: r => by
    simp only [ringOrder]
    split
    · exact .refl _
    · exact ((ringOrder_perm s k r).cons j).trans (.swap k j r)

@[simp] theorem length_ringOrder (s : State) (k : Nat) (l : List Nat) : (ringOrder s k l).length = l.length + 1 := by
  simpa using (ringOrder_perm s k l).length_eq

/-! ### Segments of the pulse monitors -/

/-- Segments whose frame was discarded stay in the store, each at its place (R281). -/
@[simp] theorem length_unformFirst : ∀ (n : Nat) (l : List Seg), (unformFirst n l).length = l.length
  | 0, _ => by simp only [unformFirst]
  | _ + 1, [] => by simp only [unformFirst]
  | n + 1, x :: l => by
    simp only [unformFirst]
    split <;> simp [length_unformFirst]

theorem segBack_segs (newest : Bool) (f : BFrame) (s : State) : segBack newest f s = { s with nk.segs := (segBack newest f s).nk.segs } := by
  unfold segBack
  split <;> rfl

/-! ### Every command answers -/

/-- No command stops the machine: exec answers a next state on every command and state. -/
theorem exec_next (i : Instr) (s : State) : ∃ u, exec i s = .next u := by
  cases i <;> exact ⟨_, rfl⟩

/-- While the units run, an event acts after time has moved (R37, R524). -/
theorem live_awake {t : Nat} {f : State → State} {s : State} (h : Awake s) : live t f s = f (advance t s) :=
  if_neg fun g => g.elim h.1 h.2

/-- In RESET and FROZEN an event of a stopped domain only lets time pass. -/
theorem live_stopped {t : Nat} {f : State → State} {s : State} (h : s.desk.st = 0 ∨ s.desk.st = 7) : live t f s = advance t s :=
  if_pos h

end Sys2Proof.Machine
end

