-- ==== Sys2Proof/WellFormed.lean ====
section
/-! DEFINITION. WellFormed.lean: the commands whose operands lie in the ranges the specification gives them. The machine's meanings
take any operand; a command that is not well-formed stands for nothing the device can meet. -/

namespace Sys2Proof

/-- A request the mailbox protocol can carry (R450, R451): eight mailboxes, a u32 tag, a u16 length. -/
def Req.wf (r : Req) : Bool := decide (r.mb < 8) && decide (r.tag < 2 ^ 32) && decide (r.payload.length < 2 ^ 16)

/-- A frame as the MAC hands it up (R329, R434): a host lane, 48-bit addresses, 16-bit EtherType and tag. -/
def Frame.wf (f : Frame) : Bool :=
  decide (f.lane < 8) && decide (f.src < 2 ^ 48) && decide (f.dst < 2 ^ 48) && decide (f.etherType < 2 ^ 16)
    && (match f.tci with | some v => decide (v < 2 ^ 16) | none => true)

/-- A fire record (R184): sixteen strings of eight emitters, 12-bit ISET. -/
def FireRec.wf (r : FireRec) : Bool := decide (r.str < 16) && decide (r.em < 8) && decide (r.iset < 4096)

/-- What the pulse monitor's checker receives of a record. -/
def LinkRx.wf : LinkRx → Bool
  | .altered r => r.wf
  | _ => true

/-- An access at one of the host's ports: a fabric address has 32 bits. -/
def Access.wf : Access → Bool
  | .fabric a => decide (a < 2 ^ 32)
  | _ => true

/-- Counts of a tap scan (R306): one per number of taps passed, 0 to 95. -/
def scansWf (q : Tab (List Nat)) : Bool := q.all (fun p => decide (p.1 < 1024) && decide (p.2.length ≤ 96))

/-- Results of the factory sequence (R314, R316, R327): status 0 or 2 to 7, trims within their encodings. -/
def FactoryResult.wf (f : FactoryResult) : Bool :=
  decide (f.failStep ≠ 1) && decide (f.failStep ≤ 7) && scansWf f.scans
    && f.codes.all (fun p => decide (p.1 < 1024) && decide (p.2.length ≤ 64))
    && decide (f.fire.length ≤ 16) && f.fire.all (fun v => decide (-32768 ≤ v) && decide (v ≤ 32767))
    && decide (f.pmon.length ≤ 4) && f.pmon.all (fun v => decide (v < 2 ^ 32))
    && decide (f.senseO.length ≤ 64) && f.senseO.all (fun v => decide (-2147483648 ≤ v) && decide (v ≤ 2147483647))
    && decide (f.senseM.length ≤ 64) && f.senseM.all (fun v => decide (v < 2 ^ 32))

/-- A command whose operands lie in their ranges. -/
def Instr.wf (i : Instr) : Bool :=
  match i with
  | .paramGet _ r => r.wf
  | .paramSet _ r => r.wf
  | .paramSeal _ r => r.wf
  | .paramList _ r => r.wf
  | .devRun _ r => r.wf
  | .devStop _ r => r.wf
  | .eventRead _ r => r.wf
  | .fwWrite _ r => r.wf
  | .fwUpdate _ box payload => Req.wf ⟨box.1, box.2, payload⟩
  | .devReset _ r => r.wf
  | .debugChallenge _ r => r.wf
  | .debugResponse _ box payload => Req.wf ⟨box.1, box.2, payload⟩
  | .devIdentity _ r => r.wf
  | .chmapWrite _ r => r.wf
  | .chmapRead _ r => r.wf
  | .chCountersRead _ r => r.wf
  | .chEventCapture _ r => r.wf
  | .captureDone _ => true
  | .ambientRead _ r => r.wf
  | .passportRead _ r => r.wf
  | .tallyCountersRead _ r => r.wf
  | .stackStatusRead _ r => r.wf
  | .templateWrite _ r => r.wf
  | .extCountersRead _ r => r.wf
  | .itinWrite _ r => r.wf
  | .itinRead _ r => r.wf
  | .itinValidate _ r => r.wf
  | .curveWrite _ r => r.wf
  | .planRoiSet _ r => r.wf
  | .emitCountersRead _ r => r.wf
  | .servoLawWrite _ r => r.wf
  | .servoTableWrite _ r => r.wf
  | .servoStatusRead _ r => r.wf
  | .tpRead _ r => r.wf
  | .senseRead _ r => r.wf
  | .senseFirWrite _ r => r.wf
  | .senseLeadMeasure _ r => r.wf
  | .senseStatusRead _ r => r.wf
  | .streamConfig _ r => r.wf
  | .rawRequest _ r => r.wf
  | .macsecKeySet _ r => r.wf
  | .motionFeed _ r => r.wf
  | .streamStatusRead _ r => r.wf
  | .laneRetrain _ r => r.wf
  | .laneTest _ r => r.wf
  | .laneStatusRead _ r => r.wf
  | .laneEyeScan _ r => r.wf
  | .eyeScanDone _ low high count => decide (low.length ≤ 3) && decide (high.length ≤ 3) && decide (count.length ≤ 3)
      && low.all (fun c => decide (c.length ≤ 127)) && high.all (fun c => decide (c.length ≤ 128)) && count.all (fun c => decide (c ≤ 2 ^ 40))
  | .trigSend _ r => r.wf
  | .twinRingStatusRead _ r => r.wf
  | .healthRead _ r => r.wf
  | .healthSensorRetire _ r => r.wf
  | .nkCommission _ r => r.wf
  | .nkSetWrite _ r => r.wf
  | .nkConfirm _ r => r.wf
  | .nkSetConfirmed _ => true
  | .nkStatusRead _ r => r.wf
  | .nkLedgerRead _ r => r.wf
  | .nkFaultClear _ r => r.wf
  | .calFactoryRun _ r => r.wf
  | .calFactoryDone _ f => f.wf
  | .calTapReselect _ r => r.wf
  | .calReselectDone _ q => scansWf q
  | .calOffsetMeasure _ r => r.wf
  | .calTwinSkewMeasure _ r => r.wf
  | .calMeasureDone _ => true
  | .calStatusRead _ r => r.wf
  | .dmaXfer _ r => r.wf
  | .dmaXferDone _ => true
  | .logControl _ r => r.wf
  | .memStatusRead _ r => r.wf
  | .fwEraseDone _ => true
  | .mailboxOverrun _ mb => decide (mb < 8)
  | .registerWrite _ a _ => a.wf
  | .attentionClear _ _ => true
  | .attnEnableWrite _ _ => true
  | .attnModerationExpiry _ => true
  | .freeze _ _ => true
  | .thaw _ _ => true
  | .freezeN _ _ => true
  | .icTake _ => true
  | .finish _ src => decide (src < 768)
  | .cntClr _ src => decide (src < 768)
  | .icSoft _ _ => true
  | .moderationRelease _ group => decide (group < 16)
  | .processorIdle _ => true
  | .dmaGo _ chan => decide (chan < 8)
  | .haltedClear _ stream chan => decide (chan < 32) && (stream || decide (chan < 8))
  | .dmaRecord _ chan _ => decide (chan < 32)
  | .dmaBurstEnd _ engine _ _ => decide (engine < 4)
  | .mgmtRequest _ f => f.wf
  | .mgmtRegisterRead _ f => f.wf
  | .mgmtRegisterWrite _ f => f.wf
  | .windowWrite _ f => f.wf
  | .windowRead _ f => f.wf
  | .receivedFrameDropped _ f => f.wf
  | .gptpFrame _ lane _ => decide (lane < 8)
  | .syncReceiptTimeout _ => true
  | .timeHoldoverExpiry _ => true
  | .motionStale _ => true
  | .porstNAssert _ => true
  | .porstNRelease _ => true
  | .nkSelftest _ item => decide (item.1 < 5) && item.2.length == 4 && item.2.all (fun c => decide (c < 1024))
  | .resetNAssert _ => true
  | .resetNRelease _ claim32 _ _ => decide (claim32 < 4)
  | .commandReset _ => true
  | .bootComplete _ _ => true
  | .watchdog _ _ => true
  | .tempSample _ readings => decide (readings.length = 24)
  | .throttleStepTimer _ => true
  | .voltageSample _ mv => decide (mv.length = 12)
  | .healthVoltage _ rail => decide (rail < 12)
  | .voltageFault _ rail => decide (rail < 12)
  | .ageingMeasure _ counts => decide (counts.length = 16)
  | .healthScoreUpdate _ => true
  | .lineStart _ facet => decide (facet < 16)
  | .lineEnd _ => true
  | .setInstant _ str => decide (str < 16)
  | .fireEdge _ str => decide (str < 16)
  | .fireWidthEnd _ str => decide (str < 16)
  | .shuntHoldEnd _ str => decide (str < 16)
  | .detectorEvent _ chan passed => decide (chan < 1024) && decide (passed < 96)
  | .rearm _ chan => decide (chan < 1024)
  | .chStuckHigh _ chan => decide (chan < 1024)
  | .coincidenceDecision _ chan => decide (chan < 1024)
  | .tallyService _ rod => decide (rod < 64)
  | .pointStart _ chan => decide (chan < 1024)
  | .scoutRunStart _ rod => decide (rod < 64)
  | .scoutRunEnd _ rod => decide (rod < 64)
  | .fineReplayDone _ rod => decide (rod < 64)
  | .pointEnd _ chan => decide (chan < 1024)
  | .pageClose _ chan => decide (chan < 1024)
  | .extractorService _ deck => decide (deck < 8)
  | .extractionComplete _ deck => decide (deck < 8)
  | .stackReadDone _ chan => decide (chan < 1024)
  | .pageRelease _ chan => decide (chan < 1024)
  | .ambientIntervalStart _ => true
  | .ambientPublish _ => true
  | .sealDeadline _ => true
  | .frameBoundaryEvent _ => true
  | .frameEnd _ => true
  | .bluwardFlush _ slot cls => decide (slot < 8) && decide (cls < 6)
  | .keyClose _ slot cls => decide (slot < 8) && decide (cls < 6)
  | .linkFree _ lane => decide (lane < 8)
  | .pointToken _ => true
  | .servoSample _ servo _ => decide (servo < 4)
  | .polyMark _ raw => decide (raw < 64)
  | .markMissing _ => true
  | .tpEdge _ port raw _ => decide (port < 16) && decide (raw < 64)
  | .tpHoldoffEnd _ port => decide (port < 16)
  | .tpGateEnd _ port => decide (port < 16)
  | .tpGateResult _ port => decide (port < 16)
  | .decimationBlock _ sense _ _ _ _ => decide (sense < 8)
  | .senseSample _ _ _ _ => true
  | .settlingEnd _ sense => decide (sense < 8)
  | .senseLeadDone _ sense => decide (sense < 8)
  | .fireRecord _ a b => a.wf && b.wf
  | .integrationDone _ pmon samples => decide (pmon < 4) && (samples.1 ++ samples.2).all (fun v => decide (v < 1024))
  | .strayPulse _ pmon _ => decide (pmon < 4)
  | .segmentTrigger _ pmon trig samples =>
    decide (pmon < 4) && decide (trig < 8) && (samples.1 ++ samples.2).all (fun v => decide (v < 1024))
  | .segmentRearm _ pmon => decide (pmon < 4)
  | .stallWindowEnd _ => true
  | .clockCheck _ _ => true
  | .ledgerScrub _ _ => true
  | .subBinBoundary _ window => decide (window < 3)
  | .headSwitch _ _ => true
  | .hvFbChange _ _ => true
  | .contactorStuck _ => true
  | .hvFbOpen _ => true
  | .enableReadback _ pad => decide (pad.1 < 256)
  | .hvCutNAssert _ => true
  | .permissionGrant _ => true
  | .laserTempTimeout _ => true
  | .nkDegradedClock _ => true
  | .degradedClockClear _ => true
  | .cdCandidate _ chan => decide (chan < 1024)
  | .cdBlendStep _ => true
  | .calSave _ => true
  | .laneSelfCheckDone _ lane _ => decide (lane < 10)
  | .negotiationComplete _ lane partnerMask => decide (lane < 10) && decide (partnerMask < 65536)
  | .twinHello _ lane _ => decide (lane < 10)
  | .trainTimeout _ lane => decide (lane < 10)
  | .laneUp _ lane => decide (lane < 10)
  | .laneDown _ lane _ => decide (lane < 10)
  | .laneRetry _ lane => decide (lane < 10)
  | .claimRoundStart _ => true
  | .claimRoundEnd _ _ _ => true
  | .twinStatus _ strap _ _ _ _ _ => decide (strap < 16)
  | .twinStatusTimeout _ => true
  | .lineNotice _ _ line facet _ => decide (line < 64) && decide (facet < 16)
  | .noticeMiss _ => true
  | .lineCopy _ _ => true
  | .serviceSetReceived _ _ => true
  | .ownerFireStamp _ str => decide (str < 16)
  | .ringBeat _ _ _ => true
  | .ringInsertion _ => true
  | .leaderTakeover _ => true
  | .ringHoldover _ => true
  | .ringLockLost _ => true
  | .trigIoPulse _ pulse => decide (pulse.1 < 64)
  | .triggerAction _ code => decide (code < 256)
  | .logFrozen _ => true
  | .vddNkWindowChange _ _ => true
  | .tAbsent _ => true
  | .nkPeerCutNChange _ _ => true
  | .pmonBaselineFault _ p => decide (p.1 < 4) && decide (p.2 < 1024)
  | .pmonChannelClear _ p => decide (p.1 < 4) && decide (p.2 < 1024)
  | .confirmWriteTimeout _ => true
  | .checkerLock _ lane => decide (lane < 10)
  | .checkerLockLoss _ lane _ => decide (lane < 10)
  | .patrolScrub _ _ kind => decide (kind < 3)
  | .firmwareTimer _ timer => decide (timer < 16)
  | .ringCycleStart _ => true
  | .peerDelayRequest _ => true

end Sys2Proof
end

