-- ==== Sys2Proof/Tests/Slice0.lean ====
section
/-! SUPPORT. Tests/Slice0.lean: witnesses that the hypotheses of every statement are met together, one theorem per clause;
ill-formed commands that WellFormed refuses; and small checks of single commands against values the specification gives. -/

namespace Sys2Proof.Tests
set_option Elab.async false
open Sys2Proof.Machine

/-- The cells that consecutive bytes leave in an empty memory whose unlisted byte is 0. -/
def cellsFrom : Nat → List Byte → List Host.Cell
  | _, [] => []
  | a, b :: l => if b = 0 then cellsFrom (a + 1) l else (a, b) :: cellsFrom (a + 1) l
/-- A device in READY. -/
def sReady : State := { State.reset with desk.st := 2 }
/-- A device in RUN. -/
def sRun : State := { State.reset with desk.st := 4 }
/-- A request on a mailbox. -/
def rq (k : Nat) (p : List Byte) : Req := { mb := k, tag := 7, payload := p }
/-- A payload from bytes given as numbers. -/
def by_ (l : List Nat) : List Byte := l.map (BitVec.ofNat 8)
/-- `n` zero bytes after some given ones, `m` in all. -/
def pad (m : Nat) (l : List Nat) : List Byte := by_ l ++ zeros (m - l.length)
def sFrozen : State := { sReady with desk.st := 7, desk.lab := true, rst.from_ := 4, dev := 50, wall := 60 }
def sHeld : State := { sReady with desk.st := 0, wall := 60, rst.causes := 2, rst.heldAt := some 10 }
def rungDesk : Desk := { sReady.desk with mbs := [(2, { st := 1, buf := cellsFrom 0 (reqBytes 0x0018 (rq 2 [])) })], waiting := [2] }
def sRung : State := { sReady with desk := rungDesk }
def sBusy : State := { sReady with desk.mbs := [(2, { st := 1 })] }
/-- A payload of little-endian fields given as (size, value). -/
def flds (l : List (Nat × Nat)) : List Byte := l.flatMap (fun p => le p.1 p.2)
def sRecov : State := { State.reset with desk.recovery := true, desk.rom := true }
/-- Parameters as immediate values. -/
def withIm (l : List (Nat × Nat × Nat)) (s : State) : State :=
  { s with par.im := l.foldl (fun m p => tput none m (pKey p.1 p.2.1) (some p.2.2)) s.par.im }
def smp1 : Smp := { time := 3, value := -4, gain := 1, flags := 0, seq := 9 }
def snsCfgW : List Nat := [1, 0, 1, 3, 0, 1, 0, 0, 100, 10, 0, 0, 0, 0, 0, 0]
def sSns : State := withIm [(pSenseEnable, 7, 1)] { sReady with sns := [(7, { on := true, cfg := snsCfgW, queue := [smp1, smp1] })] }
def sLead3 : State := { sReady with sns := [(7, { on := true, cfg := snsCfgW, lead := some { step := 3, n := 0, sum := (0, 1), cur := 0 }, settle := some 5 })] }
def sSnsRun : State := { sSns with sns := [(7, { on := true, cfg := snsCfgNow sSns 7, queue := [smp1, smp1] })] }
def sSnsDue : State := { sReady with sns := [(7, { on := true, cfg := snsCfgW, queue := [smp1, smp1], chain.due := true })] }
def sUp0 : State := { sReady with lan.ch := [(0, { st := 4, rate := 3 }), (3, { st := 4, rate := 3 })], tim.st := 1 }
def sMot : State := withIm [(pMotionMode, 0, 1)] sUp0
def ann1 : Announce := { prio1 := 100, clkClass := 6, accuracy := 0x21, variance := 9, prio2 := 1, gm := 77, steps := 1, src := 9, interval := 0 }
/-- A valid commissioning set: one sector, four facets, string 0's emitter 0, every limit of sector 0 set. -/
def nkSet : List Host.Cell :=
  let h := flds [(2, 1), (2, 1984), (4, 77), (2, 1), (1, 1), (1, 4), (4, 0), (4, 1000), (4, 2000), (4, 4000), (4, 100), (4, 200), (4, 1), (1, 1), (1, 0),
    (2, 4095), (4, 10), (4, 20), (4, 5), (1, 1)]
  let b := flds ([(4, 256), (4, 100)] ++ (List.range 7).flatMap (fun j => [(2, 100 * (j + 1)), (2, 0), (4, 10 * j)]))
  let k : List Byte := flds [(4, 100000), (124, 0)]
  cellsFrom 0 (h ++ zeros (64 - h.length) ++ (List.range 16).flatMap (fun _ => b ++ zeros (64 - b.length)) ++ k ++ k ++ k ++ flds [(2, 0), (1, 64), (1, 0)])
def sNk : State := { sReady with nk.conf := some nkSet, nk.testing := false, nk.passed := true, pins.headSw := false, pins.hvCut := false, pins.hvFb := true, nk.marks.tm := some 9600, nk.stallAdv := 5 }
def sEmit : State := { sNk with desk.st := 4, pins.lsrA := true, pins.lsrB := true, wall := 10 * tMs, dev := 10 * tMs }
def gate1 : Gate := { str := 0, em := 0, stamp := 100, stop := 164, ex := 50, nth := 1 }
def sPm : State := { sEmit with nk.pm := [(0, { gates := [gate1] })] }
def sCommi : State := { sNk with desk.st := 3, nk.cand := nkSet, nk.candOk := true, nk.confirm := some (4, 7, 5), desk.mbs := [(4, { st := 1 })] }
def sNonce : State := { sNk with desk.st := 3, nk.cand := nkSet, nk.candOk := true, nk.nonce := some (99, 5) }
def fire1 : FireRec := { str := 0, em := 0, stamp := 10 * tMs, iset := 300, seq := 1 }
def fire2 : FireRec := { str := 0, em := 0, stamp := 10 * tMs + 2000, iset := 300, seq := 2 }
def sLinks : State := { sEmit with nk.links := [fire1, fire2] }
/-- A small valid set: codes 0 to 6 at every string's breakpoints, one emitter, one sector. -/
def okSet : List Host.Cell :=
  let h := flds [(2, 1), (2, 1984), (4, 77), (2, 1), (1, 1), (1, 4), (4, 0), (4, 1000), (4, 2000), (4, 4000), (4, 0), (4, 1), (4, 1), (1, 1), (1, 0),
    (2, 4095), (4, 0), (4, 1), (4, 5), (1, 1)]
  let b := flds ([(4, 0), (4, 0)] ++ (List.range 7).map (fun j => (8, j)))
  let k : List Byte := flds [(4, 9), (124, 0)]
  cellsFrom 0 (h ++ zeros (64 - h.length) ++ (List.range 16).flatMap (fun _ => b) ++ k ++ k ++ k ++ flds [(2, 0), (1, 64), (1, 0)])
def sOkCand : State := { sNonce with nk.cand := okSet }
/-- Nerrak past its self-test, nothing commissioned. -/
def sChecks : State := { sReady with nk.testing := false, nk.passed := true }
def sSrv : State := { sReady with srv.ch := [(0, { mode := 2, marks := { ta := some 0, tm := some 6400000 }, u := 300 })], dev := 9000000, wall := 9000000 }
def sTp : State := { sReady with srv.tp := [(5, { queue := List.replicate 30 (500, true), hold := some 7000, fitting := some (90, [1, 40, 79], 2), stamps := [5, 80] })] }
/-- A one-line image: 8-byte header fields, the line table, the line, one cell of one cycle. -/
def img1 : List Host.Cell :=
  cellsFrom 0 (flds [(2, 1), (1, 1), (1, 0), (4, 9), (4, 104), (20, 0), (4, 40), (4, 0), (2, 100), (2, 1000), (2, 1), (1, 255), (1, 0), (2, 0x8000), (6, 0),
    (2, 1), (1, 0), (1, 1), (1, 0), (1, 8), (1, 5), (1, 0), (2, 0), (1, 255), (1, 0), (16, 255), (16, 100)])
def line1 : LineRun := { line := 0, tls := 2000, facet := 0, p := 1000, slots := 8 }
def sScan : State := withIm [(pEmitPresent, 0, 255)] { sEmit with
  par.inForce.itin := img1, par.inForce.itinHas := true, par.inForce.vals := [(pKey pEmitPresent 0, some 255), (pKey pEmitGalvoServo 0, some 4)]
  srv.poly := { locked := true, angle := some 100 }
  srv.ch := [(0, { marks := { ta := some 1000000000, tm := some 6400000, hist := [(1000000000, 6400000)] } })]
  nk.laserOut := false, nk.chgHeld := false, nk.faults := 0, sch.chgReq := 0, wall := 1000000100, dev := 1000000100 }
def sLine : State := { sScan with sch.notBefore := 0, sch.line := some line1, sch.running := true, wall := 1000000200, dev := 1000000200 }
def shot1 : Placed := { slot := 1, em := 3, edge := 250000, launch := 250000, iset := 700, drive := true, shift := true, capped := false }
def sShot : State := { sLine with sch.strs := [(0, { placed := some shot1, shunt := 8, iset := 700, fireEdge := 100, fire := true })] }
def sStand : State := withIm [(pTwinEnable, 0, 1)] { sReady with par.boBoot := [(pKey pTwinEnable 0, some 1)], twn.strap := 1 }
def sRehand : State := { sScan with sch.rehand := true, par.inForce.vals := [(pKey pEmitPresent 0, some 255), (pKey pEmitGalvoServo 0, some 1)], par.inForce.itin := cputs 0 img1 48 [5, 0] }
def sLineElsewhere : State := { sScan with par.inForce.itin := cputs 0 img1 47 [3] }
def lineDone : Tab Strng := (List.range 16).map (fun i => (i, { nextSlot := 8 }))
def cap1 : Capture := { chan := 5, count := 2, until_ := 900, stamps := [10, 20], mb := 3, tag := 7 }
def sCap : State := { sReady with capture := some cap1, desk.mbs := [(3, { st := 1 })] }
def fired1 : Shot := { str := 0, em := 3, stamp := 1000000000, first := 1000000000, frame := 0, line := 0, point := 0, nth := 1, cell := 0, n := 1, zoom := 0, b := 8, f := 5, o := 0, raw := 0, gate := none, gen := 0 }
def map5 : ChMap := { row := 1, col := 1, str := 0, em := 3, nbr := [6, 7] }
def sDet : State := { sLine with par.inForce.chmap := [(5, some map5)], sch.shots := [fired1] }
def qe1 : QEnt := { stamp := 1000000100, gen := 0, out := false }
def sPend : State := { sDet with ch := [(5, { pend := [qe1], recent := [1000000100] }), (6, { recent := [1000000101] }), (7, { recent := [1000000102] })] }
def sFull : State := { sPend with ch := [(5, { pend := [qe1], recent := [1000000100], queue := List.replicate 8 9 }), (6, { recent := [1000000101] }), (7, { recent := [1000000102] })] }
def sShed : State := { sPend with ch := [(5, { shedding := true, pend := [qe1], recent := [1000000100], queue := List.replicate 4 9 }), (6, { recent := [1000000101] }), (7, { recent := [1000000102] })] }
def sIval : State := { sDet with amb.interval := some { start := 999999000, frame := 4, line := 0, idx := 3 }, sch.line := none }
def sIvalClosed : State := { sDet with amb.interval := some { start := 999999000, frame := 4, line := 0, idx := 3, close := 999999500 } }
def pt1 : PtRef := { frame := 0, line := 0, point := 0, page := some 10, merged := false, shots := 1, first := 1000000000, last := 1000000000, cause := 0, ended := false }
def pg1 : Page := { st := 1, coarse := [(3, 9)], d := { first := 1000000000, last := 1000000000, shots := 1, b := 8, f := 5 } }
def sPage : State := { sDet with sch.line := none, ch := [(5, { pts := [pt1] })], tal.pages := [(10, pg1)] }
def sNoPage : State := { sPage with ch := [(5, { pts := [{ pt1 with page := none, cause := 1 }] })], tal.pages := [] }
def sHeldPg : State := { sPage with tal.pages := [(10, { pg1 with st := 2, endedAt := 77 })] }
def sServed : State := { sPage with tal.pages := [(10, { pg1 with st := 3, slotEnd := some 5000 })] }
def sScout : State := { sPage with tal.pages := [(10, { pg1 with scout := 1, scoutAt := 10 })] }
def sScoutRun : State := { sPage with tal.pages := [(10, { pg1 with scout := 2, scoutAt := 10 })], tal.rods := [(0, { run := some (10, 50) })] }
def sReplay : State := { sPage with tal.pages := [(10, { pg1 with scout := 3 }), (12, { pg1 with scout := 1 })], tal.rods := [(0, { hold := [{ page := 10, delta := 77 }, { page := 12, delta := 99 }] })] }
def sStackPg : State := { sPage with
  par.inForce.vals := [(pKey pTallyStackMask 5, some 1), (pKey pTallyStackDepth 0, some 4)], mem.stackMB := 4
  tal.decks := [(0, { allow := 5000 })], tal.pages := [(10, { pg1 with st := 3, stackDue := true, slotEnd := some 5000 })] }
def sQueued : State := { sHeldPg with ext.decks := [(0, { queue := [{ rod := 0, at_ := 9, pages := [10] }] })] }
def ret1 : Ret := { bin := 3, win := none, tq := 5000, range := 100, intens := 3, width := 4, quality := 9, flags := 0, diffuse := false }
def svc1 : Service := { page := 10, frame := 0, line := 0, first := 1000000000, last := 1000000000, gen := 0, chan := 5, cellKey := 0, start := 100, rep := [ret1], sup := [], recs := [{ typ := 1, cls := 1, frame := 0, gen := 0, bytes := zeros 32 }] }
def sServ : State := { sHeldPg with ext.decks := [(0, { services := [svc1] })] }
def sHeldStack : State := { sStackPg with tal.pages := [(10, { pg1 with st := 2, endedAt := 77 })] }
def talAt (g : Page) : State := { sPage with ch := [(5, { queue := [queueWord 1000000100], pts := [pt1] })], tal.pages := [(10, g)] }
def sTalFine : State := talAt { pg1 with d := { pg1.d with zoom := 1, win := [0, 64] } }
def sTalHold : State := talAt { pg1 with scout := 1, d := { pg1.d with zoom := 1 } }
def sTalMax : State := talAt { pg1 with coarse := [(0, 4095)], fine := [(65, 16383)], d := { pg1.d with zoom := 1, win := [3000, 64] } }
def sMerge : State := { sDet with
  ch := [(5, { ptNew := (ch sDet 5).ptNew, pts := [{ pt1 with page := some 11 }] })]
  tal.pages := [(11, { pg1 with st := 2, endedAt := 77, d := { pg1.d with frame := fired1.frame, gen := fired1.gen, b := fired1.b, f := fired1.f, o := fired1.o } })]
  ext.decks := [(0, { queue := [{ rod := 0, at_ := 1, pages := [] }, { rod := 0, at_ := 2, pages := [] }, { rod := 0, at_ := 3, pages := [] }, { rod := 0, at_ := 4, pages := [] }] })] }
def sReplay2 : State := { sReplay with tal.pages := [(10, { pg1 with scout := 3, d := { pg1.d with win := [64] } }), (12, { pg1 with scout := 1 })] }
def entA : StackEnt := { chan := 5, line := 0, point := 0, first := 0, frames := 1, shots := 2, b := 8, o := 0, counts := [(3, 4)] }
def sStackAdd : State := { sStackPg with tal.stack := [entA], tal.pages := [(10, { pg1 with st := 3, stackDue := true, slotEnd := some 5000, d := { pg1.d with frame := 1 } })] }
def sStackOut : State := { sStackPg with tal.stack := [entA], tal.pages := [(10, { pg1 with st := 3, stackDue := true, slotEnd := some 5000, d := { pg1.d with frame := 3 } })] }
def sPeak : State := { sQueued with tal.pages := [(10, { pg1 with st := 2, coarse := [(7, 5), (8, 90), (9, 30)], endedAt := 77 })] }
def sPlan : State := withIm [(pPlanMode, 0, 1)] sReady
def sBase : State := { sReady with sch.base := img1 }
def sDbg : State := { sReady with desk.debug := 1 }
def sStandRun : State := { sStand with desk.st := 4, twn.partner := 0x1000 }
/-- A histogram of 2^20 events, every hit in tap 3. -/
def sFill (m : Nat) : State := withIm [(pCalCdMaxStep, 0, m)] { sReady with cal.ch := [(5, { hist := [(0, 4194304), (1, 4190208), (2, 4198400)], fill := 67108864 })] }
def sBlend : State := { sReady with dev := 50 * tMs, cal.ch := [(5, { blend := some { start := (List.range 65).map (· * 256), cand := List.replicate 64 256, k := 0 } }), (6, {})] }
def sSave : State := withIm [(pCalSaveInterval, 0, 10)] { sReady with cal.changed := true, dev := 600 * tSec }
def sFact : State := { sReady with cal.factory := some 0 }
def fRes (k : Nat) : FactoryResult := { failStep := k, scans := [], codes := [], fire := [3, -2], pmon := [5], senseO := [], senseM := [] }
def sOut : State := { sReady with cal.outage := some { rod := 2, start := some 5 } }
def meas1 : Measure := { skew := false, first := 0, count := 2, target := 9, frame0 := 0, n := 0, store := true, sums := [(0, (40, 2))] }
def meas2 : Measure := { skew := true, first := 0, count := 0, target := 0, frame0 := 0, n := 1024, store := false, sums := [(0, (40, 1024))] }
def imgF : List Host.Cell := cputs 0 img1 62 (flds [(1, 4)])
def imgOk : List Host.Cell := cputs 0 imgF 16 (flds [(4, 2403179577)])
def sBaseOk : State := { sBase with sch.base := imgOk, par.shadow.vals := [(pKey pEmitPresent 0, some 255)] }
def sFbe : State := { sLine with sch.fbeAt := some 1000000200 }
def sealed1 : Sealed := { img := { vals := [(pKey pChThreshold 3, some 9)] }, coinc := true, family := true, plan := true, first := 0 }
def sTimely : State := { sFbe with par.timely := some sealed1 }
def sStopPend : State := { sFbe with desk.pendStop := true }
def sExitPend : State := { sFbe with desk.pendExit := true, desk.st := 3 }
def sJudge (a : Nat) : State := { sFbe with sch.fbeAt := some 1000000400, sch.lastTls := 900000000, par.awaiting := [{ mb := some 2, tag := 5, at_ := a, host := some sealed1, svc := none }], desk.mbs := [(2, { st := 1 })] }
def sEnd : State := { sDet with str.ends := [{ frame := 4, gen := 0, trunc := false, lines := 1, fbe := 1000000000, shots := 7 }] }
def xferReq (tg eo o n : Nat) : Req := rq 1 (flds [(1, tg), (3, 0), (4, eo), (8, o), (4, n)])
def sExch : State := { sPlan with mem.bytes := cputs 0 [] (memExch + 8) (flds [(8, 0x1122334455)]) }
def sFw : State := { sReady with dma.xfer := some { mb := 2, tag := 7, target := 2, exch := 8, off := 16, len := 16 }, desk.mbs := [(2, { st := 1 })] }
def sLogB : State := { sReady with lgb.st := 2, lgb.kind := 1, mem.logMB := 64, lgb.blocks := [{ kind := 1, flags := 0, seq := 0, recs := [(5, by_ [1, 2, 3])] }] }
def sCtl : State := { sReady with dma.ctls := [(3, { first := 4096 })] }
def sHalt : State := { sReady with dma.ctls := [(3, { first := 4096, cur := 4096, busy := false, halted := true })], mem.bytes := cputs 0 [] 4112 (flds [(8, 8192), (4, 0), (2, 0)]) }
def sHaltL : State := { sHalt with mem.bytes := cputs 0 [] 4112 (flds [(8, 8192), (4, 0), (2, 2)]) }
def sHaltS : State := { sReady with dma.streams := [(5, { halted := true, head := 255, queue := [by_ [1]] })] }
def sDue5 : State := { sReady with str.logDue := [(5, by_ [1, 2]), (4, by_ [9])] }
def sDue9 : State := { sReady with desk.logDue := [by_ [1, 2], by_ [9]] }
def sShedS : State := { sDue5 with dma.streams := [(5, { shed := true, ep := some (3, 2) })] }
def sPost : State := { sLogB with lgb.st := 1, lgb.stopAt := 0 }
def sShedHi : State := { sDue5 with dma.streams := [(5, { shed := true, ep := some (3, 2), queue := [List.replicate 4000 0] })] }
def sWinReq (o : Nat) : WinReq :=
  { frame := { lane := 3, src := 0x112233445566, dst := 0, etherType := 0x88B6, tci := none, secured := none
               payload := flds [(1, 2), (1, 1), (2, 8), (4, 5), (4, o), (4, 0)] }, write := true }
/-- Every die sensor valid at 40 °C, as measured. -/
def allOk : Tab DieSensor := (List.range 24).map (fun n => (n, { t := 400, seen := true, lastOk := 400 }))
def sHlt : State := { sReady with hlt.sens := allOk }
def sRise : State := withIm [(pHealthThermalMode, 0, 0)] { sHlt with hlt.riseAt := some 5, hlt.target := 8 }
def sCool : State := { sHlt with hlt.coolAt := some 5, hlt.target := 3 }
def sRailOut : State := { sReady with wall := 100 * tUs, hlt.rails := [(3, { mv := some 700, out := some 0 })] }
def sLanes : State := { sUp0 with lan.ch := [(0, { st := 4, rate := 3, everUp := true }), (3, { st := 5, mode := 1, rate := 1, everUp := true, locked := true }), (9, {})] }
def sTest : State := { sLanes with lan.ch := [(0, { st := 4, rate := 3, everUp := true }), (3, { st := 5, mode := 1, rate := 1, everUp := true })] }
/-- Lane `l` in a state, with the attempt's start, and its target. -/
def sAt (l st : Nat) : State := { sReady with lan.ch := [(l, { st := st, target := 1, rate := 1, lastHello := some { laneNo := 1, mask := 15, maxRate := 3, serial := 99, ack := 0 }, helloN := 2 })], nv.serial := 0, dev := 2000 * tMs }
def hello1 : Hello := { laneNo := 1, mask := 15, maxRate := 3, serial := 99, ack := 0 }
def sFecUp : State := { sReady with lan.ch := [(9, { st := 4, rate := 3, fec := 1 })] }
def sLb : State := { sReady with lan.ch := [(5, { st := 6 })] }
def sLanes8 : State := { sReady with lan.ch := [(8, { st := 4, rate := 3, everUp := true, mode := 3, words := 3 })] }
def sc0 : EyeScan := { lane := 0, kind := 0, d := 20, h := 0, v := 0, thr := 3, eyes := 1, mb := 2, tag := 7 }
def sc2 : EyeScan := { lane := 0, kind := 2, d := 20, h := -32, v := 5, thr := 0, eyes := 3, mb := 2, tag := 7 }
def sScanE (e : EyeScan) : State := { sLanes with lan.scan := some e, desk.mbs := [(2, { st := 1 })] }
def rec1 : Rec := { typ := 1, cls := 1, frame := 0, gen := 0, bytes := zeros 32 }
def sOpen : State := { sUp0 with str.opens := [{ slot := 0, cls := 1, frame := 0, gen := 0, start := 0, len := 32, line := 0, key := none, recs := [rec1] }, { slot := 1, cls := 2, frame := 0, gen := 0, start := 0, len := 32, line := 0, key := some 3, recs := [rec1] }], dev := 300 * tMs }
def bf1 : BFrame := { slot := 0, cls := 1, frame := 0, gen := 0, nrec := 1, items := 1, payload := zeros 32, charged := 90, cfg := {}, epoch := 0, mode := 0, macsec := false, keySeq := none }
def sLinkBuf : State := { sUp0 with str.paths := [(0, { buf := [(bf1, 4)] })] }
def sQue : State := { sUp0 with str.queues := [(1, { frames := [bf1], bytes := 90 })] }
def sa1 : Sa := { sci := 1, pn := 5, ssci := 0, salt := zeros 12, key := zeros 32 }
def sSa : State := { sReady with str.sas := [(8, some sa1), (0, some sa1), (1, some { sa1 with active := true })] }
/-- Two links of path A free, lane 1 the longer: the frame goes there. -/
def sNoBuf : State := { sQue with lan.ch := [(0, { st := 4, rate := 1 }), (1, { st := 4, rate := 1 })], dev := 100, str.tx := [(0, { until_ := 90 }), (1, { until_ := 80 })] }
def sRound (c : Nat) : State := { sStand with twn.strap := 1, twn.claim := c, twn.round := true }
def sNot : State := { sStand with twn.notice := some (1, 2, 3, 4) }
def svcPlan : SvcSet := { kind := 0, values := [(pKey pCoincDepth 3, 2), (pKey pChEnable 0, 1)], image := [] }
def sStandLine : State := { sShot with par.boBoot := [(pKey pTwinEnable 0, some 1)], twn.strap := 1, sch.strs := [(0, { placed := some { shot1 with drive := false, edge := 1000000150 } })] }
def sStandRunning : State := { sStand with sch.running := true }
def sRing : State := withIm [(pRingEnable, 0, 1)] sReady
def beat1 : Beat := { leader := 5, nodes := 2, turnCycle := 4, ringTime := 100000, loop := 300, linePeriod := 8000, salt := 7 }
def rslot (p sn : Nat) : RingSlot := { position := p, rank := p, flags := 0, serial := sn, headId := 0, turnMask := 0, linkLen := 10, residence := 40, trigger := 0, action := 0 }
def sEng : State := { sRing with dev := 300 * tUs, wall := 300 * tUs, rng.engaged := true, rng.beats := 1, rng.lastBeat := some (295 * tUs) }
def sReadyIn : State := { sRing with rng.beats := 2 }
def sLeave : State := { sRing with rng.leave := true, rng.engaged := true, pins.ringEng := true }
def sLost : State := { sRing with dev := 300 * tUs, wall := 300 * tUs, rng.engaged := true, rng.locked := true, rng.lastBeat := some 0, rng.pos := 1 }
def sHoldo : State := { sLost with dev := 200 * tMs, rng.holdover := true }
def sTurn : State := withIm [(pRingTurnRequired, 0, 1)] { sLine with dev := 20000000200, wall := 20000000200, rng := sHoldo.rng }
def sLeader : State := { sLost with rng.leader := true, rng.txTrig := [(3, 900), (4, 1000)], nv.serial := 9 }
def trig1 : Trig := { code := 3, action := 7, dev := 0 }
def sTrig (a : Nat) : State := withIm [(pRingTrigAction, 3, a)] { sReady with rng.trigs := [{ code := 4, action := 7, dev := 0 }, trig1] }
def sCold : State := { sReady with desk.st := 0, pins.porstN := false }
def sCmdReset : State := { sReady with desk.cmdReset := some 1000 }
def sBoot : State := { State.reset with desk.st := 1 }
def sTrial : State := { sBoot with desk.trial := true }
def sRail : State := { sReady with hlt.rails := [(3, { fault := some 1000 })] }
def sInReset : State := { sReady with desk.st := 0, pins.resetN := false, rst.causes := 2, rst.heldAt := some 1000 }
def sCmdHold : State := { sInReset with rst.cmdUntil := some 500000 }
/-- A set record that fits the empty set of `State.reset`, whose contents fail the check of R294. -/
def sScrub : State := { sReady with mem.usable := 4096 }
def sTrialDir : State := { sInReset with nv.dir0 := dirBytes { seq := 4, active := 1, trial := 1, boots := 0 } }
def dmaBlk : List Host.Cell := cputs 0 [] 0x10000 (le 8 0x20000 ++ le 8 0x30000 ++ le 8 0 ++ le 4 4096 ++ le 4 0)
def sDmaRun : State := { sReady with
  mem.usable := 4096, mem.bytes := cputs 0 dmaBlk 0x20000 (by_ [1, 2, 3, 4])
  dma.engines := [(1, { chan := some 33, desc := 0x10000, moved := 0, burst := 2048 })], dma.ctls := [(1, { busy := true, cur := 0x10000 })] }
def keyF : Word := 0xA5C30001#32
def keyT : Word := 0xA5C30002#32
def rec0 : SetRec := { check := setCheck State.reset.nv.set, setId := 2, serial := 0, count := 0, sig := [] }
def sRom : State := { sBoot with desk.rom := true }
def strD : List Host.Cell := cputs 0 [] 0x100000A0 (le 8 0x10001000 ++ le 4 128 ++ le 2 3)
def sStr : State := { sReady with
  mem.usable := 4096, mem.bytes := strD
  dma.engines := [(1, { chan := some 5, desc := 0x100000A0, moved := 0, burst := 3 })]
  dma.streams := [(5, { ring := 0x10000000, head := 5, enable := true, request := true, queue := [by_ [7, 8, 9]], recs := [(3, by_ [7, 8, 9])] })] }
def sStrMore : State := { sStr with dma.streams := [(5, { ring := 0x10000000, head := 5, enable := true, request := true, queue := [by_ [7, 8, 9], by_ [4]], recs := [(3, by_ [7, 8, 9]), (4, by_ [4])] })] }
def sDmaLast : State := { sDmaRun with dma.engines := [(1, { chan := some 33, desc := 0x10000, moved := 4092, burst := 4 })] }
def sSinkS : State := { sStr with
  dma.engines := [(1, { chan := some 17, desc := 0x100000A0, moved := 0, burst := 64 })]
  dma.streams := [(17, { ring := 0x10000000, head := 5, enable := true, request := true, fromMem := true })] }
def sIc : State := { sReady with ic.src := [(3, { pending := true, enable := true, prio := 2 }), (25, { pending := true, enable := true, prio := 5 }), (30, { pending := true, enable := true, prio := 5 }), (40, { active := true, count.val := 3 })] }
def sMod : State := { sReady with ic.src := [(3, { pending := true, enable := true, mod := true, group := 2, held := true, prio := 1 })], ic.mods := [(2, { timer := 5, hold := some 100 })] }
/-- The row of a parameter, by the table. -/
def rowOf (id : Nat) : PRow := (paramRow id).getD { id := 0, width := 0, cls := 0, scope := 0, first := 0, count := 0, signed := false, lo := 0, hi := 0, dflt := 0, varies := false }
def getP (id i n copy : Nat) : Req := rq 1 (flds [(2, id), (2, i), (2, n), (1, copy), (1, 0)])
def setP (id i : Nat) (v : List Nat) : Req := rq 1 (flds ([(2, id), (2, i), (2, v.length), (2, 0)] ++ v.map (fun x => (8, x))))
def sSealing : State := { sRun with sch.running := true }
def sBadShadow : State := { sReady with par.shadow.itinHas := true, par.im := [(pKey pPlanMode 0, some 1)] }
def sSealAt (f : Nat) : State := { sSealing with sch.fbeAt := some f, par.late := some sealed1 }
def sGo : State := { sReady with par.inForce.itinHas := true, nk.conf := some [], nk.faults := 0, nk.laserOut := false }
def sRunning : State := { sRun with sch.running := true, sch.frameNo := { val := 77 } }
def ev1 : Ev := { code := 0x0805, seq := 4, time := 6, data := [1, 2] }
def sEvents : State := { sReady with desk.events := [ev1, ev1, ev1], desk.attention := 0x100#32 }
def sUpd : State := { sReady with desk.trial := true, nv.dir0 := dirBytes { seq := 1, active := 1, trial := 1, boots := 0 } }
def sActivated : State := { sReady with nv.dir0 := dirBytes { seq := 1, active := 1, trial := 1, boots := 0 } }
/-- Slots whose images claim 64 bytes. -/
def sImg : State := { sReady with nv.slotA := cputs 0xFF [] 16 (le 4 64), nv.slotB := cputs 0xFF [] 16 (le 4 64) }
def sErase : State := { sReady with desk.erase := some 3, desk.mbs := [(3, { st := 1 })] }
def sChal : State := { sReady with desk.challenge := some { nonce := zeros 16, level := 3, at_ := 10 } }
def sAttn : State := { sReady with desk.attention := 0x1502#32, desk.attnEnable := 0x1002#32, pins.attnN := true, desk.events := [ev1] }
def sAttn2 : State := { sReady with desk.attention := 0x1802#32, desk.attnEnable := 0, desk.attnDelay := 3 }
def sAttnT : State := { sAttn with desk.attnTimer := some 50, pins.attnN := false }
def sBuf : State := { sReady with desk.mbs := [(3, { buf := cellsFrom 0 (reqBytes 0x0018 (rq 3 [])) })] }
def sErase2 : State := { sErase with
  desk.fwWait := [2], desk.mbs := [(2, { st := 1, buf := cputs 0 [] 0 (reqBytes 0x0013 (rq 2 (flds [(4, 5), (2, 3), (2, 0), (3, 0x030201)]))) }), (3, { st := 1 })] }
/-- The MAC of path A of the part of `State.reset`. -/
def macA : Nat := par State.reset pStreamSrcMac 0
def fr (p : List Byte) : Frame := { lane := 3, src := 0x112233445566, dst := macA, etherType := 0x88B6, tci := none, secured := none, payload := p }
/-- A mailbox request frame: mailbox, transaction, opcode, payload. -/
def reqF (k tr op : Nat) (p : List Byte) : Frame :=
  fr (flds [(1, 1), (1, 1), (1, k), (1, 0), (4, tr), (2, op), (2, p.length), (4, 7)] ++ p)
def regF (kind a n : Nat) (p : List Byte) : Frame := fr (flds [(1, 1), (1, kind), (2, 0), (4, 9), (2, a), (2, n)] ++ p)
def winF (kind n o : Nat) (p : List Byte) : Frame := fr (flds [(1, 2), (1, kind), (2, n), (4, 5), (4, o), (4, 0)] ++ p)
def org : InBand := { lane := 3, src := 0x112233445566, tci := none, secured := false, trans := 55 }
def sInProg : State := { sReady with desk.mbs := [(2, { st := 1, inBand := true, origin := some org })] }
def sDoneBefore : State := { sReady with desk.mbs := [(2, { st := 2, lastOrigin := some org, lastKind2 := [1, 2, 3] })] }
def sMac4 : State := { sReady with par.im := [(pKey pMacsecEnable 0, some 2)], str.sas := [(6, some { sa1 with active := true })] }
def sWin : State := { sReady with par.im := [(pKey pWinEnable 0, some 3)] }
def sWinBusy : State := { sWin with dma.engines := [(0, { chan := some 0 }), (2, { chan := some 2 })] }

theorem witness_StepRunsTheFrontCommand_0 :
    let c : Instr := (.pointToken 5)
    let q : List Instr := []
    let s : State := ({ sReady with pending := [.pointToken 5] })
    s.pending = c :: q := by decide

theorem witness_StepRunsTheFrontCommand_1 :
    let s : State := sReady
    s.pending = [] := by decide

theorem witness_StepsKeepTheInvariant :
    let s : State := ({ sReady with pending := [.pointToken 5] })
    let t : State := ({ advance 5 sReady with str.tokens := 256 })
    Machine.Inv s ∧ step s = Host.Outcome.next t := ⟨⟨rfl, by decide, by decide, by decide, by decide, by decide, by decide⟩, rfl⟩

theorem witness_StepsTakeTheQueueInOrder :
    let s : State := ({ sReady with pending := [.pointToken 5] })
    let t : State := ({ advance 5 sReady with str.tokens := 256 })
    step s = Host.Outcome.next t := rfl

theorem witness_StoppedUnitsHold :
    (let s : State := sFrozen
    (s.desk.st = 7 ∨ s.desk.st = 0)) ∧
    (let s : State := sHeld
    (s.desk.st = 7 ∨ s.desk.st = 0)) := by refine ⟨?_, ?_⟩ <;> decide

theorem witness_MailboxProtocol_0_0 :
    (let c : CmdSpec := ({ op := 0x0016, mbLo := 5, mbHi := 5 })
    let r : Req := (rq 2 [])
    let s : State := sReady
    Ready r s ∧ (r.mb < c.mbLo ∨ c.mbHi < r.mb ∨ s.desk.debug < c.level)) ∧
    (let c : CmdSpec := ({ op := 0x0016, level := 1 })
    let r : Req := (rq 7 [])
    let s : State := sReady
    Ready r s ∧ (r.mb < c.mbLo ∨ c.mbHi < r.mb ∨ s.desk.debug < c.level)) := by unfold Ready; refine ⟨?_, ?_⟩ <;> decide

theorem witness_MailboxProtocol_0_1 :
    let c : CmdSpec := ({ op := 0x0016, mbLo := 2, mbHi := 2 })
    let lenOk : List Byte → Bool := (lenEq 0)
    let r : Req := (rq 2 [1])
    let s : State := sReady
    Ready r s ∧ c.mbLo ≤ r.mb ∧ r.mb ≤ c.mbHi ∧ c.level ≤ s.desk.debug ∧ (248 < r.payload.length ∨ lenOk r.payload = false) := by unfold Ready; decide

theorem witness_MailboxProtocol_1_0 :
    let r : Req := (rq 3 [])
    let s : State := sRung
    r.mb < 8 ∧ Awake s ∧ s.desk.recovery = false ∧ (mb s r.mb).st ≠ 1 ∧ s.desk.waiting ≠ [] := by unfold Awake; decide

theorem witness_MailboxProtocol_1_1 :
    let c : CmdSpec := ({ op := 0x0018 })
    let r : Req := (rq 2 [])
    let s : State := sRung
    r.mb < 8 ∧ Awake s ∧ s.desk.recovery = false ∧ (mb s r.mb).st = 1 ∧ s.desk.waiting.head? = some r.mb ∧ mbHolds r.mb c.op r s = true := by unfold Awake; decide

theorem witness_MailboxProtocol_1_2 :
    let r : Req := (rq 2 [])
    let s : State := sBusy
    r.mb < 8 ∧ Awake s ∧ s.desk.recovery = false ∧ (mb s r.mb).st = 1 ∧ s.desk.waiting.contains r.mb = false := by unfold Awake; decide

theorem witness_MailboxProtocol_2_0 :
    let r : Req := (rq 3 [])
    let s : State := sReady
    Ready r s ∧ r.mb ≠ 4 := by unfold Ready; decide

theorem witness_MailboxProtocol_2_1 :
    let r : Req := (rq 4 [])
    let s : State := sReady
    Ready r s ∧ r.mb ≠ 5 := by unfold Ready; decide

theorem witness_MailboxProtocol_2_2 :
    let r : Req := (rq 5 [])
    let s : State := sReady
    Ready r s ∧ r.mb < 6 := by unfold Ready; decide

theorem witness_MailboxProtocol_3_0_0 :
    let s : State := sRecov
    s.desk.st = 1 ∧ s.desk.recovery = true ∧ s.desk.waiting = [] := by decide

theorem witness_MailboxProtocol_3_0_1 :
    let s : State := sRecov
    s.desk.st = 1 ∧ s.desk.recovery = true ∧ s.desk.waiting = [] := by decide

theorem witness_MailboxProtocol_3_9_0 :
    let s : State := sRecov
    s.desk.st = 1 ∧ s.desk.recovery = true ∧ s.desk.waiting = [] := by decide

theorem witness_MailboxProtocol_3_9_1 :
    let s : State := sRecov
    s.desk.st = 1 ∧ s.desk.recovery = true ∧ s.desk.waiting = [] := by decide

theorem witness_MailboxProtocol_3_19_0 :
    let s : State := sRecov
    s.desk.st = 1 ∧ s.desk.recovery = true ∧ s.desk.waiting = [] := by decide

theorem witness_MailboxProtocol_3_19_1 :
    let s : State := sRecov
    s.desk.st = 1 ∧ s.desk.recovery = true ∧ s.desk.waiting = [] := by decide

theorem witness_MailboxProtocol_3_20 :
    let s : State := sRecov
    let r : Req := (rq 3 [])
    s.desk.st = 1 ∧ s.desk.recovery = true ∧ s.desk.waiting = [] ∧ r.mb ≠ 0 := by decide

theorem witness_MailboxProtocol_3_21_0 :
    let s : State := sRecov
    let r : Req := (rq 0 (flds [(1, 5), (3, 0)]))
    s.desk.st = 1 ∧ s.desk.recovery = true ∧ s.desk.waiting = [] ∧ r.mb = 0 ∧ (mb s 0).st ≠ 1 ∧ r.payload.length = 4 ∧ fld r.payload 0 1 ≤ 5 ∧ allZero
      (List.drop 1 r.payload) = true := by decide

theorem witness_MailboxProtocol_3_21_1 :
    let s : State := sRecov
    let r : Req := (rq 0 (flds [(4, 5), (2, 3), (2, 0), (3, 0x030201)]))
    let n : Nat := fld r.payload 4 2
    s.desk.st = 1 ∧ s.desk.recovery = true ∧ s.desk.waiting = [] ∧ r.mb = 0 ∧ (mb s 0).st ≠ 1 ∧ r.payload.length = 8 + n ∧ 1 ≤ n ∧ n ≤ 240 ∧ fld
      r.payload 0 4 + n ≤ slotSize ∧ fld r.payload 6 2 = 0 ∧ flashBusy s = false ∧ s.nk.wrHeld = false := by decide

theorem witness_MailboxProtocol_3_21_2_0 :
    let s : State := sRecov
    let r : Req := (rq 0 (flds [(4, 1)]))
    s.desk.st = 1 ∧ s.desk.recovery = true ∧ s.desk.waiting = [] ∧ r.mb = 0 ∧ (mb s 0).st ≠ 1 ∧ r.payload.length = 4 ∧ allZero (List.drop 1 r.payload)
      = true ∧ flashBusy s = false ∧ s.nk.wrHeld = false ∧ fld r.payload 0 1 = 1 := by decide

theorem witness_MailboxProtocol_3_21_2_1 :
    let s : State := sRecov
    let r : Req := (rq 0 (flds [(4, 2)]))
    s.desk.st = 1 ∧ s.desk.recovery = true ∧ s.desk.waiting = [] ∧ r.mb = 0 ∧ (mb s 0).st ≠ 1 ∧ r.payload.length = 4 ∧ allZero (List.drop 1 r.payload)
      = true ∧ flashBusy s = false ∧ s.nk.wrHeld = false ∧ fld r.payload 0 1 = 2 := by decide

theorem witness_MailboxProtocol_3_21_2_2 :
    (let s : State := sRecov
    let r : Req := (rq 0 (flds [(4, 3)]))
    s.desk.st = 1 ∧ s.desk.recovery = true ∧ s.desk.waiting = [] ∧ r.mb = 0 ∧ (mb s 0).st ≠ 1 ∧ r.payload.length = 4 ∧ allZero (List.drop 1 r.payload)
      = true ∧ flashBusy s = false ∧ s.nk.wrHeld = false ∧ (fld r.payload 0 1 = 3 ∨ fld r.payload 0 1 = 4)) ∧
    (let s : State := sRecov
    let r : Req := (rq 0 (flds [(4, 4)]))
    s.desk.st = 1 ∧ s.desk.recovery = true ∧ s.desk.waiting = [] ∧ r.mb = 0 ∧ (mb s 0).st ≠ 1 ∧ r.payload.length = 4 ∧ allZero (List.drop 1 r.payload)
      = true ∧ flashBusy s = false ∧ s.nk.wrHeld = false ∧ (fld r.payload 0 1 = 3 ∨ fld r.payload 0 1 = 4)) := by refine ⟨?_, ?_⟩ <;> decide

theorem witness_MailboxProtocol_3_21_3 :
    let s : State := sRecov
    let r : Req := (rq 0 (flds [(4, 0)]))
    s.desk.st = 1 ∧ s.desk.recovery = true ∧ s.desk.waiting = [] ∧ r.mb = 0 ∧ (mb s 0).st ≠ 1 ∧ r.payload.length = 4 ∧ s.desk.cmdReset = none ∧ fld
      r.payload 0 4 = s.nv.serial % 2 ^ 32 := by decide

theorem witness_SenseCommandsComplete_0 :
    (let r : Req := (rq 1 (flds [(1, 7), (1, 14), (2, 0)]))
    let s : State := sSns
    Ready r s ∧ r.payload.length = 4 ∧ fld r.payload 0 1 ≤ 7 ∧ fld r.payload 1 1 ≤ 14 ∧ fld r.payload 2 2 = 0) ∧
    (let r : Req := (rq 1 (flds [(1, 7), (1, 1), (2, 0)]))
    let s : State := sSns
    Ready r s ∧ r.payload.length = 4 ∧ fld r.payload 0 1 ≤ 7 ∧ fld r.payload 1 1 ≤ 14 ∧ fld r.payload 2 2 = 0) := by unfold Ready; refine ⟨?_, ?_⟩ <;> decide

theorem witness_SenseCommandsComplete_1 :
    let r : Req := (rq 1 (pad 132 [7, 0, 0, 0, 255, 255, 1, 0]))
    let s : State := sSns
    let hs : List Int := List.map (fun i => fldI r.payload (4 + 4 * i) 4) (List.range 32)
    Ready r s ∧ r.payload.length = 132 ∧ fld r.payload 0 1 ≤ 7 ∧ allZero (List.take 3 (List.drop 1 r.payload)) = true ∧ (∀ h ∈ hs, -131072 ≤ h ∧ h ≤
      131071) ∧ 0 < sumI hs := by unfold Ready; decide +kernel

theorem witness_SenseCommandsComplete_2 :
    let r : Req := (rq 1 (flds [(4, 7)]))
    let s : State := sSns
    let n : Nat := fld r.payload 0 1
    let x : Sense := sense s n
    Ready r s ∧ r.payload.length = 4 ∧ fld r.payload 0 1 ≤ 7 ∧ allZero (List.drop 1 r.payload) = true ∧ x.on = true ∧ x.cfg.getD 5 2 ≠ 0 ∧ x.cfg.getD
      2 0 ≠ 0 ∧ x.openAt = none ∧ x.lead = none := by unfold Ready; decide

theorem witness_SenseCommandsComplete_3 :
    let r : Req := (rq 1 (flds [(4, 7)]))
    let s : State := sSns
    Ready r s ∧ r.payload.length = 4 ∧ fld r.payload 0 1 ≤ 7 ∧ allZero (List.drop 1 r.payload) = true := by unfold Ready; decide

theorem witness_SenseEventsComplete_0 :
    (let n : Nat := 7
    let bits : List Bool := (List.replicate 100 true)
    let s : State := sSns
    let x : Sense := sense s n
    n < 8 ∧ sensesRun s = true ∧ par s pSenseEnable n ≠ 0 ∧ (x.on = true → bits.length = cfgR x.cfg)) ∧
    (let n : Nat := 7
    let bits : List Bool := []
    let s : State := ({ sSns with sns := [] })
    let x : Sense := sense s n
    n < 8 ∧ sensesRun s = true ∧ par s pSenseEnable n ≠ 0 ∧ (x.on = true → bits.length = cfgR x.cfg)) ∧
    (let n : Nat := 7
    let bits : List Bool := (List.replicate 40 true)
    let s : State := sSnsRun
    let x : Sense := sense s n
    n < 8 ∧ sensesRun s = true ∧ par s pSenseEnable n ≠ 0 ∧ (x.on = true → bits.length = cfgR x.cfg)) := by refine ⟨?_, ?_, ?_⟩ <;> decide

theorem witness_SenseEventsComplete_1 :
    (let n : Nat := 7
    let s : State := sSnsDue
    n < 8 ∧ sensesRun s = true ∧ (sense s n).on = true ∧ (sense s n).chain.due = true) ∧
    (let n : Nat := 7
    let s : State := ({ sSnsDue with sns := [(7, { (sense sSnsDue 7) with openAt := some 3 })] })
    n < 8 ∧ sensesRun s = true ∧ (sense s n).on = true ∧ (sense s n).chain.due = true) := by refine ⟨?_, ?_⟩ <;> decide

theorem witness_SenseEventsComplete_2 :
    let t : Nat := 5
    let n : Nat := 7
    let e : Nat := 5
    let s : State := sLead3
    n < 8 ∧ Awake s ∧ (sense s n).settle = some e ∧ e ≤ (advance t s).dev := by unfold Awake; decide

theorem witness_SenseEventsComplete_3 :
    let t : Nat := 9
    let n : Nat := 7
    let l : Lead := { step := 3, n := 0, sum := (0, 1), cur := 0 }
    let s : State := sLead3
    n < 8 ∧ Awake s ∧ (sense s n).lead = some l ∧ l.step = 3 ∧ settling (advance t s) (sense s n) = false := by unfold Awake; decide

theorem witness_SenseEventsComplete_4 :
    let t : Nat := 9
    let s : State := sReady
    (∀ (a : Nat), s.nk.laserAt = some a → a + 100 * tMs ≤ max s.wall t) := by decide

theorem witness_MotionServiceRuns_0 :
    (let r : Req := (rq 1 (flds [(8, 1), (8, 1000), (24, 5)]))
    let s : State := sMot
    let n : Nat := fld r.payload 0 1
    let ms : List MSample := List.map (feedSample s r.payload) (List.range n)
    Ready r s ∧ r.payload.length = 8 + 32 * n ∧ 1 ≤ n ∧ n ≤ 7 ∧ allZero (List.take 7 (List.drop 1 r.payload)) = true ∧ s.tim.st ≠ 0 ∧ inOrder (match
      s.mot.newest with | some m => m.time | none => 0) ms = true) ∧
    (let r : Req := (rq 1 (flds [(8, 2), (8, 1000), (24, 5), (8, 1001), (24, 6)]))
    let s : State := sMot
    let n : Nat := fld r.payload 0 1
    let ms : List MSample := List.map (feedSample s r.payload) (List.range n)
    Ready r s ∧ r.payload.length = 8 + 32 * n ∧ 1 ≤ n ∧ n ≤ 7 ∧ allZero (List.take 7 (List.drop 1 r.payload)) = true ∧ s.tim.st ≠ 0 ∧ inOrder (match
      s.mot.newest with | some m => m.time | none => 0) ms = true) := by unfold Ready; refine ⟨?_, ?_⟩ <;> decide

theorem witness_MotionServiceRuns_1 :
    let t : Nat := (100000 * tMs)
    let s : State := sMot
    motionOn s = true ∧ s.mot.stale = false ∧ 2 ≤ s.desk.st ∧ s.desk.st ≠ 7 ∧ s.mot.lastAt + par0 s pMotionStale * tMs ≤ (advance t s).dev := by decide

theorem witness_TimeServiceRuns_0 :
    (let l : Nat := 0
    let s : State := ({ sUp0 with tim.master := some (ann1, 5) })
    gptpFrame.servicesOff s = false ∧ par0 s pTimeSource ≠ 1 ∧ l = par0 s pTimePort ∧ linkUp s l = true) ∧
    (let l : Nat := 0
    let s : State := sUp0
    gptpFrame.servicesOff s = false ∧ par0 s pTimeSource ≠ 1 ∧ l = par0 s pTimePort ∧ linkUp s l = true) ∧
    (let l : Nat := 0
    let s : State := ({ sUp0 with tim.master := some (ann1, 5) })
    gptpFrame.servicesOff s = false ∧ par0 s pTimeSource ≠ 1 ∧ l = par0 s pTimePort ∧ linkUp s l = true) ∧
    (let l : Nat := 0
    let s : State := sUp0
    gptpFrame.servicesOff s = false ∧ par0 s pTimeSource ≠ 1 ∧ l = par0 s pTimePort ∧ linkUp s l = true) ∧
    (let l : Nat := 0
    let s : State := ({ sUp0 with tim.pdReq := some (5, 100), tim.pdResp := some (5, 900, 5000, 2) })
    gptpFrame.servicesOff s = false ∧ par0 s pTimeSource ≠ 1 ∧ l = par0 s pTimePort ∧ linkUp s l = true) := by refine ⟨?_, ?_, ?_, ?_, ?_⟩ <;> decide

theorem witness_TimeServiceRuns_1 :
    let s : State := sUp0
    Awake s ∧ s.tim.st = 1 := by unfold Awake; decide

theorem witness_TimeServiceRuns_2 :
    let t : Nat := (10 * tSec)
    let s : State := ({ sUp0 with tim.st := 2 })
    Awake s ∧ s.tim.st = 2 ∧ s.tim.holdAt + 10 * tSec ≤ (advance t s).dev := by unfold Awake; decide

theorem witness_TimeServiceRuns_3 :
    let s : State := sUp0
    2 ≤ s.desk.st ∧ s.desk.st ≠ 7 ∧ par0 s pTimeSource ≠ 1 ∧ linkUp s (par0 s pTimePort) = true := by decide

theorem witness_OverexposureFaultsStopEmission_0 :
    (let n : Nat := 9499
    (n < 9500 ∨ 10500 < n)) ∧
    (let n : Nat := 10501
    (n < 9500 ∨ 10500 < n)) ∧
    (let n : Nat := 10501
    (n < 9500 ∨ 10500 < n)) := by refine ⟨?_, ?_, ?_⟩ <;> decide

theorem witness_OverexposureFaultsStopEmission_1 :
    let s : State := sEmit
    s.pins.lsrA = true := by decide

theorem witness_OverexposureFaultsStopEmission_2 :
    let t : Nat := (11 * tMs)
    let high : Bool := true
    let s : State := sEmit
    headClosed { advance t s with pins.headSw := high } = false := by decide +kernel

theorem witness_OverexposureFaultsStopEmission_3 :
    (let pin : Nat := 2
    let v : Bool := false
    let s : State := sEmit
    pin < 3 ∧ v ≠ if pin = 0 then s.pins.lsrA else if pin = 1 then s.pins.lsrB else !s.pins.hvCut) ∧
    (let pin : Nat := 0
    let v : Bool := false
    let s : State := sEmit
    pin < 3 ∧ v ≠ if pin = 0 then s.pins.lsrA else if pin = 1 then s.pins.lsrB else !s.pins.hvCut) ∧
    (let pin : Nat := 1
    let v : Bool := true
    let s : State := ({ sChecks with pins.lsrB := false })
    pin < 3 ∧ v ≠ if pin = 0 then s.pins.lsrA else if pin = 1 then s.pins.lsrB else !s.pins.hvCut) ∧
    (let pin : Nat := 1
    let v : Bool := true
    let s : State := ({ sReady with pins.lsrB := false })
    pin < 3 ∧ v ≠ if pin = 0 then s.pins.lsrA else if pin = 1 then s.pins.lsrB else !s.pins.hvCut) := by refine ⟨?_, ?_, ?_, ?_⟩ <;> decide

theorem witness_OverexposureFaultsStopEmission_4 :
    let t : Nat := (20 * tMs)
    let s : State := ({ sChecks with pins.hvFb := true })
    nkChecks s = true ∧ s.pins.hvFb = true ∧ s.pins.hvCut = true ∧ s.pins.peerCut = true ∧ max s.nk.hvAt (max s.nk.cutAt s.nk.peerAt) + 20 * tMs ≤ max
      s.wall t := by decide

theorem witness_OverexposureFaultsStopEmission_5 :
    let t : Nat := (11 * tMs)
    let k : Nat := 3
    let e : Nat := 6
    let st : List Host.Cell := nkSet
    let s : State := sEmit
    k < 4 ∧ nkChecks s = true ∧ governing s = some st ∧ inGate (pmon s k) (advance t s).dev = false ∧ sf st 52 4 < e := by decide +kernel

theorem witness_OverexposureFaultsStopEmission_6 :
    (let item : Nat := 4
    let codes : List Nat := [64, 64, 64, 64]
    let s : State := State.reset
    s.nk.testing = true ∧ s.pins.porstN = true ∧ item ≤ 4 ∧ (1 ≤ item ∨ ∃ k < 4, codes.getD k 64 < 32 ∨ 96 < codes.getD k 64)) ∧
    (let item : Nat := 0
    let codes : List Nat := [64, 64, 31, 64]
    let s : State := State.reset
    s.nk.testing = true ∧ s.pins.porstN = true ∧ item ≤ 4 ∧ (1 ≤ item ∨ ∃ k < 4, codes.getD k 64 < 32 ∨ 96 < codes.getD k 64)) ∧
    (let item : Nat := 0
    let codes : List Nat := [64, 64, 64, 97]
    let s : State := State.reset
    s.nk.testing = true ∧ s.pins.porstN = true ∧ item ≤ 4 ∧ (1 ≤ item ∨ ∃ k < 4, codes.getD k 64 < 32 ∨ 96 < codes.getD k 64)) := by refine ⟨?_, ?_, ?_⟩ <;> decide

theorem witness_NerrakEventsComplete_0 :
    let n : Nat := 9500
    9500 ≤ n ∧ n ≤ 10500 := by decide

theorem witness_NerrakEventsComplete_1 :
    let t : Nat := 9
    let high : Bool := false
    let s : State := sNk
    headClosed { advance t s with pins.headSw := high } = true := by decide +kernel

theorem witness_NerrakEventsComplete_2 :
    (let closed : Bool := true
    let s : State := sReady
    s.pins.hvFb ≠ closed) ∧
    (let closed : Bool := false
    let s : State := sNk
    s.pins.hvFb ≠ closed) := by refine ⟨?_, ?_⟩ <;> decide

theorem witness_NerrakEventsComplete_3 :
    let t : Nat := (20 * tMs)
    let s : State := ({ sChecks with pins.hvCut := false })
    nkChecks s = true ∧ s.pins.hvFb = false ∧ s.pins.hvCut = false ∧ max s.nk.hvAt s.nk.uncutAt + 20 * tMs ≤ max s.wall t := by decide

theorem witness_NerrakEventsComplete_4 :
    let high : Bool := true
    let s : State := sReady
    s.pins.peerCut ≠ !high := by decide

theorem witness_NerrakEventsComplete_5 :
    let t : Nat := (5 * tUs)
    let s : State := ({ sReady with nk.cutDue := true, pins.hvCut := false })
    s.nk.cutDue = true ∧ max s.nk.lsrFell s.nk.cutFrom + 5 * tUs / 2 ≤ max s.wall t ∧ wantCut s = true := by decide

theorem witness_NerrakEventsComplete_6 :
    let t : Nat := (10 * tMs)
    let s : State := ({ sEmit with pins.lsrA := false, pins.lsrB := false })
    permOk (advance t s) = true ∧ s.pins.lsrA = false := by decide +kernel

theorem witness_NerrakEventsComplete_7 :
    (let s : State := sEmit
    s.pins.lsrA = s.pins.lsrB) ∧
    (let s : State := sEmit
    s.pins.lsrA = s.pins.lsrB) ∧
    (let s : State := sReady
    s.pins.lsrA = s.pins.lsrB) ∧
    (let s : State := sReady
    s.pins.lsrA = s.pins.lsrB) := by refine ⟨?_, ?_, ?_, ?_⟩ <;> decide

theorem witness_NerrakEventsComplete_8 :
    (let codes : List Nat := [32, 96, 64]
    let s : State := State.reset
    s.nk.testing = true ∧ s.pins.porstN = true ∧ (∀ k < 4, 32 ≤ codes.getD k 64 ∧ codes.getD k 64 ≤ 96)) ∧
    (let codes : List Nat := [32, 96, 64, 64]
    let s : State := ({ State.reset with nk.pads := [(0, some true)] })
    s.nk.testing = true ∧ s.pins.porstN = true ∧ (∀ k < 4, 32 ≤ codes.getD k 64 ∧ codes.getD k 64 ≤ 96)) := by refine ⟨?_, ?_⟩ <;> decide

theorem witness_NerrakEventsComplete_9 :
    let t : Nat := (6000 * tSec)
    let s : State := ({ sReady with desk.st := 5, nk.degOn := some 0 })
    s.nk.degOn.isSome = true ∧ 5820000000 * 1280 * 100 ≤ degTicks (advance t s) * 103 := by decide

theorem witness_NerrakEventsComplete_10 :
    let t : Nat := (60 * tSec)
    let w : Nat := 0
    let s : State := ({ sRun with nk.cleanAt := some 0, nk.degAcc := 44 })
    s.nk.cleanAt = some w ∧ w + 60 * tSec ≤ max s.wall t ∧ s.desk.st = 4 := by decide

theorem witness_NerrakLedgerAndScan_0 :
    let t : Nat := (11 * tMs)
    let s : State := sEmit
    9700 * 1280 * 100 ≤ (max s.wall t - s.nk.stallAt) * 103 := by decide

theorem witness_NerrakLedgerAndScan_1 :
    (let t : Nat := (90 * tUs)
    let s : State := ({ sEmit with nk.stallAt := 10 * tMs })
    (max s.wall t - s.nk.stallAt) * 103 < 9700 * 1280 * 100) ∧
    (let t : Nat := 1
    let s : State := sReady
    (max s.wall t - s.nk.stallAt) * 103 < 9700 * 1280 * 100) := by refine ⟨?_, ?_⟩ <;> decide +kernel

theorem witness_NerrakLedgerAndScan_2 :
    (let c : Nat := 5
    let st : List Host.Cell := nkSet
    let s : State := sEmit
    nkChecks s = true ∧ governing s = some st ∧ c < 4096) ∧
    (let c : Nat := 4095
    let st : List Host.Cell := nkSet
    let s : State := sEmit
    nkChecks s = true ∧ governing s = some st ∧ c < 4096) := by refine ⟨?_, ?_⟩ <;> decide +kernel

theorem witness_NerrakLedgerAndScan_3 :
    (let t : Nat := 16000000
    let w : Nat := 0
    let st : List Host.Cell := nkSet
    let s : State := sNk
    governing s = some st ∧ w < 3 ∧ (advance t s).dev % subTicks st w = 0) ∧
    (let t : Nat := 16000000
    let w : Nat := 0
    let st : List Host.Cell := nkSet
    let s : State := ({ sNk with nk.ledger := [(0, { w0 := [(1, 99999999)] })] })
    governing s = some st ∧ w < 3 ∧ (advance t s).dev % subTicks st w = 0) ∧
    (let t : Nat := 16000000
    let w : Nat := 0
    let st : List Host.Cell := nkSet
    let s : State := ({ sNk with nk.cap := true, nk.ledger := [(0, { w0 := [(1, 99)] })] })
    governing s = some st ∧ w < 3 ∧ (advance t s).dev % subTicks st w = 0) := by refine ⟨?_, ?_, ?_⟩ <;> decide +kernel

theorem witness_PulseMonitorsRun_0 :
    (let a : FireRec := fire1
    let rest : List FireRec := [fire2]
    let st : List Host.Cell := nkSet
    let s : State := sLinks
    s.nk.links = a :: rest ∧ governing s = some st ∧ (s.nk.lastSeq = none ∨ s.nk.lastSeq = some (a.seq - 1) ∧ 1 ≤ a.seq) ∧ (sMask st).testBit a.str =
      true ∧ sScale st (8 * a.str + a.em) ≠ 0 ∧ a.iset ≤ sf st 42 2 ∧ (∀ (g : Gate), (pmon s (a.str % 4)).last = some g → g.stop + 5 * tNs ≤ a.stamp)) ∧
    (let a : FireRec := fire2
    let rest : List FireRec := []
    let st : List Host.Cell := nkSet
    let s : State := ({ sLinks with nk.links := [fire2], nk.lastSeq := some 1, nk.pm := [(0, { last := some gate1 })] })
    s.nk.links = a :: rest ∧ governing s = some st ∧ (s.nk.lastSeq = none ∨ s.nk.lastSeq = some (a.seq - 1) ∧ 1 ≤ a.seq) ∧ (sMask st).testBit a.str =
      true ∧ sScale st (8 * a.str + a.em) ≠ 0 ∧ a.iset ≤ sf st 42 2 ∧ (∀ (g : Gate), (pmon s (a.str % 4)).last = some g → g.stop + 5 * tNs ≤ a.stamp)) := by refine ⟨?_, ?_⟩ <;> decide +kernel

theorem witness_PulseMonitorsRun_1 :
    (let a : LinkRx := .asSent
    let b : LinkRx := .lost
    let sent : FireRec := fire1
    let rest : List FireRec := [fire2]
    let s : State := sLinks
    s.nk.links = sent :: rest ∧ linkCopy a sent ≠ linkCopy b sent) ∧
    (let a : LinkRx := (.altered fire2)
    let b : LinkRx := .asSent
    let sent : FireRec := fire1
    let rest : List FireRec := [fire2]
    let s : State := sLinks
    s.nk.links = sent :: rest ∧ linkCopy a sent ≠ linkCopy b sent) := by refine ⟨?_, ?_⟩ <;> decide +kernel

theorem witness_PulseMonitorsRun_2 :
    (let t : Nat := (11 * tMs)
    let k : Nat := 0
    let gate : List Nat := [3000, 3000]
    let g : Gate := gate1
    let rest : List Gate := []
    let st : List Host.Cell := nkSet
    let s : State := sPm
    k < 4 ∧ governing s = some st ∧ (pmon s k).gates = g :: rest ∧ g.stop ≤ (advance t s).dev ∧ gate.length * 32 = g.stop - g.stamp) ∧
    (let t : Nat := (11 * tMs)
    let k : Nat := 0
    let gate : List Nat := [3000, 3000]
    let g : Gate := gate1
    let rest : List Gate := []
    let st : List Host.Cell := nkSet
    let s : State := ({ sPm with nk.pm := [(0, { gates := [gate1], active := true })] })
    k < 4 ∧ governing s = some st ∧ (pmon s k).gates = g :: rest ∧ g.stop ≤ (advance t s).dev ∧ gate.length * 32 = g.stop - g.stamp) := by refine ⟨?_, ?_⟩ <;> decide +kernel

theorem witness_PulseMonitorsRun_3 :
    (let k : Nat := 3
    let trig : Nat := 1
    let before : List Nat := []
    let xs : List Nat := (List.replicate 32 5 ++ List.replicate 32 4000)
    let s : State := (withIm [(pNkCaptureEnable, 0, 7), (pNkPretrigger, 0, 32), (pNkEdgeLevel, 3, 100)] sEmit)
    k < 4 ∧ xs.length = 64 ∧ trigOk s k (pmon s k) trig before xs = true ∧ (pmon s k).busy = none) ∧
    (let k : Nat := 3
    let trig : Nat := 2
    let before : List Nat := []
    let xs : List Nat := (List.replicate 64 5)
    let s : State := (withIm [(pNkCaptureEnable, 0, 7), (pNkStringCapture, 0, 8), (pNkSelectN, 3, 4)] { sEmit with nk.pm := [(3, { shot := some (3, 4) })] })
    k < 4 ∧ xs.length = 64 ∧ trigOk s k (pmon s k) trig before xs = true ∧ (pmon s k).busy = none) ∧
    (let k : Nat := 3
    let trig : Nat := 3
    let before : List Nat := []
    let xs : List Nat := (List.replicate 64 5)
    let s : State := (withIm [(pNkCaptureEnable, 0, 7)] { sEmit with nk.pm := [(3, { anom := true })] })
    k < 4 ∧ xs.length = 64 ∧ trigOk s k (pmon s k) trig before xs = true ∧ (pmon s k).busy = none) := by refine ⟨?_, ?_, ?_⟩ <;> decide

theorem witness_PulseMonitorsRun_4 :
    (let t : Nat := 100
    let k : Nat := 3
    let e : Nat := 100
    let s : State := ({ sReady with nk.pm := [(3, { busy := some 100 })], nk.segs := [{ time := 1, chan := 3, str := 255, em := 255, trig := 3, e := 0, gate := none, samples := List.replicate 64 5 }] })
    k < 4 ∧ (pmon s k).busy = some e ∧ e ≤ (advance t s).dev) ∧
    (let t : Nat := 100
    let k : Nat := 3
    let e : Nat := 100
    let s : State := ({ sReady with nk.pm := [(3, { busy := some 100 })] })
    k < 4 ∧ (pmon s k).busy = some e ∧ e ≤ (advance t s).dev) := by refine ⟨?_, ?_⟩ <;> decide

theorem witness_PulseMonitorsRun_5 :
    let k : Nat := 3
    let code : Nat := 31
    let s : State := sReady
    k < 4 ∧ (code < 32 ∨ 96 < code) ∧ (pmon s k).active = false := by decide

theorem witness_PulseMonitorsRun_6 :
    let k : Nat := 3
    let code : Nat := 97
    let s : State := ({ sReady with nk.pm := [(3, { active := true })] })
    k < 4 ∧ (code < 32 ∨ 96 < code) ∧ (pmon s k).active = true := by decide

theorem witness_PulseMonitorsRun_7 :
    let t : Nat := (100 * tMs)
    let k : Nat := 3
    let code : Nat := 96
    let s : State := ({ sReady with nk.pm := [(3, { active := true, clean := 16, baseOk := true })] })
    k < 4 ∧ 32 ≤ code ∧ code ≤ 96 ∧ (pmon s k).active = true ∧ (pmon s k).at_ + 100 * tMs ≤ max s.wall t ∧ 16 ≤ (pmon s k).clean ∧ (pmon s k).lowHad =
      false := by decide

theorem witness_CommissioningRuns_0 :
    let r : Req := (rq 4 (flds [(4, 1)]))
    let s : State := ({ sReady with par.inForce.itinHas := true })
    let c : List Host.Cell := s.nk.conf.getD []
    Ready r s ∧ r.mb = 4 ∧ r.payload = le 1 1 ++ zeros 3 ∧ s.desk.st = 2 ∧ itinReady s = true ∧ s.cal.factory = none ∧ headOpen { s with desk.st := 3, nk.cand := c, nk.candOk := (setInvalid c).isNone } = false := by unfold Ready; decide +kernel

theorem witness_CommissioningRuns_1 :
    (let r : Req := (rq 4 (flds [(4, 2)]))
    let s : State := ({ sNk with desk.st := 3 })
    Ready r s ∧ r.mb = 4 ∧ r.payload = le 1 2 ++ zeros 3 ∧ s.desk.st = 3) ∧
    (let r : Req := (rq 4 (flds [(4, 2)]))
    let s : State := ({ sNk with desk.st := 3, sch.running := true })
    Ready r s ∧ r.mb = 4 ∧ r.payload = le 1 2 ++ zeros 3 ∧ s.desk.st = 3) := by unfold Ready; refine ⟨?_, ?_⟩ <;> decide

theorem witness_CommissioningRuns_2 :
    let r : Req := (rq 4 (flds [(2, 4), (2, 4), (4, 78)]))
    let s : State := ({ sNonce with nk.cand := [] })
    let o : Nat := fld r.payload 0 2
    let n : Nat := fld r.payload 2 2
    let c : List Host.Cell := cputs 0 s.nk.cand o (List.drop 4 r.payload)
    Ready r s ∧ r.mb = 4 ∧ s.desk.st = 3 ∧ r.payload.length = 4 + n ∧ o + n ≤ 1984 ∧ 1 ≤ n ∧ n ≤ 240 ∧ s.nk.wrHeld = false ∧ headOpen { s with nk.cand := c, nk.candOk := (setInvalid c).isNone } = false := by unfold Ready; decide +kernel

theorem witness_CommissioningRuns_3 :
    let r : Req := (rq 4 (flds [(4, 1), (8, 0)]))
    let s : State := sOkCand
    Ready r s ∧ r.mb = 4 ∧ s.desk.st = 3 ∧ r.payload = le 1 1 ++ zeros 11 ∧ setInvalid s.nk.cand = none := by unfold Ready; decide +kernel

theorem witness_CommissioningRuns_4 :
    let t : Nat := 9
    let n : Nat := 99
    let a : Nat := 5
    let r : Req := (rq 4 (le 1 2 ++ zeros 3 ++ le 4 99 ++ le 4 (setCheck nkSet)))
    let s : State := sNonce
    Ready r s ∧ r.mb = 4 ∧ s.desk.st = 3 ∧ s.nk.nonce = some (n, a) ∧ n < 2 ^ 32 ∧ max s.wall t ≤ a + 10 * tSec ∧ r.payload = le 1 2 ++ zeros 3 ++ le
      4 n ++ le 4 (setCheck s.nk.cand) ∧ s.nk.wrHeld = false := by unfold Ready; exact ⟨by decide, rfl, rfl, rfl, by decide, by decide, rfl, rfl⟩

theorem witness_CommissioningRuns_5 :
    (let t : Nat := 9
    let k : Nat := 4
    let tag : Nat := 7
    let a : Nat := 5
    let s : State := sCommi
    Awake s ∧ s.nk.confirm = some (k, tag, a) ∧ max s.wall t ≤ a + 2 * tSec ∧ s.nk.wrHeld = false ∧ (s.desk.st = 3 ∨ s.par.awaiting = [])) ∧
    (let t : Nat := 9
    let k : Nat := 4
    let tag : Nat := 7
    let a : Nat := 5
    let s : State := ({ sCommi with nv.set := nkSet, nv.setRec := some { check := setCheck nkSet, setId := 77, serial := sCommi.nv.serial, count := 3, sig := signRecord (recordBytes (setCheck nkSet) 77 sCommi.nv.serial 3) 0 } })
    Awake s ∧ s.nk.confirm = some (k, tag, a) ∧ max s.wall t ≤ a + 2 * tSec ∧ s.nk.wrHeld = false ∧ (s.desk.st = 3 ∨ s.par.awaiting = [])) := by unfold Awake; refine ⟨?_, ?_⟩ <;> decide

theorem witness_CommissioningRuns_6 :
    let t : Nat := 9
    let k : Nat := 4
    let tag : Nat := 7
    let a : Nat := 5
    let s : State := ({ sCommi with nk.wrHeld := true })
    Awake s ∧ s.nk.confirm = some (k, tag, a) ∧ max s.wall t ≤ a + 2 * tSec ∧ s.nk.wrHeld = true := by unfold Awake; decide

theorem witness_CommissioningRuns_7 :
    let t : Nat := (3 * tSec)
    let k : Nat := 4
    let tag : Nat := 7
    let a : Nat := 5
    let s : State := sCommi
    Awake s ∧ s.nk.confirm = some (k, tag, a) ∧ a + 2 * tSec ≤ max s.wall t := by unfold Awake; decide

theorem witness_NerrakReadsAndClear_0 :
    let r : Req := (rq 1 [])
    let s : State := sEmit
    Ready r s ∧ r.payload = [] := by unfold Ready; decide

theorem witness_NerrakReadsAndClear_1 :
    let r : Req := (rq 1 (flds [(1, 15), (1, 2), (2, 0)]))
    let s : State := sEmit
    Ready r s ∧ r.payload.length = 4 ∧ fld r.payload 0 1 ≤ 15 ∧ fld r.payload 1 1 ≤ 2 ∧ fld r.payload 2 2 = 0 := by unfold Ready; decide

theorem witness_NerrakReadsAndClear_2 :
    let r : Req := (rq 4 [])
    let s : State := ({ sNk with nk.faults := 0xFFF#32, pins.hvCut := true })
    Ready r s ∧ r.mb = 4 ∧ r.payload = [] ∧ (s.desk.st = 2 ∨ s.desk.st = 6) := by unfold Ready; decide

theorem witness_ServoCommandsComplete_0 :
    (let r : Req := (rq 1 (pad 20 [3, 3, 3, 8, 1, 0, 2, 0, 255, 255, 4, 0, 5, 0, 6, 0, 7, 0]))
    let s : State := sSrv
    let n : Nat := fld r.payload 0 1
    let m : Nat := fld r.payload 1 1
    let o : Nat := fld r.payload 2 1
    let b : List Int := List.map (fun i => fldI r.payload (4 + 2 * i) 2) (List.range 4)
    let a : List Int := List.map (fun i => fldI r.payload (12 + 2 * i) 2) (List.range 3)
    Ready r s ∧ r.payload.length = 20 ∧ n < 4 ∧ 1 ≤ m ∧ m ≤ 3 ∧ (o = 3 ∨ o = 2 ∧ b.getD 3 0 = 0 ∧ a.getD 2 0 = 0) ∧ fld r.payload 3 1 ≤ 8 ∧ fld
      r.payload 18 2 = 0) ∧
    (let r : Req := (rq 1 (pad 20 [0, 1, 2, 0, 1, 0, 2, 0, 255, 255, 0, 0, 5, 0, 6, 0, 0, 0]))
    let s : State := sSrv
    let n : Nat := fld r.payload 0 1
    let m : Nat := fld r.payload 1 1
    let o : Nat := fld r.payload 2 1
    let b : List Int := List.map (fun i => fldI r.payload (4 + 2 * i) 2) (List.range 4)
    let a : List Int := List.map (fun i => fldI r.payload (12 + 2 * i) 2) (List.range 3)
    Ready r s ∧ r.payload.length = 20 ∧ n < 4 ∧ 1 ≤ m ∧ m ≤ 3 ∧ (o = 3 ∨ o = 2 ∧ b.getD 3 0 = 0 ∧ a.getD 2 0 = 0) ∧ fld r.payload 3 1 ≤ 8 ∧ fld
      r.payload 18 2 = 0) := by unfold Ready; refine ⟨?_, ?_⟩ <;> decide

theorem witness_ServoCommandsComplete_1 :
    (let r : Req := (rq 1 (flds [(1, 3), (1, 0), (1, 1), (1, 0), (2, 1022), (2, 2), (2, 5), (2, 0xFFFF)]))
    let s : State := sSrv
    let n : Nat := fld r.payload 0 1
    let tb : Nat := fld r.payload 1 1
    let first : Nat := fld r.payload 4 2
    let cnt : Nat := fld r.payload 6 2
    let e : Nat → Int := fun i => fldI r.payload (8 + 2 * i) 2
    Ready r s ∧ r.payload.length = 8 + 2 * cnt ∧ n < 4 ∧ tb ≤ 1 ∧ fld r.payload 2 1 ≤ 1 ∧ fld r.payload 3 1 = 0 ∧ cnt ≤ 112 ∧ first ≤ 1023 ∧ first +
      cnt ≤ 1024 ∧ (tb = 1 → ∀ i < cnt, 0 ≤ e i)) ∧
    (let r : Req := (rq 1 (flds [(1, 0), (1, 1), (1, 0), (1, 0), (2, 0), (2, 2), (2, 5), (2, 0x7FFF)]))
    let s : State := sSrv
    let n : Nat := fld r.payload 0 1
    let tb : Nat := fld r.payload 1 1
    let first : Nat := fld r.payload 4 2
    let cnt : Nat := fld r.payload 6 2
    let e : Nat → Int := fun i => fldI r.payload (8 + 2 * i) 2
    Ready r s ∧ r.payload.length = 8 + 2 * cnt ∧ n < 4 ∧ tb ≤ 1 ∧ fld r.payload 2 1 ≤ 1 ∧ fld r.payload 3 1 = 0 ∧ cnt ≤ 112 ∧ first ≤ 1023 ∧ first +
      cnt ≤ 1024 ∧ (tb = 1 → ∀ i < cnt, 0 ≤ e i)) := by unfold Ready; refine ⟨?_, ?_⟩ <;> decide

theorem witness_ServoCommandsComplete_2 :
    let r : Req := (rq 1 (flds [(4, 3)]))
    let s : State := sSrv
    Ready r s ∧ r.payload.length = 4 ∧ fld r.payload 0 1 ≤ 3 ∧ allZero (List.drop 1 r.payload) = true := by unfold Ready; decide

theorem witness_ServoCommandsComplete_3 :
    (let r : Req := (rq 1 (flds [(1, 5), (1, 26), (2, 0)]))
    let s : State := sTp
    Ready r s ∧ r.payload.length = 4 ∧ fld r.payload 0 1 ≤ 15 ∧ fld r.payload 1 1 ≤ 26 ∧ fld r.payload 2 2 = 0) ∧
    (let r : Req := (rq 1 (flds [(1, 15), (1, 0), (2, 0)]))
    let s : State := sTp
    Ready r s ∧ r.payload.length = 4 ∧ fld r.payload 0 1 ≤ 15 ∧ fld r.payload 1 1 ≤ 26 ∧ fld r.payload 2 2 = 0) := by unfold Ready; refine ⟨?_, ?_⟩ <;> decide

theorem witness_ServoEventsComplete_0 :
    (let t : Nat := 9000100
    let n : Nat := 0
    let x : Int := (-32768)
    let s : State := sSrv
    n < 4 ∧ servosRun s = true ∧ -32768 ≤ x ∧ x ≤ 32767 ∧ sampleDue (advance t s) n = true) ∧
    (let t : Nat := 9000100
    let n : Nat := 3
    let x : Int := 32767
    let s : State := (withIm [(pServoMode, 3, 1)] sSrv)
    n < 4 ∧ servosRun s = true ∧ -32768 ≤ x ∧ x ≤ 32767 ∧ sampleDue (advance t s) n = true) := by refine ⟨?_, ?_⟩ <;> decide

theorem witness_ServoEventsComplete_1 :
    (let raw : Nat := 63
    let s : State := sSrv
    raw < 64 ∧ servosRun s = true) ∧
    (let raw : Nat := 63
    let s : State := (withIm [(pTpSource, 0, 2), (pTpEdge, 0, 3)] { sSrv with nk.marks := { ta := some 0, tm := some 6400000 } })
    raw < 64 ∧ servosRun s = true) := by refine ⟨?_, ?_⟩ <;> decide

theorem witness_ServoEventsComplete_2 :
    let t : Nat := 9600000
    let a : Nat := 0
    let p : Nat := 6400000
    let s : State := sSrv
    let v : Servo := servo s (polyNo s)
    servosRun s = true ∧ v.marks.ta = some a ∧ v.marks.tm = some p ∧ v.marks.missing = false ∧ 3 * p ≤ 2 * ((advance t s).dev - a) := by decide

theorem witness_TimingPortsRun_0 :
    (let t : Nat := 9000
    let p : Nat := 5
    let raw : Nat := 63
    let rising : Bool := true
    let s : State := (withIm [(pTpSource, 5, 2), (pTpEdge, 5, 3)] sTp)
    p < 16 ∧ raw < 64 ∧ servosRun s = true ∧ par s pTpSource p ≠ 7 ∧ (par s pTpEdge p).testBit (if rising = true then 0 else 1) = true ∧ (∀ (e : Nat),
      (tport s p).hold = some e → e ≤ (advance t s).dev)) ∧
    (let t : Nat := 9000
    let p : Nat := 5
    let raw : Nat := 63
    let rising : Bool := false
    let s : State := (withIm [(pTpSource, 5, 1), (pTpEdge, 5, 2)] sTp)
    p < 16 ∧ raw < 64 ∧ servosRun s = true ∧ par s pTpSource p ≠ 7 ∧ (par s pTpEdge p).testBit (if rising = true then 0 else 1) = true ∧ (∀ (e : Nat),
      (tport s p).hold = some e → e ≤ (advance t s).dev)) := by refine ⟨?_, ?_⟩ <;> decide

theorem witness_TimingPortsRun_1 :
    (let t : Nat := 6999
    let p : Nat := 5
    let e : Nat := 7000
    let rising : Bool := true
    let s : State := (withIm [(pTpSource, 5, 2), (pTpEdge, 5, 3)] sTp)
    p < 16 ∧ servosRun s = true ∧ par s pTpSource p ≠ 7 ∧ (par s pTpEdge p).testBit (if rising = true then 0 else 1) = true ∧ (tport s p).hold = some
      e ∧ (advance t s).dev < e) ∧
    (let t : Nat := 6999
    let p : Nat := 5
    let e : Nat := 7000
    let rising : Bool := true
    let s : State := (withIm [(pTpSource, 5, 0), (pTpEdge, 5, 3)] sTp)
    p < 16 ∧ servosRun s = true ∧ par s pTpSource p ≠ 7 ∧ (par s pTpEdge p).testBit (if rising = true then 0 else 1) = true ∧ (tport s p).hold = some
      e ∧ (advance t s).dev < e) := by refine ⟨?_, ?_⟩ <;> decide

theorem witness_TimingPortsRun_2 :
    let p : Nat := 5
    let s : State := (withIm [(pTpSource, 5, 7)] sTp)
    par s pTpSource p = 7 := by decide

theorem witness_TimingPortsRun_3 :
    let t : Nat := 7000
    let p : Nat := 5
    let e : Nat := 7000
    let s : State := sTp
    p < 16 ∧ Awake s ∧ (tport s p).hold = some e ∧ e ≤ (advance t s).dev := by unfold Awake; decide

theorem witness_TimingPortsRun_4 :
    (let t : Nat := (100000 * tUs)
    let p : Nat := 5
    let s : State := sTp
    let x : TPort := tport s p
    let stop : Nat := x.gate + par s pTpGate p * tUs
    p < 16 ∧ servosRun s = true ∧ stop ≤ (advance t s).dev) ∧
    (let t : Nat := (100000 * tUs)
    let p : Nat := 6
    let s : State := sTp
    let x : TPort := tport s p
    let stop : Nat := x.gate + par s pTpGate p * tUs
    p < 16 ∧ servosRun s = true ∧ stop ≤ (advance t s).dev) := by refine ⟨?_, ?_⟩ <;> decide

theorem witness_TimingPortsRun_5 :
    let p : Nat := 5
    let stop : Nat := 90
    let k : Nat := 2
    let ts : List Nat := [1, 40, 79]
    let s : State := sTp
    p < 16 ∧ Awake s ∧ (tport s p).fitting = some (stop, ts, k) := by unfold Awake; decide

theorem witness_LinesRun_0_3 :
    (let t : Nat := (15645024 * 64)
    let facet : Nat := 1
    let s : State := sScan
    let a : State := advance t s
    twinMode s = false ∧ servosRun s = true ∧ s.par.inForce.itinHas = true ∧ lineHanded a facet = true ∧ s.sch.rehand = false ∧ elevSettled s = true ∧
      lineReady a = true ∧ s.sch.truncated = false ∧ turnOk a = true) ∧
    (let t : Nat := (15645024 * 64)
    let facet : Nat := 1
    let s : State := sLine
    let a : State := advance t s
    twinMode s = false ∧ servosRun s = true ∧ s.par.inForce.itinHas = true ∧ lineHanded a facet = true ∧ s.sch.rehand = false ∧ elevSettled s = true ∧
      lineReady a = true ∧ s.sch.truncated = false ∧ turnOk a = true) ∧
    (let t : Nat := (15645024 * 64)
    let facet : Nat := 1
    let s : State := ({ sScan with par.inForce.itin := cputs 0 img1 47 [3] })
    let a : State := advance t s
    twinMode s = false ∧ servosRun s = true ∧ s.par.inForce.itinHas = true ∧ lineHanded a facet = true ∧ s.sch.rehand = false ∧ elevSettled s = true ∧
      lineReady a = true ∧ s.sch.truncated = false ∧ turnOk a = true) ∧
    (let t : Nat := (15645024 * 64)
    let facet : Nat := 1
    let s : State := ({ sLine with sch.line := some { line1 with line := 3 } })
    let a : State := advance t s
    twinMode s = false ∧ servosRun s = true ∧ s.par.inForce.itinHas = true ∧ lineHanded a facet = true ∧ s.sch.rehand = false ∧ elevSettled s = true ∧
      lineReady a = true ∧ s.sch.truncated = false ∧ turnOk a = true) ∧
    (let t : Nat := (15645024 * 64)
    let facet : Nat := 1
    let s : State := ({ sLine with sch.strs := lineDone, sch.line := some { line1 with line := 3 } })
    let a : State := advance t s
    twinMode s = false ∧ servosRun s = true ∧ s.par.inForce.itinHas = true ∧ lineHanded a facet = true ∧ s.sch.rehand = false ∧ elevSettled s = true ∧
      lineReady a = true ∧ s.sch.truncated = false ∧ turnOk a = true) := by refine ⟨?_, ?_, ?_, ?_, ?_⟩ <;> decide

theorem witness_LinesRun_1 :
    let t : Nat := (15645024 * 64)
    let facet : Nat := 1
    let s : State := sRehand
    let a : State := advance t s
    let g : Nat := par0 s pEmitGalvoServo
    twinMode s = false ∧ servosRun s = true ∧ s.par.inForce.itinHas = true ∧ lineHanded a facet = true ∧ s.sch.rehand = true ∧ emitting s = true ∧ g <
      4 ∧ lineElev s.par.inForce.itin 0 ≠ 32768 := by decide

theorem witness_LinesRun_2 :
    let t : Nat := (15645024 * 64)
    let l : LineRun := line1
    let s : State := sLine
    Awake s ∧ s.sch.line = some l ∧ l.tls + l.slots * l.p ≤ coarse (advance t s) ∧ s.sch.elevSent = false := by unfold Awake; decide

theorem witness_SetInstantPlacesShots :
    (let t : Nat := (15645024 * 64)
    let i : Nat := 0
    let l : LineRun := line1
    let s : State := sLine
    let a : State := advance t s
    let q : Nat := (strng s i).nextSlot
    Awake s ∧ i < 16 ∧ s.sch.line = some l ∧ q < l.slots ∧ setCycle s l i q ≤ coarse a) ∧
    (let t : Nat := (15645024 * 64)
    let i : Nat := 15
    let l : LineRun := line1
    let s : State := sLine
    let a : State := advance t s
    let q : Nat := (strng s i).nextSlot
    Awake s ∧ i < 16 ∧ s.sch.line = some l ∧ q < l.slots ∧ setCycle s l i q ≤ coarse a) ∧
    (let t : Nat := (15645024 * 64)
    let i : Nat := 0
    let l : LineRun := line1
    let s : State := ({ sLine with sch.lastEdge := some 127000, sch.ceil := 50 })
    let a : State := advance t s
    let q : Nat := (strng s i).nextSlot
    Awake s ∧ i < 16 ∧ s.sch.line = some l ∧ q < l.slots ∧ setCycle s l i q ≤ coarse a) := by unfold Awake; refine ⟨?_, ?_, ?_⟩ <;> decide

theorem witness_ShotsFire_0 :
    let t : Nat := (15645024 * 64)
    let i : Nat := 0
    let p : Placed := shot1
    let l : LineRun := line1
    let s : State := sShot
    Awake s ∧ (strng s i).placed = some p ∧ p.drive = true ∧ p.edge ≤ (advance t s).dev ∧ s.sch.line = some l ∧ (cellAt (lineCells (pvForce s)
      s.par.inForce.itin l.line) 0 0 0 (p.slot / 8)).isSome = true := by unfold Awake; decide +kernel

theorem witness_ShotsFire_1 :
    let t : Nat := (15645024 * 64)
    let i : Nat := 0
    let s : State := sShot
    Awake s ∧ (strng s i).fire = true ∧ (strng s i).fireEdge + par0 s pEmitFireWidth * 64 ≤ (advance t s).dev := by unfold Awake; decide

theorem witness_ShotsFire_2 :
    let t : Nat := (15645024 * 64)
    let i : Nat := 0
    let s : State := sShot
    Awake s ∧ (strng s i).shunt ≠ 0 ∧ (strng s i).holdEdge + 6400 ≤ (advance t s).dev := by unfold Awake; decide

theorem witness_ShotsFire_3 :
    let s : State := sStand
    twinMode s = true ∧ s.twn.owner = false ∧ 2 ≤ s.desk.st ∧ s.desk.st ≠ 7 ∧ s.twn.copy = none := by decide

theorem witness_LinesRun_0_0 :
    (let t : Nat := (15645024 * 64)
    let facet : Nat := 1
    let s : State := ({ sScan with sch.ready := 10 ^ 12 })
    let a : State := advance t s
    twinMode s = false ∧ servosRun s = true ∧ s.par.inForce.itinHas = true ∧ lineHanded a facet = true ∧ s.sch.rehand = false ∧ elevSettled s = true ∧
      (lineReady a = false ∨ s.sch.truncated = true)) ∧
    (let t : Nat := (15645024 * 64)
    let facet : Nat := 1
    let s : State := ({ sScan with sch.truncated := true })
    let a : State := advance t s
    twinMode s = false ∧ servosRun s = true ∧ s.par.inForce.itinHas = true ∧ lineHanded a facet = true ∧ s.sch.rehand = false ∧ elevSettled s = true ∧
      (lineReady a = false ∨ s.sch.truncated = true)) := by refine ⟨?_, ?_⟩ <;> decide

theorem witness_LinesRun_0_1 :
    (let t : Nat := (15645024 * 64)
    let facet : Nat := 1
    let s : State := (withIm [(pRingTurnRequired, 0, 1)] sScan)
    let a : State := advance t s
    twinMode s = false ∧ servosRun s = true ∧ s.par.inForce.itinHas = true ∧ lineHanded a facet = true ∧ s.sch.rehand = false ∧ elevSettled s = true ∧
      lineReady a = true ∧ s.sch.truncated = false ∧ facetOk facet s = true ∧ turnOk a = false ∧ (s.sch.line = none ∧ s.sch.fbeAt = none ∨ ∃ l,
      s.sch.line = some l ∧ (lineOpen s l = true ∨ l.line + 1 ≠ lineCount s))) ∧
    (let t : Nat := (15645024 * 64)
    let facet : Nat := 1
    let s : State := (withIm [(pRingTurnRequired, 0, 1)] sLine)
    let a : State := advance t s
    twinMode s = false ∧ servosRun s = true ∧ s.par.inForce.itinHas = true ∧ lineHanded a facet = true ∧ s.sch.rehand = false ∧ elevSettled s = true ∧
      lineReady a = true ∧ s.sch.truncated = false ∧ facetOk facet s = true ∧ turnOk a = false ∧ (s.sch.line = none ∧ s.sch.fbeAt = none ∨ ∃ l,
      s.sch.line = some l ∧ (lineOpen s l = true ∨ l.line + 1 ≠ lineCount s))) := by refine ⟨?_, ?_⟩ <;> decide

theorem witness_LinesRun_0_2 :
    let t : Nat := (15645024 * 64)
    let facet : Nat := 1
    let s : State := ({ sLine with sch.strs := lineDone })
    let a : State := advance t s
    let l : LineRun := line1
    twinMode s = false ∧ servosRun s = true ∧ s.par.inForce.itinHas = true ∧ lineHanded a facet = true ∧ s.sch.rehand = false ∧ elevSettled s = true ∧
      lineReady a = true ∧ s.sch.truncated = false ∧ s.sch.line = some l ∧ lineOpen s l = false ∧ l.line + 1 = lineCount s := by decide

theorem witness_ChannelCommandsComplete_0 :
    (let r : Req := (rq 1 (flds [(2, 5), (2, 1), (2, 1), (2, 2), (1, 0), (1, 3), (1, 2), (1, 0), (2, 6), (2, 7), (12, 0)]))
    let s : State := sReady
    let first : Nat := fld r.payload 0 2
    let n : Nat := fld r.payload 2 2
    Ready r s ∧ r.payload.length = 4 + 24 * n ∧ 1 ≤ n ∧ n ≤ 10 ∧ first + n ≤ 1024 ∧ mapFail first r.payload n 0 = none) ∧
    (let r : Req := (rq 1 (flds [(2, 1022), (2, 2), (2, 1), (2, 2), (1, 255), (1, 255), (1, 0), (17, 0), (2, 1), (2, 2), (1, 15), (1, 7), (1, 0), (17,
      0)]))
    let s : State := sReady
    let first : Nat := fld r.payload 0 2
    let n : Nat := fld r.payload 2 2
    Ready r s ∧ r.payload.length = 4 + 24 * n ∧ 1 ≤ n ∧ n ≤ 10 ∧ first + n ≤ 1024 ∧ mapFail first r.payload n 0 = none) := by unfold Ready; refine ⟨?_, ?_⟩ <;> decide

theorem witness_ChannelCommandsComplete_1 :
    (let r : Req := (rq 1 (flds [(2, 1014), (2, 10), (1, 1), (3, 0)]))
    let s : State := sDet
    let first : Nat := fld r.payload 0 2
    let n : Nat := fld r.payload 2 2
    Ready r s ∧ r.payload.length = 8 ∧ 1 ≤ n ∧ n ≤ 10 ∧ first + n ≤ 1024 ∧ fld r.payload 4 1 ≤ 1 ∧ allZero (List.drop 5 r.payload) = true) ∧
    (let r : Req := (rq 1 (flds [(2, 0), (2, 1), (1, 0), (3, 0)]))
    let s : State := sDet
    let first : Nat := fld r.payload 0 2
    let n : Nat := fld r.payload 2 2
    Ready r s ∧ r.payload.length = 8 ∧ 1 ≤ n ∧ n ≤ 10 ∧ first + n ≤ 1024 ∧ fld r.payload 4 1 ≤ 1 ∧ allZero (List.drop 5 r.payload) = true) := by unfold Ready; refine ⟨?_, ?_⟩ <;> decide

theorem witness_ChannelCommandsComplete_2 :
    (let r : Req := (rq 1 (flds [(2, 1023), (2, 3)]))
    let s : State := sFull
    Ready r s ∧ r.payload.length = 4 ∧ fld r.payload 0 2 ≤ 1023 ∧ fld r.payload 2 2 < 4) ∧
    (let r : Req := (rq 1 (flds [(2, 5), (2, 1)]))
    let s : State := sFull
    Ready r s ∧ r.payload.length = 4 ∧ fld r.payload 0 2 ≤ 1023 ∧ fld r.payload 2 2 < 4) := by unfold Ready; refine ⟨?_, ?_⟩ <;> decide

theorem witness_ChannelCommandsComplete_3 :
    let r : Req := (rq 1 (flds [(2, 1023), (2, 29), (4, 1000000)]))
    let s : State := sReady
    let n : Nat := fld r.payload 2 2
    let us : Nat := fld r.payload 4 4
    Ready r s ∧ r.payload.length = 8 ∧ s.capture = none ∧ fld r.payload 0 2 ≤ 1023 ∧ 1 ≤ n ∧ n ≤ 29 ∧ 1 ≤ us ∧ us ≤ 1000000 := by unfold Ready; decide

theorem witness_ChannelCommandsComplete_4 :
    (let t : Nat := 9
    let k : Capture := cap1
    let s : State := sCap
    Awake s ∧ s.capture = some k ∧ k.mb < 8 ∧ k.stamps.length ≤ 29 ∧ (mb s k.mb).origin = none ∧ (k.count ≤ k.stamps.length ∨ k.until_ ≤ (advance t
      s).dev)) ∧
    (let t : Nat := 900
    let k : Capture := { cap1 with count := 29 }
    let s : State := ({ sCap with capture := some { cap1 with count := 29 } })
    Awake s ∧ s.capture = some k ∧ k.mb < 8 ∧ k.stamps.length ≤ 29 ∧ (mb s k.mb).origin = none ∧ (k.count ≤ k.stamps.length ∨ k.until_ ≤ (advance t
      s).dev)) := by unfold Awake; refine ⟨?_, ?_⟩ <;> decide

theorem witness_ChannelEventsComplete_0 :
    (let c : Nat := 5
    let s : State := sDet
    c < 1024 ∧ detectorsRun s = true ∧ (ch s c).armed = true ∧ chEnabled s c = true ∧ inOutage s c = false) ∧
    (let c : Nat := 1023
    let s : State := sDet
    c < 1024 ∧ detectorsRun s = true ∧ (ch s c).armed = true ∧ chEnabled s c = true ∧ inOutage s c = false) := by refine ⟨?_, ?_⟩ <;> decide

theorem witness_ChannelEventsComplete_1 :
    let c : Nat := 5
    let s : State := ({ sDet with ch := [(5, { armed := false })] })
    c < 1024 ∧ detectorsRun s = true ∧ ((ch s c).armed = false ∨ chEnabled s c = false ∨ inOutage s c = true) := by decide

theorem witness_ChannelEventsComplete_2 :
    let t : Nat := 1000000300
    let c : Nat := 5
    let s : State := ({ sDet with ch := [(5, { armed := false, det := true, last := 5 })] })
    c < 1024 ∧ detectorsRun s = true ∧ (ch s c).armed = false ∧ (ch s c).last + par s pChDeadTime c * 64 ≤ (advance t s).dev := by decide

theorem witness_ChannelEventsComplete_3 :
    let t : Nat := 1100000300
    let c : Nat := 5
    let s : State := ({ sDet with ch := [(5, { det := true })] })
    c < 1024 ∧ detectorsRun s = true ∧ chEnabled s c = true ∧ (ch s c).det = true ∧ (ch s c).stuckFr = false ∧ max (ch s c).detSince (ch s c).enSince
      + 10 * tUs ≤ (advance t s).dev := by decide

theorem witness_ChannelEventsComplete_4_0 :
    (let t : Nat := 1100000300
    let c : Nat := 5
    let e : QEnt := qe1
    let rest : List QEnt := []
    let s : State := ({ sPend with ch := [(5, { pend := [qe1] })] })
    Awake s ∧ (ch s c).pend = e :: rest ∧ (e.stamp / 64 + cdiv (gPar s e.gen pCoincWindow (c / 16)) 2 + 2) * 64 ≤ (advance t s).dev ∧ coincCount s
      e.gen c e.stamp < depthG s e.gen c) ∧
    (let t : Nat := 1100000300
    let c : Nat := 5
    let e : QEnt := { qe1 with out := true }
    let rest : List QEnt := []
    let s : State := ({ sPend with ch := [(5, { pend := [{ qe1 with out := true }] })] })
    Awake s ∧ (ch s c).pend = e :: rest ∧ (e.stamp / 64 + cdiv (gPar s e.gen pCoincWindow (c / 16)) 2 + 2) * 64 ≤ (advance t s).dev ∧ coincCount s
      e.gen c e.stamp < depthG s e.gen c) := by unfold Awake; refine ⟨?_, ?_⟩ <;> decide

theorem witness_ChannelEventsComplete_4_1 :
    (let t : Nat := 1100000300
    let c : Nat := 5
    let e : QEnt := qe1
    let rest : List QEnt := []
    let s : State := sPend
    Awake s ∧ (ch s c).pend = e :: rest ∧ (e.stamp / 64 + cdiv (gPar s e.gen pCoincWindow (c / 16)) 2 + 2) * 64 ≤ (advance t s).dev ∧ depthG s e.gen c
      ≤ coincCount s e.gen c e.stamp) ∧
    (let t : Nat := 1100000300
    let c : Nat := 5
    let e : QEnt := qe1
    let rest : List QEnt := []
    let s : State := sFull
    Awake s ∧ (ch s c).pend = e :: rest ∧ (e.stamp / 64 + cdiv (gPar s e.gen pCoincWindow (c / 16)) 2 + 2) * 64 ≤ (advance t s).dev ∧ depthG s e.gen c
      ≤ coincCount s e.gen c e.stamp) ∧
    (let t : Nat := 1100000300
    let c : Nat := 5
    let e : QEnt := qe1
    let rest : List QEnt := []
    let s : State := sShed
    Awake s ∧ (ch s c).pend = e :: rest ∧ (e.stamp / 64 + cdiv (gPar s e.gen pCoincWindow (c / 16)) 2 + 2) * 64 ≤ (advance t s).dev ∧ depthG s e.gen c
      ≤ coincCount s e.gen c e.stamp) := by unfold Awake; refine ⟨?_, ?_, ?_⟩ <;> decide

theorem witness_AmbientRuns_0 :
    let r : Req := (rq 1 (flds [(4, 7)]))
    let s : State := sDet
    Ready r s ∧ r.payload.length = 4 ∧ fld r.payload 0 1 ≤ 7 ∧ allZero (List.drop 1 r.payload) = true := by unfold Ready; decide

theorem witness_AmbientRuns_1 :
    (let r : Req := (rq 1 (flds [(4, 15), (4, 0xFFFFFFFF)]))
    let s : State := sDet
    Ready r s ∧ r.payload.length = 8 ∧ fld r.payload 0 1 ≤ 15 ∧ allZero (List.take 3 (List.drop 1 r.payload)) = true) ∧
    (let r : Req := (rq 1 (flds [(4, 0), (4, 77)]))
    let s : State := sDet
    Ready r s ∧ r.payload.length = 8 ∧ fld r.payload 0 1 ≤ 15 ∧ allZero (List.take 3 (List.drop 1 r.payload)) = true) := by unfold Ready; refine ⟨?_, ?_⟩ <;> decide

theorem witness_AmbientRuns_2 :
    let t : Nat := 1100000300
    let c : Nat := 2000
    let l : LineRun := line1
    let s : State := sDet
    Awake s ∧ s.sch.line = some l ∧ pointStartCycle s l s.amb.nextIdx = some c ∧ c ≤ coarse (advance t s) := by unfold Awake; decide +kernel

theorem witness_AmbientRuns_3 :
    (let t : Nat := 900
    let iv : Machine.Interval := ({ start := 999999000, frame := 4, line := 0, idx := 3 })
    let s : State := sIval
    Awake s ∧ s.amb.interval = some iv ∧ (ivEnd (advance t s) iv ≤ (advance t s).dev ∨ s.sch.line = none ∧ iv.close = 0)) ∧
    (let t : Nat := 900
    let iv : Machine.Interval := ({ start := 999999000, frame := 4, line := 0, idx := 3, close := 999999500 })
    let s : State := sIvalClosed
    Awake s ∧ s.amb.interval = some iv ∧ (ivEnd (advance t s) iv ≤ (advance t s).dev ∨ s.sch.line = none ∧ iv.close = 0)) := by unfold Awake; refine ⟨?_, ?_⟩ <;> decide

theorem witness_TallyCommandsComplete_0 :
    (let r : Req := (rq 1 (flds [(1, 63), (1, 3), (2, 0)]))
    let s : State := sReady
    Ready r s ∧ r.payload.length = 4 ∧ fld r.payload 0 1 ≤ 63 ∧ fld r.payload 1 1 < 4 ∧ fld r.payload 2 2 = 0) ∧
    (let r : Req := (rq 1 (flds [(1, 0), (1, 0), (2, 0)]))
    let s : State := ({ sReady with tal.rods := [(0, { closed := 5, incs := 6 })] })
    Ready r s ∧ r.payload.length = 4 ∧ fld r.payload 0 1 ≤ 63 ∧ fld r.payload 1 1 < 4 ∧ fld r.payload 2 2 = 0) := by unfold Ready; refine ⟨?_, ?_⟩ <;> decide

theorem witness_TallyCommandsComplete_1 :
    let r : Req := (rq 1 (flds [(4, 7)]))
    let s : State := sReady
    Ready r s ∧ r.payload.length = 4 ∧ fld r.payload 0 1 ≤ 7 ∧ allZero (List.drop 1 r.payload) = true := by unfold Ready; decide

theorem witness_TallyCommandsComplete_2 :
    (let r : Req := (rq 1 (pad 20 [3, 2, 1, 0, 5, 6]))
    let s : State := sReady
    let k : Nat := fld r.payload 0 1
    let l : Nat := fld r.payload 1 1
    let m : Tmpl := { taps := List.map (fun i => fld r.payload (4 + i) 1) (List.range l), anchor := fld r.payload 2 1 }
    Ready r s ∧ r.payload.length = 20 ∧ k ≤ 3 ∧ 1 ≤ l ∧ l ≤ 16 ∧ m.anchor < l ∧ fld r.payload 3 1 = 0 ∧ allZero (List.drop (4 + l) r.payload) = true ∧
      0 < sumN m.taps) ∧
    (let r : Req := (rq 1 (pad 20 [1, 1, 0, 0, 128]))
    let s : State := sReady
    let k : Nat := fld r.payload 0 1
    let l : Nat := fld r.payload 1 1
    let m : Tmpl := { taps := List.map (fun i => fld r.payload (4 + i) 1) (List.range l), anchor := fld r.payload 2 1 }
    Ready r s ∧ r.payload.length = 20 ∧ k ≤ 3 ∧ 1 ≤ l ∧ l ≤ 16 ∧ m.anchor < l ∧ fld r.payload 3 1 = 0 ∧ allZero (List.drop (4 + l) r.payload) = true ∧
      0 < sumN m.taps) := by unfold Ready; refine ⟨?_, ?_⟩ <;> decide

theorem witness_TallyCommandsComplete_3 :
    (let r : Req := (rq 1 (flds [(1, 7), (1, 2), (2, 0)]))
    let s : State := sReady
    Ready r s ∧ r.payload.length = 4 ∧ fld r.payload 0 1 ≤ 7 ∧ fld r.payload 1 1 < 4 ∧ fld r.payload 2 2 = 0) ∧
    (let r : Req := (rq 1 (flds [(1, 0), (1, 1), (2, 0)]))
    let s : State := ({ sReady with ext.decks := [(0, { served := 5, peak := 3 })] })
    Ready r s ∧ r.payload.length = 4 ∧ fld r.payload 0 1 ≤ 7 ∧ fld r.payload 1 1 < 4 ∧ fld r.payload 2 2 = 0) := by unfold Ready; refine ⟨?_, ?_⟩ <;> decide

theorem witness_PagesLive_0 :
    (let rod : Nat := 0
    let c : Nat := 5
    let w : Nat := (queueWord 1000000100)
    let rest : List Nat := []
    let s : State := ({ sPage with ch := [(5, { queue := [queueWord 1000000100], pts := [pt1] })] })
    Awake s ∧ rod < 64 ∧ nextQueue s rod (talRod s rod).rr = some c ∧ (ch s c).queue = w :: rest) ∧
    (let rod : Nat := 0
    let c : Nat := 5
    let w : Nat := (queueWord 1000000100)
    let rest : List Nat := []
    let s : State := sTalFine
    Awake s ∧ rod < 64 ∧ nextQueue s rod (talRod s rod).rr = some c ∧ (ch s c).queue = w :: rest) ∧
    (let rod : Nat := 0
    let c : Nat := 5
    let w : Nat := (queueWord 1000000100)
    let rest : List Nat := []
    let s : State := sTalHold
    Awake s ∧ rod < 64 ∧ nextQueue s rod (talRod s rod).rr = some c ∧ (ch s c).queue = w :: rest) ∧
    (let rod : Nat := 0
    let c : Nat := 5
    let w : Nat := (queueWord 1000000100)
    let rest : List Nat := []
    let s : State := sTalMax
    Awake s ∧ rod < 64 ∧ nextQueue s rod (talRod s rod).rr = some c ∧ (ch s c).queue = w :: rest) := by unfold Awake; refine ⟨?_, ?_, ?_, ?_⟩ <;> decide

theorem witness_PagesLive_1 :
    let t : Nat := 1000000500
    let c : Nat := 5
    let sh : Shot := fired1
    let rest : List Shot := []
    let s : State := sDet
    Awake s ∧ newShots s c = sh :: rest ∧ sh.nth = 1 ∧ (page s (2 * c)).st = 0 ∧ (∀ (k : Nat), latestPage (ch s c) = some k → groupHeld (advance t s)
      k = false) := by unfold Awake; decide

theorem witness_PagesLive_3 :
    (let t : Nat := 1100000500
    let c : Nat := 5
    let p : PtRef := pt1
    let s : State := sPage
    Awake s ∧ endedPoint (advance t s) c = some p) ∧
    (let t : Nat := 1100000500
    let c : Nat := 5
    let p : PtRef := { pt1 with page := none, cause := 1 }
    let s : State := sNoPage
    Awake s ∧ endedPoint (advance t s) c = some p) := by unfold Awake; refine ⟨?_, ?_⟩ <;> decide

theorem witness_PagesLive_4 :
    (let t : Nat := 1100000500
    let c : Nat := 5
    let k : Nat := 10
    let s : State := sHeldPg
    Awake s ∧ heldPage s c = some k ∧ pageFree s k = true ∧ groupFree (advance t s) (k / 32) = true) ∧
    (let t : Nat := 1100000500
    let c : Nat := 5
    let k : Nat := 10
    let s : State := sHeldStack
    Awake s ∧ heldPage s c = some k ∧ pageFree s k = true ∧ groupFree (advance t s) (k / 32) = true) := by unfold Awake; refine ⟨?_, ?_⟩ <;> decide

theorem witness_PagesLive_5 :
    let t : Nat := 1100000500
    let c : Nat := 5
    let k : Nat := 10
    let s : State := sServed
    Awake s ∧ c ≤ 1023 ∧ servedPage (advance t s) c = some k := by unfold Awake; decide

theorem witness_ScoutAndStackRun_0 :
    let t : Nat := 1100000500
    let rod : Nat := 0
    let k : Nat := 10
    let s : State := sScout
    Awake s ∧ (talRod s rod).run = none ∧ scoutNext (advance t s) rod = some k := by unfold Awake; decide

theorem witness_ScoutAndStackRun_1 :
    let t : Nat := 1100000500
    let rod : Nat := 0
    let k : Nat := 10
    let b : Nat := 50
    let s : State := sScoutRun
    Awake s ∧ (talRod s rod).run = some (k, b) ∧ b + 80 * tNs ≤ (advance t s).dev := by unfold Awake; decide

theorem witness_ScoutAndStackRun_2 :
    (let s : State := sReplay
    Awake s) ∧
    (let s : State := sReplay2
    Awake s) := by unfold Awake; refine ⟨?_, ?_⟩ <;> decide

theorem witness_ScoutAndStackRun_3 :
    (let c : Nat := 5
    let k : Nat := 10
    let s : State := sStackPg
    Awake s ∧ stackPage s c = some k) ∧
    (let c : Nat := 5
    let k : Nat := 10
    let s : State := sStackAdd
    Awake s ∧ stackPage s c = some k) ∧
    (let c : Nat := 5
    let k : Nat := 10
    let s : State := sStackOut
    Awake s ∧ stackPage s c = some k) := by unfold Awake; refine ⟨?_, ?_, ?_⟩ <;> decide

theorem witness_ExtractorsRun_0 :
    (let t : Nat := 1100000500
    let d : Nat := 0
    let k : Nat := 10
    let gr : Machine.Group := { rod := 0, at_ := 9, pages := [10] }
    let rest : List Nat := []
    let s : State := sQueued
    Awake s ∧ d ≤ 7 ∧ (extDeck s d).busyUntil ≤ 5 * (advance t s).dev + 4 ∧ nextGroup (extDeck s d).queue = some gr ∧ gr.pages = k :: rest ∧ k < 2048) ∧
    (let t : Nat := 1100000500
    let d : Nat := 0
    let k : Nat := 10
    let gr : Machine.Group := { rod := 0, at_ := 9, pages := [10] }
    let rest : List Nat := []
    let s : State := sPeak
    Awake s ∧ d ≤ 7 ∧ (extDeck s d).busyUntil ≤ 5 * (advance t s).dev + 4 ∧ nextGroup (extDeck s d).queue = some gr ∧ gr.pages = k :: rest ∧ k < 2048) := by unfold Awake; refine ⟨?_, ?_⟩ <;> decide

theorem witness_ExtractorsRun_1 :
    let d : Nat := 0
    let v : Service := svc1
    let rest : List Service := []
    let s : State := sServ
    Awake s ∧ (extDeck s d).services = v :: rest := by unfold Awake; decide

theorem witness_PagesLive_2 :
    let t : Nat := 1000000500
    let c : Nat := 5
    let k : Nat := 11
    let sh : Shot := fired1
    let rest : List Shot := []
    let s : State := sMerge
    let g : Page := page s k
    Awake s ∧ newShots s c = sh :: rest ∧ sh.nth = 1 ∧ latestPage (ch s c) = some k ∧ groupHeld (advance t s) k = true ∧ g.d.frame = sh.frame ∧
      g.d.gen = sh.gen ∧ g.d.b = sh.b ∧ g.d.f = sh.f ∧ g.d.o = sh.o ∧ g.d.shots + sh.n ≤ 255 := by unfold Awake; decide

theorem witness_EmissionCommandsComplete_0_0 :
    let r : Req := (rq 1 (flds [(1,1),(1,0),(2,2),(4,131070),(2,77)]))
    let s : State := ({ sReady with sch.baseArmed := true })
    let n : Nat := fld r.payload 2 2
    let o : Nat := fld r.payload 4 4
    Ready r s ∧ r.payload.length = 8 + n ∧ fld r.payload 1 1 = 0 ∧ 1 ≤ n ∧ n ≤ 240 ∧ o + n ≤ 131072 ∧ fld r.payload 0 1 = 1 := by unfold Ready; decide

theorem witness_EmissionCommandsComplete_0_1 :
    let t : Nat := 9
    let r : Req := (rq 1 (flds [(1,0),(1,0),(2,2),(4,0),(2,77)]))
    let s : State := sPlan
    let n : Nat := fld r.payload 2 2
    let o : Nat := fld r.payload 4 4
    Ready r s ∧ r.payload.length = 8 + n ∧ fld r.payload 1 1 = 0 ∧ 1 ≤ n ∧ n ≤ 240 ∧ o + n ≤ 131072 ∧ fld r.payload 0 1 = 0 ∧ par0 s pPlanMode ≠ 0 ∧
      s.sch.copyBack ≤ (advance t s).dev := by unfold Ready; decide

theorem witness_EmissionCommandsComplete_1 :
    (let r : Req := (rq 1 (flds [(1,1),(1,0),(2,236),(4,0)]))
    let s : State := sBase
    let n : Nat := fld r.payload 2 2
    let o : Nat := fld r.payload 4 4
    Ready r s ∧ r.payload.length = 8 ∧ fld r.payload 0 1 ≤ 2 ∧ fld r.payload 1 1 = 0 ∧ 1 ≤ n ∧ n ≤ 236 ∧ o + n ≤ 131072) ∧
    (let r : Req := (rq 1 (flds [(1,2),(1,0),(2,1),(4,131071)]))
    let s : State := sBase
    let n : Nat := fld r.payload 2 2
    let o : Nat := fld r.payload 4 4
    Ready r s ∧ r.payload.length = 8 ∧ fld r.payload 0 1 ≤ 2 ∧ fld r.payload 1 1 = 0 ∧ 1 ≤ n ∧ n ≤ 236 ∧ o + n ≤ 131072) := by unfold Ready; refine ⟨?_, ?_⟩ <;> decide

theorem witness_EmissionCommandsComplete_2 :
    let t : Nat := 9
    let r : Req := (rq 1 (flds [(1,1),(1,1),(2,0)]))
    let s : State := sBaseOk
    let img : List Host.Cell := itinTarget s (fld r.payload 0 1)
    let v : Verdict := validate (advance t s) s.par.shadow img
    Ready r s ∧ r.payload.length = 4 ∧ fld r.payload 0 1 ≤ 1 ∧ fld r.payload 1 1 ≤ fld r.payload 0 1 ∧ fld r.payload 2 2 = 0 ∧ v.reason = 0 := by unfold Ready; decide +kernel

theorem witness_EmissionCommandsComplete_3 :
    (let r : Req := (rq 1 (flds [(1,3),(1,0),(2,0),(1,255),(1,1),(2,0),(2,4095)]))
    let s : State := sReady
    let k : Nat := fld r.payload 0 1
    let ty : Nat := fld r.payload 1 1
    let sh : Nat := fld r.payload 2 2
    let first : Nat := fld r.payload 4 1
    let n : Nat := fld r.payload 5 1
    let es : List Nat := List.map (fun i => fld r.payload (8 + 2 * i) 2) (List.range n)
    Ready r s ∧ r.payload.length = 8 + 2 * n ∧ k ≤ 3 ∧ fld r.payload 6 2 = 0 ∧ ((ty = 0 ∧ sh = 0 ∧ 1 ≤ n ∧ n ≤ 112 ∧ first + n ≤ 256 ∧ ∀ e ∈ es, e ≤
      4095) ∨ ty = 1 ∧ first = 0 ∧ n = 0 ∧ 10 ≤ sh ∧ sh ≤ 600 ∨ ty = 2 ∧ first = 0 ∧ n = 0 ∧ 1024 ≤ sh ∧ sh ≤ 16384)) ∧
    (let r : Req := (rq 1 (flds [(1,0),(1,1),(2,600),(1,0),(1,0),(2,0)]))
    let s : State := sReady
    let k : Nat := fld r.payload 0 1
    let ty : Nat := fld r.payload 1 1
    let sh : Nat := fld r.payload 2 2
    let first : Nat := fld r.payload 4 1
    let n : Nat := fld r.payload 5 1
    let es : List Nat := List.map (fun i => fld r.payload (8 + 2 * i) 2) (List.range n)
    Ready r s ∧ r.payload.length = 8 + 2 * n ∧ k ≤ 3 ∧ fld r.payload 6 2 = 0 ∧ ((ty = 0 ∧ sh = 0 ∧ 1 ≤ n ∧ n ≤ 112 ∧ first + n ≤ 256 ∧ ∀ e ∈ es, e ≤
      4095) ∨ ty = 1 ∧ first = 0 ∧ n = 0 ∧ 10 ≤ sh ∧ sh ≤ 600 ∨ ty = 2 ∧ first = 0 ∧ n = 0 ∧ 1024 ≤ sh ∧ sh ≤ 16384)) ∧
    (let r : Req := (rq 1 (flds [(1,0),(1,2),(2,0x400),(1,0),(1,0),(2,0)]))
    let s : State := sReady
    let k : Nat := fld r.payload 0 1
    let ty : Nat := fld r.payload 1 1
    let sh : Nat := fld r.payload 2 2
    let first : Nat := fld r.payload 4 1
    let n : Nat := fld r.payload 5 1
    let es : List Nat := List.map (fun i => fld r.payload (8 + 2 * i) 2) (List.range n)
    Ready r s ∧ r.payload.length = 8 + 2 * n ∧ k ≤ 3 ∧ fld r.payload 6 2 = 0 ∧ ((ty = 0 ∧ sh = 0 ∧ 1 ≤ n ∧ n ≤ 112 ∧ first + n ≤ 256 ∧ ∀ e ∈ es, e ≤
      4095) ∨ ty = 1 ∧ first = 0 ∧ n = 0 ∧ 10 ≤ sh ∧ sh ≤ 600 ∨ ty = 2 ∧ first = 0 ∧ n = 0 ∧ 1024 ≤ sh ∧ sh ≤ 16384)) := by unfold Ready; refine ⟨?_, ?_, ?_⟩ <;> decide

theorem witness_EmissionCommandsComplete_4 :
    let r : Req := (rq 1 (flds [(1,1),(3,0),(2,5),(2,5),(2,0),(2,1023)]))
    let s : State := sReady
    let n : Nat := fld r.payload 0 1
    let rs : List Roi := List.map (fun i => { azLo := fld r.payload (4 + 8 * i) 2, azHi := fld r.payload (6 + 8 * i) 2, rowLo := fld r.payload (8 + 8 * i) 2, rowHi := fld r.payload (10 + 8 * i) 2 }) (List.range n)
    Ready r s ∧ r.payload.length = 4 + 8 * n ∧ n ≤ 4 ∧ allZero (List.take 3 (List.drop 1 r.payload)) = true ∧ (∀ q ∈ rs, q.azLo ≤ q.azHi ∧ q.rowLo ≤
      q.rowHi ∧ q.rowHi ≤ 1023) := by unfold Ready; decide

theorem witness_EmissionCommandsComplete_5 :
    let r : Req := (rq 1 (flds [(1,3),(3,0)]))
    let s : State := ({ sReady with sch.fired := 9, sch.shifts := 3, sch.gap := CntW.add {} 7 })
    Ready r s ∧ r.payload.length = 4 ∧ fld r.payload 0 1 < 4 ∧ allZero (List.drop 1 r.payload) = true := by unfold Ready; decide

theorem witness_CalibrationCommandsComplete_0 :
    let r : Req := (rq 5 [])
    let s : State := sDbg
    Ready r s ∧ r.mb = 5 ∧ 1 ≤ s.desk.debug ∧ r.payload = [] ∧ s.desk.st = 2 ∧ s.cal.factory = none := by unfold Ready; decide

theorem witness_CalibrationCommandsComplete_1 :
    (let r : Req := (rq 1 (flds [(1,63),(3,0)]))
    let s : State := sReady
    Ready r s ∧ r.payload.length = 4 ∧ fld r.payload 0 1 ≤ 63 ∧ allZero (List.drop 1 r.payload) = true ∧ s.desk.st ≠ 1 ∧ s.desk.st ≠ 6 ∧ s.cal.outage
      = none) ∧
    (let r : Req := (rq 1 (flds [(1,0),(3,0)]))
    let s : State := sRun
    Ready r s ∧ r.payload.length = 4 ∧ fld r.payload 0 1 ≤ 63 ∧ allZero (List.drop 1 r.payload) = true ∧ s.desk.st ≠ 1 ∧ s.desk.st ≠ 6 ∧ s.cal.outage
      = none) := by unfold Ready; refine ⟨?_, ?_⟩ <;> decide

theorem witness_CalibrationCommandsComplete_2 :
    let r : Req := (rq 1 (flds [(2,1023),(2,1),(4,16777215),(2,250),(1,1),(1,0)]))
    let s : State := sRun
    let n : Nat := fld r.payload 2 2
    let d : Nat := fld r.payload 4 4
    let k : Nat := fld r.payload 8 2
    Ready r s ∧ r.payload.length = 12 ∧ stEmits s = true ∧ fld r.payload 0 2 ≤ 1023 ∧ 1 ≤ n ∧ fld r.payload 0 2 + n ≤ 1024 ∧ 1 ≤ d ∧ d ≤ 16777215 ∧ 1
      ≤ k ∧ k ≤ 250 ∧ fld r.payload 10 1 ≤ 1 ∧ fld r.payload 11 1 = 0 ∧ s.cal.meas = none := by unfold Ready; decide

theorem witness_CalibrationCommandsComplete_3 :
    let r : Req := (rq 1 (flds [(4,1048576),(1,1),(3,0)]))
    let s : State := sStandRun
    let n : Nat := fld r.payload 0 4
    Ready r s ∧ r.payload.length = 8 ∧ standby s = true ∧ ownerEmits s = true ∧ 1024 ≤ n ∧ n ≤ 1048576 ∧ fld r.payload 4 1 ≤ 1 ∧ allZero (List.drop 5
      r.payload) = true ∧ s.cal.meas = none := by unfold Ready; decide

theorem witness_CalibrationCommandsComplete_4 :
    let r : Req := (rq 1 (flds [(2,1023),(2,3)]))
    let s : State := sReady
    Ready r s ∧ r.payload.length = 4 ∧ fld r.payload 0 2 ≤ 1023 ∧ fld r.payload 2 2 < 4 := by unfold Ready; decide

theorem witness_CalibrationEventsComplete_0 :
    (let c : Nat := 5
    let s : State := (sFill 4096)
    Awake s ∧ 2 ^ par0 s pCalCdEvents ≤ (calCh s c).fill) ∧
    (let c : Nat := 5
    let s : State := (sFill 1)
    Awake s ∧ 2 ^ par0 s pCalCdEvents ≤ (calCh s c).fill) := by unfold Awake; refine ⟨?_, ?_⟩ <;> decide

theorem witness_CalibrationEventsComplete_1 :
    let t : Nat := 9
    let s : State := sBlend
    Awake s ∧ s.sch.running = false ∧ s.cal.blendAt + 40 * tMs ≤ (advance t s).dev ∧ (List.any s.cal.ch fun p => p.2.blend.isSome) = true := by unfold Awake; decide

theorem witness_CalibrationEventsComplete_2 :
    (let t : Nat := 9
    let s : State := sSave
    Awake s ∧ par0 s pCalSaveInterval ≠ 0 ∧ s.cal.saveTry + par0 s pCalSaveInterval * 60 * tSec ≤ (advance t s).dev ∧ s.cal.changed = true ∧
      s.nk.wrHeld = false) ∧
    (let t : Nat := 9
    let s : State := ({ sSave with nv.calFile := calImage (fileNow sSave) })
    Awake s ∧ par0 s pCalSaveInterval ≠ 0 ∧ s.cal.saveTry + par0 s pCalSaveInterval * 60 * tSec ≤ (advance t s).dev ∧ s.cal.changed = true ∧
      s.nk.wrHeld = false) := by unfold Awake; refine ⟨?_, ?_⟩ <;> decide

theorem witness_CalibrationEventsComplete_3 :
    (let f : FactoryResult := (fRes 8)
    let s : State := sFact
    Awake s ∧ (f.failStep = 1 ∨ 7 < f.failStep)) ∧
    (let f : FactoryResult := (fRes 1)
    let s : State := sFact
    Awake s ∧ (f.failStep = 1 ∨ 7 < f.failStep)) := by unfold Awake; refine ⟨?_, ?_⟩ <;> decide

theorem witness_CalibrationEventsComplete_4 :
    (let f : FactoryResult := (fRes 0)
    let s : State := sFact
    Awake s ∧ s.cal.factory.isSome = true ∧ f.failStep ≠ 1 ∧ f.failStep ≤ 7) ∧
    (let f : FactoryResult := (fRes 4)
    let s : State := sFact
    Awake s ∧ s.cal.factory.isSome = true ∧ f.failStep ≠ 1 ∧ f.failStep ≤ 7) := by unfold Awake; refine ⟨?_, ?_⟩ <;> decide

theorem witness_CalibrationEventsComplete_5 :
    let b : Nat := 5
    let o : Outage := ({ rod := 2, start := some 5 })
    let s : State := sOut
    Awake s ∧ s.cal.outage = some o ∧ o.start = some b := by unfold Awake; decide

theorem witness_CalibrationEventsComplete_6 :
    (let m : Measure := { meas1 with done := 9 }
    let s : State := ({ sReady with cal.meas := some { meas1 with done := 9 } })
    Awake s ∧ s.cal.meas = some m ∧ (if m.skew = true then m.n ≤ (tget (0, 0) m.sums 0).2 else m.n ≤ m.done)) ∧
    (let m : Measure := meas2
    let s : State := ({ sReady with cal.meas := some meas2 })
    Awake s ∧ s.cal.meas = some m ∧ (if m.skew = true then m.n ≤ (tget (0, 0) m.sums 0).2 else m.n ≤ m.done)) := by unfold Awake; refine ⟨?_, ?_⟩ <;> decide

theorem witness_FramesEnd_0 :
    (let t : Nat := 9
    let x : Nat := 1000000200
    let s : State := sFbe
    Awake s ∧ s.sch.fbeAt = some x ∧ x ≤ (advance t s).dev) ∧
    (let t : Nat := 9
    let x : Nat := 1000000200
    let s : State := sTimely
    Awake s ∧ s.sch.fbeAt = some x ∧ x ≤ (advance t s).dev) ∧
    (let t : Nat := 9
    let x : Nat := 1000000200
    let s : State := sStopPend
    Awake s ∧ s.sch.fbeAt = some x ∧ x ≤ (advance t s).dev) ∧
    (let t : Nat := 9
    let x : Nat := 1000000200
    let s : State := sExitPend
    Awake s ∧ s.sch.fbeAt = some x ∧ x ≤ (advance t s).dev) ∧
    (let t : Nat := 9
    let x : Nat := 1000000200
    let s : State := ({ sTimely with sch.truncated := true })
    Awake s ∧ s.sch.fbeAt = some x ∧ x ≤ (advance t s).dev) ∧
    (let t : Nat := 9
    let x : Nat := 1000000200
    let s : State := ({ sTimely with desk.st := 5, desk.pendRun := true, sch.ceil := 1023, sch.rdiv := 2 })
    Awake s ∧ s.sch.fbeAt = some x ∧ x ≤ (advance t s).dev) := by unfold Awake; refine ⟨?_, ?_, ?_, ?_, ?_, ?_⟩ <;> decide

theorem witness_FramesEnd_1 :
    (let t : Nat := 9
    let d : Nat := 999744400
    let s : State := (sJudge 999744300)
    Awake s ∧ sealDeadline s = some d ∧ d ≤ (advance t s).dev) ∧
    (let t : Nat := 9
    let d : Nat := 999744400
    let s : State := (sJudge 999744400)
    Awake s ∧ sealDeadline s = some d ∧ d ≤ (advance t s).dev) := by unfold Awake; refine ⟨?_, ?_⟩ <;> decide

theorem witness_FramesEnd_2 :
    let e : EndRec := ({ frame := 4, gen := 0, trunc := false, lines := 1, fbe := 1000000000, shots := 7 })
    let rest : List EndRec := []
    let s : State := sEnd
    Awake s ∧ s.str.ends = e :: rest ∧ frameDone s e.frame = true := by unfold Awake; decide

theorem witness_FabricCommandsComplete_0_1_0 :
    let t : Nat := 9
    let r : Req := (xferReq 0 8 131064 8)
    let s : State := sExch
    let tg : Nat := fld r.payload 0 1
    let eo : Nat := fld r.payload 4 4
    let o : Nat := fld r.payload 8 8
    let n : Nat := fld r.payload 16 4
    Ready r s ∧ r.payload.length = 20 ∧ tg ≤ 4 ∧ allZero (List.take 3 (List.drop 1 r.payload)) = true ∧ eo % 8 = 0 ∧ eo + n ≤ 16 * miB ∧ o + n ≤
      xferRoom s tg ∧ 8 ≤ n ∧ n % 8 = 0 ∧ s.dma.xfer = none ∧ (tg = 0 → par0 s pPlanMode ≠ 0 ∧ s.sch.copyBack ≤ (advance t s).dev) ∧ (tg = 2 →
      s.desk.erase = none) ∧ winOverlaps s eo n = false ∧ tg = 0 ∧ memBad s (memExch + eo) n = false := by unfold Ready; decide

theorem witness_FabricCommandsComplete_0_1_1 :
    let t : Nat := 9
    let r : Req := (xferReq 1 8 0 16)
    let s : State := sExch
    let tg : Nat := fld r.payload 0 1
    let eo : Nat := fld r.payload 4 4
    let o : Nat := fld r.payload 8 8
    let n : Nat := fld r.payload 16 4
    Ready r s ∧ r.payload.length = 20 ∧ tg ≤ 4 ∧ allZero (List.take 3 (List.drop 1 r.payload)) = true ∧ eo % 8 = 0 ∧ eo + n ≤ 16 * miB ∧ o + n ≤
      xferRoom s tg ∧ 8 ≤ n ∧ n % 8 = 0 ∧ s.dma.xfer = none ∧ (tg = 0 → par0 s pPlanMode ≠ 0 ∧ s.sch.copyBack ≤ (advance t s).dev) ∧ (tg = 2 →
      s.desk.erase = none) ∧ winOverlaps s eo n = false ∧ tg = 1 ∧ memBad s (memExch + eo) n = false := by unfold Ready; decide

theorem witness_FabricCommandsComplete_0_1_2 :
    let t : Nat := 9
    let r : Req := (xferReq 2 16777208 0 8)
    let s : State := sExch
    let tg : Nat := fld r.payload 0 1
    let eo : Nat := fld r.payload 4 4
    let o : Nat := fld r.payload 8 8
    let n : Nat := fld r.payload 16 4
    Ready r s ∧ r.payload.length = 20 ∧ tg ≤ 4 ∧ allZero (List.take 3 (List.drop 1 r.payload)) = true ∧ eo % 8 = 0 ∧ eo + n ≤ 16 * miB ∧ o + n ≤
      xferRoom s tg ∧ 8 ≤ n ∧ n % 8 = 0 ∧ s.dma.xfer = none ∧ (tg = 0 → par0 s pPlanMode ≠ 0 ∧ s.sch.copyBack ≤ (advance t s).dev) ∧ (tg = 2 →
      s.desk.erase = none) ∧ winOverlaps s eo n = false ∧ tg = 2 ∧ s.nk.wrHeld = false := by unfold Ready; decide

theorem witness_FabricCommandsComplete_0_1_3 :
    (let t : Nat := 9
    let r : Req := (xferReq 3 8 0 16)
    let s : State := sLogB
    let tg : Nat := fld r.payload 0 1
    let eo : Nat := fld r.payload 4 4
    let o : Nat := fld r.payload 8 8
    let n : Nat := fld r.payload 16 4
    Ready r s ∧ r.payload.length = 20 ∧ tg ≤ 4 ∧ allZero (List.take 3 (List.drop 1 r.payload)) = true ∧ eo % 8 = 0 ∧ eo + n ≤ 16 * miB ∧ o + n ≤
      xferRoom s tg ∧ 8 ≤ n ∧ n % 8 = 0 ∧ s.dma.xfer = none ∧ (tg = 0 → par0 s pPlanMode ≠ 0 ∧ s.sch.copyBack ≤ (advance t s).dev) ∧ (tg = 2 →
      s.desk.erase = none) ∧ winOverlaps s eo n = false ∧ (tg = 3 ∨ tg = 4 ∧ memBad s (memFreeze + o) n = false)) ∧
    (let t : Nat := 9
    let r : Req := (xferReq 4 16 0 16)
    let s : State := sExch
    let tg : Nat := fld r.payload 0 1
    let eo : Nat := fld r.payload 4 4
    let o : Nat := fld r.payload 8 8
    let n : Nat := fld r.payload 16 4
    Ready r s ∧ r.payload.length = 20 ∧ tg ≤ 4 ∧ allZero (List.take 3 (List.drop 1 r.payload)) = true ∧ eo % 8 = 0 ∧ eo + n ≤ 16 * miB ∧ o + n ≤
      xferRoom s tg ∧ 8 ≤ n ∧ n % 8 = 0 ∧ s.dma.xfer = none ∧ (tg = 0 → par0 s pPlanMode ≠ 0 ∧ s.sch.copyBack ≤ (advance t s).dev) ∧ (tg = 2 →
      s.desk.erase = none) ∧ winOverlaps s eo n = false ∧ (tg = 3 ∨ tg = 4 ∧ memBad s (memFreeze + o) n = false)) := by unfold Ready; refine ⟨?_, ?_⟩ <;> decide

theorem witness_FabricCommandsComplete_1 :
    let x : Xfer := ({ mb := 2, tag := 7, target := 2, exch := 8, off := 16, len := 16 })
    let s : State := sFw
    Awake s ∧ s.dma.xfer = some x ∧ s.desk.fwWait = [] ∧ s.nk.wrHeld = false ∧ memBad s (memExch + x.exch) x.len = false ∧ x.mb < 8 ∧ (mb s
      x.mb).origin = none := by unfold Awake; decide

theorem witness_FabricCommandsComplete_2 :
    (let r : Req := (rq 1 (flds [(1,0),(3,0)]))
    let s : State := sReady
    Ready r s ∧ r.payload.length = 4 ∧ fld r.payload 0 1 ≤ 2 ∧ allZero (List.drop 1 r.payload) = true) ∧
    (let r : Req := (rq 1 (flds [(1,1),(3,0)]))
    let s : State := sReady
    Ready r s ∧ r.payload.length = 4 ∧ fld r.payload 0 1 ≤ 2 ∧ allZero (List.drop 1 r.payload) = true) ∧
    (let r : Req := (rq 1 (flds [(1,2),(3,0)]))
    let s : State := sLogB
    Ready r s ∧ r.payload.length = 4 ∧ fld r.payload 0 1 ≤ 2 ∧ allZero (List.drop 1 r.payload) = true) := by unfold Ready; refine ⟨?_, ?_, ?_⟩ <;> decide

theorem witness_FabricCommandsComplete_3 :
    let r : Req := (rq 1 (flds [(1,3),(3,0)]))
    let s : State := sReady
    Ready r s ∧ r.payload.length = 4 ∧ fld r.payload 0 1 < 4 ∧ allZero (List.drop 1 r.payload) = true := by unfold Ready; decide

theorem witness_DmaAndLogbookRun_0 :
    let n : Nat := 3
    let s : State := sCtl
    Awake s ∧ n ≤ 7 ∧ (dmaC s n).busy = false := by unfold Awake; decide

theorem witness_DmaAndLogbookRun_1 :
    let n : Nat := 5
    let s : State := sHaltS
    Awake s ∧ n ≤ 31 ∧ (dmaS s n).halted = true := by unfold Awake; decide

theorem witness_DmaAndLogbookRun_2 :
    (let n : Nat := 3
    let s : State := sHalt
    Awake s ∧ n ≤ 7 ∧ (dmaC s n).halted = true) ∧
    (let n : Nat := 3
    let s : State := sHaltL
    Awake s ∧ n ≤ 7 ∧ (dmaC s n).halted = true) := by unfold Awake; refine ⟨?_, ?_⟩ <;> decide

theorem witness_DmaAndLogbookRun_3_0 :
    (let n : Nat := 5
    let o : List Byte := []
    let b : List Byte := (by_ [1,2])
    let s : State := sDue5
    let x : DmaS := dmaS s n
    let book : Prop := logKind n ≠ 0
    Awake s ∧ n ≤ 31 ∧ n ≠ 16 ∧ n ≠ 17 ∧ (dmaS s n).fromMem = false ∧ (if n = 9 then s.desk.logDue.head? else if n ≤ 8 then Option.map (fun x => x.2)
      (List.find? (fun p => p.1 == n) s.str.logDue) else some o) = some b ∧ (book → s.lgb.st ≠ 2 ∧ (par0 s pLogContent).testBit (logKind n - 1) =
      true) ∧ x.shed = false ∧ chanFill s n + b.length ≤ x.stopWm * 256) ∧
    (let n : Nat := 9
    let o : List Byte := []
    let b : List Byte := (by_ [1,2])
    let s : State := sDue9
    let x : DmaS := dmaS s n
    let book : Prop := logKind n ≠ 0
    Awake s ∧ n ≤ 31 ∧ n ≠ 16 ∧ n ≠ 17 ∧ (dmaS s n).fromMem = false ∧ (if n = 9 then s.desk.logDue.head? else if n ≤ 8 then Option.map (fun x => x.2)
      (List.find? (fun p => p.1 == n) s.str.logDue) else some o) = some b ∧ (book → s.lgb.st ≠ 2 ∧ (par0 s pLogContent).testBit (logKind n - 1) =
      true) ∧ x.shed = false ∧ chanFill s n + b.length ≤ x.stopWm * 256) ∧
    (let n : Nat := 31
    let o : List Byte := (by_ [1,2])
    let b : List Byte := (by_ [1,2])
    let s : State := sReady
    let x : DmaS := dmaS s n
    let book : Prop := logKind n ≠ 0
    Awake s ∧ n ≤ 31 ∧ n ≠ 16 ∧ n ≠ 17 ∧ (dmaS s n).fromMem = false ∧ (if n = 9 then s.desk.logDue.head? else if n ≤ 8 then Option.map (fun x => x.2)
      (List.find? (fun p => p.1 == n) s.str.logDue) else some o) = some b ∧ (book → s.lgb.st ≠ 2 ∧ (par0 s pLogContent).testBit (logKind n - 1) =
      true) ∧ x.shed = false ∧ chanFill s n + b.length ≤ x.stopWm * 256) := by unfold Awake; refine ⟨?_, ?_, ?_⟩ <;> decide

theorem witness_DmaAndLogbookRun_3_1 :
    (let n : Nat := 5
    let o : List Byte := []
    let b : List Byte := (by_ [1,2])
    let s : State := sShedS
    let x : DmaS := dmaS s n
    let book : Prop := logKind n ≠ 0
    Awake s ∧ n ≤ 31 ∧ n ≠ 16 ∧ n ≠ 17 ∧ (dmaS s n).fromMem = false ∧ (if n = 9 then s.desk.logDue.head? else if n ≤ 8 then Option.map (fun x => x.2)
      (List.find? (fun p => p.1 == n) s.str.logDue) else some o) = some b ∧ (book → s.lgb.st ≠ 2 ∧ (par0 s pLogContent).testBit (logKind n - 1) =
      true) ∧ (x.shed = true ∨ x.stopWm * 256 < chanFill s n + b.length) ∧ n ≠ 14 ∧ n ≠ 15) ∧
    (let n : Nat := 31
    let o : List Byte := (by_ [1,2])
    let b : List Byte := (by_ [1,2])
    let s : State := ({ sReady with dma.streams := [(31, { stopWm := 0 })] })
    let x : DmaS := dmaS s n
    let book : Prop := logKind n ≠ 0
    Awake s ∧ n ≤ 31 ∧ n ≠ 16 ∧ n ≠ 17 ∧ (dmaS s n).fromMem = false ∧ (if n = 9 then s.desk.logDue.head? else if n ≤ 8 then Option.map (fun x => x.2)
      (List.find? (fun p => p.1 == n) s.str.logDue) else some o) = some b ∧ (book → s.lgb.st ≠ 2 ∧ (par0 s pLogContent).testBit (logKind n - 1) =
      true) ∧ (x.shed = true ∨ x.stopWm * 256 < chanFill s n + b.length) ∧ n ≠ 14 ∧ n ≠ 15) ∧
    (let n : Nat := 5
    let o : List Byte := []
    let b : List Byte := (by_ [1,2])
    let s : State := sShedHi
    let x : DmaS := dmaS s n
    let book : Prop := logKind n ≠ 0
    Awake s ∧ n ≤ 31 ∧ n ≠ 16 ∧ n ≠ 17 ∧ (dmaS s n).fromMem = false ∧ (if n = 9 then s.desk.logDue.head? else if n ≤ 8 then Option.map (fun x => x.2)
      (List.find? (fun p => p.1 == n) s.str.logDue) else some o) = some b ∧ (book → s.lgb.st ≠ 2 ∧ (par0 s pLogContent).testBit (logKind n - 1) =
      true) ∧ (x.shed = true ∨ x.stopWm * 256 < chanFill s n + b.length) ∧ n ≠ 14 ∧ n ≠ 15) := by unfold Awake; refine ⟨?_, ?_, ?_⟩ <;> decide

theorem witness_DmaAndLogbookRun_3_2 :
    (let n : Nat := 5
    let o : List Byte := []
    let b : List Byte := (by_ [1,2])
    let s : State := ({ sDue5 with lgb.st := 2 })
    let x : DmaS := dmaS s n
    let book : Prop := logKind n ≠ 0
    Awake s ∧ n ≤ 31 ∧ n ≠ 16 ∧ n ≠ 17 ∧ (dmaS s n).fromMem = false ∧ (if n = 9 then s.desk.logDue.head? else if n ≤ 8 then Option.map (fun x => x.2)
      (List.find? (fun p => p.1 == n) s.str.logDue) else some o) = some b ∧ book ∧ (s.lgb.st = 2 ∨ (par0 s pLogContent).testBit (logKind n - 1) =
      false)) ∧
    (let n : Nat := 9
    let o : List Byte := []
    let b : List Byte := (by_ [1,2])
    let s : State := ({ sDue9 with lgb.st := 2 })
    let x : DmaS := dmaS s n
    let book : Prop := logKind n ≠ 0
    Awake s ∧ n ≤ 31 ∧ n ≠ 16 ∧ n ≠ 17 ∧ (dmaS s n).fromMem = false ∧ (if n = 9 then s.desk.logDue.head? else if n ≤ 8 then Option.map (fun x => x.2)
      (List.find? (fun p => p.1 == n) s.str.logDue) else some o) = some b ∧ book ∧ (s.lgb.st = 2 ∨ (par0 s pLogContent).testBit (logKind n - 1) =
      false)) := by unfold Awake; refine ⟨?_, ?_⟩ <;> decide

theorem witness_DmaAndLogbookRun_6 :
    let t : Nat := 9
    let s : State := sPost
    Awake s ∧ s.lgb.st = 1 ∧ s.lgb.stopAt ≤ (advance t s).dev := by unfold Awake; decide

theorem witness_FabricCommandsComplete_0_0 :
    let t : Nat := 9
    let r : Req := (xferReq 3 8 0 16)
    let s : State := ({ sLogB with dma.wins := [sWinReq 16] })
    let tg : Nat := fld r.payload 0 1
    let eo : Nat := fld r.payload 4 4
    let o : Nat := fld r.payload 8 8
    let n : Nat := fld r.payload 16 4
    Ready r s ∧ r.payload.length = 20 ∧ tg ≤ 4 ∧ allZero (List.take 3 (List.drop 1 r.payload)) = true ∧ eo % 8 = 0 ∧ eo + n ≤ 16 * miB ∧ o + n ≤
      xferRoom s tg ∧ 8 ≤ n ∧ n % 8 = 0 ∧ s.dma.xfer = none ∧ (tg = 0 → par0 s pPlanMode ≠ 0 ∧ s.sch.copyBack ≤ (advance t s).dev) ∧ (tg = 2 →
      s.desk.erase = none) ∧ winOverlaps s eo n = true := by unfold Ready; decide

theorem witness_DmaAndLogbookRun_4 :
    (let n : Nat := 16
    let s : State := ({ sReady with dma.streams := [(16, { fromMem := true, sink := 9 })] })
    Awake s ∧ n ≤ 31 ∧ (n = 16 ∨ n = 17 ∨ (dmaS s n).fromMem = true)) ∧
    (let n : Nat := 12
    let s : State := ({ sReady with dma.streams := [(12, { fromMem := true, sink := 1 })] })
    Awake s ∧ n ≤ 31 ∧ (n = 16 ∨ n = 17 ∨ (dmaS s n).fromMem = true)) := by unfold Awake; refine ⟨?_, ?_⟩ <;> decide

theorem witness_HealthRuns_1_0 :
    let t : Nat := 9
    let b : Nat := 5
    let s : State := sRise
    Awake s ∧ par0 s pHealthThermalMode = 0 ∧ b ≤ (advance t s).dev ∧ s.hlt.riseAt = some b := by unfold Awake; decide

theorem witness_HealthRuns_1_1 :
    let t : Nat := 9
    let b : Nat := 5
    let s : State := sCool
    Awake s ∧ par0 s pHealthThermalMode = 0 ∧ b ≤ (advance t s).dev ∧ s.hlt.riseAt = none ∧ s.hlt.coolAt = some b := by unfold Awake; decide

theorem witness_HealthRuns_3 :
    let t : Nat := 9
    let i : Nat := 3
    let b : Nat := 0
    let mv : Nat := 700
    let s : State := sRailOut
    let x : Rail := tget { } s.hlt.rails i
    Awake s ∧ x.out = some b ∧ x.mv = some mv ∧ x.logged = false ∧ b + 100 * tUs ≤ (advance t s).wall := by unfold Awake; decide

theorem witness_HealthRuns_4 :
    (let s : State := sReady
    Awake s) ∧
    (let s : State := ({ sHlt with hlt.ageAt := some 0 })
    Awake s) ∧
    (let s : State := ({ sReady with nv.osc := [(0, 32768), (1, 33000)] })
    Awake s) := by unfold Awake; refine ⟨?_, ?_, ?_⟩ <;> decide

theorem witness_HealthRuns_5 :
    let s : State := sHlt
    Awake s := by unfold Awake; decide

theorem witness_HealthRuns_6 :
    let r : Req := (rq 1 (flds [(1,3),(3,0)]))
    let s : State := sHlt
    Ready r s ∧ r.payload.length = 4 ∧ fld r.payload 0 1 < 4 ∧ allZero (List.drop 1 r.payload) = true := by unfold Ready; decide

theorem witness_HealthRuns_7 :
    (let r : Req := (rq 1 (flds [(1,14),(3,0)]))
    let s : State := sHlt
    let n : Nat := fld r.payload 0 1
    Ready r s ∧ r.payload.length = 4 ∧ allZero (List.drop 1 r.payload) = true ∧ n < 24 ∧ 12 ≤ (List.filter (fun k => (dieSensor s k).valid && k != n)
      (List.range 24)).length) ∧
    (let r : Req := (rq 1 (flds [(1,0),(3,0)]))
    let s : State := sHlt
    let n : Nat := fld r.payload 0 1
    Ready r s ∧ r.payload.length = 4 ∧ allZero (List.drop 1 r.payload) = true ∧ n < 24 ∧ 12 ≤ (List.filter (fun k => (dieSensor s k).valid && k != n)
      (List.range 24)).length) := by unfold Ready; refine ⟨?_, ?_⟩ <;> decide

theorem witness_LaneCommandsComplete_0 :
    (let r : Req := (rq 1 (flds [(2,1),(2,0)]))
    let s : State := sLanes
    Ready r s ∧ r.payload.length = 4 ∧ fld r.payload 0 2 ≤ 1023 ∧ fld r.payload 2 2 = 0) ∧
    (let r : Req := (rq 1 (flds [(2,1023),(2,0)]))
    let s : State := sLanes
    Ready r s ∧ r.payload.length = 4 ∧ fld r.payload 0 2 ≤ 1023 ∧ fld r.payload 2 2 = 0) := by unfold Ready; refine ⟨?_, ?_⟩ <;> decide

theorem witness_LaneCommandsComplete_2 :
    (let r : Req := (rq 1 (flds [(1,9),(1,3),(2,0)]))
    let s : State := sLanes
    let l : Nat := fld r.payload 0 1
    Ready r s ∧ r.payload.length = 4 ∧ fld r.payload 1 1 < 4 ∧ fld r.payload 2 2 = 0 ∧ l < 10) ∧
    (let r : Req := (rq 1 (flds [(1,3),(1,3),(2,0)]))
    let s : State := sLanes
    let l : Nat := fld r.payload 0 1
    Ready r s ∧ r.payload.length = 4 ∧ fld r.payload 1 1 < 4 ∧ fld r.payload 2 2 = 0 ∧ l < 10) := by unfold Ready; refine ⟨?_, ?_⟩ <;> decide

theorem witness_LaneCommandsComplete_3 :
    (let r : Req := (rq 1 (flds [(1,0),(1,0),(1,20),(3,0),(2,3)]))
    let s : State := sLanes
    let l : Nat := fld r.payload 0 1
    let k : Nat := fld r.payload 1 1
    let d : Nat := fld r.payload 2 1
    let x : Lane := lane s l
    Ready r s ∧ r.payload.length = 8 ∧ l < 10 ∧ (x.st = 4 ∨ x.st = 5 ∧ x.mode = 1 ∧ x.locked = true) ∧ k ≤ 2 ∧ 20 ≤ d ∧ d ≤ 40 ∧ fld r.payload 3 1 = 0
      ∧ (if k = 2 then -32 ≤ fldI r.payload 4 1 ∧ fldI r.payload 4 1 ≤ 31 ∧ -127 ≤ fldI r.payload 5 1 else fld r.payload 6 2 ≠ 0) ∧ scanOffsets k * 2
      ^ d * 32 ≤ 60000000000 * rate32 x.rate ∧ s.lan.scan = none) ∧
    (let r : Req := (rq 1 (flds [(1,0),(1,2),(1,20),(1,0),(1,224),(1,129),(2,0)]))
    let s : State := sLanes
    let l : Nat := fld r.payload 0 1
    let k : Nat := fld r.payload 1 1
    let d : Nat := fld r.payload 2 1
    let x : Lane := lane s l
    Ready r s ∧ r.payload.length = 8 ∧ l < 10 ∧ (x.st = 4 ∨ x.st = 5 ∧ x.mode = 1 ∧ x.locked = true) ∧ k ≤ 2 ∧ 20 ≤ d ∧ d ≤ 40 ∧ fld r.payload 3 1 = 0
      ∧ (if k = 2 then -32 ≤ fldI r.payload 4 1 ∧ fldI r.payload 4 1 ≤ 31 ∧ -127 ≤ fldI r.payload 5 1 else fld r.payload 6 2 ≠ 0) ∧ scanOffsets k * 2
      ^ d * 32 ≤ 60000000000 * rate32 x.rate ∧ s.lan.scan = none) ∧
    (let r : Req := (rq 1 (flds [(1,3),(1,0),(1,20),(3,0),(2,3)]))
    let s : State := sLanes
    let l : Nat := fld r.payload 0 1
    let k : Nat := fld r.payload 1 1
    let d : Nat := fld r.payload 2 1
    let x : Lane := lane s l
    Ready r s ∧ r.payload.length = 8 ∧ l < 10 ∧ (x.st = 4 ∨ x.st = 5 ∧ x.mode = 1 ∧ x.locked = true) ∧ k ≤ 2 ∧ 20 ≤ d ∧ d ≤ 40 ∧ fld r.payload 3 1 = 0
      ∧ (if k = 2 then -32 ≤ fldI r.payload 4 1 ∧ fldI r.payload 4 1 ≤ 31 ∧ -127 ≤ fldI r.payload 5 1 else fld r.payload 6 2 ≠ 0) ∧ scanOffsets k * 2
      ^ d * 32 ≤ 60000000000 * rate32 x.rate ∧ s.lan.scan = none) := by unfold Ready; refine ⟨?_, ?_, ?_⟩ <;> decide

theorem witness_LaneEventsComplete_0 :
    (let l : Nat := 3
    let s : State := (sAt 3 1)
    Awake s ∧ l < 10 ∧ (lane s l).st = 1) ∧
    (let l : Nat := 9
    let s : State := (sAt 9 1)
    Awake s ∧ l < 10 ∧ (lane s l).st = 1) ∧
    (let l : Nat := 3
    let s : State := (sAt 3 1)
    Awake s ∧ l < 10 ∧ (lane s l).st = 1) := by unfold Awake; refine ⟨?_, ?_, ?_⟩ <;> decide

theorem witness_LaneEventsComplete_1 :
    let l : Nat := 3
    let m : Nat := 5
    let c : Nat := 2
    let s : State := (sAt 3 2)
    Awake s ∧ l < 8 ∧ (lane s l).st = 2 ∧ (lane s l).an = 0 ∧ (List.filter (fun c => m.testBit c) (laneRates l s)).getLast? = some c := by unfold Awake; decide

theorem witness_LaneEventsComplete_2 :
    (let l : Nat := 9
    let s : State := (sAt 9 2)
    Awake s ∧ 8 ≤ l ∧ l < 10 ∧ (lane s l).st = 2) ∧
    (let l : Nat := 8
    let s : State := (sAt 8 2)
    Awake s ∧ 8 ≤ l ∧ l < 10 ∧ (lane s l).st = 2) ∧
    (let l : Nat := 8
    let s : State := (sAt 8 2)
    Awake s ∧ 8 ≤ l ∧ l < 10 ∧ (lane s l).st = 2) := by unfold Awake; refine ⟨?_, ?_, ?_⟩ <;> decide

theorem witness_LaneEventsComplete_3 :
    (let t : Nat := 9
    let l : Nat := 3
    let s : State := (sAt 3 3)
    Awake s ∧ l < 10 ∧ (8 ≤ l ∨ (lane s l).an = 1 → (lane s l).since + par s pLaneTrainTimeout l * tMs ≤ (advance t s).dev)) ∧
    (let t : Nat := 9
    let l : Nat := 3
    let s : State := (sAt 3 2)
    Awake s ∧ l < 10 ∧ (8 ≤ l ∨ (lane s l).an = 1 → (lane s l).since + par s pLaneTrainTimeout l * tMs ≤ (advance t s).dev)) ∧
    (let t : Nat := 9
    let l : Nat := 8
    let s : State := (sAt 8 2)
    Awake s ∧ l < 10 ∧ (8 ≤ l ∨ (lane s l).an = 1 → (lane s l).since + par s pLaneTrainTimeout l * tMs ≤ (advance t s).dev)) ∧
    (let t : Nat := 9
    let l : Nat := 3
    let s : State := (sAt 3 4)
    Awake s ∧ l < 10 ∧ (8 ≤ l ∨ (lane s l).an = 1 → (lane s l).since + par s pLaneTrainTimeout l * tMs ≤ (advance t s).dev)) ∧
    (let t : Nat := 9
    let l : Nat := 9
    let s : State := (withIm [(pLaneTrainAttempts, 9, 1)] (sAt 9 3))
    Awake s ∧ l < 10 ∧ (8 ≤ l ∨ (lane s l).an = 1 → (lane s l).since + par s pLaneTrainTimeout l * tMs ≤ (advance t s).dev)) := by unfold Awake; refine ⟨?_, ?_, ?_, ?_, ?_⟩ <;> decide

theorem witness_LaneEventsComplete_4 :
    let l : Nat := 3
    let s : State := (sAt 3 3)
    Awake s ∧ l < 10 ∧ (lane s l).st = 3 := by unfold Awake; decide

theorem witness_LaneEventsComplete_5 :
    (let t : Nat := (2 * tMs)
    let l : Nat := 3
    let n : Nat := 1
    let s : State := ({ sAt 3 4 with dev := 0, wall := 0 })
    Awake s ∧ l < 10 ∧ (lane s l).st = 4 ∧ (n = 1 ∧ (lane s l).since + tMs ≤ (advance t s).dev ∨ n = 3 ∧ (lane s l).fec ≠ 0)) ∧
    (let t : Nat := 9
    let l : Nat := 9
    let n : Nat := 3
    let s : State := sFecUp
    Awake s ∧ l < 10 ∧ (lane s l).st = 4 ∧ (n = 1 ∧ (lane s l).since + tMs ≤ (advance t s).dev ∨ n = 3 ∧ (lane s l).fec ≠ 0)) := by unfold Awake; refine ⟨?_, ?_⟩ <;> decide

theorem witness_LaneEventsComplete_6 :
    let t : Nat := 9
    let l : Nat := 3
    let s : State := (sAt 3 6)
    Awake s ∧ l < 10 ∧ (lane s l).st = 6 ∧ (lane s l).since + par s pLaneRetryInterval l * tMs ≤ (advance t s).dev := by unfold Awake; decide

theorem witness_LaneEventsComplete_7 :
    let l : Nat := 3
    let s : State := sTest
    Awake s ∧ l < 10 ∧ (lane s l).st = 5 ∧ (lane s l).mode ≠ 3 ∧ (lane s l).locked = false := by unfold Awake; decide

theorem witness_LaneEventsComplete_8 :
    let t : Nat := (2 * tMs)
    let l : Nat := 3
    let n : Nat := 16384
    let s : State := sLanes
    Awake s ∧ l < 10 ∧ (lane s l).locked = true ∧ 16384 ≤ n ∧ n ≤ 65536 ∧ 65536 ≤ bitsIn (lane s l).rate ((advance t s).dev - (lane s l).lockFrom) := by unfold Awake; decide

theorem witness_LaneCommandsComplete_1_0 :
    (let r : Req := (rq 1 (flds [(1,0),(1,1),(1,4),(1,0),(1,0),(3,0)]))
    let s : State := sLanes
    let l : Nat := fld r.payload 0 1
    let pt : Nat := fld r.payload 2 1
    let x : Lane := lane s l
    let kind : Nat := fld r.payload 3 1
    let n : Nat := fld r.payload 4 1
    Ready r s ∧ r.payload.length = 8 ∧ l < 10 ∧ allZero (List.drop 5 r.payload) = true ∧ injectOk kind n = true ∧ fld r.payload 1 1 = 1 ∧ x.everUp =
      true ∧ pt ≤ 4 ∧ (pt = 4 → 1 < testRate x)) ∧
    (let r : Req := (rq 1 (flds [(1,3),(1,1),(1,3),(1,1),(1,0),(3,0)]))
    let s : State := sLanes
    let l : Nat := fld r.payload 0 1
    let pt : Nat := fld r.payload 2 1
    let x : Lane := lane s l
    let kind : Nat := fld r.payload 3 1
    let n : Nat := fld r.payload 4 1
    Ready r s ∧ r.payload.length = 8 ∧ l < 10 ∧ allZero (List.drop 5 r.payload) = true ∧ injectOk kind n = true ∧ fld r.payload 1 1 = 1 ∧ x.everUp =
      true ∧ pt ≤ 4 ∧ (pt = 4 → 1 < testRate x)) ∧
    (let r : Req := (rq 1 (flds [(1,3),(1,1),(1,3),(1,3),(1,12),(3,0)]))
    let s : State := sLanes
    let l : Nat := fld r.payload 0 1
    let pt : Nat := fld r.payload 2 1
    let x : Lane := lane s l
    let kind : Nat := fld r.payload 3 1
    let n : Nat := fld r.payload 4 1
    Ready r s ∧ r.payload.length = 8 ∧ l < 10 ∧ allZero (List.drop 5 r.payload) = true ∧ injectOk kind n = true ∧ fld r.payload 1 1 = 1 ∧ x.everUp =
      true ∧ pt ≤ 4 ∧ (pt = 4 → 1 < testRate x)) := by unfold Ready; refine ⟨?_, ?_, ?_⟩ <;> decide

theorem witness_LaneCommandsComplete_1_1 :
    (let r : Req := (rq 1 (flds [(1,0),(1,2),(1,4),(1,0),(1,0),(3,0)]))
    let s : State := sLanes
    let l : Nat := fld r.payload 0 1
    let pt : Nat := fld r.payload 2 1
    let x : Lane := lane s l
    let kind : Nat := fld r.payload 3 1
    let n : Nat := fld r.payload 4 1
    let v : Nat := if x.st = 6 ∨ x.st = 2 then 0 else testRate x
    Ready r s ∧ r.payload.length = 8 ∧ l < 10 ∧ allZero (List.drop 5 r.payload) = true ∧ injectOk kind n = true ∧ fld r.payload 1 1 = 2 ∧ x.st ≠ 0 ∧
      kind = 0 ∧ pt ≤ 4 ∧ (pt = 4 → 1 < v)) ∧
    (let r : Req := (rq 1 (flds [(1,5),(1,2),(1,1),(1,0),(1,0),(3,0)]))
    let s : State := sLb
    let l : Nat := fld r.payload 0 1
    let pt : Nat := fld r.payload 2 1
    let x : Lane := lane s l
    let kind : Nat := fld r.payload 3 1
    let n : Nat := fld r.payload 4 1
    let v : Nat := if x.st = 6 ∨ x.st = 2 then 0 else testRate x
    Ready r s ∧ r.payload.length = 8 ∧ l < 10 ∧ allZero (List.drop 5 r.payload) = true ∧ injectOk kind n = true ∧ fld r.payload 1 1 = 2 ∧ x.st ≠ 0 ∧
      kind = 0 ∧ pt ≤ 4 ∧ (pt = 4 → 1 < v)) := by unfold Ready; refine ⟨?_, ?_⟩ <;> decide

theorem witness_LaneCommandsComplete_1_2 :
    (let r : Req := (rq 1 (flds [(1,0),(1,3),(1,9),(1,0),(1,0),(3,0)]))
    let s : State := sLanes
    let l : Nat := fld r.payload 0 1
    let x : Lane := lane s l
    let kind : Nat := fld r.payload 3 1
    let n : Nat := fld r.payload 4 1
    Ready r s ∧ r.payload.length = 8 ∧ l < 10 ∧ allZero (List.drop 5 r.payload) = true ∧ injectOk kind n = true ∧ fld r.payload 1 1 = 3 ∧ x.everUp =
      true ∧ kind = 0) ∧
    (let r : Req := (rq 1 (flds [(1,8),(1,3),(1,9),(1,0),(1,0),(3,0)]))
    let s : State := sLanes8
    let l : Nat := fld r.payload 0 1
    let x : Lane := lane s l
    let kind : Nat := fld r.payload 3 1
    let n : Nat := fld r.payload 4 1
    Ready r s ∧ r.payload.length = 8 ∧ l < 10 ∧ allZero (List.drop 5 r.payload) = true ∧ injectOk kind n = true ∧ fld r.payload 1 1 = 3 ∧ x.everUp =
      true ∧ kind = 0) := by unfold Ready; refine ⟨?_, ?_⟩ <;> decide

theorem witness_LaneCommandsComplete_1_3 :
    let r : Req := (rq 1 (flds [(1,3),(1,0),(1,0),(1,0),(1,0),(3,0)]))
    let s : State := sLanes
    let l : Nat := fld r.payload 0 1
    let x : Lane := lane s l
    let kind : Nat := fld r.payload 3 1
    let n : Nat := fld r.payload 4 1
    Ready r s ∧ r.payload.length = 8 ∧ l < 10 ∧ allZero (List.drop 5 r.payload) = true ∧ injectOk kind n = true ∧ fld r.payload 1 1 = 0 ∧ x.st = 5 := by unfold Ready; decide

theorem witness_LaneCommandsComplete_1_4 :
    let r : Req := (rq 1 (flds [(1,0),(1,0),(1,0),(1,2),(1,12),(3,0)]))
    let s : State := sLanes
    let l : Nat := fld r.payload 0 1
    let x : Lane := lane s l
    let kind : Nat := fld r.payload 3 1
    let n : Nat := fld r.payload 4 1
    Ready r s ∧ r.payload.length = 8 ∧ l < 10 ∧ allZero (List.drop 5 r.payload) = true ∧ injectOk kind n = true ∧ fld r.payload 1 1 = 0 ∧ x.st = 4 ∧
      x.mode = 0 := by unfold Ready; decide

theorem witness_LaneCommandsComplete_1_5 :
    (let r : Req := (rq 1 (flds [(1,0),(1,2),(1,0),(1,1),(1,0),(3,0)]))
    let s : State := sLanes
    let l : Nat := fld r.payload 0 1
    let x : Lane := lane s l
    let kind : Nat := fld r.payload 3 1
    let n : Nat := fld r.payload 4 1
    Ready r s ∧ r.payload.length = 8 ∧ l < 10 ∧ allZero (List.drop 5 r.payload) = true ∧ injectOk kind n = true ∧ (fld r.payload 1 1 = 2 ∨ fld
      r.payload 1 1 = 3) ∧ kind ≠ 0 ∧ x.everUp = true ∧ x.st ≠ 0) ∧
    (let r : Req := (rq 1 (flds [(1,0),(1,3),(1,0),(1,1),(1,0),(3,0)]))
    let s : State := sLanes
    let l : Nat := fld r.payload 0 1
    let x : Lane := lane s l
    let kind : Nat := fld r.payload 3 1
    let n : Nat := fld r.payload 4 1
    Ready r s ∧ r.payload.length = 8 ∧ l < 10 ∧ allZero (List.drop 5 r.payload) = true ∧ injectOk kind n = true ∧ (fld r.payload 1 1 = 2 ∨ fld
      r.payload 1 1 = 3) ∧ kind ≠ 0 ∧ x.everUp = true ∧ x.st ≠ 0) := by unfold Ready; refine ⟨?_, ?_⟩ <;> decide

theorem witness_LaneCommandsComplete_1_6 :
    (let r : Req := (rq 1 (flds [(1,7),(1,1),(1,0),(1,0),(1,0),(3,0)]))
    let s : State := sLanes
    let l : Nat := fld r.payload 0 1
    let x : Lane := lane s l
    let kind : Nat := fld r.payload 3 1
    let n : Nat := fld r.payload 4 1
    Ready r s ∧ r.payload.length = 8 ∧ l < 10 ∧ allZero (List.drop 5 r.payload) = true ∧ injectOk kind n = true ∧ (fld r.payload 1 1 = 1 ∨ fld
      r.payload 1 1 = 3) ∧ x.everUp = false) ∧
    (let r : Req := (rq 1 (flds [(1,9),(1,3),(1,0),(1,0),(1,0),(3,0)]))
    let s : State := sLanes
    let l : Nat := fld r.payload 0 1
    let x : Lane := lane s l
    let kind : Nat := fld r.payload 3 1
    let n : Nat := fld r.payload 4 1
    Ready r s ∧ r.payload.length = 8 ∧ l < 10 ∧ allZero (List.drop 5 r.payload) = true ∧ injectOk kind n = true ∧ (fld r.payload 1 1 = 1 ∨ fld
      r.payload 1 1 = 3) ∧ x.everUp = false) := by unfold Ready; refine ⟨?_, ?_⟩ <;> decide

theorem witness_LaneCommandsComplete_4 :
    (let e : EyeScan := sc0
    let s : State := (sScanE sc0)
    Awake s ∧ s.lan.scan = some e ∧ e.mb < 8 ∧ (mb s e.mb).origin = none ∧ (e.eyes = 1 ∨ e.eyes = 3)) ∧
    (let e : EyeScan := sc2
    let s : State := (sScanE sc2)
    Awake s ∧ s.lan.scan = some e ∧ e.mb < 8 ∧ (mb s e.mb).origin = none ∧ (e.eyes = 1 ∨ e.eyes = 3)) := by unfold Awake; refine ⟨?_, ?_⟩ <;> decide

theorem witness_StreamCommandsComplete_0 :
    (let r : Req := (rq 1 (flds [(1,7),(1,1),(1,1),(1,1),(2,9),(2,4094),(6,77),(2,0)]))
    let s : State := sReady
    let k : Nat := fld r.payload 0 1
    let tci : Nat := fld r.payload 6 2
    Ready r s ∧ r.payload.length = 16 ∧ k ≤ 7 ∧ fld r.payload 1 1 ≤ 1 ∧ fld r.payload 2 1 ≤ 1 ∧ fld r.payload 3 1 ≤ 1 ∧ fld r.payload 14 2 = 0 ∧ (fld
      r.payload 3 1 = 1 → tci % 4096 ≠ 0 ∧ tci % 4096 ≠ 4095 ∧ tci.testBit 12 = false)) ∧
    (let r : Req := (rq 1 (flds [(1,0),(1,0),(1,0),(1,0),(2,0),(2,0),(6,77),(2,0)]))
    let s : State := sReady
    let k : Nat := fld r.payload 0 1
    let tci : Nat := fld r.payload 6 2
    Ready r s ∧ r.payload.length = 16 ∧ k ≤ 7 ∧ fld r.payload 1 1 ≤ 1 ∧ fld r.payload 2 1 ≤ 1 ∧ fld r.payload 3 1 ≤ 1 ∧ fld r.payload 14 2 = 0 ∧ (fld
      r.payload 3 1 = 1 → tci % 4096 ≠ 0 ∧ tci % 4096 ≠ 4095 ∧ tci.testBit 12 = false)) := by unfold Ready; refine ⟨?_, ?_⟩ <;> decide

theorem witness_StreamCommandsComplete_1 :
    (let r : Req := (rq 1 (flds [(1,1),(1,1),(2,0),(2,1),(2,2),(2,3),(2,4),(1,3),(3,0)]))
    let s : State := sLine
    let n : Nat := fld r.payload 1 1
    Ready r s ∧ r.payload.length = 4 + 12 * n ∧ fld r.payload 0 1 ≤ 1 ∧ n ≤ 8 ∧ fld r.payload 2 2 = 0 ∧ (∀ i < n, fld r.payload (12 + 12 * i) 1 ≤ 3 ∧
      fld r.payload (13 + 12 * i) 3 = 0)) ∧
    (let r : Req := (rq 1 (flds [(1,0),(1,0),(2,0)]))
    let s : State := sReady
    let n : Nat := fld r.payload 1 1
    Ready r s ∧ r.payload.length = 4 + 12 * n ∧ fld r.payload 0 1 ≤ 1 ∧ n ≤ 8 ∧ fld r.payload 2 2 = 0 ∧ (∀ i < n, fld r.payload (12 + 12 * i) 1 ≤ 3 ∧
      fld r.payload (13 + 12 * i) 3 = 0)) := by unfold Ready; refine ⟨?_, ?_⟩ <;> decide

theorem witness_StreamCommandsComplete_2_0 :
    let r : Req := (rq 1 (flds [(1,1),(1,1),(1,3),(1,1),(8,3),(8,0),(4,0),(12,5),(16,7),(16,0)]))
    let s : State := sReady
    let p : Nat := fld r.payload 0 1
    let d : Nat := fld r.payload 1 1
    let an : Nat := fld r.payload 2 1
    let k : Nat := p * 8 + d * 4 + an
    let a : Sa := { sci := fld r.payload 4 8, pn := fld r.payload 12 8, ssci := fld r.payload 20 4, salt := List.take 12 (List.drop 24 r.payload), key := List.drop 36 r.payload }
    Ready r s ∧ r.payload.length = 68 ∧ p ≤ 1 ∧ d ≤ 1 ∧ an ≤ 3 ∧ fld r.payload 3 1 = 1 ∧ fld r.payload 12 8 < pnSpace s ∧ (par0 s pMacsecCipher % 2 =
      0 → allZero (List.drop 52 r.payload) = true) ∧ (∀ (a : Sa), tget none s.str.sas k = some a → a.active = false) := by unfold Ready; decide

theorem witness_StreamCommandsComplete_2_1_0 :
    let r : Req := (rq 1 (flds [(1,1),(1,0),(1,0),(1,3),(8,3),(8,0),(4,0),(12,5),(16,7),(16,0)]))
    let s : State := sSa
    let p : Nat := fld r.payload 0 1
    let d : Nat := fld r.payload 1 1
    let an : Nat := fld r.payload 2 1
    let k : Nat := p * 8 + d * 4 + an
    let a : Sa := sa1
    Ready r s ∧ r.payload.length = 68 ∧ p ≤ 1 ∧ d ≤ 1 ∧ an ≤ 3 ∧ tget none s.str.sas k = some a ∧ fld r.payload 3 1 = 3 := by unfold Ready; decide

theorem witness_StreamCommandsComplete_2_1_1 :
    let r : Req := (rq 1 (flds [(1,0),(1,0),(1,0),(1,2),(8,3),(8,0),(4,0),(12,5),(16,7),(16,0)]))
    let s : State := sSa
    let p : Nat := fld r.payload 0 1
    let d : Nat := fld r.payload 1 1
    let an : Nat := fld r.payload 2 1
    let k : Nat := p * 8 + d * 4 + an
    let a : Sa := sa1
    Ready r s ∧ r.payload.length = 68 ∧ p ≤ 1 ∧ d ≤ 1 ∧ an ≤ 3 ∧ tget none s.str.sas k = some a ∧ fld r.payload 3 1 = 2 ∧ a.pn < pnSpace s := by unfold Ready; decide

theorem witness_StreamCommandsComplete_3 :
    let r : Req := (rq 1 (flds [(1,1),(1,3),(2,0)]))
    let s : State := sLinkBuf
    Ready r s ∧ r.payload.length = 4 ∧ fld r.payload 0 1 ≤ 1 ∧ fld r.payload 1 1 < 4 ∧ fld r.payload 2 2 = 0 := by unfold Ready; decide

theorem witness_StreamEventsComplete_0 :
    (let s : State := sOpen
    Awake s) ∧
    (let s : State := sReady
    Awake s) := by unfold Awake; refine ⟨?_, ?_⟩ <;> decide

theorem witness_StreamEventsComplete_1 :
    let s : State := sOpen
    Awake s := by unfold Awake; decide

theorem witness_StreamEventsComplete_2 :
    (let s : State := sLinkBuf
    Awake s) ∧
    (let s : State := sQue
    Awake s) ∧
    (let s : State := sUp0
    Awake s) ∧
    (let s : State := sNoBuf
    Awake s) := by unfold Awake; refine ⟨?_, ?_, ?_, ?_⟩ <;> decide

theorem witness_StreamEventsComplete_3 :
    (let s : State := sReady
    Awake s) ∧
    (let s : State := ({ sReady with dev := 5000, str.tokens := 255 })
    Awake s) := by unfold Awake; refine ⟨?_, ?_⟩ <;> decide

theorem witness_StreamEventsComplete_4 :
    let f : Frame := ({ lane := 0, src := 1, dst := 2, etherType := 0x0800, tci := none, secured := none, payload := [] })
    let s : State := sReady
    Awake s ∧ f.lane ≤ 7 ∧ mgmtOk f s = false ∧ ¬(f.etherType = 35063 ∧ f.lane = par0 s pTimePort) := by unfold Awake; decide

theorem witness_TwinsRun_0 :
    (let s : State := sStand
    Awake s ∧ twinMode s = true) ∧
    (let s : State := ({ sStand with twn.roundNo := some 0 })
    Awake s ∧ twinMode s = true) := by unfold Awake; refine ⟨?_, ?_⟩ <;> decide

theorem witness_TwinsRun_1 :
    (let t : Nat := (2 * tUs)
    let s : State := (sRound 0x9231)
    Awake s ∧ twinMode s = true ∧ s.twn.round = true ∧ s.twn.roundAt + tUs ≤ (advance t s).dev) ∧
    (let t : Nat := (2 * tUs)
    let s : State := (sRound 0x1231)
    Awake s ∧ twinMode s = true ∧ s.twn.round = true ∧ s.twn.roundAt + tUs ≤ (advance t s).dev) ∧
    (let t : Nat := (2 * tUs)
    let s : State := (sRound 0x1231)
    Awake s ∧ twinMode s = true ∧ s.twn.round = true ∧ s.twn.roundAt + tUs ≤ (advance t s).dev) ∧
    (let t : Nat := (2 * tUs)
    let s : State := (sRound 0x1231)
    Awake s ∧ twinMode s = true ∧ s.twn.round = true ∧ s.twn.roundAt + tUs ≤ (advance t s).dev) := by unfold Awake; refine ⟨?_, ?_, ?_, ?_⟩ <;> decide

theorem witness_TwinsRun_2 :
    (let s : State := sStand
    Awake s ∧ twinMode s = true) ∧
    (let s : State := sStand
    Awake s ∧ twinMode s = true) ∧
    (let s : State := sStand
    Awake s ∧ twinMode s = true) := by unfold Awake; refine ⟨?_, ?_, ?_⟩ <;> decide

theorem witness_TwinsRun_3 :
    let t : Nat := 9
    let s : State := ({ sStand with dev := tMs })
    Awake s ∧ twinMode s = true ∧ s.twn.lastX.getD 0 + tMs ≤ (advance t s).dev := by unfold Awake; decide

theorem witness_TwinsRun_4 :
    let s : State := sStand
    Awake s ∧ standby s = true := by unfold Awake; decide

theorem witness_TwinsRun_5 :
    (let s : State := sStand
    Awake s ∧ standby s = true) ∧
    (let s : State := ({ sStand with srv.poly := { handed := [{ facet := 0, at_ := 2000, start := 0, tm := 6400000 }] } })
    Awake s ∧ standby s = true) ∧
    (let s : State := ({ sStand with twn.notice := some (1, 2, 3, 9000), srv.poly := { handed := [{ facet := 0, at_ := 2000, start := 0, tm := 6400000 }] } })
    Awake s ∧ standby s = true) := by unfold Awake; refine ⟨?_, ?_, ?_⟩ <;> decide

theorem witness_TwinsRun_6 :
    (let v : SvcSet := svcPlan
    let s : State := sStandRunning
    Awake s ∧ standby s = true ∧ v.kind ≤ 2 ∧ svcAuto s v.kind = true) ∧
    (let v : SvcSet := ({ svcPlan with kind := 1 })
    let s : State := sStandRunning
    Awake s ∧ standby s = true ∧ v.kind ≤ 2 ∧ svcAuto s v.kind = true) ∧
    (let v : SvcSet := svcPlan
    let s : State := ({ sStandRunning with sch.fbeAt := some 900 })
    Awake s ∧ standby s = true ∧ v.kind ≤ 2 ∧ svcAuto s v.kind = true) := by unfold Awake; refine ⟨?_, ?_, ?_⟩ <;> decide

theorem witness_TwinsRun_7 :
    (let i : Nat := 0
    let p : Placed := ({ shot1 with drive := false, edge := 1000000150 })
    let s : State := sStandLine
    Awake s ∧ twinMode s = true ∧ (strng s i).placed = some p ∧ p.drive = false) ∧
    (let i : Nat := 0
    let p : Placed := ({ shot1 with drive := false, edge := 5 })
    let s : State := ({ sStandLine with sch.strs := [(0, { placed := some { shot1 with drive := false, edge := 5 } })] })
    Awake s ∧ twinMode s = true ∧ (strng s i).placed = some p ∧ p.drive = false) := by unfold Awake; refine ⟨?_, ?_⟩ <;> decide +kernel

theorem witness_RingRuns_0 :
    (let s : State := sEng
    Awake s ∧ ringOn s = true ∧ s.rng.leader = false) ∧
    (let s : State := sRing
    Awake s ∧ ringOn s = true ∧ s.rng.leader = false) := by unfold Awake; refine ⟨?_, ?_⟩ <;> decide

theorem witness_RingRuns_1 :
    let s : State := sReadyIn
    Awake s ∧ s.rng.leave = false ∧ ringOn s = true ∧ s.rng.engaged = false ∧ 2 ≤ s.rng.beats := by unfold Awake; decide

theorem witness_RingRuns_2 :
    let s : State := sLeave
    Awake s ∧ s.rng.leave = true := by unfold Awake; decide

theorem witness_RingRuns_3 :
    let t : Nat := 9
    let s : State := sLost
    Awake s ∧ ringOn s = true ∧ s.rng.locked = true ∧ s.rng.leader = false ∧ s.rng.lastBeat.getD 0 + 15 * tUs + 5 * tUs * rankOrder s ≤ (advance t
      s).dev := by unfold Awake; decide

theorem witness_RingRuns_4 :
    let t : Nat := 9
    let s : State := sLost
    Awake s ∧ s.rng.locked = true ∧ s.rng.leader = false ∧ s.rng.holdover = false ∧ s.rng.lastBeat.getD 0 + 15 * tUs < (advance t s).dev := by unfold Awake; decide

theorem witness_RingRuns_5 :
    (let t : Nat := 9
    let s : State := sHoldo
    Awake s ∧ s.rng.holdover = true ∧ s.rng.holdAt + par0 s pRingHoldover * tMs ≤ (advance t s).dev) ∧
    (let t : Nat := 9
    let s : State := sTurn
    Awake s ∧ s.rng.holdover = true ∧ s.rng.holdAt + par0 s pRingHoldover * tMs ≤ (advance t s).dev) := by unfold Awake; refine ⟨?_, ?_⟩ <;> decide

theorem witness_RingRuns_6 :
    let s : State := sLeader
    Awake s ∧ ringOn s = true ∧ s.rng.leader = true := by unfold Awake; decide

theorem witness_TriggersRun_0 :
    (let raw : Nat := 63
    let s : State := sReady
    raw < 64 ∧ servosRun s = true) ∧
    (let raw : Nat := 5
    let s : State := sLost
    raw < 64 ∧ servosRun s = true) ∧
    (let raw : Nat := 0
    let s : State := (withIm [(pTpSource, 5, 3), (pTpEdge, 5, 2)] sTp)
    raw < 64 ∧ servosRun s = true) := by refine ⟨?_, ?_, ?_⟩ <;> decide

theorem witness_TriggersRun_1 :
    (let r : Req := (rq 6 (flds [(1,15),(3,0)]))
    let s : State := sReady
    let c : Nat := fld r.payload 0 1
    Ready r s ∧ 6 ≤ r.mb ∧ r.payload.length = 4 ∧ allZero (List.drop 1 r.payload) = true ∧ 1 ≤ c ∧ c ≤ 15) ∧
    (let r : Req := (rq 7 (flds [(1,1),(3,0)]))
    let s : State := sLeader
    let c : Nat := fld r.payload 0 1
    Ready r s ∧ 6 ≤ r.mb ∧ r.payload.length = 4 ∧ allZero (List.drop 1 r.payload) = true ∧ 1 ≤ c ∧ c ≤ 15) := by unfold Ready; refine ⟨?_, ?_⟩ <;> decide

theorem witness_TriggersRun_2 :
    (let t : Nat := 9
    let c : Nat := 3
    let x : Trig := trig1
    let s : State := (sTrig 1)
    Awake s ∧ List.find? (fun x => x.code == c && decide (x.dev ≤ coarse (advance t s))) s.rng.trigs = some x) ∧
    (let t : Nat := 9
    let c : Nat := 3
    let x : Trig := trig1
    let s : State := (sTrig 3)
    Awake s ∧ List.find? (fun x => x.code == c && decide (x.dev ≤ coarse (advance t s))) s.rng.trigs = some x) ∧
    (let t : Nat := 9
    let c : Nat := 3
    let x : Trig := trig1
    let s : State := (sTrig 12)
    Awake s ∧ List.find? (fun x => x.code == c && decide (x.dev ≤ coarse (advance t s))) s.rng.trigs = some x) := by unfold Awake; refine ⟨?_, ?_, ?_⟩ <;> decide

theorem witness_TriggersRun_3 :
    let r : Req := (rq 6 (flds [(1,3),(3,0)]))
    let s : State := sReady
    Ready r s ∧ r.payload.length = 4 ∧ fld r.payload 0 1 < 4 ∧ allZero (List.drop 1 r.payload) = true := by unfold Ready; decide

theorem witness_ResetsEnter_1 :
    (let s : State := sCold
    s.pins.porstN = false) ∧
    (let s : State := ({ sCold with pins.resetN := false })
    s.pins.porstN = false) := by refine ⟨?_, ?_⟩ <;> decide

theorem witness_ResetsEnter_2 :
    (let s : State := sRun
    s.pins.resetN = true ∧ s.pins.porstN = true ∧ s.desk.st ≠ 0) ∧
    (let s : State := sRun
    s.pins.resetN = true ∧ s.pins.porstN = true ∧ s.desk.st ≠ 0) ∧
    (let s : State := sFrozen
    s.pins.resetN = true ∧ s.pins.porstN = true ∧ s.desk.st ≠ 0) := by refine ⟨?_, ?_, ?_⟩ <;> decide

theorem witness_ResetsEnter_3 :
    let w : Nat := 1080
    let s : State := sCold
    s.pins.resetN = true ∧ s.pins.porstN = false ∧ 1080 ≤ w := by decide

theorem witness_ResetsEnter_4 :
    let t : Nat := 1000
    let a : Nat := 1000
    let s : State := sCmdReset
    Awake s ∧ s.desk.cmdReset = some a ∧ a ≤ (advance t s).dev := by unfold Awake; decide

theorem witness_ResetsEnter_5 :
    let t : Nat := 999
    let a : Nat := 1000
    let s : State := sCmdReset
    s.desk.cmdReset = some a ∧ (advance t s).dev < a := by decide

theorem witness_ResetsEnter_6 :
    (let s : State := sRun
    Awake s) ∧
    (let s : State := sRun
    Awake s) := by unfold Awake; refine ⟨?_, ?_⟩ <;> decide

theorem witness_ResetsEnter_7 :
    let t : Nat := (400 * tSec)
    let s : State := sTrial
    s.desk.st = 1 ∧ s.desk.trial = true ∧ s.rst.bootAt + par0 s pFwTrialTimeout * tSec ≤ (advance t s).dev := by decide

theorem witness_ResetsEnter_8 :
    let t : Nat := (1000 + 2 * tUs)
    let i : Nat := 3
    let a : Nat := 1000
    let s : State := sRail
    s.desk.st ≠ 0 ∧ s.pins.porstN = true ∧ (tget { } s.hlt.rails i).fault = some a ∧ a + 2 * tUs ≤ max s.wall t := by decide

theorem witness_ResetReleases_0 :
    (let t : Nat := (11 * tSec)
    let s : State := sInReset
    s.desk.st = 0 ∧ s.pins.porstN = true ∧ (∀ (w : Nat), s.rst.cmdUntil = some w → w ≤ max s.wall t)) ∧
    (let t : Nat := 500001
    let s : State := sCmdHold
    s.desk.st = 0 ∧ s.pins.porstN = true ∧ (∀ (w : Nat), s.rst.cmdUntil = some w → w ≤ max s.wall t)) ∧
    (let t : Nat := 5000
    let s : State := ({ sInReset with rst.frzHeld := true })
    s.desk.st = 0 ∧ s.pins.porstN = true ∧ (∀ (w : Nat), s.rst.cmdUntil = some w → w ≤ max s.wall t)) ∧
    (let t : Nat := 5000
    let s : State := sTrialDir
    s.desk.st = 0 ∧ s.pins.porstN = true ∧ (∀ (w : Nat), s.rst.cmdUntil = some w → w ≤ max s.wall t)) ∧
    (let t : Nat := (11 * tSec)
    let s : State := ({ sInReset with rst.heldFor := some (tSec), rst.heldAt := none })
    s.desk.st = 0 ∧ s.pins.porstN = true ∧ (∀ (w : Nat), s.rst.cmdUntil = some w → w ≤ max s.wall t)) ∧
    (let t : Nat := (11 * tSec)
    let s : State := ({ sTrialDir with rst.frzHeld := true })
    s.desk.st = 0 ∧ s.pins.porstN = true ∧ (∀ (w : Nat), s.rst.cmdUntil = some w → w ≤ max s.wall t)) := by refine ⟨?_, ?_, ?_, ?_, ?_, ?_⟩ <;> decide

theorem witness_ResetReleases_1 :
    let t : Nat := 499999
    let w : Nat := 500000
    let s : State := sCmdHold
    s.desk.st = 0 ∧ s.pins.porstN = true ∧ s.rst.cmdUntil = some w ∧ max s.wall t < w := by decide

theorem witness_ResetReleases_3 :
    (let s : State := sRom
    s.desk.st = 1 ∧ s.desk.recovery = false ∧ s.desk.rom = true) ∧
    (let s : State := ({ sRom with nv.setRec := some rec0 })
    s.desk.st = 1 ∧ s.desk.recovery = false ∧ s.desk.rom = true) ∧
    (let s : State := ({ sRom with nv.setRec1 := some rec0 })
    s.desk.st = 1 ∧ s.desk.recovery = false ∧ s.desk.rom = true) := by refine ⟨?_, ?_, ?_⟩ <;> decide

theorem witness_ResetReleases_5 :
    (let s : State := sReady
    (s.desk.st = 1 ∧ s.desk.recovery = true ∧ s.desk.rom = true ∨ 1 < s.desk.st)) ∧
    (let s : State := ({ sBoot with desk.recovery := true, desk.rom := true })
    (s.desk.st = 1 ∧ s.desk.recovery = true ∧ s.desk.rom = true ∨ 1 < s.desk.st)) := by refine ⟨?_, ?_⟩ <;> decide

theorem witness_ScrubAndTimersRun_0 :
    (let s : State := sScrub
    Awake s) ∧
    (let s : State := sScrub
    Awake s) ∧
    (let s : State := sScrub
    Awake s) ∧
    (let s : State := ({ sScrub with mem.scrub := memFreeze / 64 })
    Awake s) ∧
    (let s : State := sScrub
    Awake s) := by unfold Awake; refine ⟨?_, ?_, ?_, ?_, ?_⟩ <;> decide

theorem witness_ScrubAndTimersRun_1 :
    let n : Nat := 15
    let s : State := sScrub
    Awake s ∧ n < 16 := by unfold Awake; decide

theorem witness_ScrubAndTimersRun_2 :
    (let e : Nat := 1
    let c : Nat := 33
    let s : State := sDmaRun
    Awake s ∧ e < 4 ∧ (dmaE s e).chan = some c) ∧
    (let e : Nat := 1
    let c : Nat := 5
    let s : State := sStr
    Awake s ∧ e < 4 ∧ (dmaE s e).chan = some c) ∧
    (let e : Nat := 1
    let c : Nat := 5
    let s : State := sStrMore
    Awake s ∧ e < 4 ∧ (dmaE s e).chan = some c) ∧
    (let e : Nat := 1
    let c : Nat := 5
    let s : State := ({ sStr with dma.engines := [(1, { chan := some 5, desc := 0x100000A0, moved := 96, burst := 3 })] })
    Awake s ∧ e < 4 ∧ (dmaE s e).chan = some c) ∧
    (let e : Nat := 1
    let c : Nat := 33
    let s : State := sDmaLast
    Awake s ∧ e < 4 ∧ (dmaE s e).chan = some c) := by unfold Awake; refine ⟨?_, ?_, ?_, ?_, ?_⟩ <;> decide

theorem witness_FreezeAndThaw_0 :
    let v : Word := keyF
    let s : State := sRun
    Awake s ∧ BitVec.toNat v / 65536 = 42435 ∧ BitVec.getLsbD v 0 = true := by unfold Awake; decide

theorem witness_FreezeAndThaw_1 :
    let w : Nat := 10
    let s : State := sReady
    Awake s ∧ 10 ≤ w := by unfold Awake; decide

theorem witness_FreezeAndThaw_2 :
    let w : Nat := 10
    let s : State := sInReset
    s.desk.st = 0 ∧ 10 ≤ w := by decide

theorem witness_FreezeAndThaw_3 :
    let w : Nat := 9
    let s : State := sReady
    (w < 10 ∨ s.desk.st = 7) := by decide

theorem witness_FreezeAndThaw_4 :
    let v : Word := 0x1234#32
    BitVec.toNat v / 65536 ≠ 42435 := by decide

theorem witness_FreezeAndThaw_5 :
    let v : Word := keyT
    let s : State := sFrozen
    s.desk.st = 7 ∧ s.desk.lab = true ∧ BitVec.toNat v / 65536 = 42435 ∧ BitVec.getLsbD v 1 = true := by decide

theorem witness_FreezeAndThaw_6 :
    let s : State := ({ sFrozen with desk.lab := false })
    s.desk.st = 7 ∧ s.desk.lab = false := by decide

theorem witness_ResetReleases_2 :
    let s : State := sCold
    s.desk.st = 0 ∧ s.pins.porstN = false := by decide

theorem witness_ResetReleases_4 :
    let s : State := sBoot
    s.desk.st = 1 ∧ s.desk.recovery = false ∧ s.desk.rom = false := by decide

theorem witness_ScrubAndTimersRun_3 :
    let e : Nat := 1
    let n : Nat := 17
    let s : State := sSinkS
    Awake s ∧ e < 4 ∧ n < 32 ∧ (dmaE s e).chan = some n ∧ (dmaS s n).fromMem = true := by unfold Awake; decide

theorem witness_TakeReturnsTheBestSource_0 :
    let n : Nat := 25
    let s : State := sIc
    Awake s ∧ icBest s = some n := by unfold Awake; decide

theorem witness_TakeReturnsTheBestSource_1 :
    let s : State := ({ sReady with ic.latched := true })
    Awake s ∧ icBest s = none := by unfold Awake; decide

theorem witness_TakeReturnsTheBestSource_2 :
    (let s : State := sIc
    twf { } none s.ic.src = true) ∧
    (let s : State := sReady
    twf { } none s.ic.src = true) := by refine ⟨?_, ?_⟩ <;> decide

theorem witness_SourcesFinish_0 :
    let n : Nat := 40
    let s : State := sIc
    Awake s ∧ 1 ≤ n ∧ n ≤ 767 ∧ (icSrc s n).active = true := by unfold Awake; decide

theorem witness_SourcesFinish_1 :
    let n : Nat := 767
    let s : State := sIc
    Awake s ∧ 1 ≤ n ∧ n ≤ 767 ∧ (icSrc s n).active = false := by unfold Awake; decide

theorem witness_SourcesAndModerationRun_4 :
    let n : Nat := 40
    let s : State := sIc
    Awake s ∧ 1 ≤ n ∧ n ≤ 767 := by unfold Awake; decide

theorem witness_SourcesAndModerationRun_5 :
    let n : Nat := 768
    (n = 0 ∨ 767 < n) := by decide

theorem witness_SourcesAndModerationRun_6 :
    (let n : Nat := 25
    let s : State := sIc
    let x : IcSrc := icSrc s n
    1 ≤ n ∧ n ≤ 767 ∧ x.prio < 8 ∧ x.group < 16 ∧ x.count.val < 16) ∧
    (let n : Nat := 40
    let s : State := sIc
    let x : IcSrc := icSrc s n
    1 ≤ n ∧ n ≤ 767 ∧ x.prio < 8 ∧ x.group < 16 ∧ x.count.val < 16) := by refine ⟨?_, ?_⟩ <;> decide

theorem witness_SourcesAndModerationRun_7 :
    let s : State := sIc
    Awake s := by unfold Awake; decide

theorem witness_SourcesAndModerationRun_0 :
    let t : Nat := 100
    let g : Nat := 2
    let e : Nat := 100
    let s : State := sMod
    Awake s ∧ (tget { } s.ic.mods g).hold = some e ∧ e ≤ (advance t s).dev := by unfold Awake; decide

theorem witness_SourcesAndModerationRun_1 :
    let t : Nat := 99
    let g : Nat := 2
    let s : State := sMod
    (∀ (e : Nat), (tget { } s.ic.mods g).hold = some e → (advance t s).dev < e) := by decide

theorem witness_SourcesAndModerationRun_2 :
    let s : State := sMod
    Awake s ∧ s.ic.line = false := by unfold Awake; decide

theorem witness_SourcesAndModerationRun_3 :
    let s : State := ({ sMod with ic.line := true })
    s.ic.line = true := by decide

theorem witness_ParameterAccess_0 :
    (let r : Req := (getP pStreamSrcMac 0 2 1)
    let p : PRow := (rowOf pStreamSrcMac)
    let s : State := sReady
    let id : Nat := fld r.payload 0 2
    let i : Nat := fld r.payload 2 2
    let n : Nat := fld r.payload 4 2
    let copy : Nat := fld r.payload 6 1
    Ready r s ∧ r.payload.length = 8 ∧ paramRow id = some p ∧ inScope p i n = true ∧ n ≤ 29 ∧ copy ≤ 3 ∧ fld r.payload 7 1 = 0) ∧
    (let r : Req := (getP pChThreshold 1020 4 0)
    let p : PRow := (rowOf pChThreshold)
    let s : State := sReady
    let id : Nat := fld r.payload 0 2
    let i : Nat := fld r.payload 2 2
    let n : Nat := fld r.payload 4 2
    let copy : Nat := fld r.payload 6 1
    Ready r s ∧ r.payload.length = 8 ∧ paramRow id = some p ∧ inScope p i n = true ∧ n ≤ 29 ∧ copy ≤ 3 ∧ fld r.payload 7 1 = 0) ∧
    (let r : Req := (getP pChThreshold 0 29 3)
    let p : PRow := (rowOf pChThreshold)
    let s : State := sReady
    let id : Nat := fld r.payload 0 2
    let i : Nat := fld r.payload 2 2
    let n : Nat := fld r.payload 4 2
    let copy : Nat := fld r.payload 6 1
    Ready r s ∧ r.payload.length = 8 ∧ paramRow id = some p ∧ inScope p i n = true ∧ n ≤ 29 ∧ copy ≤ 3 ∧ fld r.payload 7 1 = 0) ∧
    (let r : Req := (getP pCoincDepth 0 1 2)
    let p : PRow := (rowOf pCoincDepth)
    let s : State := sReady
    let id : Nat := fld r.payload 0 2
    let i : Nat := fld r.payload 2 2
    let n : Nat := fld r.payload 4 2
    let copy : Nat := fld r.payload 6 1
    Ready r s ∧ r.payload.length = 8 ∧ paramRow id = some p ∧ inScope p i n = true ∧ n ≤ 29 ∧ copy ≤ 3 ∧ fld r.payload 7 1 = 0) := by unfold Ready; refine ⟨?_, ?_, ?_, ?_⟩ <;> decide

theorem witness_ParameterAccess_1_0 :
    let r : Req := (setP pCoincDepth 63 [3])
    let p : PRow := (rowOf pCoincDepth)
    let s : State := sReady
    let id : Nat := fld r.payload 0 2
    let i : Nat := fld r.payload 2 2
    let n : Nat := fld r.payload 4 2
    Ready r s ∧ r.payload.length = 8 + 8 * n ∧ n ≤ 29 ∧ fld r.payload 6 2 = 0 ∧ paramRow id = some p ∧ inScope p i n = true ∧ i + n < 65535 ∧ ownedNow
      s id = true := by unfold Ready; decide

theorem witness_ParameterAccess_1_1_0 :
    let r : Req := (setP pTallyCoarseWidth 0 [10])
    let p : PRow := (rowOf pTallyCoarseWidth)
    let s : State := sReady
    let id : Nat := fld r.payload 0 2
    let i : Nat := fld r.payload 2 2
    let n : Nat := fld r.payload 4 2
    let val : Nat → Nat := fun k => fld r.payload (8 + 8 * k) 8
    Ready r s ∧ r.payload.length = 8 + 8 * n ∧ n ≤ 29 ∧ fld r.payload 6 2 = 0 ∧ paramRow id = some p ∧ inScope p i n = true ∧ i + n < 65535 ∧
      setBarred s id (List.map (fun x => i + x) (List.range n)) (List.map val (List.range n)) = false ∧ (∃ k < n, inRange p (val k) = false ∨
      valueFits s id (i + k) (val k) = false) := by unfold Ready; decide

theorem witness_ParameterAccess_1_1_1 :
    (let r : Req := (setP pTallyCoarseWidth 0 [9])
    let p : PRow := (rowOf pTallyCoarseWidth)
    let s : State := sReady
    let id : Nat := fld r.payload 0 2
    let i : Nat := fld r.payload 2 2
    let n : Nat := fld r.payload 4 2
    let val : Nat → Nat := fun k => fld r.payload (8 + 8 * k) 8
    Ready r s ∧ r.payload.length = 8 + 8 * n ∧ n ≤ 29 ∧ fld r.payload 6 2 = 0 ∧ paramRow id = some p ∧ inScope p i n = true ∧ i + n < 65535 ∧
      setBarred s id (List.map (fun x => i + x) (List.range n)) (List.map val (List.range n)) = false ∧ (∀ k < n, inRange p (val k) = true ∧ valueFits
      s id (i + k) (val k) = true)) ∧
    (let r : Req := (setP pChThreshold 1023 [9])
    let p : PRow := (rowOf pChThreshold)
    let s : State := sReady
    let id : Nat := fld r.payload 0 2
    let i : Nat := fld r.payload 2 2
    let n : Nat := fld r.payload 4 2
    let val : Nat → Nat := fun k => fld r.payload (8 + 8 * k) 8
    Ready r s ∧ r.payload.length = 8 + 8 * n ∧ n ≤ 29 ∧ fld r.payload 6 2 = 0 ∧ paramRow id = some p ∧ inScope p i n = true ∧ i + n < 65535 ∧
      setBarred s id (List.map (fun x => i + x) (List.range n)) (List.map val (List.range n)) = false ∧ (∀ k < n, inRange p (val k) = true ∧ valueFits
      s id (i + k) (val k) = true)) ∧
    (let r : Req := (setP pMgmtEnable 0 [1])
    let p : PRow := (rowOf pMgmtEnable)
    let s : State := sReady
    let id : Nat := fld r.payload 0 2
    let i : Nat := fld r.payload 2 2
    let n : Nat := fld r.payload 4 2
    let val : Nat → Nat := fun k => fld r.payload (8 + 8 * k) 8
    Ready r s ∧ r.payload.length = 8 + 8 * n ∧ n ≤ 29 ∧ fld r.payload 6 2 = 0 ∧ paramRow id = some p ∧ inScope p i n = true ∧ i + n < 65535 ∧
      setBarred s id (List.map (fun x => i + x) (List.range n)) (List.map val (List.range n)) = false ∧ (∀ k < n, inRange p (val k) = true ∧ valueFits
      s id (i + k) (val k) = true)) ∧
    (let r : Req := (setP pPlanMode 0 [1])
    let p : PRow := (rowOf pPlanMode)
    let s : State := sReady
    let id : Nat := fld r.payload 0 2
    let i : Nat := fld r.payload 2 2
    let n : Nat := fld r.payload 4 2
    let val : Nat → Nat := fun k => fld r.payload (8 + 8 * k) 8
    Ready r s ∧ r.payload.length = 8 + 8 * n ∧ n ≤ 29 ∧ fld r.payload 6 2 = 0 ∧ paramRow id = some p ∧ inScope p i n = true ∧ i + n < 65535 ∧
      setBarred s id (List.map (fun x => i + x) (List.range n)) (List.map val (List.range n)) = false ∧ (∀ k < n, inRange p (val k) = true ∧ valueFits
      s id (i + k) (val k) = true)) ∧
    (let r : Req := (setP pLaneEnable 0 [0])
    let p : PRow := (rowOf pLaneEnable)
    let s : State := sReady
    let id : Nat := fld r.payload 0 2
    let i : Nat := fld r.payload 2 2
    let n : Nat := fld r.payload 4 2
    let val : Nat → Nat := fun k => fld r.payload (8 + 8 * k) 8
    Ready r s ∧ r.payload.length = 8 + 8 * n ∧ n ≤ 29 ∧ fld r.payload 6 2 = 0 ∧ paramRow id = some p ∧ inScope p i n = true ∧ i + n < 65535 ∧
      setBarred s id (List.map (fun x => i + x) (List.range n)) (List.map val (List.range n)) = false ∧ (∀ k < n, inRange p (val k) = true ∧ valueFits
      s id (i + k) (val k) = true)) ∧
    (let r : Req := (setP pFwTrialTimeout 0 [20])
    let p : PRow := (rowOf pFwTrialTimeout)
    let s : State := sReady
    let id : Nat := fld r.payload 0 2
    let i : Nat := fld r.payload 2 2
    let n : Nat := fld r.payload 4 2
    let val : Nat → Nat := fun k => fld r.payload (8 + 8 * k) 8
    Ready r s ∧ r.payload.length = 8 + 8 * n ∧ n ≤ 29 ∧ fld r.payload 6 2 = 0 ∧ paramRow id = some p ∧ inScope p i n = true ∧ i + n < 65535 ∧
      setBarred s id (List.map (fun x => i + x) (List.range n)) (List.map val (List.range n)) = false ∧ (∀ k < n, inRange p (val k) = true ∧ valueFits
      s id (i + k) (val k) = true)) := by unfold Ready; refine ⟨?_, ?_, ?_, ?_, ?_, ?_⟩ <;> decide

theorem witness_ParameterAccess_2 :
    let r : Req := (setP pChEnable 0xFFFF [0])
    let p : PRow := (rowOf pChEnable)
    let s : State := sReady
    let id : Nat := fld r.payload 0 2
    let idx : List Nat := List.map (fun x => p.first + x) (List.range p.count)
    let v : Nat := fld r.payload 8 8
    Ready r s ∧ r.payload.length = 16 ∧ fld r.payload 2 2 = 65535 ∧ fld r.payload 4 2 = 1 ∧ fld r.payload 6 2 = 0 ∧ paramRow id = some p ∧ p.cls = 0 ∧
      setBarred s id idx [v] = false ∧ inRange p v = true ∧ (∀ k ∈ idx, valueFits s id k v = true) := by unfold Ready; decide +kernel

theorem witness_ParameterAccess_3 :
    (let r : Req := (rq 7 (flds [(2, 0x0300), (1, 255), (1, 0)]))
    let s : State := sReady
    Ready r s ∧ r.payload.length = 4 ∧ (fld r.payload 2 1 ≤ 14 ∨ fld r.payload 2 1 = 255) ∧ fld r.payload 3 1 = 0) ∧
    (let r : Req := (rq 7 (flds [(2, 0), (1, 14), (1, 0)]))
    let s : State := sReady
    Ready r s ∧ r.payload.length = 4 ∧ (fld r.payload 2 1 ≤ 14 ∨ fld r.payload 2 1 = 255) ∧ fld r.payload 3 1 = 0) := by unfold Ready; refine ⟨?_, ?_⟩ <;> decide

theorem witness_SealsRun_0_0 :
    (let r : Req := (rq 1 (flds [(1, 0), (3, 0)]))
    let s : State := sBadShadow
    let v : Verdict := sealVerdict s
    Ready r s ∧ r.payload.length = 4 ∧ s.desk.st ≠ 1 ∧ fld r.payload 0 1 ≤ 1 ∧ allZero (List.drop 1 r.payload) = true ∧ v.reason ≠ 0) ∧
    (let r : Req := (rq 1 (flds [(1, 1), (3, 0)]))
    let s : State := sBadShadow
    let v : Verdict := sealVerdict s
    Ready r s ∧ r.payload.length = 4 ∧ s.desk.st ≠ 1 ∧ fld r.payload 0 1 ≤ 1 ∧ allZero (List.drop 1 r.payload) = true ∧ v.reason ≠ 0) := by unfold Ready; refine ⟨?_, ?_⟩ <;> decide

theorem witness_SealsRun_0_1 :
    let r : Req := (rq 1 (flds [(1, 1), (3, 0)]))
    let s : State := sReady
    let v : Verdict := sealVerdict s
    Ready r s ∧ r.payload.length = 4 ∧ s.desk.st ≠ 1 ∧ fld r.payload 0 1 ≤ 1 ∧ allZero (List.drop 1 r.payload) = true ∧ v.reason = 0 ∧ fld r.payload 0
      1 = 1 := by unfold Ready; decide

theorem witness_SealsRun_0_2_0 :
    let r : Req := (rq 1 (flds [(1, 0), (3, 0)]))
    let s : State := sReady
    let v : Verdict := sealVerdict s
    Ready r s ∧ r.payload.length = 4 ∧ s.desk.st ≠ 1 ∧ fld r.payload 0 1 ≤ 1 ∧ allZero (List.drop 1 r.payload) = true ∧ v.reason = 0 ∧ fld r.payload 0
      1 = 0 ∧ s.sch.running = false ∧ s.par.timely = none ∧ s.par.late = none := by unfold Ready; decide

theorem witness_SealsRun_0_2_1 :
    let r : Req := (rq 1 (flds [(1, 0), (3, 0)]))
    let s : State := sSealing
    let v : Verdict := sealVerdict s
    Ready r s ∧ r.payload.length = 4 ∧ s.desk.st ≠ 1 ∧ fld r.payload 0 1 ≤ 1 ∧ allZero (List.drop 1 r.payload) = true ∧ v.reason = 0 ∧ fld r.payload 0
      1 = 0 ∧ s.sch.running = true ∧ s.sch.fbeAt = none := by unfold Ready; decide

theorem witness_SealsRun_1 :
    let r : Req := (rq 1 (flds [(1, 0), (3, 0)]))
    let s : State := sBoot
    Ready r s ∧ r.payload.length = 4 ∧ s.desk.st = 1 := by unfold Ready; decide

theorem witness_SealsRun_0_2_2 :
    (let r : Req := (rq 1 (flds [(1, 0), (3, 0)]))
    let s : State := (sSealAt 1000)
    let v : Verdict := sealVerdict s
    let f : Nat := 1000
    Ready r s ∧ r.payload.length = 4 ∧ s.desk.st ≠ 1 ∧ fld r.payload 0 1 ≤ 1 ∧ allZero (List.drop 1 r.payload) = true ∧ v.reason = 0 ∧ fld r.payload 0
      1 = 0 ∧ s.sch.running = true ∧ s.par.awaiting = [] ∧ s.sch.fbeAt = some f) ∧
    (let r : Req := (rq 1 (flds [(1, 0), (3, 0)]))
    let s : State := (sSealAt 1000000)
    let v : Verdict := sealVerdict s
    let f : Nat := 1000000
    Ready r s ∧ r.payload.length = 4 ∧ s.desk.st ≠ 1 ∧ fld r.payload 0 1 ≤ 1 ∧ allZero (List.drop 1 r.payload) = true ∧ v.reason = 0 ∧ fld r.payload 0
      1 = 0 ∧ s.sch.running = true ∧ s.par.awaiting = [] ∧ s.sch.fbeAt = some f) := by unfold Ready; refine ⟨?_, ?_⟩ <;> decide

theorem witness_DeviceCommandsComplete_0_0 :
    let r : Req := (rq 0 [])
    let s : State := sGo
    Ready r s ∧ r.payload = [] ∧ s.desk.st = 2 ∧ itinReady s = true ∧ s.cal.factory = none ∧ runWithheld s = false := by unfold Ready; decide

theorem witness_DeviceCommandsComplete_0_1 :
    let r : Req := (rq 0 [])
    let s : State := sReady
    Ready r s ∧ r.payload = [] ∧ (s.desk.st ≠ 2 ∨ itinReady s = false ∨ s.cal.factory ≠ none) := by unfold Ready; decide

theorem witness_DeviceCommandsComplete_0_2 :
    let r : Req := (rq 0 [])
    let s : State := ({ sReady with par.inForce.itinHas := true })
    Ready r s ∧ r.payload = [] ∧ s.desk.st = 2 ∧ itinReady s = true ∧ s.cal.factory = none ∧ runWithheld s = true := by unfold Ready; decide

theorem witness_DeviceCommandsComplete_0_3_0 :
    let r : Req := (rq 0 [])
    let s : State := sRunning
    Ready r s ∧ r.payload = [] ∧ (s.desk.st = 4 ∨ s.desk.st = 5) ∧ s.sch.running = true := by unfold Ready; decide

theorem witness_DeviceCommandsComplete_0_3_1 :
    let r : Req := (rq 0 [])
    let s : State := sRun
    Ready r s ∧ r.payload = [] ∧ (s.desk.st = 4 ∨ s.desk.st = 5) ∧ s.sch.running = false := by unfold Ready; decide

theorem witness_DeviceCommandsComplete_0_4 :
    let r : Req := (rq 0 [])
    let s : State := sReady
    Ready r s ∧ r.payload = [] ∧ s.desk.st ≠ 4 ∧ s.desk.st ≠ 5 := by unfold Ready; decide

theorem witness_DeviceCommandsComplete_0_5 :
    let r : Req := (rq 7 [])
    let s : State := sReady
    Ready r s ∧ r.payload = [] := by unfold Ready; decide

theorem witness_DeviceCommandsComplete_1 :
    (let r : Req := (rq 7 (flds [(1, 2), (3, 0)]))
    let s : State := sEvents
    Ready r s ∧ r.payload.length = 4 ∧ fld r.payload 0 1 ≤ 5 ∧ allZero (List.drop 1 r.payload) = true ∧ s.desk.lostCount = 0) ∧
    (let r : Req := (rq 7 (flds [(1, 5), (3, 0)]))
    let s : State := sEvents
    Ready r s ∧ r.payload.length = 4 ∧ fld r.payload 0 1 ≤ 5 ∧ allZero (List.drop 1 r.payload) = true ∧ s.desk.lostCount = 0) ∧
    (let r : Req := (rq 7 (flds [(1, 0), (3, 0)]))
    let s : State := sEvents
    Ready r s ∧ r.payload.length = 4 ∧ fld r.payload 0 1 ≤ 5 ∧ allZero (List.drop 1 r.payload) = true ∧ s.desk.lostCount = 0) := by unfold Ready; refine ⟨?_, ?_, ?_⟩ <;> decide

theorem witness_DeviceCommandsComplete_2 :
    (let r : Req := (rq 7 (flds [(1, 6), (3, 0)]))
    let s : State := sEvents
    Ready r s ∧ (r.payload.length ≠ 4 ∨ 5 < fld r.payload 0 1 ∨ allZero (List.drop 1 r.payload) = false)) ∧
    (let r : Req := (rq 7 [])
    let s : State := sEvents
    Ready r s ∧ (r.payload.length ≠ 4 ∨ 5 < fld r.payload 0 1 ∨ allZero (List.drop 1 r.payload) = false)) := by unfold Ready; refine ⟨?_, ?_⟩ <;> decide

theorem witness_DeviceCommandsComplete_3_0 :
    let r : Req := (rq 7 (flds [(4, 0)]))
    let s : State := sReady
    Ready r s ∧ r.payload.length = 4 ∧ fld r.payload 0 4 = s.nv.serial % 2 ^ 32 ∧ s.desk.cmdReset = none := by unfold Ready; decide

theorem witness_DeviceCommandsComplete_3_1 :
    let r : Req := (rq 7 (flds [(4, 1)]))
    let s : State := sReady
    Ready r s ∧ r.payload.length = 4 ∧ fld r.payload 0 4 ≠ s.nv.serial % 2 ^ 32 := by unfold Ready; decide

theorem witness_FirmwareUpdateRuns_0_1 :
    (let r : Req := (rq 7 (flds [(4, 5), (2, 3), (2, 0), (3, 0x030201)]))
    let s : State := sReady
    let o : Nat := fld r.payload 0 4
    let n : Nat := fld r.payload 4 2
    Ready r s ∧ r.payload.length = 8 + n ∧ 1 ≤ n ∧ n ≤ 240 ∧ o + n ≤ slotSize ∧ fld r.payload 6 2 = 0 ∧ flashBusy s = false ∧ s.nk.wrHeld = false) ∧
    (let r : Req := (rq 7 (flds [(4, slotSize - 240), (2, 240), (2, 0)] ++ zeros 240))
    let s : State := sReady
    let o : Nat := fld r.payload 0 4
    let n : Nat := fld r.payload 4 2
    Ready r s ∧ r.payload.length = 8 + n ∧ 1 ≤ n ∧ n ≤ 240 ∧ o + n ≤ slotSize ∧ fld r.payload 6 2 = 0 ∧ flashBusy s = false ∧ s.nk.wrHeld = false) := by unfold Ready; refine ⟨?_, ?_⟩ <;> decide +kernel

theorem witness_FirmwareUpdateRuns_0_2 :
    let r : Req := (rq 7 (flds [(4, 5), (2, 3), (2, 0), (3, 0x030201)]))
    let s : State := ({ sReady with nk.wrHeld := true })
    let o : Nat := fld r.payload 0 4
    let n : Nat := fld r.payload 4 2
    Ready r s ∧ r.payload.length = 8 + n ∧ 1 ≤ n ∧ n ≤ 240 ∧ o + n ≤ slotSize ∧ fld r.payload 6 2 = 0 ∧ flashBusy s = false ∧ s.nk.wrHeld = true := by unfold Ready; decide

theorem witness_FirmwareUpdateRuns_1_0 :
    let r : Req := (rq 7 (flds [(4, 1)]))
    let s : State := sReady
    let a : Nat := fld r.payload 0 1
    Ready r s ∧ r.payload.length = 4 ∧ allZero (List.drop 1 r.payload) = true ∧ flashBusy s = false ∧ s.nk.wrHeld = false ∧ a = 1 := by unfold Ready; decide

theorem witness_FirmwareUpdateRuns_1_1 :
    let r : Req := (rq 7 (flds [(4, 2)]))
    let s : State := sReady
    let a : Nat := fld r.payload 0 1
    Ready r s ∧ r.payload.length = 4 ∧ allZero (List.drop 1 r.payload) = true ∧ flashBusy s = false ∧ s.nk.wrHeld = false ∧ a = 2 := by unfold Ready; decide

theorem witness_FirmwareUpdateRuns_1_2 :
    let r : Req := (rq 7 (flds [(4, 3)]))
    let s : State := sUpd
    let a : Nat := fld r.payload 0 1
    Ready r s ∧ r.payload.length = 4 ∧ allZero (List.drop 1 r.payload) = true ∧ flashBusy s = false ∧ s.nk.wrHeld = false ∧ a = 3 ∧ s.desk.trial =
      true ∧ 2 ≤ s.desk.st := by unfold Ready; decide

theorem witness_FirmwareUpdateRuns_1_3 :
    let r : Req := (rq 7 (flds [(4, 3)]))
    let s : State := sReady
    let a : Nat := fld r.payload 0 1
    Ready r s ∧ r.payload.length = 4 ∧ allZero (List.drop 1 r.payload) = true ∧ flashBusy s = false ∧ s.nk.wrHeld = false ∧ a = 3 ∧ s.desk.trial =
      false := by unfold Ready; decide

theorem witness_FirmwareUpdateRuns_1_4 :
    let r : Req := (rq 7 (flds [(4, 4)]))
    let s : State := sActivated
    let a : Nat := fld r.payload 0 1
    let d : BootDir := bootDir s
    Ready r s ∧ r.payload.length = 4 ∧ allZero (List.drop 1 r.payload) = true ∧ flashBusy s = false ∧ s.nk.wrHeld = false ∧ a = 4 ∧ d.trial = 1 ∧
      d.boots = 0 ∧ d.active ≠ s.desk.slot := by unfold Ready; decide +kernel

theorem witness_FirmwareUpdateRuns_4 :
    (let a : Nat := 1
    let tr : Nat := 1
    let n : Nat := 0
    let s : State := sUpd
    a < 2 ∧ tr < 256 ∧ n < 256 ∧ (bootDir s).seq + 1 < 2 ^ 32) ∧
    (let a : Nat := 0
    let tr : Nat := 0
    let n : Nat := 255
    let s : State := sReady
    a < 2 ∧ tr < 256 ∧ n < 256 ∧ (bootDir s).seq + 1 < 2 ^ 32) := by refine ⟨?_, ?_⟩ <;> decide +kernel

theorem witness_FirmwareUpdateRuns_5 :
    let k : Nat := 3
    let s : State := sErase
    Awake s ∧ s.desk.erase = some k ∧ s.desk.fwWait = [] ∧ (mb s k).origin = none ∧ s.nk.wrHeld = false := by unfold Awake; decide

theorem witness_DebugAuthenticates_0_0 :
    let r : Req := (rq 5 (flds [(4, 3)]))
    let s : State := sReady
    Ready r s ∧ r.mb = 5 ∧ s.desk.recovery = false ∧ r.payload.length = 4 ∧ 1 ≤ fld r.payload 0 1 ∧ fld r.payload 0 1 ≤ 3 ∧ allZero (List.drop 1
      r.payload) = true ∧ s.desk.debugFails < 3 := by unfold Ready; decide

theorem witness_DebugAuthenticates_0_1 :
    let r : Req := (rq 5 (flds [(4, 1)]))
    let s : State := ({ sReady with desk.debugFails := 3 })
    Ready r s ∧ r.mb = 5 ∧ s.desk.recovery = false ∧ r.payload.length = 4 ∧ 1 ≤ fld r.payload 0 1 ∧ fld r.payload 0 1 ≤ 3 ∧ allZero (List.drop 1
      r.payload) = true ∧ 3 ≤ s.desk.debugFails := by unfold Ready; decide

theorem witness_DebugAuthenticates_1_0 :
    (let r : Req := (rq 5 (pad 132 [1]))
    let s : State := sChal
    let c : Challenge := { nonce := zeros 16, level := 3, at_ := 10 }
    Ready r s ∧ r.mb = 5 ∧ r.payload.length = 132 ∧ fld r.payload 0 1 ≤ 1 ∧ allZero (List.take 3 (List.drop 1 r.payload)) = true ∧ s.desk.challenge =
      some c ∧ s.desk.debugFails < 3) ∧
    (let r : Req := (rq 5 (pad 132 [0]))
    let s : State := sChal
    let c : Challenge := { nonce := zeros 16, level := 3, at_ := 10 }
    Ready r s ∧ r.mb = 5 ∧ r.payload.length = 132 ∧ fld r.payload 0 1 ≤ 1 ∧ allZero (List.take 3 (List.drop 1 r.payload)) = true ∧ s.desk.challenge =
      some c ∧ s.desk.debugFails < 3) := by unfold Ready; refine ⟨?_, ?_⟩ <;> decide +kernel

theorem witness_DebugAuthenticates_1_1 :
    let r : Req := (rq 5 (pad 132 [1]))
    let s : State := sReady
    Ready r s ∧ r.mb = 5 ∧ r.payload.length = 132 ∧ fld r.payload 0 1 ≤ 1 ∧ allZero (List.take 3 (List.drop 1 r.payload)) = true ∧ s.desk.challenge =
      none ∧ s.desk.debugFails < 3 := by unfold Ready; decide +kernel

theorem witness_DebugAuthenticates_1_2 :
    let r : Req := (rq 5 (pad 132 [1]))
    let s : State := ({ sChal with desk.debugFails := 3 })
    Ready r s ∧ r.mb = 5 ∧ r.payload.length = 132 ∧ fld r.payload 0 1 ≤ 1 ∧ allZero (List.take 3 (List.drop 1 r.payload)) = true ∧ 3 ≤
      s.desk.debugFails := by unfold Ready; decide +kernel

theorem witness_DebugAuthenticates_2 :
    let r : Req := (rq 6 [])
    let s : State := sReady
    Ready r s ∧ r.mb ≠ 5 := by unfold Ready; decide

theorem witness_AttentionWorks_0 :
    (let s : State := sAttn
    Awake s) ∧
    (let s : State := sAttn
    Awake s) ∧
    (let s : State := ({ sAttn with desk.setAt := some 0, desk.setBits := 0x1000#32 })
    Awake s) := by unfold Awake; refine ⟨?_, ?_, ?_⟩ <;> decide

theorem witness_AttentionWorks_1 :
    (let s : State := sAttn2
    Awake s) ∧
    (let s : State := sAttn2
    Awake s) ∧
    (let s : State := sAttn
    Awake s) := by unfold Awake; refine ⟨?_, ?_, ?_⟩ <;> decide

theorem witness_AttentionWorks_2 :
    let t : Nat := 50
    let e : Nat := 50
    let s : State := sAttnT
    Awake s ∧ s.desk.attnTimer = some e ∧ e ≤ (advance t s).dev := by unfold Awake; decide

theorem witness_AttentionWorks_3 :
    let t : Nat := 49
    let s : State := sAttnT
    (∀ (e : Nat), s.desk.attnTimer = some e → (advance t s).dev < e) := by decide

theorem witness_RegisterWritesAct_0 :
    let k : Nat := 2
    let s : State := sBusy
    Awake s ∧ s.desk.recovery = false ∧ k < 8 ∧ (mb s k).st = 1 := by unfold Awake; decide

theorem witness_RegisterWritesAct_1 :
    (let k : Nat := 7
    let o : Nat := 63
    let s : State := sReady
    Awake s ∧ k < 8 ∧ o < 64) ∧
    (let k : Nat := 2
    let o : Nat := 0
    let s : State := sBusy
    Awake s ∧ k < 8 ∧ o < 64) := by unfold Awake; refine ⟨?_, ?_⟩ <;> decide

theorem witness_RegisterWritesAct_2 :
    let k : Nat := 2
    let s : State := sBusy
    Awake s ∧ k < 8 := by unfold Awake; decide

theorem witness_RegisterWritesAct_3 :
    let s : State := sAttn
    Awake s := by unfold Awake; decide

theorem witness_RegisterWritesAct_4 :
    (let k : Nat := 3
    let v : Word := 1#32
    let s : State := sBuf
    Awake s ∧ s.desk.recovery = false ∧ k < 8 ∧ BitVec.getLsbD v 0 = true ∧ (mb s k).st ≠ 1 ∧ opcodes.contains (cgetLE 0 (mb s k).buf 0 2) = true ∧ (∀
      j ∈ s.desk.waiting, opcodes.contains (cgetLE 0 (mb s j).buf 0 2) = true)) ∧
    (let k : Nat := 3
    let v : Word := 1#32
    let s : State := ({ sBuf with desk.waiting := [5], desk.mbs := [(3, { buf := cellsFrom 0 (reqBytes 0x0018 (rq 3 [])) }), (5, { st := 1, rungAt := some 0, buf := cellsFrom 0 (reqBytes 0x0018 (rq 3 [])) })] })
    Awake s ∧ s.desk.recovery = false ∧ k < 8 ∧ BitVec.getLsbD v 0 = true ∧ (mb s k).st ≠ 1 ∧ opcodes.contains (cgetLE 0 (mb s k).buf 0 2) = true ∧ (∀
      j ∈ s.desk.waiting, opcodes.contains (cgetLE 0 (mb s j).buf 0 2) = true)) := by unfold Awake; refine ⟨?_, ?_⟩ <;> decide

theorem witness_RegisterWritesAct_5 :
    (let a : Nat := 0x24
    let s : State := sFrozen
    (s.desk.st = 0 ∨ s.desk.st = 7 ∧ a / 4 ≠ 12)) ∧
    (let a : Nat := 0x30
    let s : State := sInReset
    (s.desk.st = 0 ∨ s.desk.st = 7 ∧ a / 4 ≠ 12)) := by refine ⟨?_, ?_⟩ <;> decide

theorem witness_RegisterWritesAct_6_0 :
    let n : Nat := 0
    let a : Nat := 9
    let rsv : List Bool := ([true] ++ List.replicate 11 false)
    let s : State := sReady
    s.desk.st ≠ 0 ∧ n < 128 ∧ a < 1024 ∧ rsv.length = 12 ∧ rsv.any id = true := by decide

theorem witness_RegisterWritesAct_6_1 :
    (let n : Nat := 0
    let a : Nat := 11
    let rd : Bool := false
    let rsv : List Bool := (List.replicate 12 false)
    let s : State := sReady
    s.desk.st ≠ 0 ∧ n < 128 ∧ a < 1024 ∧ rsv.length = 12 ∧ rsv.any id = false ∧ rd = false ∧ n = 0) ∧
    (let n : Nat := 0
    let a : Nat := 9
    let rd : Bool := false
    let rsv : List Bool := (List.replicate 12 false)
    let s : State := sAttn
    s.desk.st ≠ 0 ∧ n < 128 ∧ a < 1024 ∧ rsv.length = 12 ∧ rsv.any id = false ∧ rd = false ∧ n = 0) := by refine ⟨?_, ?_⟩ <;> decide

theorem witness_RegisterWritesAct_6_2 :
    (let n : Nat := 0
    let a : Nat := 0
    let rd : Bool := true
    let rsv : List Bool := (List.replicate 12 false)
    let data : List Bool := (List.replicate 64 false)
    let s : State := sReady
    s.desk.st ≠ 0 ∧ n < 128 ∧ a < 1024 ∧ rsv.length = 12 ∧ rsv.any id = false ∧ rd = true ∧ data.length = 32 * (n + 2)) ∧
    (let n : Nat := 2
    let a : Nat := 1022
    let rd : Bool := true
    let rsv : List Bool := (List.replicate 12 false)
    let data : List Bool := (List.replicate 128 false)
    let s : State := sAttn
    s.desk.st ≠ 0 ∧ n < 128 ∧ a < 1024 ∧ rsv.length = 12 ∧ rsv.any id = false ∧ rd = true ∧ data.length = 32 * (n + 2)) := by refine ⟨?_, ?_⟩ <;> decide

theorem witness_RegisterWritesAct_7 :
    let s : State := sInReset
    s.desk.st = 0 := by decide

theorem witness_FirmwareUpdateRuns_0_0 :
    let r : Req := (rq 7 (flds [(4, 5), (2, 3), (2, 0), (3, 0x030201)]))
    let s : State := sErase
    let o : Nat := fld r.payload 0 4
    let n : Nat := fld r.payload 4 2
    Ready r s ∧ r.payload.length = 8 + n ∧ 1 ≤ n ∧ n ≤ 240 ∧ o + n ≤ slotSize ∧ fld r.payload 6 2 = 0 ∧ flashBusy s = true := by unfold Ready; decide +kernel

theorem witness_FirmwareUpdateRuns_2 :
    let r : Req := (rq 7 (flds [(4, 1)]))
    let s : State := sErase
    Ready r s ∧ r.payload.length = 4 ∧ allZero (List.drop 1 r.payload) = true ∧ flashBusy s = true ∧ (fld r.payload 0 1 = 1 ∨ fld r.payload 0 1 = 2) := by unfold Ready; decide

theorem witness_FirmwareUpdateRuns_6 :
    let k : Nat := 3
    let j : Nat := 2
    let s : State := sErase2
    let p : List Byte := cgets 0 (mb s j).buf 8 (cgetLE 0 (mb s j).buf 2 2)
    Awake s ∧ s.desk.erase = some k ∧ s.desk.fwWait = [j] ∧ j ≠ k ∧ s.nk.wrHeld = false ∧ (∀ (x : Xfer), s.dma.xfer = some x → x.target ≠ 2) ∧
      s.desk.slot = 0 ∧ cgetLE 0 (mb s j).buf 0 2 = 19 ∧ 1 ≤ fld p 4 2 ∧ fld p 4 2 ≤ 240 ∧ fld p 0 4 + fld p 4 2 ≤ slotSize ∧ fld p 6 2 = 0 := by unfold Awake; decide

theorem witness_AttentionWorks_4 :
    let bits : Word := 0x2#32
    let c : AttnClear := ({ cyc := 0, bits := 0x2#32, pin := true, timer := none })
    let s : State := ({ sAttn with pins.attnN := false, desk.attention := 0, desk.clr := some { cyc := 0, bits := 0x2#32, pin := true, timer := none } })
    s.desk.clr = some c ∧ c.cyc = cycleNow s ∧ bits &&& c.bits &&& s.desk.attnEnable ≠ 0 ∧ c.pin = true := by decide

theorem witness_MailboxFourNeedsMacsec_0_0 :
    let f : Frame := (reqF 4 55 0x0018 [])
    let s : State := sReady
    let on : Bool := (par0 s pMacsecEnable).testBit 1
    Awake s ∧ mgmtOk f s = true ∧ mVersion f = 1 ∧ mKind f = 1 ∧ 16 ≤ f.payload.length ∧ fld f.payload 2 1 = 4 ∧ fld f.payload 3 1 = 0 ∧ 16 + fld
      f.payload 10 2 ≤ f.payload.length ∧ on = false := by unfold Awake; decide

theorem witness_InBandFramesAct_0_0 :
    (let f : Frame := (reqF 2 55 0x0018 [])
    let s : State := sReady
    let k : Nat := fld f.payload 2 1
    let n : Nat := fld f.payload 10 2
    Awake s ∧ mgmtOk f s = true ∧ mVersion f = 1 ∧ mKind f = 1 ∧ 16 ≤ f.payload.length ∧ k ≤ 7 ∧ fld f.payload 3 1 = 0 ∧ 16 + n ≤ f.payload.length ∧
      (k = 4 → (par0 s pMacsecEnable).testBit 1 = true) ∧ s.desk.recovery = false ∧ (mb s k).st ≠ 1 ∧ sameOrigin f (mb s k).lastOrigin = false ∧
      opcodes.contains (fld f.payload 8 2) = true ∧ (∀ j ∈ s.desk.waiting, opcodes.contains (cgetLE 0 (mb s j).buf 0 2) = true)) ∧
    (let f : Frame := (reqF 7 55 0x0013 (zeros 300))
    let s : State := sReady
    let k : Nat := fld f.payload 2 1
    let n : Nat := fld f.payload 10 2
    Awake s ∧ mgmtOk f s = true ∧ mVersion f = 1 ∧ mKind f = 1 ∧ 16 ≤ f.payload.length ∧ k ≤ 7 ∧ fld f.payload 3 1 = 0 ∧ 16 + n ≤ f.payload.length ∧
      (k = 4 → (par0 s pMacsecEnable).testBit 1 = true) ∧ s.desk.recovery = false ∧ (mb s k).st ≠ 1 ∧ sameOrigin f (mb s k).lastOrigin = false ∧
      opcodes.contains (fld f.payload 8 2) = true ∧ (∀ j ∈ s.desk.waiting, opcodes.contains (cgetLE 0 (mb s j).buf 0 2) = true)) ∧
    (let f : Frame := ({ reqF 4 55 0x0018 [] with secured := some 2 })
    let s : State := sMac4
    let k : Nat := fld f.payload 2 1
    let n : Nat := fld f.payload 10 2
    Awake s ∧ mgmtOk f s = true ∧ mVersion f = 1 ∧ mKind f = 1 ∧ 16 ≤ f.payload.length ∧ k ≤ 7 ∧ fld f.payload 3 1 = 0 ∧ 16 + n ≤ f.payload.length ∧
      (k = 4 → (par0 s pMacsecEnable).testBit 1 = true) ∧ s.desk.recovery = false ∧ (mb s k).st ≠ 1 ∧ sameOrigin f (mb s k).lastOrigin = false ∧
      opcodes.contains (fld f.payload 8 2) = true ∧ (∀ j ∈ s.desk.waiting, opcodes.contains (cgetLE 0 (mb s j).buf 0 2) = true)) := by unfold Awake; refine ⟨?_, ?_, ?_⟩ <;> decide +kernel

theorem witness_InBandFramesAct_0_1 :
    let f : Frame := (reqF 2 55 0x0018 [])
    let s : State := sInProg
    let k : Nat := fld f.payload 2 1
    let n : Nat := fld f.payload 10 2
    Awake s ∧ mgmtOk f s = true ∧ mVersion f = 1 ∧ mKind f = 1 ∧ 16 ≤ f.payload.length ∧ k ≤ 7 ∧ fld f.payload 3 1 = 0 ∧ 16 + n ≤ f.payload.length ∧
      (k = 4 → (par0 s pMacsecEnable).testBit 1 = true) ∧ (mb s k).st = 1 ∧ sameOrigin f (mb s k).origin = true := by unfold Awake; decide

theorem witness_InBandFramesAct_0_2 :
    let f : Frame := (reqF 2 55 0x0018 [])
    let s : State := sDoneBefore
    let k : Nat := fld f.payload 2 1
    let n : Nat := fld f.payload 10 2
    Awake s ∧ mgmtOk f s = true ∧ mVersion f = 1 ∧ mKind f = 1 ∧ 16 ≤ f.payload.length ∧ k ≤ 7 ∧ fld f.payload 3 1 = 0 ∧ 16 + n ≤ f.payload.length ∧
      (k = 4 → (par0 s pMacsecEnable).testBit 1 = true) ∧ sameOrigin f (mb s k).lastOrigin = true ∧ ¬((mb s k).st = 1 ∧ sameOrigin f (mb s k).origin =
      true) := by unfold Awake; decide

theorem witness_InBandFramesAct_0_3 :
    let f : Frame := (reqF 2 56 0x0018 [])
    let s : State := sInProg
    let k : Nat := fld f.payload 2 1
    let n : Nat := fld f.payload 10 2
    Awake s ∧ mgmtOk f s = true ∧ mVersion f = 1 ∧ mKind f = 1 ∧ 16 ≤ f.payload.length ∧ k ≤ 7 ∧ fld f.payload 3 1 = 0 ∧ 16 + n ≤ f.payload.length ∧
      (k = 4 → (par0 s pMacsecEnable).testBit 1 = true) ∧ (mb s k).st = 1 ∧ sameOrigin f (mb s k).origin = false ∧ sameOrigin f (mb s k).lastOrigin =
      false := by unfold Awake; decide

theorem witness_InBandFramesAct_1 :
    (let f : Frame := (regF 3 0x20 4 [])
    let s : State := sReady
    Awake s ∧ mgmtOk f s = true ∧ mVersion f = 1 ∧ mKind f = 3 ∧ regFrameOk f 0 = true) ∧
    (let f : Frame := (regF 3 0 64 [])
    let s : State := sAttn
    Awake s ∧ mgmtOk f s = true ∧ mVersion f = 1 ∧ mKind f = 3 ∧ regFrameOk f 0 = true) := by unfold Awake; refine ⟨?_, ?_⟩ <;> decide

theorem witness_InBandFramesAct_2_0 :
    let f : Frame := (regF 4 0x100 1 (zeros 4))
    let s : State := sReady
    Awake s ∧ mgmtOk f s = true ∧ mVersion f = 1 ∧ mKind f = 4 ∧ regFrameOk f 4 = true ∧ 256 < fld f.payload 8 2 + 4 * fld f.payload 10 2 := by unfold Awake; decide

theorem witness_InBandFramesAct_2_1 :
    let f : Frame := (regF 4 0x2C 1 (flds [(4, 10001)]))
    let s : State := sReady
    Awake s ∧ mgmtOk f s = true ∧ mVersion f = 1 ∧ mKind f = 4 ∧ regFrameOk f 4 = true ∧ fld f.payload 8 2 = 44 ∧ fld f.payload 10 2 = 1 := by unfold Awake; decide

theorem witness_InBandFramesAct_3 :
    (let f : Frame := (winF 1 8 0x40 (by_ [1, 2, 3, 4, 5, 6, 7, 8]))
    let s : State := sWin
    Awake s ∧ mgmtOk f s = true ∧ mVersion f = 2 ∧ mKind f = 1 ∧ s.dma.wins = []) ∧
    (let f : Frame := (winF 1 8 0x40 (by_ [1, 2, 3, 4, 5, 6, 7, 8]))
    let s : State := sReady
    Awake s ∧ mgmtOk f s = true ∧ mVersion f = 2 ∧ mKind f = 1 ∧ s.dma.wins = []) ∧
    (let f : Frame := (winF 1 8 (16 * miB) (by_ [1, 2, 3, 4, 5, 6, 7, 8]))
    let s : State := sWin
    Awake s ∧ mgmtOk f s = true ∧ mVersion f = 2 ∧ mKind f = 1 ∧ s.dma.wins = []) ∧
    (let f : Frame := (winF 1 8 0x40 (by_ [1, 2, 3, 4, 5, 6, 7, 8]))
    let s : State := sWinBusy
    Awake s ∧ mgmtOk f s = true ∧ mVersion f = 2 ∧ mKind f = 1 ∧ s.dma.wins = []) := by unfold Awake; refine ⟨?_, ?_, ?_, ?_⟩ <;> decide

theorem witness_InBandFramesAct_4 :
    (let f : Frame := (winF 2 16 0x40 [])
    let s : State := sWin
    Awake s ∧ mgmtOk f s = true ∧ mVersion f = 2 ∧ mKind f = 2 ∧ s.dma.wins = []) ∧
    (let f : Frame := (winF 2 12 0x40 [])
    let s : State := sWin
    Awake s ∧ mgmtOk f s = true ∧ mVersion f = 2 ∧ mKind f = 2 ∧ s.dma.wins = []) ∧
    (let f : Frame := (winF 2 16 0x40 [])
    let s : State := sWinBusy
    Awake s ∧ mgmtOk f s = true ∧ mVersion f = 2 ∧ mKind f = 2 ∧ s.dma.wins = []) := by unfold Awake; refine ⟨?_, ?_, ?_⟩ <;> decide

theorem witness_MailboxFourNeedsMacsec_0_1 :
    let f : Frame := ({ reqF 4 55 0x0018 [] with secured := some 2 })
    let s : State := sMac4
    let on : Bool := (par0 s pMacsecEnable).testBit 1
    Awake s ∧ mgmtOk f s = true ∧ mVersion f = 1 ∧ mKind f = 1 ∧ 16 ≤ f.payload.length ∧ fld f.payload 2 1 = 4 ∧ fld f.payload 3 1 = 0 ∧ 16 + fld
      f.payload 10 2 ≤ f.payload.length ∧ on = true ∧ (mb s 4).st ≠ 1 ∧ sameOrigin f (mb s 4).lastOrigin = false ∧ s.desk.recovery = false ∧
      opcodes.contains (fld f.payload 8 2) = true ∧ (∀ j ∈ s.desk.waiting, opcodes.contains (cgetLE 0 (mb s j).buf 0 2) = true) := by unfold Awake; decide

theorem witness_MailboxFourNeedsMacsec_1 :
    let f : Frame := ({ reqF 4 55 0x0018 [] with secured := some 2 })
    let s : State := sMac4
    mgmtOk f s = true ∧ (par0 s pMacsecEnable).testBit 1 = true := by decide
/-! ### Ill-formed commands -/

def okR : Req := rq 0 []
def badR : Req := rq 8 []
def okF : Frame := { lane := 0, src := 0, dst := 0, etherType := 0, tci := none, secured := none, payload := [] }
def badF : Frame := { okF with lane := 8 }
def okS : FireRec := { str := 0, em := 0, stamp := 0, iset := 0, seq := 0 }
def badS : FireRec := { okS with em := 8 }
def okFac : FactoryResult := { failStep := 0, scans := [], codes := [], fire := [], pmon := [], senseO := [], senseM := [] }

theorem test_wellFormed_request :
    okR.wf = true ∧ badR.wf = false ∧ Req.wf { okR with tag := 2 ^ 32 } = false ∧ Req.wf { okR with payload := zeros 65536 } = false := by
  refine ⟨rfl, rfl, rfl, ?_⟩
  simp only [Req.wf, zeros, List.length_replicate]
  decide

theorem test_wellFormed_frame :
    okF.wf = true ∧ badF.wf = false ∧ Frame.wf { okF with src := 2 ^ 48 } = false ∧ Frame.wf { okF with dst := 2 ^ 48 } = false
      ∧ Frame.wf { okF with etherType := 65536 } = false ∧ Frame.wf { okF with tci := some 65536 } = false := by decide

theorem test_wellFormed_fireRecord :
    okS.wf = true ∧ badS.wf = false ∧ FireRec.wf { okS with str := 16 } = false ∧ FireRec.wf { okS with iset := 4096 } = false := by decide

theorem test_wellFormed_refuses_0 :
    ([.paramGet 0 badR, .paramSet 0 badR, .paramSeal 0 badR, .paramList 0 badR, .devRun 0 badR, .devStop 0 badR, .eventRead 0 badR, .fwWrite 0 badR,
      .fwUpdate 0 (8, 0) [], .devReset 0 badR, .debugChallenge 0 badR, .debugResponse 0 (5, 2 ^ 32) [], .devIdentity 0 badR, .chmapWrite 0 badR,
      .chmapRead 0 badR, .chCountersRead 0 badR, .chEventCapture 0 badR, .ambientRead 0 badR, .passportRead 0 badR,
      .tallyCountersRead 0 badR] : List Instr).all (fun i => !i.wf) = true := by decide

theorem test_wellFormed_refuses_1 :
    ([.stackStatusRead 0 badR, .templateWrite 0 badR, .extCountersRead 0 badR, .itinWrite 0 badR, .itinRead 0 badR, .itinValidate 0 badR,
      .curveWrite 0 badR, .planRoiSet 0 badR, .emitCountersRead 0 badR, .servoLawWrite 0 badR, .servoTableWrite 0 badR, .servoStatusRead 0 badR,
      .tpRead 0 badR, .senseRead 0 badR, .senseFirWrite 0 badR, .senseLeadMeasure 0 badR, .senseStatusRead 0 badR, .streamConfig 0 badR,
      .rawRequest 0 badR, .macsecKeySet 0 badR] : List Instr).all (fun i => !i.wf) = true := by decide

theorem test_wellFormed_refuses_2 :
    ([.motionFeed 0 badR, .streamStatusRead 0 badR, .laneRetrain 0 badR, .laneTest 0 badR, .laneStatusRead 0 badR, .laneEyeScan 0 badR,
      .eyeScanDone 0 [[], [], [], []] [] [], .eyeScanDone 0 [] [[], [], [], []] [], .eyeScanDone 0 [] [] [0, 0, 0, 0],
      .eyeScanDone 0 [List.replicate 128 0] [] [], .eyeScanDone 0 [] [List.replicate 129 0] [], .eyeScanDone 0 [] [] [2 ^ 40 + 1], .trigSend 0 badR,
      .twinRingStatusRead 0 badR, .healthRead 0 badR, .healthSensorRetire 0 badR, .nkCommission 0 badR, .nkSetWrite 0 badR, .nkConfirm 0 badR,
      .nkStatusRead 0 badR] : List Instr).all (fun i => !i.wf) = true := by decide +kernel

theorem test_wellFormed_refuses_3 :
    ([.nkLedgerRead 0 badR, .nkFaultClear 0 badR, .calFactoryRun 0 badR, .calFactoryDone 0 { okFac with scans := [(1024, [])] },
      .calFactoryDone 0 { okFac with scans := [(3, List.replicate 97 1)] }, .calFactoryDone 0 { okFac with codes := [(1024, [])] },
      .calFactoryDone 0 { okFac with codes := [(3, List.replicate 65 1)] }, .calFactoryDone 0 { okFac with failStep := 1 },
      .calFactoryDone 0 { okFac with failStep := 8 }, .calFactoryDone 0 { okFac with fire := [32768] },
      .calFactoryDone 0 { okFac with fire := List.replicate 17 0 }, .calFactoryDone 0 { okFac with pmon := [2 ^ 32] },
      .calFactoryDone 0 { okFac with senseO := [-2147483649] }, .calFactoryDone 0 { okFac with senseM := [2 ^ 32] }, .calTapReselect 0 badR,
      .calReselectDone 0 [(1024, [])], .calReselectDone 0 [(3, List.replicate 97 1)], .calOffsetMeasure 0 badR, .calTwinSkewMeasure 0 badR,
      .calStatusRead 0 badR] : List Instr).all (fun i => !i.wf) = true := by decide

theorem test_wellFormed_refuses_4 :
    ([.dmaXfer 0 badR, .logControl 0 badR, .memStatusRead 0 badR, .mailboxOverrun 0 (8), .registerWrite 0 (.fabric (2 ^ 32)) 0, .finish 0 (768),
      .cntClr 0 (768), .moderationRelease 0 (16), .dmaGo 0 (8), .haltedClear 0 false (32), .haltedClear 0 false 8, .dmaRecord 0 (32) [],
      .dmaBurstEnd 0 (4) 0 false, .mgmtRequest 0 badF, .mgmtRegisterRead 0 badF, .mgmtRegisterWrite 0 badF, .windowWrite 0 badF, .windowRead 0 badF,
      .receivedFrameDropped 0 badF, .gptpFrame 0 (8) (.pdelayReq 0)] : List Instr).all (fun i => !i.wf) = true := by decide

theorem test_wellFormed_refuses_5 :
    ([.nkSelftest 0 (5, [0, 0, 0, 0]), .nkSelftest 0 (0, [0, 0, 0]), .nkSelftest 0 (0, [0, 0, 0, 1024]), .resetNRelease 0 (4) false false,
      .tempSample 0 [], .voltageSample 0 [], .healthVoltage 0 (12), .voltageFault 0 (12), .ageingMeasure 0 [], .lineStart 0 (16), .setInstant 0 (16),
      .fireEdge 0 (16), .fireWidthEnd 0 (16), .shuntHoldEnd 0 (16), .detectorEvent 0 (1024) 0, .detectorEvent 0 0 (96), .rearm 0 (1024),
      .chStuckHigh 0 (1024), .coincidenceDecision 0 (1024), .tallyService 0 (64)] : List Instr).all (fun i => !i.wf) = true := by decide

theorem test_wellFormed_refuses_6 :
    ([.pointStart 0 (1024), .scoutRunStart 0 (64), .scoutRunEnd 0 (64), .fineReplayDone 0 (64), .pointEnd 0 (1024), .pageClose 0 (1024),
      .extractorService 0 (8), .extractionComplete 0 (8), .stackReadDone 0 (1024), .pageRelease 0 (1024), .bluwardFlush 0 (8) 0,
      .bluwardFlush 0 0 (6), .keyClose 0 (8) 0, .keyClose 0 0 (6), .linkFree 0 (8), .servoSample 0 (4) 0, .polyMark 0 (64), .tpEdge 0 (16) 0 false,
      .tpEdge 0 0 (64) false, .tpHoldoffEnd 0 (16)] : List Instr).all (fun i => !i.wf) = true := by decide

theorem test_wellFormed_refuses_7 :
    ([.tpGateEnd 0 (16), .tpGateResult 0 (16), .decimationBlock 0 (8) 0 0 false [], .settlingEnd 0 (8), .senseLeadDone 0 (8),
      .fireRecord 0 (.altered badS) .lost, .fireRecord 0 .asSent (.altered badS), .integrationDone 0 4 ([], []), .integrationDone 0 0 ([1024], []),
      .integrationDone 0 0 ([], [1024]), .strayPulse 0 (4) 0, .segmentTrigger 0 4 1 ([], []), .segmentTrigger 0 0 8 ([], []),
      .segmentTrigger 0 0 1 ([1024], []), .segmentTrigger 0 0 1 ([], [1024]), .segmentRearm 0 (4), .subBinBoundary 0 (3),
      .enableReadback 0 (256, none), .cdCandidate 0 (1024), .laneSelfCheckDone 0 (10) false] : List Instr).all (fun i => !i.wf) = true := by decide

theorem test_wellFormed_refuses_8 :
    ([.negotiationComplete 0 (10) 0, .negotiationComplete 0 0 (65536), .twinHello 0 (10) hello1, .trainTimeout 0 (10), .laneUp 0 (10),
      .laneDown 0 (10) 0, .laneRetry 0 (10), .twinStatus 0 (16) 0 0 0 0 0, .lineNotice 0 0 (64) 0 0, .lineNotice 0 0 0 (16) 0,
      .ownerFireStamp 0 (16), .trigIoPulse 0 (64, 0), .triggerAction 0 (256), .pmonBaselineFault 0 (4, 0), .pmonBaselineFault 0 (0, 1024),
      .pmonChannelClear 0 (4, 0), .pmonChannelClear 0 (0, 1024), .checkerLock 0 (10), .checkerLockLoss 0 (10) 0, .patrolScrub 0 0 (3)] : List Instr).all (fun i => !i.wf) = true := by decide

theorem test_wellFormed_refuses_9 :
    ([.firmwareTimer 0 (16)] : List Instr).all (fun i => !i.wf) = true := by decide

/-! ### Values the specification works out -/

/-- The state a command answers. -/
def after (i : Instr) (s : State) : State := match exec i s with | .next u => u | _ => s
/-- Bytes of a mailbox's buffer, as numbers. -/
def bytesOf (s : State) (k n : Nat) : List Nat := (cgets 0 (mb s k).buf 0 n).map (·.toNat)

/-- Ch. 14, worked example: the response to the PARAM_SET that raises ROD_01's CFAR factor to 5.0. -/
theorem test_paramSet_response :
    let u := after (.paramSet 0 { mb := 0, tag := 0x31, payload := by_ [3, 4, 1, 0, 1, 0, 0, 0, 0x50, 0, 0, 0, 0, 0, 0, 0] }) sReady
    bytesOf u 0 20 = [2, 0, 0, 0, 0x31, 0, 0, 0, 8, 0, 0, 0, 3, 4, 1, 0, 1, 0, 0, 0] ∧ setVal u u.par.shadow pExtCfarK 1 = 0x50 := by
  decide +kernel

/-- Frame 1,000 runs with a valid one-line image, 1.9 µs before its FBE. -/
def sLate : State := { sReady with
  desk.st := 4, par.inForce.itin := imgOk, par.inForce.itinHas := true, par.inForce.vals := [(pKey pEmitPresent 0, some 255)]
  par.shadow.vals := [(pKey pEmitPresent 0, some 255)], sch.running := true, sch.fbeAt := some (10 * tMs + 1900 * 128), sch.lastTls := 0
  sch.linesRun := 1, dev := 10 * tMs, wall := 10 * tMs, sch.frameNo := CntW.add {} 1000 }

/-- Ch. 14, worked example: the PARAM_SEAL that comes 1.9 µs before the FBE is late for frame 1,001 and first governs frame 1,002. -/
theorem test_paramSeal_late :
    let u := after (.paramSeal 0 { mb := 0, tag := 0x32, payload := zeros 4 }) sLate
    bytesOf u 0 24 = [3, 0, 5, 0, 0x32, 0, 0, 0, 12, 0, 0, 0, 0xEA, 3, 0, 0, 1, 0, 0xFF, 0, 0xFF, 0xFF, 0, 0]
      ∧ u.par.late.map (·.first) = some 1002 ∧ u.par.timely = none := by
  decide +kernel

/-- Ch. 1, fade example: from code 200 to 164 in 4 frames the first step gives 191. -/
theorem test_fade_first_step : (fadeStep { e0 := 200, et := 164, l := 4, j := 0 }).1 = 191 := by decide

/-- Ch. 1, fade example: the fourth step reaches 164 and ends the fade. -/
theorem test_fade_last_step : fadeStep { e0 := 200, et := 164, l := 4, j := 3 } = (164, none) := by decide

/-- Ch. 3, R87 example: 588 events in 29,384 live cycles are 40.02 M events/s. -/
theorem test_ambient_rate : (figures [(588, 29384)]).1 = 40021781 := by decide +kernel

/-- Ch. 3, R87 example: 40,022 K events/s have ambient code 183. -/
theorem test_ambient_code : log12 40022 1 = 183 := by decide +kernel

/-- Ch. 3, R94 example at 40 M events/s: k = 3 is the first depth whose prediction meets 0.125. -/
theorem test_adaptation_depth :
    [(1, 4), (2, 4), (3, 4)].map (fun km => predAtMost 8 8 40000000 8 km 512 1 1) = [false, false, true] := by decide +kernel

/-- Ch. 3, R101 example: node 3, family 0, STRING_3, frame 1,001. -/
theorem test_seed_state : seedX 3 0 3 1001 = 0x303BE9 := by decide

/-- Ch. 4, R127 example: Σ = 614 over 2,048 bins at K = 3.0 and SCOUT_MIN = 2 give T = 2. -/
theorem test_scout_threshold : scoutThreshold 2 0x30 614 2048 = 2 := by decide +kernel

/-- Ch. 4, R127 example: the windows of bins 500, 77 and 1,312. -/
theorem test_scout_windows :
    [500, 77, 1312].map (scoutPlace 8192 8 3 0) = [127872, 19584, 335744] := by decide

/-- Ch. 5, R150 example: 8 shots with 6 counts after 1 give 15.57 counts, below 1/256 of it. -/
theorem test_pileup : pileup 8 6 1 = (3985, false) := by decide +kernel

/-- Ch. 5, R162 example: q = floor(32 log2(5.929)) = 82. -/
theorem test_quality : log32 (99 + 488) 99 = 82 := by decide +kernel

/-- Ch. 6, R194 example: curve[200] = 923 and curve[136] = 163 on the default curve. -/
theorem test_default_curve : curveVal {} 200 = 923 ∧ curveVal {} 136 = 163 := by decide +kernel

/-- Ch. 6, R196 example: the ceiling 409 caps code 200's 923. -/
theorem test_capped_iset : isetOf { sReady with sch.ceil := 409 } 0 200 255 = (409, true) := by decide +kernel

/-- Ch. 7, R224 example: 1,927,779 ns after the crossing the azimuth code is 0x9A39. -/
theorem test_azimuth : azCode 5 0 0 0xCCCCCCCD (1927779 * 2 ^ 32 / 20000000) = 0x9A39 := by decide

/-- Ch. 7, R235 example: five stamps near 20 ms apart. -/
theorem test_gate_regression :
    regress ([512 * 0, 512, 256, 1280, 512].zipIdx.map (fun p => 1000 + p.1 + p.2 * 2560000000)) = (167772171744051, 345) := by decide +kernel

/-- Ch. 8 example: K_FS = 40^4 at R = 40 and D_F = 25 without a FIR. -/
theorem test_full_scale :
    let k := kfs [1, 0, 1, 5, 2, 1, 0, 0, 40, 25, 0, 0, 0, 0, 0, 0] (2 ^ 17)
    k.1 = 2560000 * k.2 := by decide

/-- Ch. 8 example: 800 mΩ at 250 µA and gain code 2 are a lead correction of 1,638 codes. -/
theorem test_lead_correction :
    (leadL 3 { sReady with sns := [(3, { on := true, cfg := [1, 0, 1, 5, 2, 1, 0, 0, 40, 25, 0, 0, 0, 0, 0, 0], g := 2, rl := 800, cur := 250000 })] }).1
      = 1638 := by decide +kernel

/-- Ch. 10 example: raw code 10 between edges 2,553 and 2,944, at the draws where the tick changes. -/
theorem test_fine_code :
    [0, 4, 5, 172, 173, 255].map (fineCode { edges := (List.range 65).map (fun j => if j = 10 then 2553 else if j = 11 then 2944 else 256 * j) } 10)
      = [9, 9, 10, 10, 11, 11] := by decide +kernel

/-- Ch. 11, R553 example: the default of path B's address. -/
theorem test_source_mac : par { sReady with nv.serial := 0x00123456 } pStreamSrcMac 1 = 0x563412_10EC06 := by decide

/-- Ch. 12, R392 example: ten seconds at 106.25 Gbit/s check 16,601,562,500 words. -/
theorem test_words_checked : wordsDue { sReady with dev := 10 * tSec } { rate := 3, locked := true, lockAt := 0 } = 16601562500 := by decide

/-- Ch. 13, R404 example: the owner X with priority 8, health 200, bias 8 and CLAIM_ID 2 sends 0x8D02. -/
theorem test_claim_number :
    claimNumber { sStand with desk.st := 4, pins.lsrA := true, pins.lsrB := true, twn.strap := 2, twn.owner := true, hlt.score := 200 } = 0x8D02 := by
  decide

/-- Ch. 13, R405 example: X's bits dominate, so Y (0x8C83) loses and X does not. -/
theorem test_claim_round : claimCells 0x8D02 0x8D02 16 false false = (false, false) ∧ (claimCells 0x8C83 0x8D02 16 false false).1 = true := by
  decide

/-- Ch. 13, R426 example: a trigger sent at ring time 0x1000_0000 acts at 0x1001_3880. -/
theorem test_trigger_action :
    let s : State := { sReady with dev := 0x10000000 * 64, wall := 0x10000000 * 64 }
    ringNow s + par0 s pRingTrigLatency * 2000 = 0x10013880 := by decide

/-- A queued command runs first: POINT_TOKEN leaves the tokens at their ceiling of 256 (R361). -/
theorem test_step_runs_front : (match step { sReady with pending := [.pointToken 5] } with | .next u => (u.str.tokens, u.pending, u.dev) | _ => (0, [], 0))
    = (256, [], 5) := by decide

/-- R475, R476: a take and its FINISH: FINISH on a source that is not active counts in BAD_FINISHES. -/
theorem test_bad_finish : (after (.finish 5 17) sReady).ic.badFin.val = 1 := by decide

/-- Ch. 8, R248: the built-in set at D_F = 25, from its formula by hand calculation: first and middle coefficients, and its sum of 2^17. -/
theorem test_built_in_fir :
    let h := firBuilt 25
    (h.take 8, h.drop 28, 2 * sumI h) = ([0, 0, 1, 5, 12, 24, 45, 75], [5424, 5616, 5748, 5816], 2 ^ 17) := by decide +kernel

/-- Ch. 14, R431: a write of ATTN_DELAY (0x02C) over SPI: command word first, then the data bytes, least significant first. -/
theorem test_spi_write :
    let msb := fun (k x : Nat) => (List.range k).map (fun i => x.testBit (k - 1 - i))
    (after (.registerWrite 0 (.spi (msb 32 0x02C ++ msb 32 0x05000000)) 0) sReady).desk.attnDelay = 5 := by decide +kernel

/-- Ch. 17, R548: the baseline window is code 32 to code 96. -/
theorem test_baseline_window : [31, 32, 96, 97].map baseIn = [false, true, true, false] := by decide

/-- Ch. 17, R538: VDD_NK's own window is 752 to 848 mV. -/
theorem test_vddNk_window : [751, 752, 848, 849].map nkWindow = [false, true, true, false] := by decide

/-- Ch. 12, R390: PRBS7, x^7 + x^6 + 1, by hand from seven 1 bits: six 0, a 1, a 0. -/
theorem test_prbs7 : (prbsRun 0 8 (List.replicate 7 true)).reverse.drop 7 = [false, false, false, false, false, false, true, false] := by decide

/-- Ch. 12, R393: from offset 0 outward to the last count at or below the threshold: a later low count beyond a higher one does not widen the eye. -/
theorem test_eye_reach :
    eyeReach { lane := 0, kind := 0, mb := 1, tag := 0, thr := 3 } [2, 3, 9, 0] [0, 1, 4, 0] = some (-2, 1) := by decide

end Sys2Proof.Tests
end

section
/-! SUPPORT. The frame of the whole machine: `advance` alone moves elapsed time, and no operation touches the waiting commands or the
serial number. One equation per operation, in the order of the model's files, each from those of the operations it calls. -/

namespace Sys2Proof.Machine

/-- What every operation but `advance` leaves as it was: the waiting commands, elapsed time and the serial number (R8). -/
def standing (s : State) : List Instr × Nat × Nat := (s.pending, s.wall, s.nv.serial)

/-- The state that a command's body leaves, completed or not. -/
def CmdOut.state : CmdOut → State
  | .done _ _ s => s
  | .pending s => s

@[simp] theorem CmdOut.state_done (result payload s) : (CmdOut.done result payload s).state = s := (rfl)
@[simp] theorem CmdOut.state_pending (s) : (CmdOut.pending s).state = s := (rfl)
@[simp] theorem CmdOut.state_ite (c : Prop) [Decidable c] (a b : CmdOut) : (if c then a else b).state = if c then a.state else b.state :=
  apply_ite CmdOut.state c a b

/-! ### Records, branches and loops

The first two are not for `dsimp` (hence the parentheses): the kernel would compare whole states to check such a step. -/

@[simp] theorem standing_mk {wall dev free pins nv desk par ch capture amb tal ext sch srv sns nk cal str tim mot lan twn rng ic dma mem lgb hlt
    rst tap pending} :
    standing ⟨wall, dev, free, pins, nv, desk, par, ch, capture, amb, tal, ext, sch, srv, sns, nk, cal, str, tim, mot, lan, twn, rng, ic, dma, mem,
      lgb, hlt, rst, tap, pending⟩ = (pending, wall, nv.serial) := (rfl)

@[simp] theorem standing_fold (s : State) : (s.pending, s.wall, s.nv.serial) = standing s := (rfl)

/-- A non-volatile memory put back as it was. -/
theorem standing_withNv {u s : State} (h : standing u = standing s) : standing { u with nv := s.nv } = standing s := by
  simp only [standing, Prod.mk.injEq] at h ⊢
  exact ⟨h.1, h.2.1, trivial⟩

@[simp] theorem standing_ite (c : Prop) [Decidable c] (s u : State) : standing (if c then s else u) = if c then standing s else standing u :=
  apply_ite standing c s u

@[simp] theorem standing_snd_ite {α : Type} (c : Prop) [Decidable c] (a b : α × State) :
    standing (if c then a else b).2 = if c then standing a.2 else standing b.2 :=
  apply_ite (fun q => standing q.2) c a b

theorem standing_branches {c : Prop} [Decidable c] {a b : State} {x : List Instr × Nat × Nat} (ha : standing a = x) (hb : standing b = x) :
    standing (if c then a else b) = x := by
  split
  · exact ha
  · exact hb

/-- A loop keeps what each of its turns keeps. -/
theorem foldl_keeps {α β γ : Type} (m : β → γ) {f : β → α → β} (h : ∀ b a, m (f b a) = m b) (l : List α) (b : β) :
    m (l.foldl f b) = m b := by
  induction l generalizing b with
  | nil => rfl
  | cons a l ih => exact (ih _).trans (h b a)

@[simp] theorem standing_foldl {α : Type} {f : State → α → State} (h : ∀ s a, standing (f s a) = standing s) (l : List α) (s : State) :
    standing (l.foldl f s) = standing s :=
  foldl_keeps standing h l s

@[simp] theorem standing_freeBytes (n s) : standing (freeBytes n s).2 = standing s := by
  induction n generalizing s with
  | zero => rfl
  | succ n ih => simp [freeBytes, ih]

/-! ### Ops.lean -/

@[simp] theorem standing_freeVal (n s) : standing (freeVal n s).2 = standing s := by simp [freeVal]
@[simp] theorem standing_setCh (s c v) : standing (setCh s c v) = standing s := by simp [setCh]
@[simp] theorem standing_setMb (s k m) : standing (setMb s k m) = standing s := by simp [setMb]
@[simp] theorem standing_setAmbRod (s r v) : standing (setAmbRod s r v) = standing s := by simp [setAmbRod]
@[simp] theorem standing_setPage (s k v) : standing (setPage s k v) = standing s := by simp [setPage]
@[simp] theorem standing_setTalRod (s r v) : standing (setTalRod s r v) = standing s := by simp [setTalRod]
@[simp] theorem standing_setTalDeck (s d v) : standing (setTalDeck s d v) = standing s := by simp [setTalDeck]
@[simp] theorem standing_setExtDeck (s d v) : standing (setExtDeck s d v) = standing s := by simp [setExtDeck]
@[simp] theorem standing_setStrng (s i v) : standing (setStrng s i v) = standing s := by simp [setStrng]
@[simp] theorem standing_attnUpdate (was safety s) : standing (attnUpdate was safety s) = standing s := by simp [attnUpdate]

@[simp] theorem standing_attnRaise (bits s) : standing (attnRaise bits s) = standing s := by
  unfold attnRaise
  split <;> simp

@[simp] theorem standing_attnSet (bits s) : standing (attnSet bits s) = standing s := by simp [attnSet]
@[simp] theorem standing_pushEv (code data s) : standing (pushEv code data s) = standing s := by simp [pushEv]
@[simp] theorem standing_countEv (code data s) : standing (countEv code data s) = standing s := by simp [countEv]
@[simp] theorem standing_pushLost (s) : standing (pushLost s) = standing s := by simp [pushLost]
@[simp] theorem standing_logNow (code data s) : standing (logNow code data s) = standing s := by simp [logNow]
@[simp] theorem standing_logEv (code data s) : standing (logEv code data s) = standing s := by simp [logEv]
@[simp] theorem standing_wrapEv (old k code data s) : standing (wrapEv old k code data s) = standing s := by simp [wrapEv]
@[simp] theorem standing_setIcSrc (s n v) : standing (setIcSrc s n v) = standing s := by simp [setIcSrc]
@[simp] theorem standing_icLine (s) : standing (icLine s) = standing s := by simp [icLine]
@[simp] theorem standing_icPend (n s) : standing (icPend n s) = standing s := by simp [icPend]
@[simp] theorem standing_icWake (s) : standing (icWake s) = standing s := by simp [icWake]
@[simp] theorem standing_icCount (n s) : standing (icCount n s) = standing s := by simp [icCount]
@[simp] theorem standing_irqNow (n s) : standing (irqNow n s) = standing s := by simp [irqNow]
@[simp] theorem standing_irq (n s) : standing (irq n s) = standing s := by simp [irq]
@[simp] theorem standing_irqLevel (n on s) : standing (irqLevel n on s) = standing s := by simp [irqLevel]
@[simp] theorem standing_irqOpen (n s) : standing (irqOpen n s) = standing s := by simp [irqOpen]

@[simp] theorem standing_mbDone (k op result tag payload s) : standing (mbDone k op result tag payload s) = standing s := by
  unfold mbDone
  dsimp only
  split <;> simp

@[simp] theorem standing_mbOverrun (k inBand s) : standing (mbOverrun k inBand s) = standing s := by simp [mbOverrun]
@[simp] theorem standing_mbRing (k bytes o s) : standing (mbRing k bytes o s) = standing s := by simp [mbRing]

@[simp] theorem standing_refuseBytes (l s) : standing (refuseBytes l s).2 = standing s := by
  induction l generalizing s with
  | nil => rfl
  | cons f l ih => cases f <;> simp [refuseBytes, ih]

@[simp] theorem standing_refuse (result l s) : standing (refuse result l s).state = standing s := by simp [refuse]

@[simp] theorem standing_answerReserved (n s) : standing (answerReserved n s) = standing s := by
  induction n generalizing s with
  | zero => rfl
  | succ n ih =>
    simp only [answerReserved]
    split <;> simp [ih]

/-! ### Stream.lean -/

@[simp] theorem standing_setLane (s l v) : standing (setLane s l v) = standing s := by simp [setLane]
@[simp] theorem standing_setPath (s p v) : standing (setPath s p v) = standing s := by simp [setPath]
@[simp] theorem standing_setSlot (s k v) : standing (setSlot s k v) = standing s := by simp [setSlot]
@[simp] theorem standing_setQueue (s q cls v) : standing (setQueue s q cls v) = standing s := by simp [setQueue]

@[simp] theorem standing_pushLoss (l s) : standing (pushLoss l s) = standing s := by
  unfold pushLoss
  dsimp only
  split
  · simp
  · split
    · simp
    · simp

@[simp] theorem standing_gap (stage cls index start stop items s) : standing (gap stage cls index start stop items s) = standing s := by simp [gap]

@[simp] theorem standing_closeEp (q cls s) : standing (closeEp q cls s) = standing s := by
  unfold closeEp
  dsimp only
  split
  · rfl
  · simp

@[simp] theorem standing_segBack (newest f s) : standing (segBack newest f s) = standing s := by simp [segBack]
@[simp] theorem standing_segOut (f s) : standing (segOut f s) = standing s := by simp [segOut]
@[simp] theorem standing_shedFrame (q f s) : standing (shedFrame q f s) = standing s := by simp [shedFrame]
@[simp] theorem standing_enqueueFrame (q f s) : standing (enqueueFrame q f s) = standing s := by simp [enqueueFrame]

theorem standing_dequeue {q cls s f u} (h : dequeue q cls s = some (f, u)) : standing u = standing s := by
  unfold dequeue at h
  dsimp only at h
  split at h
  · cases h
  · cases h
    simp

@[simp] theorem standing_closeFrame (o s) : standing (closeFrame o s) = standing s := by simp [closeFrame]
@[simp] theorem standing_closeAll (p s) : standing (closeAll p s) = standing s := by simp [closeAll]

@[simp] theorem standing_addOwn (r s) : standing (addOwn r s) = standing s := by
  unfold addOwn
  dsimp only
  split <;> simp

@[simp] theorem standing_lateKey (r s) : standing (lateKey r s) = standing s := by simp [lateKey]

@[simp] theorem standing_addKeyed (r s) : standing (addKeyed r s) = standing s := by
  unfold addKeyed
  dsimp only
  split
  · simp
  · split
    · simp
    · split <;> simp

@[simp] theorem standing_closeCeil (s) : standing (closeCeil s) = standing s := by
  unfold closeCeil
  split <;> simp

@[simp] theorem standing_ceilShed (s) : standing (ceilShed s) = standing s := by simp [ceilShed]
@[simp] theorem standing_addRec (r s) : standing (addRec r s) = standing s := by simp [addRec]
@[simp] theorem standing_formed (r s) : standing (formed r s) = standing s := by simp [formed]
@[simp] theorem standing_accrue (s) : standing (accrue s) = standing s := by simp [accrue]
@[simp] theorem standing_admitRec (r s) : standing (admitRec r s) = standing s := by simp [admitRec]
@[simp] theorem standing_pushRec (r s) : standing (pushRec r s) = standing s := by simp [pushRec]

theorem standing_serveTurn {cls s u} (h : serveTurn cls s = some u) : standing u = standing s := by
  unfold serveTurn at h
  split at h
  · cases h
  · split at h <;> cases h
    simp

@[simp] theorem standing_serveTurns (n s) : standing (serveTurns n s) = standing s := by
  induction n generalizing s with
  | zero => rfl
  | succ n ih =>
    simp only [serveTurns]
    split
    · next h => rw [ih, standing_serveTurn h]
    · split
      · next h => rw [ih, standing_serveTurn h]
      · split
        · next h => rw [ih, standing_serveTurn h]
        · rfl

@[simp] theorem standing_assemble (s) : standing (assemble s) = standing s := by simp [assemble]
@[simp] theorem standing_deckRec (d r s) : standing (deckRec d r s) = standing s := by simp [deckRec]
@[simp] theorem standing_ownRec (typ cls flags body s) : standing (ownRec typ cls flags body s) = standing s := by simp [ownRec]
@[simp] theorem standing_formSegs (s) : standing (formSegs s) = standing s := by simp [formSegs]
@[simp] theorem standing_setDmaS (s n v) : standing (setDmaS s n v) = standing s := by simp [setDmaS]
@[simp] theorem standing_setDmaC (s n v) : standing (setDmaC s n v) = standing s := by simp [setDmaC]
@[simp] theorem standing_setDmaE (s n v) : standing (setDmaE s n v) = standing s := by simp [setDmaE]

@[simp] theorem standing_dmaShedClose (n s) : standing (dmaShedClose n s) = standing s := by
  unfold dmaShedClose
  dsimp only
  split
  · rfl
  · simp

@[simp] theorem standing_dmaUnshed (n s) : standing (dmaUnshed n s) = standing s := by simp [dmaUnshed]
@[simp] theorem standing_dmaShed (n s) : standing (dmaShed n s) = standing s := by simp [dmaShed]
@[simp] theorem standing_spillServe (s) : standing (spillServe s) = standing s := by simp [spillServe]
@[simp] theorem standing_spillSeg (g s) : standing (spillSeg g s) = standing s := by simp [spillSeg]

@[simp] theorem standing_segRefill (s) : standing (segRefill s) = standing s := by
  unfold segRefill
  split <;> simp

@[simp] theorem standing_stackedRecord (e gen frame s) : standing (stackedRecord e gen frame s) = standing s := by simp [stackedRecord]

@[simp] theorem standing_pnCheck (p s) : standing (pnCheck p s) = standing s := by
  unfold pnCheck
  split
  · rfl
  · dsimp only
    refine standing_branches (by simp) ?_
    split <;> simp

@[simp] theorem standing_usePn (p s) : standing (usePn p s) = standing s := by
  unfold usePn
  split <;> simp

@[simp] theorem standing_takeSeq (f s) : standing (takeSeq f s).2 = standing s := by
  unfold takeSeq
  split <;> simp

@[simp] theorem standing_startTx (l q f seq s) : standing (startTx l q f seq s) = standing s := by simp [startTx]

theorem standing_lossFrame {q s f u} (h : lossFrame q s = some (f, u)) : standing u = standing s := by
  unfold lossFrame at h
  split at h <;> cases h
  simp

@[simp] theorem standing_replCopy (p f seq s) : standing (replCopy p f seq s) = standing s := by simp [replCopy]

theorem standing_nextFrame {p s q f u} (h : nextFrame p s = some (q, f, u)) : standing u = standing s := by
  unfold nextFrame at h
  dsimp only at h
  split at h
  · next r hr =>
    cases h
    split at hr
    · exact standing_lossFrame hr
    · cases hr
  · revert h
    refine List.foldlRecOn (motive := fun r : Option (Nat × BFrame × State) => r = some (q, f, u) → standing u = standing s) _ _
      (fun h => nomatch h) ?_
    intro r hr c _ h
    split at h
    · exact hr h
    · split at h
      · obtain ⟨x, hx, he⟩ := Option.map_eq_some_iff.1 h
        cases he
        exact standing_dequeue hx
      · cases h

@[simp] theorem standing_sendNext (p l s) : standing (sendNext p l s) = standing s := by
  unfold sendNext
  split
  · simp
  · split
    · next h => simp [standing_nextFrame h]
    · rfl

@[simp] theorem standing_linkFree (l s) : standing (linkFree l s) = standing s := by
  unfold linkFree
  dsimp only
  split
  · simp
  · split <;> simp

@[simp] theorem standing_timeRecord (s) : standing (timeRecord s) = standing s := by simp [timeRecord]

/-! ### Score.lean -/

@[simp] theorem standing_setDieSensor (s n v) : standing (setDieSensor s n v) = standing s := by simp [setDieSensor]
@[simp] theorem standing_setServo (s n v) : standing (setServo s n v) = standing s := by simp [setServo]
@[simp] theorem standing_setSense (s n v) : standing (setSense s n v) = standing s := by simp [setSense]
@[simp] theorem standing_setPmon (s k v) : standing (setPmon s k v) = standing s := by simp [setPmon]
@[simp] theorem standing_updScore (s) : standing (updScore s) = standing s := by simp [updScore]
@[simp] theorem standing_healthRecord (s) : standing (healthRecord s) = standing s := by simp [healthRecord]

/-! ### Guard.lean -/

@[simp] theorem standing_freeRound (num den s) : standing (freeRound num den s).2 = standing s := by simp [freeRound]
@[simp] theorem standing_updCaps (s) : standing (updCaps s) = standing s := by simp [updCaps]
@[simp] theorem standing_updCharge (s) : standing (updCharge s) = standing s := by simp [updCharge]

@[simp] theorem standing_judgeHost (late first a h s) : standing (judgeHost late first a h s) = standing s := by
  unfold judgeHost
  split <;> split <;> simp

@[simp] theorem standing_judgeSvc (late first v s) : standing (judgeSvc late first v s) = standing s := by simp [judgeSvc]

@[simp] theorem standing_judgeOne (late a s) : standing (judgeOne late a s) = standing s := by
  unfold judgeOne
  split
  · split
    · split <;> simp
    · split
      · simp
      · rfl
  · split
    · split <;> simp
    · split
      · simp
      · rfl

@[simp] theorem standing_judgeSeals (s) : standing (judgeSeals s) = standing s := by
  unfold judgeSeals
  split
  · rfl
  · exact standing_foldl (fun s a => standing_judgeOne _ a s) _ _

@[simp] theorem standing_stopEmission (s) : standing (stopEmission s) = standing s := by simp [stopEmission]
@[simp] theorem standing_dropLsr (s) : standing (dropLsr s) = standing s := by simp [dropLsr]
@[simp] theorem standing_driveCut (s) : standing (driveCut s) = standing s := by simp [driveCut]

@[simp] theorem standing_degClock (s) : standing (degClock s) = standing s := by
  unfold degClock
  split <;> simp

@[simp] theorem standing_nkUpdate (s) : standing (nkUpdate s) = standing s := by simp [nkUpdate]
@[simp] theorem standing_vddNkChange (mv s) : standing (vddNkChange mv s) = standing s := by simp [vddNkChange]
@[simp] theorem standing_setNkCell (s c v) : standing (setNkCell s c v) = standing s := by simp [setNkCell]
@[simp] theorem standing_topCell (s st) : standing (topCell s st).2 = standing s := by simp [topCell]
@[simp] theorem standing_noteFills (st s) : standing (noteFills st s) = standing s := by simp [noteFills]

@[simp] theorem standing_capEval (s) : standing (capEval s) = standing s := by
  unfold capEval
  split <;> simp

@[simp] theorem standing_incident (kind s) : standing (incident kind s) = standing s := by simp [incident]
@[simp] theorem standing_nkFaultEv (bitNo str em val s) : standing (nkFaultEv bitNo str em val s) = standing s := by simp [nkFaultEv]
@[simp] theorem standing_latchFault (bitNo s) : standing (latchFault bitNo s) = standing s := by simp [latchFault]
@[simp] theorem standing_unlatch (bitNo s) : standing (unlatch bitNo s) = standing s := by simp [unlatch]
@[simp] theorem standing_setChgHeld (held s) : standing (setChgHeld held s) = standing s := by simp [setChgHeld]
@[simp] theorem standing_relatch (s) : standing (relatch s) = standing s := by simp [relatch]
@[simp] theorem standing_setSt (new cause s) : standing (setSt new cause s) = standing s := by simp [setSt]
@[simp] theorem standing_dropPend (s) : standing (dropPend s) = standing s := by simp [dropPend]
@[simp] theorem standing_stNow (new cause s) : standing (stNow new cause s) = standing s := by simp [stNow]
@[simp] theorem standing_raiseFault (bitNo str em val s) : standing (raiseFault bitNo str em val s) = standing s := by simp [raiseFault]
@[simp] theorem standing_raiseFree (bitNo str em s) : standing (raiseFree bitNo str em s) = standing s := by simp [raiseFree]
@[simp] theorem standing_clearFault (bitNo s) : standing (clearFault bitNo s) = standing s := by simp [clearFault]
@[simp] theorem standing_levelFault (bitNo on s) : standing (levelFault bitNo on s) = standing s := by simp [levelFault]
@[simp] theorem standing_rejudge (s) : standing (rejudge s) = standing s := by simp [rejudge]

/-! ### NkLedger.lean -/

@[simp] theorem standing_nkMark (stamp s) : standing (nkMark stamp s) = standing s := by
  unfold nkMark
  dsimp only
  split
  · rfl
  · split <;> simp

@[simp] theorem standing_nkCompare (theta s) : standing (nkCompare theta s) = standing s := by simp [nkCompare]

@[simp] theorem standing_stallWindow (s) : standing (stallWindow s) = standing s := by
  unfold stallWindow
  dsimp only
  split
  · rfl
  · split <;> simp

@[simp] theorem standing_exEnergy (st i code s) : standing (exEnergy st i code s).2 = standing s := by simp [exEnergy]
@[simp] theorem standing_ex12 (ex s) : standing (ex12 ex s).2 = standing s := by simp [ex12]
@[simp] theorem standing_accountPulse (st i e stamp amount s) : standing (accountPulse st i e stamp amount s) = standing s := by simp [accountPulse]

@[simp] theorem standing_publishFills (s) : standing (publishFills s) = standing s := by
  unfold publishFills
  dsimp only
  split <;> simp

@[simp] theorem standing_subBinBoundary (w s) : standing (subBinBoundary w s) = standing s := by
  unfold subBinBoundary
  split <;> simp

@[simp] theorem standing_badCell (st s c) : standing (badCell st s c) = standing s := by simp [badCell]

@[simp] theorem standing_ledgerScrub (bad s) : standing (ledgerScrub bad s) = standing s := by
  unfold ledgerScrub
  split
  · rfl
  · simp

@[simp] theorem standing_pmonRaise (k s) : standing (pmonRaise k s) = standing s := by simp [pmonRaise]
@[simp] theorem standing_pmonTry (k s) : standing (pmonTry k s) = standing s := by simp [pmonTry]

/-! ### Servo.lean -/

@[simp] theorem standing_handTarget (n v s) : standing (handTarget n v s) = standing s := by simp [handTarget]
@[simp] theorem standing_handElev (l s) : standing (handElev l s) = standing s := by simp [handElev]
@[simp] theorem standing_polyChange (s) : standing (polyChange s) = standing s := by simp [polyChange]
@[simp] theorem standing_passUsed (facet s) : standing (passUsed facet s) = standing s := by simp [passUsed]
@[simp] theorem standing_giveAngle (a s) : standing (giveAngle a s) = standing s := by simp [giveAngle]
@[simp] theorem standing_settleLate (s) : standing (settleLate s) = standing s := by simp [settleLate]

@[simp] theorem standing_servoMark (n stamp s) : standing (servoMark n stamp s) = standing s := by
  unfold servoMark
  dsimp only
  split <;> simp

@[simp] theorem standing_marksOf (port stamp s) : standing (marksOf port stamp s) = standing s := by simp [marksOf]

@[simp] theorem standing_markMissing (s) : standing (markMissing s) = standing s := by
  unfold markMissing
  dsimp only
  split
  · simp
  · rfl

@[simp] theorem standing_restartMarks (n s) : standing (restartMarks n s) = standing s := by
  unfold restartMarks
  dsimp only
  split <;> split <;> simp

@[simp] theorem standing_takePort (n s) : standing (takePort n s) = standing s := by simp [takePort]

@[simp] theorem standing_speedError (n tm s) : standing (speedError n tm s).2 = standing s := by
  unfold speedError
  split <;> simp

@[simp] theorem standing_servoMeasure (n x v s) : standing (servoMeasure n x v s).2 = standing s := by simp [servoMeasure]
@[simp] theorem standing_servoOutput (n oldMode x v hand s) : standing (servoOutput n oldMode x v hand s) = standing s := by simp [servoOutput]
@[simp] theorem standing_polyLock (s) : standing (polyLock s) = standing s := by simp [polyLock]
@[simp] theorem standing_servoSample (n x s) : standing (servoSample n x s) = standing s := by simp [servoSample]
@[simp] theorem standing_lawWriteBody (n r s) : standing (lawWriteBody n r s).state = standing s := by simp [lawWriteBody]
@[simp] theorem standing_tableWriteBody (n r s) : standing (tableWriteBody n r s).state = standing s := by simp [tableWriteBody]
@[simp] theorem standing_servoStatusBody (n r s) : standing (servoStatusBody n r s).state = standing s := by simp [servoStatusBody]

/-! ### TimePort.lean -/

@[simp] theorem standing_setTport (s p v) : standing (setTport s p v) = standing s := by simp [setTport]
@[simp] theorem standing_tpRestart (p same s) : standing (tpRestart p same s) = standing s := by simp [tpRestart]
@[simp] theorem standing_tpQueue (p stamp rising s) : standing (tpQueue p stamp rising s) = standing s := by simp [tpQueue]
@[simp] theorem standing_portEdge (p raw rising s) : standing (portEdge p raw rising s) = standing s := by simp [portEdge]
@[simp] theorem standing_sourceEdge (k p raw rising s) : standing (sourceEdge k p raw rising s) = standing s := by simp [sourceEdge]
@[simp] theorem standing_polyEdge (raw rising s) : standing (polyEdge raw rising s) = standing s := by simp [polyEdge]
@[simp] theorem standing_tpEdge (p raw rising s) : standing (tpEdge p raw rising s) = standing s := by simp [tpEdge]

@[simp] theorem standing_tpHoldEnd (p s) : standing (tpHoldEnd p s) = standing s := by
  unfold tpHoldEnd
  dsimp only
  split
  · simp
  · rfl

@[simp] theorem standing_tpGateEnd (p s) : standing (tpGateEnd p s) = standing s := by simp [tpGateEnd]

@[simp] theorem standing_tpGateResult (p s) : standing (tpGateResult p s) = standing s := by
  unfold tpGateResult
  dsimp only
  split
  · simp
  · rfl

@[simp] theorem standing_tpReadBody (n r s) : standing (tpReadBody n r s).state = standing s := by simp [tpReadBody]

/-! ### Image.lean -/

@[simp] theorem standing_dirWrite (active trial boots s) : standing (dirWrite active trial boots s) = standing s := by simp [dirWrite]

/-! ### NkPulse.lean -/

@[simp] theorem standing_nkWrap (old k n s) : standing (nkWrap old k n s) = standing s := by simp [nkWrap]
@[simp] theorem standing_account12 (st i e stamp ex s) : standing (account12 st i e stamp ex s) = standing s := by simp [account12]
@[simp] theorem standing_segGate (k g s) : standing (segGate k g s) = standing s := by simp [segGate]
@[simp] theorem standing_openGate (st r ex nthShot s) : standing (openGate st r ex nthShot s) = standing s := by simp [openGate]

@[simp] theorem standing_takeRecord (r s) : standing (takeRecord r s) = standing s := by
  unfold takeRecord
  split <;> simp

@[simp] theorem standing_fireRecord (a b s) : standing (fireRecord a b s) = standing s := by
  unfold fireRecord
  dsimp only
  split
  · rfl
  · split <;> simp

@[simp] theorem standing_judgePulse (st k g em s) : standing (judgePulse st k g em s) = standing s := by simp [judgePulse]
@[simp] theorem standing_segKnown (k gate e s) : standing (segKnown k gate e s) = standing s := by simp [segKnown]

@[simp] theorem standing_integrationDone (k gate outside s) : standing (integrationDone k gate outside s) = standing s := by
  unfold integrationDone
  dsimp only
  split <;> simp

@[simp] theorem standing_strayPulse (k energy s) : standing (strayPulse k energy s) = standing s := by
  unfold strayPulse
  split <;> simp

@[simp] theorem standing_closeSegGap (k trig s) : standing (closeSegGap k trig s) = standing s := by
  unfold closeSegGap
  split <;> simp

@[simp] theorem standing_closeSegGaps (s) : standing (closeSegGaps s) = standing s := by simp [closeSegGaps]

@[simp] theorem standing_segLost (g s) : standing (segLost g s) = standing s := by
  unfold segLost
  dsimp only
  split <;> simp

@[simp] theorem standing_segStore (g s) : standing (segStore g s) = standing s := by simp [segStore]
@[simp] theorem standing_segTrigger (k trig before samples s) : standing (segTrigger k trig before samples s) = standing s := by simp [segTrigger]

@[simp] theorem standing_segRearm (k s) : standing (segRearm k s) = standing s := by
  unfold segRearm
  dsimp only
  split
  · simp
  · rfl

@[simp] theorem standing_baselineFault (k code s) : standing (baselineFault k code s) = standing s := by simp [baselineFault]
@[simp] theorem standing_baselineOk (k code s) : standing (baselineOk k code s) = standing s := by simp [baselineOk]

/-! ### NkEvents.lean -/

@[simp] theorem standing_clockCheck (n s) : standing (clockCheck n s) = standing s := by simp [clockCheck]
@[simp] theorem standing_tAbsent (s) : standing (tAbsent s) = standing s := by simp [tAbsent]
@[simp] theorem standing_headSwitch (high s) : standing (headSwitch high s) = standing s := by simp [headSwitch]
@[simp] theorem standing_hvFbChange (closed s) : standing (hvFbChange closed s) = standing s := by simp [hvFbChange]
@[simp] theorem standing_contactorStuck (s) : standing (contactorStuck s) = standing s := by simp [contactorStuck]
@[simp] theorem standing_hvFbOpen (s) : standing (hvFbOpen s) = standing s := by simp [hvFbOpen]
@[simp] theorem standing_peerCutChange (high s) : standing (peerCutChange high s) = standing s := by simp [peerCutChange]
@[simp] theorem standing_hvCutAssert (s) : standing (hvCutAssert s) = standing s := by simp [hvCutAssert]
@[simp] theorem standing_permissionGrant (s) : standing (permissionGrant s) = standing s := by simp [permissionGrant]
@[simp] theorem standing_enableReadback (pin pad s) : standing (enableReadback pin pad s) = standing s := by simp [enableReadback]
@[simp] theorem standing_nkSelftest (item codes s) : standing (nkSelftest item codes s) = standing s := by simp [nkSelftest]
@[simp] theorem standing_degradedExpire (s) : standing (degradedExpire s) = standing s := by simp [degradedExpire]

@[simp] theorem standing_degradedClear (s) : standing (degradedClear s) = standing s := by
  unfold degradedClear
  split <;> simp

/-! ### NkCommands.lean -/

@[simp] theorem standing_setAllow (p s) : standing (setAllow p s) = standing s := by simp [setAllow]
@[simp] theorem standing_startEmission (s) : standing (startEmission s) = standing s := by simp [startEmission]
@[simp] theorem standing_exitCommissioning (s) : standing (exitCommissioning s) = standing s := by simp [exitCommissioning]
@[simp] theorem standing_commissionBody (n r s) : standing (commissionBody n r s).state = standing s := by simp [commissionBody]
@[simp] theorem standing_setWriteBody (n r s) : standing (setWriteBody n r s).state = standing s := by simp [setWriteBody]

@[simp] theorem standing_confirmBody (n r s) : standing (confirmBody n r s).state = standing s := by
  unfold confirmBody
  split
  · simp
  · split <;> simp

@[simp] theorem standing_setStore (c r s) : standing (setStore c r s) = standing s := by simp [setStore]

@[simp] theorem standing_setConfirmed (s) : standing (setConfirmed s) = standing s := by
  unfold setConfirmed
  split <;> simp

@[simp] theorem standing_confirmTimeout (s) : standing (confirmTimeout s) = standing s := by
  unfold confirmTimeout
  split <;> simp

@[simp] theorem standing_nkStatusBody (n x s) : standing (nkStatusBody n x s).state = standing s := by simp [nkStatusBody]

@[simp] theorem standing_nkLedgerBody (n r s) : standing (nkLedgerBody n r s).state = standing s := by
  unfold nkLedgerBody
  split <;> simp

@[simp] theorem standing_faultClearBody (n x s) : standing (faultClearBody n x s).state = standing s := by simp [faultClearBody]

/-! ### Dma.lean -/

@[simp] theorem standing_memPut (a l s) : standing (memPut a l s) = standing s := by simp [memPut]
@[simp] theorem standing_eccCorrected (n s) : standing (eccCorrected n s) = standing s := by simp [eccCorrected]

@[simp] theorem standing_eccBad (a s) : standing (eccBad a s) = standing s := by
  unfold eccBad
  dsimp only
  split
  · split
    · simp
    · split <;> simp
  · simp

@[simp] theorem standing_logTrim (s) : standing (logTrim s) = standing s := by simp [logTrim]
@[simp] theorem standing_logNew (kind r s) : standing (logNew kind r s) = standing s := by simp [logNew]

@[simp] theorem standing_logAdd (kind at_ bytes s) : standing (logAdd kind at_ bytes s) = standing s := by
  unfold logAdd
  dsimp only
  split <;> simp

@[simp] theorem standing_freezeCapture (withEvents s) : standing (freezeCapture withEvents s) = standing s := by simp [freezeCapture]
@[simp] theorem standing_logFrozen (s) : standing (logFrozen s) = standing s := by simp [logFrozen]
@[simp] theorem standing_dmaErrLine (e s) : standing (dmaErrLine e s) = standing s := by simp [dmaErrLine]
@[simp] theorem standing_dmaHalt (e chan desc reason addr s) : standing (dmaHalt e chan desc reason addr s) = standing s := by simp [dmaHalt]

@[simp] theorem standing_dmaReserve (e s) : standing (dmaReserve e s) = standing s := by
  unfold dmaReserve
  dsimp only
  split
  · rfl
  · simp

@[simp] theorem standing_dmaPick (n e s) : standing (dmaPick n e s) = standing s := by
  induction n generalizing s with
  | zero => rfl
  | succ n ih =>
    simp only [dmaPick]
    split
    · rfl
    · split
      · simp [ih]
      · split
        · rfl
        · simp [ih]

@[simp] theorem standing_streamDone (e n withdrawn recEnd s) : standing (streamDone e n withdrawn recEnd s) = standing s := by simp [streamDone]
@[simp] theorem standing_logMoved (n l s) : standing (logMoved n l s) = standing s := by simp [logMoved]
@[simp] theorem standing_burstNext (e n moved len atEnd s) : standing (burstNext e n moved len atEnd s) = standing s := by simp [burstNext]
@[simp] theorem standing_queueBurst (e n s) : standing (queueBurst e n s) = standing s := by simp [queueBurst]
@[simp] theorem standing_sinkBurst (e n s) : standing (sinkBurst e n s) = standing s := by simp [sinkBurst]
@[simp] theorem standing_streamBurst (e n s) : standing (streamBurst e n s) = standing s := by simp [streamBurst]
@[simp] theorem standing_ctlBurst (e n s) : standing (ctlBurst e n s) = standing s := by simp [ctlBurst]

@[simp] theorem standing_dmaBurstEnd (e corrected bad s) : standing (dmaBurstEnd e corrected bad s) = standing s := by
  unfold dmaBurstEnd
  dsimp only
  split
  · rfl
  · split
    · simp
    · split <;> simp

@[simp] theorem standing_dmaGo (n s) : standing (dmaGo n s) = standing s := by simp [dmaGo]
@[simp] theorem standing_haltedClear (stream n s) : standing (haltedClear stream n s) = standing s := by simp [haltedClear]

theorem standing_logNext {n s b u} (h : logNext n s = some (b, u)) : standing u = standing s := by
  unfold logNext at h
  repeat' split at h
  all_goals cases h <;> simp

@[simp] theorem standing_dmaArrive (n bytes s) : standing (dmaArrive n bytes s) = standing s := by simp [dmaArrive]
@[simp] theorem standing_sinkTakes (n k s) : standing (sinkTakes n k s) = standing s := by simp [sinkTakes]

@[simp] theorem standing_dmaRecord (n bytes s) : standing (dmaRecord n bytes s) = standing s := by
  unfold dmaRecord
  split
  · rfl
  · split
    · simp
    · split
      · simp
      · split
        · next h => simp [standing_logNext h]
        · rfl

@[simp] theorem standing_dmaXferBody (n r s) : standing (dmaXferBody n r s).state = standing s := by simp [dmaXferBody]
@[simp] theorem standing_slotPut (o l s) : standing (slotPut o l s) = standing s := by simp [slotPut]

@[simp] theorem standing_dmaXferDone (s) : standing (dmaXferDone s) = standing s := by
  unfold dmaXferDone
  split <;> simp

@[simp] theorem standing_logAnswer (result s) : standing (logAnswer result s).state = standing s := by simp [logAnswer]
@[simp] theorem standing_logControlBody (n r s) : standing (logControlBody n r s).state = standing s := by simp [logControlBody]
@[simp] theorem standing_memStatusBody (n r s) : standing (memStatusBody n r s).state = standing s := by simp [memStatusBody]

/-! ### TimeMotion.lean -/

@[simp] theorem standing_timeSync (s) : standing (timeSync s) = standing s := by simp [timeSync]
@[simp] theorem standing_timeState (n s) : standing (timeState n s) = standing s := by simp [timeState]
@[simp] theorem standing_timeFree (s) : standing (timeFree s) = standing s := by simp [timeFree]
@[simp] theorem standing_timeHoldover (s) : standing (timeHoldover s) = standing s := by simp [timeHoldover]
@[simp] theorem standing_rhoOf (d0 p0 d1 p1 s) : standing (rhoOf d0 p0 d1 p1 s).2 = standing s := by simp [rhoOf]

@[simp] theorem standing_timeCorrect (rx originNs corr s) : standing (timeCorrect rx originNs corr s) = standing s := by
  unfold timeCorrect
  split
  · rfl
  · split <;> simp

@[simp] theorem standing_timeAnnounce (a s) : standing (timeAnnounce a s) = standing s := by simp [timeAnnounce]

@[simp] theorem standing_gptpFrame (l m s) : standing (gptpFrame l m s) = standing s := by
  unfold gptpFrame
  split
  · rfl
  · cases m
    case followUp => dsimp only; split <;> simp
    case pdelayResp => dsimp only; split <;> simp
    case pdelayRespFollowUp => dsimp only; split <;> simp
    all_goals simp

@[simp] theorem standing_timeLink (s) : standing (timeLink s) = standing s := by simp [timeLink]
@[simp] theorem standing_syncTimeout (s) : standing (syncTimeout s) = standing s := by simp [syncTimeout]
@[simp] theorem standing_peerDelayRequest (s) : standing (peerDelayRequest s) = standing s := by simp [peerDelayRequest]
@[simp] theorem standing_holdoverExpiry (s) : standing (holdoverExpiry s) = standing s := by simp [holdoverExpiry]
@[simp] theorem standing_trapezoid (ta tb f wa wb s) : standing (trapezoid ta tb f wa wb s).2 = standing s := by simp [trapezoid]

@[simp] theorem standing_trap3 (ta tb f x y z s) : standing (trap3 ta tb f x y z s).2 = standing s := by
  fun_induction trap3 ta tb f x y z s with
  | case1 _ _ _ _ _ _ _ _ _ ih => exact ih.trans (standing_trapezoid ..)
  | case2 => rfl

@[simp] theorem standing_motionFrames (o m l s) : standing (motionFrames o m l s).2 = standing s := by
  induction l generalizing s with
  | nil => rfl
  | cons g l ih => simp [motionFrames, ih]

@[simp] theorem standing_motionSample (m s) : standing (motionSample m s) = standing s := by
  unfold motionSample
  split
  · simp
  · split <;> simp

@[simp] theorem standing_motionFrameStart (s) : standing (motionFrameStart s) = standing s := by simp [motionFrameStart]

@[simp] theorem standing_axes3 (g tick x y s) : standing (axes3 g tick x y s).2 = standing s := by
  fun_induction axes3 g tick x y s with
  | case1 _ _ _ _ _ _ _ ih => exact ih.trans (standing_freeRound ..)
  | case2 => rfl

@[simp] theorem standing_motionRecord (line tls s) : standing (motionRecord line tls s) = standing s := by simp [motionRecord]
@[simp] theorem standing_motionStale (s) : standing (motionStale s) = standing s := by simp [motionStale]
@[simp] theorem standing_motionFeedBody (n r s) : standing (motionFeedBody n r s).state = standing s := by simp [motionFeedBody]

/-! ### TwinOps.lean -/

@[simp] theorem standing_pushLineKey (l moved s) : standing (pushLineKey l moved s) = standing s := by simp [pushLineKey]
@[simp] theorem standing_seedSourceEv (first s) : standing (seedSourceEv first s) = standing s := by simp [seedSourceEv]

@[simp] theorem standing_adoptCopy (b s) : standing (adoptCopy b s) = standing s := by
  simp [adoptCopy]

@[simp] theorem standing_staleEv (on reason s) : standing (staleEv on reason s) = standing s := by simp [staleEv]

@[simp] theorem standing_copyAtLineStart (s) : standing (copyAtLineStart s).2 = standing s := by
  unfold copyAtLineStart
  dsimp only
  split
  · split <;> simp [copyAtLineStart.bad]
  · simp [copyAtLineStart.bad]

@[simp] theorem standing_takeCopy (b s) : standing (takeCopy b s) = standing s := by simp [takeCopy]

/-! ### Shots.lean -/

@[simp] theorem standing_shedLine (line r s) : standing (shedLine line r s) = standing s := by simp [shedLine]

@[simp] theorem standing_lineEndWork (s) : standing (lineEndWork s) = standing s := by
  unfold lineEndWork
  split
  · rfl
  · simp only [standing_ite, standing_mk, standing_fold, ite_self, standing_foldl, standing_shedLine, standing_handElev, implies_true]

@[simp] theorem standing_lineEnd (s) : standing (lineEnd s) = standing s := by
  unfold lineEnd
  split <;> simp

@[simp] theorem standing_overrunLine (l s) : standing (overrunLine l s) = standing s := by simp [overrunLine]
@[simp] theorem standing_fixFbe (l close s) : standing (fixFbe l close s) = standing s := by simp [fixFbe]
@[simp] theorem standing_fixIfLast (l s) : standing (fixIfLast l s) = standing s := by simp [fixIfLast]
@[simp] theorem standing_lineRecords (l s) : standing (lineRecords l s) = standing s := by simp [lineRecords]
@[simp] theorem standing_beginLine (facet moved s) : standing (beginLine facet moved s) = standing s := by simp [beginLine]
@[simp] theorem standing_facetWait (s) : standing (facetWait s) = standing s := by simp [facetWait]
@[simp] theorem standing_turnPass (s) : standing (turnPass s) = standing s := by simp [turnPass]
@[simp] theorem standing_rehandElev (s) : standing (rehandElev s) = standing s := by simp [rehandElev]
@[simp] theorem standing_lastOverrun (l s) : standing (lastOverrun l s) = standing s := by simp [lastOverrun]
@[simp] theorem standing_lineOverrun (l s) : standing (lineOverrun l s) = standing s := by simp [lineOverrun]

theorem standing_lineEvent_start {facet c s u} (hs : standing s = standing u) (hc : standing c.2 = standing u) :
    standing (lineEvent.start facet c s) = standing u := by
  simp [lineEvent.start, hs, hc]

@[simp] theorem standing_lineEvent (facet s) : standing (lineEvent facet s) = standing s := by
  unfold lineEvent
  dsimp only
  refine standing_branches (by simp) ?_
  split
  · refine standing_branches (by simp) ?_
    refine standing_branches (by simp) ?_
    exact standing_lineEvent_start (by simp) (by simp)
  · refine standing_branches (by simp) ?_
    exact standing_lineEvent_start (by simp) (by simp)

@[simp] theorem standing_sendNotice (facet s) : standing (sendNotice facet s) = standing s := by simp [sendNotice]
@[simp] theorem standing_lineStart (facet s) : standing (lineStart facet s) = standing s := by simp [lineStart]
@[simp] theorem standing_placeShot (i q em code edge0 sh s) : standing (placeShot i q em code edge0 sh s) = standing s := by simp [placeShot]

@[simp] theorem standing_setInstant (i s) : standing (setInstant i s) = standing s := by
  unfold setInstant
  split
  · rfl
  · extract_lets
    refine standing_branches rfl ?_
    split <;> (simp; rfl)

@[simp] theorem standing_countShot (sh c s) : standing (countShot sh c s) = standing s := by
  unfold countShot
  dsimp only
  split
  · rfl
  · split <;> simp

@[simp] theorem standing_sendRecord (i p s) : standing (sendRecord i p s) = standing s := by simp [sendRecord]

@[simp] theorem standing_addShot (i p s) : standing (addShot i p s) = standing s := by
  unfold addShot
  split
  · rfl
  · dsimp only
    split
    · rfl
    · simp

@[simp] theorem standing_gapShortEv (s) : standing (gapShortEv s) = standing s := by simp [gapShortEv]

@[simp] theorem standing_fireEdge (i s) : standing (fireEdge i s) = standing s := by
  unfold fireEdge
  split <;> simp

@[simp] theorem standing_fireWidthEnd (i s) : standing (fireWidthEnd i s) = standing s := by simp [fireWidthEnd]
@[simp] theorem standing_shuntHoldEnd (i s) : standing (shuntHoldEnd i s) = standing s := by simp [shuntHoldEnd]

/-! ### Channels.lean -/

@[simp] theorem standing_chmapWriteBody (n r s) : standing (chmapWriteBody n r s).state = standing s := by
  unfold chmapWriteBody
  dsimp only
  split
  · simp
  · split
    · simp
    · split <;> simp

@[simp] theorem standing_chmapReadBody (n r s) : standing (chmapReadBody n r s).state = standing s := by simp [chmapReadBody]
@[simp] theorem standing_chCountersBody (n r s) : standing (chCountersBody n r s).state = standing s := by simp [chCountersBody]
@[simp] theorem standing_chCaptureBody (n r s) : standing (chCaptureBody n r s).state = standing s := by simp [chCaptureBody]

@[simp] theorem standing_captureEnd (s) : standing (captureEnd s) = standing s := by
  unfold captureEnd
  split <;> simp

@[simp] theorem standing_setCalCh (s c v) : standing (setCalCh s c v) = standing s := by simp [setCalCh]
@[simp] theorem standing_cdCount (c j s) : standing (cdCount c j s) = standing s := by simp [cdCount]

@[simp] theorem standing_windowTest (c j stamp s) : standing (windowTest c j stamp s) = standing s := by
  unfold windowTest
  split
  · split <;> split <;> simp
  · split <;> simp

@[simp] theorem standing_capture (c stamp s) : standing (capture c stamp s) = standing s := by
  unfold capture
  split <;> simp

@[simp] theorem standing_detectorEvent (c passed s) : standing (detectorEvent c passed s) = standing s := by simp [detectorEvent]
@[simp] theorem standing_rearm (c s) : standing (rearm c s) = standing s := by simp [rearm]
@[simp] theorem standing_stuckHigh (c s) : standing (stuckHigh c s) = standing s := by simp [stuckHigh]
@[simp] theorem standing_shedSat (c s) : standing (shedSat c s) = standing s := by simp [shedSat]

@[simp] theorem standing_shed (c te s) : standing (shed c te s) = standing s := by
  unfold shed
  dsimp only
  split
  · simp
  · split
    · split <;> simp
    · simp

@[simp] theorem standing_enqueue (c te s) : standing (enqueue c te s) = standing s := by simp [enqueue]

@[simp] theorem standing_coincidence (c s) : standing (coincidence c s) = standing s := by
  unfold coincidence
  dsimp only
  split
  · rfl
  · simp

/-! ### Ambient.lean -/

@[simp] theorem standing_publishRod (first own deck r s) : standing (publishRod first own deck r s) = standing s := by simp [publishRod]

@[simp] theorem standing_publish (s) : standing (publish s) = standing s := by
  unfold publish
  split
  · rfl
  · simp only [standing_mk, standing_fold, standing_foldl, standing_ite, standing_setCh, standing_publishRod, ite_self, implies_true]

@[simp] theorem standing_ambientPublish (s) : standing (ambientPublish s) = standing s := by
  unfold ambientPublish
  split <;> simp

@[simp] theorem standing_intervalStart (s) : standing (intervalStart s) = standing s := by
  unfold intervalStart
  split
  · rfl
  · split
    · rfl
    · refine standing_branches rfl ?_
      dsimp only
      rw [standing_mk, standing_fold]
      split <;> simp only [standing_foldl, standing_ite, standing_setAmbRod, standing_setCh, standing_publish, ite_self, implies_true]

@[simp] theorem standing_svcSeal (v s) : standing (svcSeal v s) = standing s := by simp [svcSeal]

@[simp] theorem standing_adaptRod (o f r q) : standing (adaptRod o f r q).2 = standing q.2 := by
  unfold adaptRod
  dsimp only
  split
  · rfl
  · split <;> simp

@[simp] theorem standing_adaptEval (o f q) : standing (adaptEval o f q).2 = standing q.2 := by
  unfold adaptEval
  split
  · rfl
  · exact foldl_keeps (fun q => standing q.2) (fun q r => standing_adaptRod o f r q) _ _

@[simp] theorem standing_strangerEval (fl f q) : standing (strangerEval fl f q).2 = standing q.2 := by simp [strangerEval]
@[simp] theorem standing_deriveSeeds (f s) : standing (deriveSeeds f s) = standing s := by simp [deriveSeeds]
@[simp] theorem standing_ambientReadBody (n r s) : standing (ambientReadBody n r s).state = standing s := by simp [ambientReadBody]
@[simp] theorem standing_passportReadBody (n r s) : standing (passportReadBody n r s).state = standing s := by simp [passportReadBody]

/-! ### TallyEng.lean -/

@[simp] theorem standing_markSat (k s) : standing (markSat k s) = standing s := by simp [markSat]
@[simp] theorem standing_coarsePart (k delta s) : standing (coarsePart k delta s) = standing s := by simp [coarsePart]

@[simp] theorem standing_finePart (k delta s) : standing (finePart k delta s) = standing s := by
  unfold finePart
  dsimp only
  split
  · rfl
  · simp

@[simp] theorem standing_increment (c sh te s) : standing (increment c sh te s) = standing s := by
  unfold increment
  dsimp only
  split
  · simp
  · split <;> simp

@[simp] theorem standing_tallyService (rod s) : standing (tallyService rod s) = standing s := by
  unfold tallyService
  dsimp only
  refine standing_branches rfl ?_
  split
  · rfl
  · split
    · rfl
    · exact standing_branches (by simp) (by simp)

@[simp] theorem standing_firstShot (k merged sh s) : standing (firstShot k merged sh s) = standing s := by simp [firstShot]
@[simp] theorem standing_dropLog (c cause f s) : standing (dropLog c cause f s) = standing s := by simp [dropLog]

@[simp] theorem standing_pointStart (c s) : standing (pointStart c s) = standing s := by
  unfold pointStart
  dsimp only
  split
  · rfl
  · refine standing_branches rfl ?_
    split
    · simp
    · split <;> simp

@[simp] theorem standing_stackRefuse (deck cls s) : standing (stackRefuse deck cls s) = standing s := by simp [stackRefuse]
@[simp] theorem standing_stackAdmit (k s) : standing (stackAdmit k s) = standing s := by simp [stackAdmit]
@[simp] theorem standing_closePage (k s) : standing (closePage k s) = standing s := by simp [closePage]
@[simp] theorem standing_endPage (k s) : standing (endPage k s) = standing s := by simp [endPage]
@[simp] theorem standing_planMark (c s p) : standing (planMark c s p) = standing s := by simp [planMark]

@[simp] theorem standing_pointEnd (c s) : standing (pointEnd c s) = standing s := by
  unfold pointEnd
  split
  · rfl
  · split <;> simp

@[simp] theorem standing_pageClose (c s) : standing (pageClose c s) = standing s := by
  unfold pageClose
  split <;> simp

@[simp] theorem standing_scoutStart (rod s) : standing (scoutStart rod s) = standing s := by
  unfold scoutStart
  dsimp only
  split
  · simp
  · rfl

@[simp] theorem standing_scoutEnd (rod s) : standing (scoutEnd rod s) = standing s := by
  unfold scoutEnd
  dsimp only
  split
  · rfl
  · simp

@[simp] theorem standing_fineReplay (rod s) : standing (fineReplay rod s) = standing s := by simp [fineReplay]
@[simp] theorem standing_freePage (k s) : standing (freePage k s) = standing s := by simp [freePage]

@[simp] theorem standing_pageRelease (c s) : standing (pageRelease c s) = standing s := by
  unfold pageRelease
  split <;> simp

@[simp] theorem standing_stackRestart (deck reason n first s) : standing (stackRestart deck reason n first s) = standing s := by simp [stackRestart]

@[simp] theorem standing_stackRead (c s) : standing (stackRead c s) = standing s := by
  unfold stackRead
  split <;> simp

@[simp] theorem standing_tallyCountersBody (n r s) : standing (tallyCountersBody n r s).state = standing s := by simp [tallyCountersBody]
@[simp] theorem standing_stackStatusBody (n r s) : standing (stackStatusBody n r s).state = standing s := by simp [stackStatusBody]

/-! ### Extract.lean -/

@[simp] theorem standing_extractorService (dk s) : standing (extractorService dk s) = standing s := by
  unfold extractorService
  dsimp only
  split
  · rfl
  · split
    · rfl
    · split <;> simp

@[simp] theorem standing_planCount (v s) : standing (planCount v s) = standing s := by simp [planCount]

@[simp] theorem standing_offsetCount (v s) : standing (offsetCount v s) = standing s := by
  unfold offsetCount
  split <;> simp

@[simp] theorem standing_offsetFrame (frame trunc s) : standing (offsetFrame frame trunc s) = standing s := by
  unfold offsetFrame
  split <;> simp

@[simp] theorem standing_extractionComplete (dk s) : standing (extractionComplete dk s) = standing s := by
  unfold extractionComplete
  dsimp only
  split
  · rfl
  · simp

@[simp] theorem standing_templateWriteBody (n r s) : standing (templateWriteBody n r s).state = standing s := by simp [templateWriteBody]
@[simp] theorem standing_extCountersBody (n r s) : standing (extCountersBody n r s).state = standing s := by simp [extCountersBody]

/-! ### Emission.lean -/

@[simp] theorem standing_itinWriteBody (n r s) : standing (itinWriteBody n r s).state = standing s := by simp [itinWriteBody]
@[simp] theorem standing_itinReadBody (n r s) : standing (itinReadBody n r s).state = standing s := by simp [itinReadBody]
@[simp] theorem standing_itinValidateBody (n r s) : standing (itinValidateBody n r s).state = standing s := by simp [itinValidateBody]
@[simp] theorem standing_curveWriteBody (n r s) : standing (curveWriteBody n r s).state = standing s := by simp [curveWriteBody]
@[simp] theorem standing_planRoiBody (n r s) : standing (planRoiBody n r s).state = standing s := by simp [planRoiBody]
@[simp] theorem standing_emitCountersBody (n r s) : standing (emitCountersBody n r s).state = standing s := by simp [emitCountersBody]

/-! ### Calib.lean -/

@[simp] theorem standing_cdCandidate (c s) : standing (cdCandidate c s) = standing s := by simp [cdCandidate]
@[simp] theorem standing_noteChanged (o s) : standing (noteChanged o s) = standing s := by simp [noteChanged]
@[simp] theorem standing_blendAll (s) : standing (blendAll s) = standing s := by simp [blendAll]
@[simp] theorem standing_cdBlendStep (s) : standing (cdBlendStep s) = standing s := by simp [cdBlendStep]
@[simp] theorem standing_calStore (b s) : standing (calStore b s) = standing s := by simp [calStore]
@[simp] theorem standing_calSave (s) : standing (calSave s) = standing s := by simp [calSave]
@[simp] theorem standing_takeTaps (c ns codes s) : standing (takeTaps c ns codes s) = standing s := by simp [takeTaps]
@[simp] theorem standing_reselectBody (n r s) : standing (reselectBody n r s).state = standing s := by simp [reselectBody]

@[simp] theorem standing_reselectDone (scans s) : standing (reselectDone scans s) = standing s := by
  unfold reselectDone
  split
  · rfl
  · split
    · rfl
    · simp

@[simp] theorem standing_factoryRunBody (n x s) : standing (factoryRunBody n x s).state = standing s := by simp [factoryRunBody]
@[simp] theorem standing_factoryDone (f s) : standing (factoryDone f s) = standing s := by simp [factoryDone]
@[simp] theorem standing_offsetMeasureBody (n r s) : standing (offsetMeasureBody n r s).state = standing s := by simp [offsetMeasureBody]
@[simp] theorem standing_skewMeasureBody (n r s) : standing (skewMeasureBody n r s).state = standing s := by simp [skewMeasureBody]

@[simp] theorem standing_skewCount (seen own s) : standing (skewCount seen own s) = standing s := by
  unfold skewCount
  split <;> simp

@[simp] theorem standing_storeFile (store offs skew s) : standing (storeFile store offs skew s) = standing s := by simp [storeFile]
@[simp] theorem standing_measureEv (kind upd short skew s) : standing (measureEv kind upd short skew s) = standing s := by simp [measureEv]
@[simp] theorem standing_offsetsDone (m s) : standing (offsetsDone m s) = standing s := by simp [offsetsDone]
@[simp] theorem standing_skewDone (m s) : standing (skewDone m s) = standing s := by simp [skewDone]

@[simp] theorem standing_measureDone (s) : standing (measureDone s) = standing s := by
  unfold measureDone
  split <;> simp

@[simp] theorem standing_calStatusBody (n r s) : standing (calStatusBody n r s).state = standing s := by simp [calStatusBody]

/-! ### Commit.lean -/

@[simp] theorem standing_startFades (mask s) : standing (startFades mask s) = standing s := by simp [startFades]

@[simp] theorem standing_stepFades (first s) : standing (stepFades first s) = standing s := by
  unfold stepFades
  refine standing_foldl (fun s i => ?_) _ _
  dsimp only
  split <;> simp

@[simp] theorem standing_dropStack (reason first p s) : standing (dropStack reason first p s) = standing s := by simp [dropStack]
@[simp] theorem standing_commitStack (first s) : standing (commitStack first s) = standing s := by simp [commitStack]
@[simp] theorem standing_staleHeld (s) : standing (staleHeld s) = standing s := by simp [staleHeld]
@[simp] theorem standing_staleQueued (s) : standing (staleQueued s) = standing s := by simp [staleQueued]
@[simp] theorem standing_staleFrames (s) : standing (staleFrames s) = standing s := by simp [staleFrames]

@[simp] theorem standing_depthClamped (s) : standing (depthClamped s) = standing s := by
  unfold depthClamped
  dsimp only
  split
  · rfl
  · exact standing_logEv _ _ _

@[simp] theorem standing_swapImage (planner first s) : standing (swapImage planner first s) = standing s := by simp [swapImage]
@[simp] theorem standing_watchNew (s) : standing (watchNew s) = standing s := by simp [watchNew]
@[simp] theorem standing_staleWork (s) : standing (staleWork s) = standing s := by simp [staleWork]
@[simp] theorem standing_putSet (host svc s) : standing (putSet host svc s) = standing s := by simp [putSet]

@[simp] theorem standing_commitSets (first host svc s) : standing (commitSets first host svc s) = standing s := by
  unfold commitSets
  split
  · simp
  · split <;> simp

@[simp] theorem standing_handLine0 (s) : standing (handLine0 s) = standing s := by simp [handLine0]
@[simp] theorem standing_idleCommit (host s) : standing (idleCommit host s) = standing s := by simp [idleCommit]

/-! ### Plan.lean -/

@[simp] theorem standing_planEval (o f q) : standing (planEval o f q).2 = standing q.2 := by
  simp [planEval]

/-! ### Frame.lean -/

@[simp] theorem standing_chanFrame (f s) : standing (chanFrame f s) = standing s := by
  unfold chanFrame
  simp only [standing_mk, standing_fold, standing_foldl, standing_setCh, standing_logEv, implies_true]
  split <;> split <;> simp only [standing_logEv]

@[simp] theorem standing_ambFrame (s) : standing (ambFrame s) = standing s := by simp [ambFrame]
@[simp] theorem standing_stackGap (f d cls n first s) : standing (stackGap f d cls n first s) = standing s := by simp [stackGap]
@[simp] theorem standing_tallyFrame (f s) : standing (tallyFrame f s) = standing s := by simp [tallyFrame]
@[simp] theorem standing_allowFrame (trunc n s) : standing (allowFrame trunc n s) = standing s := by simp [allowFrame]
@[simp] theorem standing_extFrame (s) : standing (extFrame s) = standing s := by simp [extFrame]
@[simp] theorem standing_closeEps (s) : standing (closeEps s) = standing s := by simp [closeEps]

@[simp] theorem standing_closeLate (f s) : standing (closeLate f s) = standing s := by
  unfold closeLate
  split <;> simp

@[simp] theorem standing_shedRecord (f q s) : standing (shedRecord f q s) = standing s := by simp [shedRecord]
@[simp] theorem standing_streamFrame (f s) : standing (streamFrame f s) = standing s := by simp [streamFrame]
@[simp] theorem standing_applyThrottle (s) : standing (applyThrottle s) = standing s := by simp [applyThrottle]
@[simp] theorem standing_fbeState (s) : standing (fbeState s) = standing s := by simp [fbeState]

@[simp] theorem standing_calFrame (s) : standing (calFrame s) = standing s := by
  unfold calFrame
  dsimp only
  split <;> simp

@[simp] theorem standing_fbeReport (f n trunc s) : standing (fbeReport f n trunc s) = standing s := by simp [fbeReport]
@[simp] theorem standing_fbeAdvance (f n s) : standing (fbeAdvance f n s) = standing s := by simp [fbeAdvance]
@[simp] theorem standing_fbeCommit (f1 s) : standing (fbeCommit f1 s) = standing s := by simp [fbeCommit]
@[simp] theorem standing_services (o fl f s) : standing (services o fl f s) = standing s := by simp [services]
@[simp] theorem standing_handFrame (trunc s) : standing (handFrame trunc s) = standing s := by simp [handFrame]

@[simp] theorem standing_frameBoundary (s) : standing (frameBoundary s) = standing s := by
  unfold frameBoundary
  split <;> simp

@[simp] theorem standing_frameEnd (s) : standing (frameEnd s) = standing s := by
  unfold frameEnd
  split <;> simp

@[simp] theorem standing_deadlinePass (s) : standing (deadlinePass s) = standing s := by
  unfold deadlinePass
  split <;> simp

/-! ### Health.lean -/

@[simp] theorem standing_setTarget (n s) : standing (setTarget n s) = standing s := by simp [setTarget]
@[simp] theorem standing_hostStep (s) : standing (hostStep s) = standing s := by simp [hostStep]
@[simp] theorem standing_criticalCheck (m s) : standing (criticalCheck m s) = standing s := by simp [criticalCheck]
@[simp] theorem standing_throttleSample (m s) : standing (throttleSample m s) = standing s := by simp [throttleSample]

@[simp] theorem standing_throttleEval (s) : standing (throttleEval s) = standing s := by
  unfold throttleEval
  split <;> simp

@[simp] theorem standing_throttleTimer (s) : standing (throttleTimer s) = standing s := by
  unfold throttleTimer
  split
  · rfl
  · split
    · simp
    · simp
    · rfl

@[simp] theorem standing_sampleSensor (held n r s) : standing (sampleSensor held n r s) = standing s := by simp [sampleSensor]
@[simp] theorem standing_substitutes (s) : standing (substitutes s) = standing s := by simp [substitutes]
@[simp] theorem standing_writeInterlock (s) : standing (writeInterlock s) = standing s := by simp [writeInterlock]
@[simp] theorem standing_tempSample (rs s) : standing (tempSample rs s) = standing s := by simp [tempSample]
@[simp] theorem standing_sampleRail (i mv s) : standing (sampleRail i mv s) = standing s := by simp [sampleRail]

@[simp] theorem standing_voltageSample (mvs s) : standing (voltageSample mvs s) = standing s := by
  unfold voltageSample
  dsimp only
  split
  · rfl
  · split
    · simp
    · simp

@[simp] theorem standing_railWarning (i s) : standing (railWarning i s) = standing s := by
  unfold railWarning
  dsimp only
  split
  · simp
  · rfl

@[simp] theorem standing_ageRatio (i count s) : standing (ageRatio i count s).2 = standing s := by simp [ageRatio]
@[simp] theorem standing_ageing (cs s) : standing (ageing cs s) = standing s := by simp [ageing]
@[simp] theorem standing_healthReadBody (n r s) : standing (healthReadBody n r s).state = standing s := by simp [healthReadBody]
@[simp] theorem standing_sensorRetireBody (n r s) : standing (sensorRetireBody n r s).state = standing s := by simp [sensorRetireBody]

/-! ### Lanes.lean -/

@[simp] theorem standing_laneFec (l code s) : standing (laneFec l code s).2 = standing s := by
  unfold laneFec
  repeat' split
  all_goals simp

@[simp] theorem standing_laneWords (l s) : standing (laneWords l s) = standing s := by simp [laneWords]
@[simp] theorem standing_laneErrors (l lo hi s) : standing (laneErrors l lo hi s) = standing s := by simp [laneErrors]
@[simp] theorem standing_laneSettle (l s) : standing (laneSettle l s) = standing s := by simp [laneSettle]
@[simp] theorem standing_laneInject (l s) : standing (laneInject l s) = standing s := by simp [laneInject]
@[simp] theorem standing_updCapacity (s) : standing (updCapacity s) = standing s := by simp [updCapacity]

@[simp] theorem standing_laneDownEv (l reason s) : standing (laneDownEv l reason s) = standing s := by
  unfold laneDownEv
  split <;> simp

@[simp] theorem standing_laneTo (l reason f s) : standing (laneTo l reason f s) = standing s := by simp [laneTo]
@[simp] theorem standing_laneTrain (l code reason s) : standing (laneTrain l code reason s) = standing s := by simp [laneTrain]
@[simp] theorem standing_laneNegotiate (l reason s) : standing (laneNegotiate l reason s) = standing s := by simp [laneNegotiate]
@[simp] theorem standing_laneRestart (l s) : standing (laneRestart l s) = standing s := by simp [laneRestart]
@[simp] theorem standing_laneSelfCheck (l s) : standing (laneSelfCheck l s) = standing s := by simp [laneSelfCheck]
@[simp] theorem standing_lanesStart (s) : standing (lanesStart s) = standing s := by simp [lanesStart]
@[simp] theorem standing_laneWait (l reason s) : standing (laneWait l reason s) = standing s := by simp [laneWait]
@[simp] theorem standing_selfCheckDone (l passed s) : standing (selfCheckDone l passed s) = standing s := by simp [selfCheckDone]

@[simp] theorem standing_negotiated (l partner s) : standing (negotiated l partner s) = standing s := by
  unfold negotiated
  dsimp only
  split
  · rfl
  · split <;> simp

@[simp] theorem standing_twinHello (l h s) : standing (twinHello l h s) = standing s := by
  unfold twinHello
  dsimp only
  split
  · rfl
  · split
    · simp
    · split
      · split
        · simp
        · split <;> simp
      · simp

@[simp] theorem standing_laneFailed (l s) : standing (laneFailed l s) = standing s := by
  unfold laneFailed
  dsimp only
  split
  · simp
  · split <;> simp

@[simp] theorem standing_trainTimeout (l s) : standing (trainTimeout l s) = standing s := by simp [trainTimeout]
@[simp] theorem standing_laneUp (l s) : standing (laneUp l s) = standing s := by simp [laneUp]
@[simp] theorem standing_ucwAtFailure (l s) : standing (ucwAtFailure l s) = standing s := by simp [ucwAtFailure]
@[simp] theorem standing_laneDown (l reason s) : standing (laneDown l reason s) = standing s := by simp [laneDown]
@[simp] theorem standing_laneRetry (l s) : standing (laneRetry l s) = standing s := by simp [laneRetry]
@[simp] theorem standing_laneEnable (l same s) : standing (laneEnable l same s) = standing s := by simp [laneEnable]
@[simp] theorem standing_laneLimits (l s) : standing (laneLimits l s) = standing s := by simp [laneLimits]
@[simp] theorem standing_checkerLock (l s) : standing (checkerLock l s) = standing s := by simp [checkerLock]
@[simp] theorem standing_checkerLoss (l errors s) : standing (checkerLoss l errors s) = standing s := by simp [checkerLoss]
@[simp] theorem standing_retrainBody (n r s) : standing (retrainBody n r s).state = standing s := by simp [retrainBody]
@[simp] theorem standing_laneTestBody (n r s) : standing (laneTestBody n r s).state = standing s := by simp [laneTestBody]
@[simp] theorem standing_laneStatusBody (n r s) : standing (laneStatusBody n r s).state = standing s := by simp [laneStatusBody]
@[simp] theorem standing_eyeRefuse (result l kind s) : standing (eyeRefuse result l kind s).state = standing s := by simp [eyeRefuse]
@[simp] theorem standing_eyeScanBody (n r s) : standing (eyeScanBody n r s).state = standing s := by simp [eyeScanBody]

@[simp] theorem standing_eyeBytes (e low high count s) : standing (eyeBytes e low high count s).2 = standing s := by
  unfold eyeBytes
  split
  · rfl
  · split
    · rfl
    · simp

@[simp] theorem standing_eyeScanDone (low high count s) : standing (eyeScanDone low high count s) = standing s := by
  unfold eyeScanDone
  split
  · rfl
  · dsimp only
    rw [standing_mbDone, standing_freeBytes]
    refine foldl_keeps (fun a : List Byte × State => standing a.2) (fun a i => ?_) _ _
    simp

/-! ### StreamCmd.lean -/

@[simp] theorem standing_streamConfigBody (n r s) : standing (streamConfigBody n r s).state = standing s := by simp [streamConfigBody]
@[simp] theorem standing_rawRequestBody (n r s) : standing (rawRequestBody n r s).state = standing s := by simp [rawRequestBody]

@[simp] theorem standing_keySetBody (n r s) : standing (keySetBody n r s).state = standing s := by
  unfold keySetBody
  dsimp only
  split
  · simp
  · split
    · simp
    · split <;> simp

@[simp] theorem standing_streamStatusBody (n r s) : standing (streamStatusBody n r s).state = standing s := by simp [streamStatusBody]
@[simp] theorem standing_bluwardFlush (k cls s) : standing (bluwardFlush k cls s) = standing s := by simp [bluwardFlush]
@[simp] theorem standing_keyClose (k cls s) : standing (keyClose k cls s) = standing s := by simp [keyClose]
@[simp] theorem standing_pointToken (s) : standing (pointToken s) = standing s := by simp [pointToken]
@[simp] theorem standing_frameDropped (f s) : standing (frameDropped f s) = standing s := by simp [frameDropped]

/-! ### Freeze.lean -/

@[simp] theorem standing_releasePins (s) : standing (releasePins s) = standing s := by simp [releasePins]
@[simp] theorem standing_freezeNow (to_ s) : standing (freezeNow to_ s) = standing s := by simp [freezeNow]
@[simp] theorem standing_doFreeze (s) : standing (doFreeze s) = standing s := by simp [doFreeze]
@[simp] theorem standing_thawFrame (s) : standing (thawFrame s) = standing s := by simp [thawFrame]
@[simp] theorem standing_thawLanes (s) : standing (thawLanes s) = standing s := by simp [thawLanes]
@[simp] theorem standing_doThaw (s) : standing (doThaw s) = standing s := by simp [doThaw]
@[simp] theorem standing_freezeCtl (v s) : standing (freezeCtl v s) = standing s := by simp [freezeCtl]
@[simp] theorem standing_freezeN (w s) : standing (freezeN w s) = standing s := by simp [freezeN]
@[simp] theorem standing_freezeWrite (v s) : standing (freezeWrite v s) = standing s := by simp [freezeWrite]
@[simp] theorem standing_thawWrite (v s) : standing (thawWrite v s) = standing s := by simp [thawWrite]

/-! ### Twin.lean -/

@[simp] theorem standing_claimFault (reason s) : standing (claimFault reason s) = standing s := by simp [claimFault]
@[simp] theorem standing_setOwner (o s) : standing (setOwner o s) = standing s := by simp [setOwner]
@[simp] theorem standing_claimStart (s) : standing (claimStart s) = standing s := by simp [claimStart]
@[simp] theorem standing_claimEnd (syncLow read s) : standing (claimEnd syncLow read s) = standing s := by simp [claimEnd]

@[simp] theorem standing_twinStatus (strap headId t1 t2 t3 t4 s) : standing (twinStatus strap headId t1 t2 t3 t4 s) = standing s := by
  simp [twinStatus]

@[simp] theorem standing_statusTimeout (s) : standing (statusTimeout s) = standing s := by simp [statusTimeout]
@[simp] theorem standing_lineNotice (f l facet inst s) : standing (lineNotice f l facet inst s) = standing s := by simp [lineNotice]
@[simp] theorem standing_noticeMiss (s) : standing (noticeMiss s) = standing s := by simp [noticeMiss]
@[simp] theorem standing_serviceSet (v s) : standing (serviceSet v s) = standing s := by simp [serviceSet]

@[simp] theorem standing_ownerFireStamp (i s) : standing (ownerFireStamp i s) = standing s := by
  unfold ownerFireStamp
  split <;> simp

/-! ### RingNode.lean -/

@[simp] theorem standing_sendSlot (k s) : standing (sendSlot k s) = standing s := by simp [sendSlot]
@[simp] theorem standing_addTrig (code action s) : standing (addTrig code action s) = standing s := by simp [addTrig]
@[simp] theorem standing_slotTrig (x s) : standing (slotTrig x s) = standing s := by simp [slotTrig]
@[simp] theorem standing_originate (code forward s) : standing (originate code forward s).2 = standing s := by simp [originate]
@[simp] theorem standing_trigIo (raw w s) : standing (trigIo raw w s) = standing s := by simp [trigIo]

@[simp] theorem standing_trigAction (code s) : standing (trigAction code s) = standing s := by
  unfold trigAction
  split <;> simp

@[simp] theorem standing_mapBeat (b l k s) : standing (mapBeat b l k s) = standing s := by simp [mapBeat]
@[simp] theorem standing_leaderIs (serial k s) : standing (leaderIs serial k s) = standing s := by simp [leaderIs]
@[simp] theorem standing_takeLead (s) : standing (takeLead s) = standing s := by simp [takeLead]
@[simp] theorem standing_ringReform (gap nodes loop s) : standing (ringReform gap nodes loop s) = standing s := by simp [ringReform]
@[simp] theorem standing_followBeat (b l gap s) : standing (followBeat b l gap s) = standing s := by simp [followBeat]
@[simp] theorem standing_ownBeat (l gap s) : standing (ownBeat l gap s) = standing s := by simp [ownBeat]

@[simp] theorem standing_ringBeat (b l s) : standing (ringBeat b l s) = standing s := by
  unfold ringBeat
  split
  · rfl
  · split <;> simp

@[simp] theorem standing_ringCycle (s) : standing (ringCycle s) = standing s := by simp [ringCycle]
@[simp] theorem standing_turnWithdraw (s) : standing (turnWithdraw s) = standing s := by simp [turnWithdraw]
@[simp] theorem standing_ringInsertion (s) : standing (ringInsertion s) = standing s := by simp [ringInsertion]
@[simp] theorem standing_leaderTakeover (s) : standing (leaderTakeover s) = standing s := by simp [leaderTakeover]
@[simp] theorem standing_ringHoldover (s) : standing (ringHoldover s) = standing s := by simp [ringHoldover]
@[simp] theorem standing_ringLockLost (s) : standing (ringLockLost s) = standing s := by simp [ringLockLost]
@[simp] theorem standing_ringEnable (s) : standing (ringEnable s) = standing s := by simp [ringEnable]
@[simp] theorem standing_trigSendBody (n r s) : standing (trigSendBody n r s).state = standing s := by simp [trigSendBody]
@[simp] theorem standing_twinRingBody (n r s) : standing (twinRingBody n r s).state = standing s := by simp [twinRingBody]

/-! ### Sense.lean -/

@[simp] theorem standing_declareOpen (n cond s) : standing (declareOpen n cond s) = standing s := by simp [declareOpen]
@[simp] theorem standing_restoreOpen (n t0 s) : standing (restoreOpen n t0 s) = standing s := by simp [restoreOpen]
@[simp] theorem standing_snsStop (n s) : standing (snsStop n s) = standing s := by simp [snsStop]

@[simp] theorem standing_snsJudge (n conds s) : standing (snsJudge n conds s) = standing s := by
  unfold snsJudge
  dsimp only
  split
  · simp
  · split
    · simp
    · rfl

@[simp] theorem standing_decimationBlock (n cur term clip bits s) : standing (decimationBlock n cur term clip bits s) = standing s := by
  simp [decimationBlock]

@[simp] theorem standing_sensesStart (s) : standing (sensesStart s) = standing s := by simp [sensesStart]

@[simp] theorem standing_laserSample (n v s) : standing (laserSample n v s) = standing s := by
  unfold laserSample
  split <;> simp

@[simp] theorem standing_pushSample (n v fl s) : standing (pushSample n v fl s) = standing s := by simp [pushSample]
@[simp] theorem standing_rangeTo (n g s) : standing (rangeTo n g s) = standing s := by simp [rangeTo]
@[simp] theorem standing_autorange (n v clip s) : standing (autorange n v clip s) = standing s := by simp [autorange]
@[simp] theorem standing_leadResult (n l s) : standing (leadResult n l s) = standing s := by simp [leadResult]

@[simp] theorem standing_leadSample (n v s) : standing (leadSample n v s) = standing s := by
  unfold leadSample
  dsimp only
  split
  · rfl
  · simp

@[simp] theorem standing_leadL (n s) : standing (leadL n s).2 = standing s := by simp [leadL]
@[simp] theorem standing_senseSample (n s) : standing (senseSample n s) = standing s := by simp [senseSample]

@[simp] theorem standing_settlingEnd (n s) : standing (settlingEnd n s) = standing s := by
  unfold settlingEnd
  dsimp only
  split
  · rfl
  · split
    · simp
    · rfl

@[simp] theorem standing_leadDone (n s) : standing (leadDone n s) = standing s := by
  unfold leadDone
  dsimp only
  split
  · simp
  · rfl

@[simp] theorem standing_laserTimeout (s) : standing (laserTimeout s) = standing s := by simp [laserTimeout]
@[simp] theorem standing_senseReadBody (n r s) : standing (senseReadBody n r s).state = standing s := by simp [senseReadBody]
@[simp] theorem standing_kfs256 (k s) : standing (kfs256 k s).2 = standing s := by simp [kfs256]
@[simp] theorem standing_firWriteBody (n r s) : standing (firWriteBody n r s).state = standing s := by simp [firWriteBody]
@[simp] theorem standing_leadMeasureBody (n r s) : standing (leadMeasureBody n r s).state = standing s := by simp [leadMeasureBody]
@[simp] theorem standing_senseStatusBody (n r s) : standing (senseStatusBody n r s).state = standing s := by simp [senseStatusBody]

/-! ### Reset.lean -/

@[simp] theorem standing_cleared (s) : standing (cleared s) = standing s := by simp [cleared]
@[simp] theorem standing_enterReset (cause s) : standing (enterReset cause s) = standing s := by simp [enterReset]
@[simp] theorem standing_resetNLow (s) : standing (resetNLow s) = standing s := by simp [resetNLow]
@[simp] theorem standing_resetNAssert (w s) : standing (resetNAssert w s) = standing s := by simp [resetNAssert]
@[simp] theorem standing_porstAssert (s) : standing (porstAssert s) = standing s := by simp [porstAssert]
@[simp] theorem standing_porstRelease (s) : standing (porstRelease s) = standing s := by simp [porstRelease]

@[simp] theorem standing_commandReset (s) : standing (commandReset s) = standing s := by
  unfold commandReset
  split <;> simp

@[simp] theorem standing_watchdog (trial s) : standing (watchdog trial s) = standing s := by simp [watchdog]

@[simp] theorem standing_voltageFault (i s) : standing (voltageFault i s) = standing s := by
  unfold voltageFault
  split <;> simp

@[simp] theorem standing_bootPick (s) : standing (bootPick s).2 = standing s := by
  unfold bootPick
  dsimp only
  rw [standing_snd_ite]
  split
  · exact standing_withNv (by simp)
  · simp

@[simp] theorem standing_bootSlot (k s) : standing (bootSlot k s) = standing s := by simp [bootSlot]
@[simp] theorem standing_bootRom (s) : standing (bootRom s) = standing s := by simp [bootRom]
@[simp] theorem standing_heldSeconds (h s) : standing (heldSeconds h s).2 = standing s := by simp [heldSeconds]
@[simp] theorem standing_resetNHigh (s) : standing (resetNHigh s) = standing s := by simp [resetNHigh]

@[simp] theorem standing_releaseCause (s) : standing (releaseCause s) = standing s := by
  unfold releaseCause
  split <;> simp

@[simp] theorem standing_releaseReset (strap s) : standing (releaseReset strap s) = standing s := by simp [releaseReset]
@[simp] theorem standing_resetNRelease (strap s) : standing (resetNRelease strap s) = standing s := by simp [resetNRelease]
@[simp] theorem standing_bootSet (s) : standing (bootSet s) = standing s := by simp [bootSet]
@[simp] theorem standing_takeCal (f s) : standing (takeCal f s) = standing s := by simp [takeCal]

theorem standing_bootCal_bootOtp (reason s) : standing (bootCal.bootOtp reason s) = standing s := by
  unfold bootCal.bootOtp
  dsimp only
  split <;> simp

@[simp] theorem standing_bootCal (s) : standing (bootCal s) = standing s := by
  unfold bootCal
  split <;> simp [standing_bootCal_bootOtp]

@[simp] theorem standing_keptLog (s) : standing (keptLog s) = standing s := by simp [keptLog]
@[simp] theorem standing_bootMem (b s) : standing (bootMem b s) = standing s := by simp [bootMem]

@[simp] theorem standing_bootFallback (s) : standing (bootFallback s) = standing s := by
  unfold bootFallback
  split <;> simp

@[simp] theorem standing_bootComplete (b s) : standing (bootComplete b s) = standing s := by simp [bootComplete]
@[simp] theorem standing_badBlock (a s) : standing (badBlock a s) = standing s := by simp [badBlock]
@[simp] theorem standing_patrolScrub (a kind s) : standing (patrolScrub a kind s) = standing s := by simp [patrolScrub]

@[simp] theorem standing_burstEnd (e corrected bad s) : standing (burstEnd e corrected bad s) = standing s := by
  unfold burstEnd
  split <;> simp

@[simp] theorem standing_firmwareTimer (n s) : standing (firmwareTimer n s) = standing s := by simp [firmwareTimer]

/-! ### Interrupt.lean -/

@[simp] theorem standing_icTake (s) : standing (icTake s) = standing s := by
  unfold icTake
  split <;> simp

@[simp] theorem standing_finish (n s) : standing (finish n s) = standing s := by simp [finish]
@[simp] theorem standing_cntClr (n s) : standing (cntClr n s) = standing s := by simp [cntClr]
@[simp] theorem standing_icSoft (v s) : standing (icSoft v s) = standing s := by simp [icSoft]
@[simp] theorem standing_icRelease (g s) : standing (icRelease g s) = standing s := by simp [icRelease]

@[simp] theorem standing_moderationRelease (g s) : standing (moderationRelease g s) = standing s := by
  unfold moderationRelease
  split <;> simp

@[simp] theorem standing_processorIdle (s) : standing (processorIdle s) = standing s := by simp [processorIdle]
@[simp] theorem standing_icSrcWrite (n v s) : standing (icSrcWrite n v s) = standing s := by simp [icSrcWrite]
@[simp] theorem standing_icModWrite (g v s) : standing (icModWrite g v s) = standing s := by simp [icModWrite]
@[simp] theorem standing_icWrite (a v s) : standing (icWrite a v s) = standing s := by simp [icWrite]

/-! ### ParamCmd.lean -/

@[simp] theorem standing_paramGetBody (n r s) : standing (paramGetBody n r s).state = standing s := by
  unfold paramGetBody
  dsimp only
  split <;> simp

@[simp] theorem standing_modeCopy (mode keys s) : standing (modeCopy mode keys s) = standing s := by simp [modeCopy]
@[simp] theorem standing_planCopy (mode s) : standing (planCopy mode s) = standing s := by simp [planCopy]
@[simp] theorem standing_modeChange (id v s) : standing (modeChange id v s) = standing s := by simp [modeChange]
@[simp] theorem standing_imEffect (id i v same s) : standing (imEffect id i v same s) = standing s := by simp [imEffect]
@[simp] theorem standing_writeVal (r i v s) : standing (writeVal r i v s) = standing s := by simp [writeVal]

@[simp] theorem standing_paramSetBody (op r s) : standing (paramSetBody op r s).state = standing s := by
  unfold paramSetBody
  dsimp only
  split
  · rfl
  · simp

@[simp] theorem standing_paramSealBody (n r s) : standing (paramSealBody n r s).state = standing s := by simp [paramSealBody]
@[simp] theorem standing_paramListBody (n r s) : standing (paramListBody n r s).state = standing s := by simp [paramListBody]

/-! ### TestPort.lean -/

@[simp] theorem standing_boundaryCapture (l s) : standing (boundaryCapture l s).2 = standing s := by
  induction l generalizing s with
  | nil => rfl
  | cons i l ih =>
    simp only [boundaryCapture, ih]
    split <;> simp

@[simp] theorem standing_drCapture (s) : standing (drCapture s).2 = standing s := by
  unfold drCapture
  split <;> simp

@[simp] theorem standing_drUpdate (s) : standing (drUpdate s) = standing s := by
  unfold drUpdate
  split <;> simp

@[simp] theorem standing_irCapture (s) : standing (irCapture s).2 = standing s := by simp [irCapture]
@[simp] theorem standing_tapReset (s) : standing (tapReset s) = standing s := by simp [tapReset]

@[simp] theorem standing_tapRise (tdi s) : standing (tapRise tdi s) = standing s := by
  unfold tapRise
  split <;> simp

@[simp] theorem standing_tapFall (s) : standing (tapFall s) = standing s := by
  unfold tapFall
  dsimp only
  split <;> simp

@[simp] theorem standing_testAccess (tms tdi trstLow s) : standing (testAccess tms tdi trstLow s) = standing s := by simp [testAccess]

/-! ### FrontDesk.lean -/

@[simp] theorem standing_devRunBody (n x s) : standing (devRunBody n x s).state = standing s := by simp [devRunBody]
@[simp] theorem standing_devStopBody (n x s) : standing (devStopBody n x s).state = standing s := by simp [devStopBody]
@[simp] theorem standing_eventReadBody (n r s) : standing (eventReadBody n r s).state = standing s := by simp [eventReadBody]
@[simp] theorem standing_devResetBody (n r s) : standing (devResetBody n r s).state = standing s := by simp [devResetBody]
@[simp] theorem standing_devIdentityBody (n x s) : standing (devIdentityBody n x s).state = standing s := by simp [devIdentityBody]
@[simp] theorem standing_flashWait (r s) : standing (flashWait r s).state = standing s := by simp [flashWait]
@[simp] theorem standing_fwWriteBody (n r s) : standing (fwWriteBody n r s).state = standing s := by simp [fwWriteBody]
@[simp] theorem standing_fwVerify (s) : standing (fwVerify s).state = standing s := by simp [fwVerify]
@[simp] theorem standing_fwConfirm (s) : standing (fwConfirm s).state = standing s := by simp [fwConfirm]
@[simp] theorem standing_fwCancel (s) : standing (fwCancel s).state = standing s := by simp [fwCancel]
@[simp] theorem standing_fwUpdateBody (n r s) : standing (fwUpdateBody n r s).state = standing s := by simp [fwUpdateBody]

@[simp] theorem standing_flashNext (l s) : standing (flashNext l s) = standing s := by
  induction l generalizing s with
  | nil => simp [flashNext]
  | cons k w ih =>
    simp only [flashNext]
    refine standing_branches (by simp) ?_
    have ho : ∀ r, standing (if cgetLE 0 (mb s k).buf 0 2 = 0x0013 then fwWriteBody (cgetLE 0 (mb s k).buf 0 2) r s
        else fwUpdateBody (cgetLE 0 (mb s k).buf 0 2) r s).state = standing s := by simp
    split
    · next h =>
      rw [ih, standing_mbDone, ← ho, h]
      rfl
    · next h =>
      rw [ih, ← ho, h]
      rfl

@[simp] theorem standing_fwEraseDone (s) : standing (fwEraseDone s) = standing s := by
  unfold fwEraseDone
  split <;> simp

@[simp] theorem standing_xferDone (s) : standing (xferDone s) = standing s := by simp [xferDone]
@[simp] theorem standing_debugChallengeBody (n r s) : standing (debugChallengeBody n r s).state = standing s := by simp [debugChallengeBody]

@[simp] theorem standing_challengeLevel (s) : standing (challengeLevel s).2 = standing s := by
  unfold challengeLevel
  split <;> simp

@[simp] theorem standing_debugResponseBody (n r s) : standing (debugResponseBody n r s).state = standing s := by simp [debugResponseBody]
@[simp] theorem standing_attentionClear (v s) : standing (attentionClear v s) = standing s := by simp [attentionClear]
@[simp] theorem standing_attnEnableWrite (v s) : standing (attnEnableWrite v s) = standing s := by simp [attnEnableWrite]

@[simp] theorem standing_attnExpiry (s) : standing (attnExpiry s) = standing s := by
  unfold attnExpiry
  split <;> simp

@[simp] theorem standing_submit (k bytes o s) : standing (submit k bytes o s) = standing s := by simp [submit]
@[simp] theorem standing_doorbell (k s) : standing (doorbell k s) = standing s := by simp [doorbell]
@[simp] theorem standing_overrun (k s) : standing (overrun k s) = standing s := by simp [overrun]
@[simp] theorem standing_bufWrite (k o v s) : standing (bufWrite k o v s) = standing s := by simp [bufWrite]
@[simp] theorem standing_mbStatusWrite (k v s) : standing (mbStatusWrite k v s) = standing s := by simp [mbStatusWrite]
@[simp] theorem standing_deskWrite (a v s) : standing (deskWrite a v s) = standing s := by simp [deskWrite]
@[simp] theorem standing_streamDirection (n s) : standing (streamDirection n s).2 = standing s := by simp [streamDirection]
@[simp] theorem standing_streamCtrl (n v s) : standing (streamCtrl n v s) = standing s := by simp [streamCtrl]
@[simp] theorem standing_streamRegWrite (n o v s) : standing (streamRegWrite n o v s) = standing s := by simp [streamRegWrite]
@[simp] theorem standing_ctlRegWrite (n o v s) : standing (ctlRegWrite n o v s) = standing s := by simp [ctlRegWrite]
@[simp] theorem standing_fabricWrite (a v s) : standing (fabricWrite a v s) = standing s := by simp [fabricWrite]
@[simp] theorem standing_registerWrite (addr v s) : standing (registerWrite addr v s) = standing s := by simp [registerWrite]
@[simp] theorem standing_spiWriteWord (a v s) : standing (spiWriteWord a v s) = standing s := by simp [spiWriteWord]
@[simp] theorem standing_spiWrite (c data s) : standing (spiWrite c data s) = standing s := by simp [spiWrite]
@[simp] theorem standing_spiRead (c clocks s) : standing (spiRead c clocks s) = standing s := by simp [spiRead]

@[simp] theorem standing_spiAccess (bits s) : standing (spiAccess bits s) = standing s := by
  unfold spiAccess
  split
  · simp
  · split <;> simp

@[simp] theorem standing_hostAccess (a v s) : standing (hostAccess a v s) = standing s := by
  unfold hostAccess
  split <;> simp

/-! ### Mgmt.lean -/

@[simp] theorem standing_frameSeen (f s) : standing (frameSeen f s) = standing s := by simp [frameSeen]
@[simp] theorem standing_reply (f body s) : standing (reply f body s) = standing s := by simp [reply]
@[simp] theorem standing_mgmtRefuse (f k reason s) : standing (mgmtRefuse f k reason s) = standing s := by simp [mgmtRefuse]
@[simp] theorem standing_mgmtSubmit (f s) : standing (mgmtSubmit f s) = standing s := by simp [mgmtSubmit]
@[simp] theorem standing_mgmtRequest (f s) : standing (mgmtRequest f s) = standing s := by simp [mgmtRequest]
@[simp] theorem standing_regReply (f words data s) : standing (regReply f words data s) = standing s := by simp [regReply]
@[simp] theorem standing_mgmtRead (f s) : standing (mgmtRead f s) = standing s := by simp [mgmtRead]
@[simp] theorem standing_mgmtWrite (f s) : standing (mgmtWrite f s) = standing s := by simp [mgmtWrite]
@[simp] theorem standing_winReply (f kind reason data s) : standing (winReply f kind reason data s) = standing s := by simp [winReply]
@[simp] theorem standing_winAct (w s) : standing (winAct w s) = standing s := by simp [winAct]

@[simp] theorem standing_winServe (l kept s) : standing (winServe l kept s) = standing s := by
  induction l generalizing kept s with
  | nil => simp [winServe]
  | cons w r ih => simp [winServe, ih]

@[simp] theorem standing_winFrame (w r s) : standing (winFrame w r s) = standing s := by simp [winFrame]
@[simp] theorem standing_windowWrite (f s) : standing (windowWrite f s) = standing s := by simp [windowWrite]
@[simp] theorem standing_windowRead (f s) : standing (windowRead f s) = standing s := by simp [windowRead]
@[simp] theorem standing_burstRow (e corrected bad s) : standing (burstRow e corrected bad s) = standing s := by simp [burstRow]

/-! ### Commands, events and the step -/

@[simp] theorem standing_live {f : State → State} (h : ∀ s, standing (f s) = standing s) (t : Nat) (s : State) :
    standing (live t f s) = standing (advance t s) :=
  standing_branches rfl (h _)

theorem standing_runCmd {c : CmdSpec} {lenOk : List Byte → Bool} {body : Nat → Req → State → CmdOut}
    (h : ∀ op r s, standing (body op r s).state = standing s) (r : Req) (s : State) :
    standing (runCmd c lenOk body r s) = standing s := by
  unfold runCmd
  extract_lets out
  have ho : standing out.state = standing s := by simp [out, h]
  cases hc : out <;> simpa [hc] using ho

@[simp] theorem standing_command {c : CmdSpec} {lenOk : List Byte → Bool} {body : Nat → Req → State → CmdOut}
    (h : ∀ op r s, standing (body op r s).state = standing s) (t : Nat) (r : Req) (s : State) :
    standing (command c lenOk body t r s) = standing (advance t s) := by
  unfold command
  dsimp only
  generalize advance t s = s1
  simp [standing_runCmd h]

/-- Every command moves time to its instant and keeps the rest of the standing part: it is a mailbox command (`standing_command`), an event
of a domain that may stand still (`standing_live`), or one that always acts. -/
theorem exec_standing (i : Instr) (s : State) : ∃ t u, exec i s = .next u ∧ standing u = standing (advance t s) := by
  cases i <;> exact ⟨_, _, rfl, by simp; rfl⟩

/-- Settles O5: a step runs the front command with the queue's rest, and what a command leaves standing is `exec_standing`. -/
theorem stepsTakeTheQueueInOrder : Obligations.StepsTakeTheQueueInOrder := by
  unfold Obligations.StepsTakeTheQueueInOrder
  intro s t h
  cases hp : s.pending with
  | nil =>
    simp only [step, hp, Host.Outcome.next.injEq] at h
    subst h
    exact ⟨hp, le_rfl, rfl⟩
  | cons c q =>
    simp only [step, hp] at h
    obtain ⟨at_, u, hu, hs⟩ := exec_standing c { s with pending := q }
    obtain rfl : u = t := Host.Outcome.next.inj (hu.symm.trans h)
    simp only [standing, advance_pending, advance_wall, advance_nv, Prod.mk.injEq] at hs
    obtain ⟨hpend, hwall, hser⟩ := hs
    exact ⟨hpend, hwall ▸ le_max_left _ _, hser⟩

end Sys2Proof.Machine
end

section
/-! SUPPORT. ATTENTION, its enables and its line (R5, R6, R442, R445): what `attnUpdate` leaves in each of its branches, and the clauses of O57. -/

namespace Sys2Proof.Machine

/-! ### What follows a change of ATTENTION or of its enables -/

/-- Only the moderation timer and ATTN_N move. -/
theorem attnUpdate_frame (was : Word) (safety : Bool) (s : State) :
    attnUpdate was safety s = { s with
      desk.attnTimer := (attnUpdate was safety s).desk.attnTimer, pins.attnN := (attnUpdate was safety s).pins.attnN } := by
  unfold attnUpdate
  repeat' split
  all_goals rfl

@[simp] theorem attnUpdate_attnEnable (was : Word) (safety : Bool) (s : State) :
    (attnUpdate was safety s).desk.attnEnable = s.desk.attnEnable := by
  rw [attnUpdate_frame]

@[simp] theorem attnUpdate_clr (was : Word) (safety : Bool) (s : State) : (attnUpdate was safety s).desk.clr = s.desk.clr := by
  rw [attnUpdate_frame]

@[simp] theorem attnA_attnUpdate (was : Word) (safety : Bool) (s : State) : attnA (attnUpdate was safety s) = attnA s := by
  rw [attnUpdate_frame]
  rfl

/-- With no enabled bit set the line is released and its timer ends. -/
theorem attnUpdate_quiet {was : Word} {safety : Bool} {s : State} (h : attnA s = 0) :
    (attnUpdate was safety s).pins.attnN = false ∧ (attnUpdate was safety s).desk.attnTimer = none := by
  rw [attnUpdate, if_pos h]
  exact ⟨rfl, rfl⟩

/-- SAFETY newly set and enabled asserts the line at once. -/
theorem attnUpdate_safety {was : Word} {s : State} (h : (attnA s).getLsbD 11 = true) : (attnUpdate was true s).pins.attnN = true := by
  have h0 : attnA s ≠ 0 := fun g => by simp [g] at h
  rw [attnUpdate, if_neg h0, if_pos (by simp [h])]

/-- Without a delay the first enabled bit asserts the line at once. -/
theorem attnUpdate_undelayed {safety : Bool} {s : State} (h : attnA s ≠ 0) (hd : s.desk.attnDelay = 0) (hn : s.pins.attnN = false) :
    (attnUpdate 0 safety s).pins.attnN = true := by
  rw [attnUpdate, if_neg h]
  split
  · rfl
  · simp [hn]

/-- With a delay the first enabled bit but SAFETY starts the moderation timer. -/
theorem attnUpdate_delayed {safety : Bool} {s : State} (h : attnA s ≠ 0) (hs : (attnA s).getLsbD 11 = false) (hd : s.desk.attnDelay ≠ 0)
    (hn : s.pins.attnN = false) :
    (attnUpdate 0 safety s).pins.attnN = false ∧ (attnUpdate 0 safety s).desk.attnTimer = some (s.dev + s.desk.attnDelay * tUs) := by
  rw [attnUpdate, if_neg h, if_neg (by rw [hs, Bool.and_false]; exact Bool.false_ne_true), if_neg (by rw [hn]; exact Bool.false_ne_true),
    if_pos rfl, if_neg hd]
  exact ⟨hn, rfl⟩

/-! ### The write that clears -/

/-- ATTENTION after a write that clears: bits that hardware set in the same cycle stay, and EVENT while an entry is queued. -/
def clearedTo (v : Word) (s : State) : Word :=
  let kept := s.desk.attention &&& ~~~ (v &&& 0x3FFF#32) |||
    (if s.desk.setAt = some (cycleNow s) then s.desk.attention &&& s.desk.setBits else 0)
  if v.getLsbD 8 && !s.desk.events.isEmpty then kept ||| (s.desk.attention &&& 0x100#32) else kept

/-- The record of the cycle's clears after such a write. -/
def clearNoted (v : Word) (s : State) : AttnClear :=
  let gone := s.desk.attention &&& ~~~ clearedTo v s
  match s.desk.clr with
  | some c => if c.cyc = cycleNow s then { c with bits := c.bits ||| gone }
      else { cyc := cycleNow s, bits := gone, pin := s.pins.attnN, timer := s.desk.attnTimer }
  | none => { cyc := cycleNow s, bits := gone, pin := s.pins.attnN, timer := s.desk.attnTimer }

theorem attentionClear_eq (v : Word) (s : State) :
    attentionClear v s = attnUpdate (attnA s) false { s with desk.attention := clearedTo v s, desk.clr := some (clearNoted v s) } := rfl

/-- The bits of ATTENTION that are not reserved. -/
theorem getLsbD_definedBits (i : Nat) : (0x3FFF#32).getLsbD i = decide (i < 14) := by
  rw [BitVec.getLsbD_ofNat, show 0x3FFF = 2 ^ 14 - 1 from rfl, Nat.testBit_two_pow_sub_one, ← Bool.decide_and]
  exact decide_eq_decide.2 (by omega)

theorem getLsbD_eventBit (i : Nat) : (0x100#32).getLsbD i = (i == 8) := by
  rw [BitVec.getLsbD_ofNat, show 0x100 = 2 ^ 8 from rfl, Nat.testBit_two_pow, ← Bool.decide_and]
  exact decide_eq_decide.2 (by omega)

theorem clearedTo_eq (v : Word) (s : State) : clearedTo v s = s.desk.attention &&& ~~~ (v &&& 0x3FFF#32)
    ||| (if s.desk.setAt = some (cycleNow s) then s.desk.attention &&& s.desk.setBits else 0#32)
    ||| (if v.getLsbD 8 && !s.desk.events.isEmpty then s.desk.attention &&& 0x100#32 else 0#32) := by
  unfold clearedTo
  dsimp only
  split
  · rfl
  · exact (BitVec.or_zero).symm

/-- A bit stays where it is not named and not reserved, or hardware set it in the same cycle, or it is EVENT while an entry is queued. -/
theorem keptBit : ∀ a v d m e : Bool, (a && !(v && d) || a && m || a && (v && e)) = (a && !(v && d && !e && !m)) := by decide

/-- Bit by bit. -/
theorem getLsbD_clearedTo (v : Word) (s : State) {i : Nat} (hi : i < 32) :
    (clearedTo v s).getLsbD i = (s.desk.attention.getLsbD i && !(v.getLsbD i && decide (i < 14) && !(i == 8 && !s.desk.events.isEmpty)
      && !(decide (s.desk.setAt = some (cycleNow s)) && s.desk.setBits.getLsbD i))) := by
  have hsame : (if s.desk.setAt = some (cycleNow s) then s.desk.attention &&& s.desk.setBits else 0#32).getLsbD i
      = (s.desk.attention.getLsbD i && (decide (s.desk.setAt = some (cycleNow s)) && s.desk.setBits.getLsbD i)) := by
    split <;> simp [*]
  have hevent : (if v.getLsbD 8 && !s.desk.events.isEmpty then s.desk.attention &&& 0x100#32 else 0#32).getLsbD i
      = (s.desk.attention.getLsbD i && (v.getLsbD i && (i == 8 && !s.desk.events.isEmpty))) := by
    by_cases h8 : i = 8
    · subst h8
      split <;> simp_all
    · rw [beq_eq_false_iff_ne.2 h8]
      split <;> simp [getLsbD_eventBit, h8]
  rw [clearedTo_eq]
  simp only [BitVec.getLsbD_or, BitVec.getLsbD_and, BitVec.getLsbD_not, getLsbD_definedBits, hi, decide_true, Bool.true_and, hsame, hevent]
  exact keptBit _ _ _ _ _

theorem clearNoted_cyc (v : Word) (s : State) : (clearNoted v s).cyc = cycleNow s := by
  unfold clearNoted
  split
  · split
    · assumption
    · rfl
  · rfl

/-- A bit that the write cleared is noted. -/
theorem clearNoted_bits (v : Word) (s : State) {i : Nat} (hi : i < 32) (h1 : s.desk.attention.getLsbD i = true)
    (h0 : (clearedTo v s).getLsbD i = false) : (clearNoted v s).bits.getLsbD i = true := by
  have hgone : (s.desk.attention &&& ~~~ clearedTo v s).getLsbD i = true := by
    rw [BitVec.getLsbD_and, BitVec.getLsbD_not, h1, h0, decide_eq_true hi]
    rfl
  unfold clearNoted
  split
  · split <;> simp only [hgone, BitVec.getLsbD_or, Bool.or_true]
  · exact hgone

@[simp] theorem attentionClear_attention (v : Word) (s : State) : (attentionClear v s).desk.attention = clearedTo v s :=
  (attnUpdate_attention _ _ _).1

theorem attentionClear_clr (v : Word) (s : State) : (attentionClear v s).desk.clr = some (clearNoted v s) :=
  attnUpdate_clr _ _ _

theorem attentionClear_quiet {v : Word} {s : State} (h : attnA (attentionClear v s) = 0) :
    (attentionClear v s).pins.attnN = false ∧ (attentionClear v s).desk.attnTimer = none := by
  rw [attentionClear_eq, attnA_attnUpdate] at h
  exact attnUpdate_quiet h

theorem attentionClear_frame (v : Word) (s : State) : attentionClear v s = { s with
    desk.attention := (attentionClear v s).desk.attention, desk.clr := (attentionClear v s).desk.clr
    desk.attnTimer := (attentionClear v s).desk.attnTimer, pins.attnN := (attentionClear v s).pins.attnN } := by
  rw [attentionClear_attention, attentionClear_clr]
  exact attnUpdate_frame _ _ _

/-! ### The write to the enables -/

/-- ATTN_ENABLE written. -/
def withEnable (v : Word) (s : State) : State := { s with desk.attnEnable := v &&& 0x3FFF#32 }

theorem attnEnableWrite_eq (v : Word) (s : State) : attnEnableWrite v s = attnUpdate (attnA s)
    ((withEnable v s).desk.attnEnable.getLsbD 11 && !s.desk.attnEnable.getLsbD 11 && s.desk.attention.getLsbD 11) (withEnable v s) := rfl

theorem attnEnableWrite_attnEnable (v : Word) (s : State) : (attnEnableWrite v s).desk.attnEnable = v &&& 0x3FFF#32 :=
  attnUpdate_attnEnable _ _ _

@[simp] theorem attnA_attnEnableWrite (v : Word) (s : State) : attnA (attnEnableWrite v s) = attnA (withEnable v s) :=
  attnA_attnUpdate _ _ _

theorem attnEnableWrite_quiet {v : Word} {s : State} (h : attnA (attnEnableWrite v s) = 0) :
    (attnEnableWrite v s).pins.attnN = false ∧ (attnEnableWrite v s).desk.attnTimer = none :=
  attnUpdate_quiet (by rwa [attnA_attnEnableWrite] at h)

/-- An enabled bit where none was asserts the line at once without a delay, and so does SAFETY newly enabled. -/
theorem attnEnableWrite_asserts {v : Word} {s : State} (h0 : attnA s = 0) (h : attnA (attnEnableWrite v s) ≠ 0) (hn : s.pins.attnN = false)
    (hd : s.desk.attnDelay = 0 ∨ ((attnA (attnEnableWrite v s)).getLsbD 11 = true ∧ s.desk.attnEnable.getLsbD 11 = false)) :
    (attnEnableWrite v s).pins.attnN = true := by
  rw [attnA_attnEnableWrite] at h hd
  rw [attnEnableWrite_eq, h0]
  rcases hd with hd | ⟨hA, hold⟩
  · exact attnUpdate_undelayed h hd hn
  · obtain ⟨hatt, hen⟩ := Bool.and_eq_true_iff.1 ((BitVec.getLsbD_and ..).symm.trans hA)
    rw [hen, hold, show s.desk.attention.getLsbD 11 = true from hatt]
    exact attnUpdate_safety hA

/-- With a delay an enabled bit but SAFETY, where none was, starts the moderation timer. -/
theorem attnEnableWrite_moderates {v : Word} {s : State} (h0 : attnA s = 0) (h : attnA (attnEnableWrite v s) ≠ 0) (hn : s.pins.attnN = false)
    (hd : s.desk.attnDelay ≠ 0) (hs : (attnA (attnEnableWrite v s)).getLsbD 11 = false) :
    (attnEnableWrite v s).pins.attnN = false ∧ (attnEnableWrite v s).desk.attnTimer = some (s.dev + s.desk.attnDelay * tUs) := by
  rw [attnA_attnEnableWrite] at h hs
  rw [attnEnableWrite_eq, h0]
  exact attnUpdate_delayed h hs hd hn

theorem attnEnableWrite_frame (v : Word) (s : State) : attnEnableWrite v s = { s with
    desk.attnEnable := (attnEnableWrite v s).desk.attnEnable, desk.attnTimer := (attnEnableWrite v s).desk.attnTimer
    pins.attnN := (attnEnableWrite v s).pins.attnN } := by
  rw [attnEnableWrite_attnEnable]
  exact attnUpdate_frame _ _ _

/-! ### The moderation timer, and a set in the cycle of a clear -/

theorem attnExpiry_due {e : Nat} {s : State} (h : s.desk.attnTimer = some e) (he : e ≤ s.dev) :
    attnExpiry s = { s with desk.attnTimer := none, pins.attnN := decide (attnA s ≠ 0) } := by
  unfold attnExpiry
  rw [h]
  exact if_neg (Nat.not_lt.2 he)

theorem attnExpiry_early {s : State} (h : ∀ e, s.desk.attnTimer = some e → s.dev < e) : attnExpiry s = s := by
  unfold attnExpiry
  split
  · next e he => exact if_pos (h e he)
  · rfl

theorem exec_attnModerationExpiry (t : Nat) (s : State) : exec (.attnModerationExpiry t) s = .next (live t attnExpiry s) := rfl

theorem attnRaise_sameCycle {bits : Word} {c : AttnClear} {s : State} (hc : s.desk.clr = some c) (hn : c.cyc = cycleNow s)
    (hb : bits &&& c.bits &&& s.desk.attnEnable ≠ 0) (hp : c.pin = true) : (attnRaise bits s).pins.attnN = true := by
  unfold attnRaise
  dsimp only
  rw [hc]
  dsimp only
  rw [if_pos ⟨hn, hb⟩, hp, Bool.or_true]

/-- Settles O57: the write that clears, the write to the enables, the timer's end at its time and before it, and a set in the cycle of a clear. -/
theorem attentionWorks : Obligations.AttentionWorks := by
  unfold Obligations.AttentionWorks
  refine ⟨fun t v s h => ⟨attentionClear v (advance t s), congrArg Host.Outcome.next (live_awake h), fun i hi => ?_, attentionClear_quiet,
      ⟨clearNoted v (advance t s), attentionClear_clr _ _, clearNoted_cyc _ _, fun i hi h1 h0 => ?_⟩, attentionClear_frame _ _⟩,
    fun t v s h => ⟨attnEnableWrite v (advance t s), congrArg Host.Outcome.next (live_awake h), attnEnableWrite_attnEnable _ _,
      attnEnableWrite_quiet, fun h0 hA hn => ⟨?_, ?_⟩, attnEnableWrite_frame _ _⟩,
    fun t e s h ht he => ?_, fun t s h => ?_, fun bits c s hc hn hb hp => ⟨attnRaise_attention _ _, attnRaise_sameCycle hc hn hb hp⟩⟩
  · rw [attentionClear_attention, getLsbD_clearedTo _ _ hi, advance_desk]
  · exact clearNoted_bits _ _ hi h1 (by rwa [attentionClear_attention] at h0)
  · exact attnEnableWrite_asserts (s := advance t s) h0 hA hn
  · exact attnEnableWrite_moderates (s := advance t s) h0 hA hn
  · rw [exec_attnModerationExpiry, live_awake h, attnExpiry_due (by exact ht) he]
    rfl
  · rw [exec_attnModerationExpiry]
    exact congrArg Host.Outcome.next (show (if _ then _ else _) = _ by rw [attnExpiry_early h, ite_self])

end Sys2Proof.Machine
end

section
/-! SUPPORT. Commands that a ready desk answers at once: what the started request sees, and what its answer leaves. -/

namespace Sys2Proof.Machine

/-! ### The started request -/

/-- Starting a request moves time, the interrupt controller and the mailboxes alone, and leaves none waiting. -/
theorem started_eq (op t : Nat) (r : Req) (s : State) : started op t r s = { s with
    wall := (advance t s).wall, dev := (advance t s).dev, ic := (started op t r s).ic
    desk := { s.desk with mbs := (started op t r s).desk.mbs, waiting := [] } } := by
  unfold started mbRing
  dsimp only
  rw [irq_ic]
  rfl

@[simp] theorem started_debug (op t : Nat) (r : Req) (s : State) : (started op t r s).desk.debug = s.desk.debug := by rw [started_eq]
@[simp] theorem started_recovery (op t : Nat) (r : Req) (s : State) : (started op t r s).desk.recovery = s.desk.recovery := by
  rw [started_eq]

@[simp] theorem started_par (op t : Nat) (r : Req) (s : State) : (started op t r s).par = s.par := by rw [started_eq]

/-- A command on its own mailbox and debug level, of a right length, answers with what its body gives (R454). -/
theorem command_done {c : CmdSpec} {lenOk : List Byte → Bool} {body : Nat → Req → State → CmdOut} {t : Nat} {r : Req} {s e : State}
    {result : Nat} {p : List Byte} (h : Ready r s) (hlo : c.mbLo ≤ r.mb) (hhi : r.mb ≤ c.mbHi) (hlevel : c.level ≤ s.desk.debug)
    (hlen : r.payload.length ≤ 248) (hok : lenOk r.payload = true) (hb : body c.op r (started c.op t r s) = .done result p e) :
    command c lenOk body t r s = mbDone r.mb c.op result r.tag p e := by
  have hrec : s.desk.recovery = false := h.2.2.2.1
  rw [command_started h, runCmd_body hlo hhi (by simpa using hlevel) hlen hok (by simpa using hrec), hb]

/-! ### Changes of the desk -/

theorem DeskOnly.trans {k : Nat} {s u v : State} (h : DeskOnly k s u) (g : DeskOnly k u v) : DeskOnly k s v := by
  obtain ⟨hu, hm⟩ := h
  obtain ⟨hv, hn⟩ := g
  refine ⟨?_, fun j hj => (hn j hj).trans (hm j hj)⟩
  rw [hu] at hv
  exact hv

/-- An effect on the parameters, with nothing else of the desk's touched. -/
theorem DeskOnly.withPar {k : Nat} {s u : State} (h : DeskOnly k s u) (x : Par) :
    DeskOnly k { s with par := x } { u with par := x } := by
  obtain ⟨hu, hm⟩ := h
  refine ⟨?_, hm⟩
  rw [hu]
  rfl

theorem DeskOnly.par {k : Nat} {s u : State} (h : DeskOnly k s u) : u.par = s.par := by
  rw [h.1]
  rfl

theorem mb_origin_of_mbs {k : Nat} {s u : State} (h : u.desk.mbs = s.desk.mbs) : (mb u k).origin = (mb s k).origin := by
  unfold mb
  rw [h]

/-! ### Answers -/

/-- An answer without a payload leaves its header in the buffer, whatever the result. -/
theorem mbDone_answered_empty (r : Req) (op result : Nat) (s : State) (h : (mb s r.mb).origin = none) :
    Answered r op result [] (mbDone r.mb op result r.tag [] s) := by
  obtain ⟨hst, hres, hop, hbuf⟩ := mbDone_mailbox r.mb op result r.tag [] s h
  refine ⟨hst, hres, hop, ?_⟩
  have hr : respBytes op result r.tag [] = le 2 op ++ le 2 result ++ le 4 r.tag ++ le 2 0 ++ le 2 0 := by
    unfold respBytes
    dsimp only
    rw [ite_self]
    exact List.append_nil _
  have hl : (le 2 op ++ le 2 result ++ le 4 r.tag ++ le 2 0 ++ le 2 0).length = 12 := by simp
  rw [hbuf, hr, take_self_of_length (by omega)]
  exact (hl ▸ cgets_cputs 0 _ _ 0).trans (List.append_nil _).symm

/-- A refusal leaves its answer, and all else as it was. -/
theorem refusedWith_of_done {i : Instr} {r : Req} {op result t : Nat} {s : State} {p : List Byte} (h : Ready r s)
    (hx : exec i s = .next (mbDone r.mb op result r.tag p (started op t r s)))
    (ha : Answered r op result p (mbDone r.mb op result r.tag p (started op t r s))) : RefusedWith i r op result t s :=
  ⟨_, hx, p, ha, (started_deskOnly op t r s h.2.2.2.2.2).trans (mbDone_deskOnly _ _ _ _ _ _ (started_origin ..))⟩

theorem completesOk_of_done {i : Instr} {r : Req} {op t : Nat} {s : State} {p : List Byte} {P : List Byte → Prop} (h : Ready r s)
    (hx : exec i s = .next (mbDone r.mb op rOK r.tag p (started op t r s))) (hp : P p) (hl : p.length ≤ 244) :
    CompletesOk i r op s (advance t s) P :=
  ⟨_, hx, p, hp, mbDone_answered r op rOK p _ (started_origin ..) (.inl rfl) hl,
    (started_deskOnly op t r s h.2.2.2.2.2).trans (mbDone_deskOnly _ _ _ _ _ _ (started_origin ..))⟩

end Sys2Proof.Machine
end

section
/-! SUPPORT. PARAM_GET and PARAM_LIST (R458, R461). -/

namespace Sys2Proof.Machine

/-! ### The parameters of a started request -/

theorem paramRow_id {id : Nat} {p : PRow} (h : paramRow id = some p) : p.id = id := by
  simpa using List.find?_some h

@[simp] theorem ownedNow_started (op t : Nat) (r : Req) (s : State) (id : Nat) : ownedNow (started op t r s) id = ownedNow s id := by
  rw [started_eq]
  rfl

@[simp] theorem copyFlags_started (op t : Nat) (r : Req) (s : State) (p : PRow) (copy : Nat) :
    copyFlags (started op t r s) p copy = copyFlags s p copy := by
  rw [started_eq]
  rfl

@[simp] theorem copyVal_started (op t : Nat) (r : Req) (s : State) (p : PRow) (copy i : Nat) :
    copyVal (started op t r s) p copy i = copyVal s p copy i := by
  rw [started_eq]
  rfl

@[simp] theorem valueFits_started (op t : Nat) (r : Req) (s : State) (id i v : Nat) :
    valueFits (started op t r s) id i v = valueFits s id i v := by
  rw [started_eq]
  rfl

@[simp] theorem setBarred_started (op t : Nat) (r : Req) (s : State) (id : Nat) (idx vals : List Nat) :
    setBarred (started op t r s) id idx vals = setBarred s id idx vals := by
  rw [started_eq]
  rfl

/-! ### PARAM_GET -/

/-- The values of a copy of a parameter as PARAM_GET answers them. -/
def getAnswer (s : State) (r : Req) (p : PRow) : List Byte :=
  le 2 (fld r.payload 0 2) ++ le 2 (fld r.payload 2 2) ++ le 2 (fld r.payload 4 2) ++ le 2 (copyFlags s p (fld r.payload 6 1))
    ++ (List.range (fld r.payload 4 2)).flatMap (fun k => le 8 (copyVal s p (fld r.payload 6 1) (fld r.payload 2 2 + k)))

theorem length_getAnswer (s : State) (r : Req) (p : PRow) : (getAnswer s r p).length = 8 + 8 * fld r.payload 4 2 := by
  simp [getAnswer]
  omega

theorem paramGetBody_done {op t : Nat} {r : Req} {p : PRow} {s : State} (hrow : paramRow (fld r.payload 0 2) = some p)
    (hscope : inScope p (fld r.payload 2 2) (fld r.payload 4 2) = true) (hn : fld r.payload 4 2 ≤ 29) (hcopy : fld r.payload 6 1 ≤ 3)
    (hz : fld r.payload 7 1 = 0) :
    paramGetBody op r (started op t r s) = .done rOK (getAnswer s r p) (started op t r s) := by
  have hgood : ¬(inScope p (fld r.payload 2 2) (fld r.payload 4 2) = false ∨ 29 < fld r.payload 4 2 ∨ 3 < fld r.payload 6 1
      ∨ fld r.payload 7 1 ≠ 0) := by
    simp [hscope, hn, hcopy, hz]
  unfold paramGetBody
  dsimp only
  rw [hrow]
  dsimp only
  rw [if_neg hgood]
  simp only [copyFlags_started, copyVal_started, getAnswer]

theorem paramGet_completes {t : Nat} {r : Req} {p : PRow} {s : State} (h : Ready r s) (hlen : r.payload.length = 8)
    (hrow : paramRow (fld r.payload 0 2) = some p) (hscope : inScope p (fld r.payload 2 2) (fld r.payload 4 2) = true)
    (hn : fld r.payload 4 2 ≤ 29) (hcopy : fld r.payload 6 1 ≤ 3) (hz : fld r.payload 7 1 = 0) :
    CompletesOk (.paramGet t r) r 0x0001 s (advance t s) (fun b => b = getAnswer s r p) :=
  completesOk_of_done h
    (congrArg Host.Outcome.next (command_done h (Nat.zero_le _) (Nat.le_of_lt_succ h.1) (Nat.zero_le _) (by omega) (by simp [lenEq, hlen])
      (paramGetBody_done hrow hscope hn hcopy hz)))
    rfl (by rw [length_getAnswer]; omega)

/-! ### PARAM_LIST -/

@[simp] theorem length_listEntry (s : State) (p : PRow) : (listEntry s p).length = 16 := by
  simp [listEntry]

/-- The rows that PARAM_LIST is asked for. -/
def listed (r : Req) : List PRow :=
  params.filter (fun p => decide (fld r.payload 0 2 ≤ p.id) && (fld r.payload 2 1 == 255 || p.id / 256 == fld r.payload 2 1))

/-- How many entries follow, and where the next request goes on. -/
def listHead (r : Req) : List Byte :=
  le 1 (min 14 (listed r).length) ++ le 1 0 ++ le 2 (match ((listed r).drop 14).head? with | some p => p.id | none => 0)

theorem paramListBody_done {op : Nat} {r : Req} {s : State} (hs : fld r.payload 2 1 ≤ 14 ∨ fld r.payload 2 1 = 255)
    (hz : fld r.payload 3 1 = 0) :
    paramListBody op r s = .done rOK (listHead r ++ ((listed r).take 14).flatMap (listEntry s)) s := by
  have hgood : ¬((14 < fld r.payload 2 1 ∧ fld r.payload 2 1 ≠ 255) ∨ fld r.payload 3 1 ≠ 0) := by omega
  unfold paramListBody
  dsimp only
  rw [if_neg hgood, List.length_take]
  rfl

@[simp] theorem length_listHead (r : Req) : (listHead r).length = 4 := by
  simp [listHead]

theorem length_listAnswer (r : Req) (s : State) :
    (listHead r ++ ((listed r).take 14).flatMap (listEntry s)).length = 4 + 16 * min 14 (listed r).length := by
  simp
  omega

theorem paramList_completes {t : Nat} {r : Req} {s : State} (h : Ready r s) (hlen : r.payload.length = 4)
    (hs : fld r.payload 2 1 ≤ 14 ∨ fld r.payload 2 1 = 255) (hz : fld r.payload 3 1 = 0) :
    CompletesOk (.paramList t r) r 0x0004 s (advance t s)
      (fun b => b.length = 4 + 16 * min 14 (listed r).length ∧ b.take 4 = listHead r) :=
  completesOk_of_done h
    (congrArg Host.Outcome.next (command_done h (Nat.zero_le _) (Nat.le_of_lt_succ h.1) (Nat.zero_le _) (by omega) (by simp [lenEq, hlen])
      (paramListBody_done hs hz)))
    ⟨length_listAnswer r _, List.take_left' (length_listHead r)⟩ (by rw [length_listAnswer]; omega)

end Sys2Proof.Machine
end

section
/-! SUPPORT. What the units do that use an immediate parameter as it is written (R7): they touch themselves, the log and the interrupt
controller. -/

namespace Sys2Proof.Machine

/-- `u` differs from `s` in the event log, ATTENTION, the interrupt controller, the shadow and the units that immediate parameters act on alone. -/
def UnitsAct (s u : State) : Prop := u = { logOf s u with
  ic := u.ic, par := { s.par with shadow := u.par.shadow }, amb := u.amb, hlt := u.hlt, lan := { s.lan with ch := u.lan.ch }, rng := u.rng
  sch := u.sch, sns := u.sns, srv := u.srv, str := { s.str with paths := u.str.paths }, tim := u.tim }

theorem UnitsAct.refl (s : State) : UnitsAct s s := rfl

theorem UnitsAct.trans {s u v : State} (h : UnitsAct s u) (g : UnitsAct u v) : UnitsAct s v := by
  unfold UnitsAct at h g ⊢
  rw [h] at g
  exact g

/-- The same, its first part seen last. -/
theorem UnitsAct.after {s u v : State} (g : UnitsAct u v) (h : UnitsAct s u) : UnitsAct s v := h.trans g

theorem LogOnly.unitsAct {s u : State} (h : LogOnly s u) : UnitsAct s u := by
  unfold LogOnly at h
  rw [h]
  rfl

theorem unitsAct_foldl {α : Type} {f : State → α → State} (h : ∀ s a, UnitsAct s (f s a)) (l : List α) (s : State) :
    UnitsAct s (l.foldl f s) := by
  induction l generalizing s with
  | nil => rfl
  | cons a l ih => exact (h s a).trans (ih _)

theorem unitsAct_ite {c : Prop} [Decidable c] {s a b : State} (ha : UnitsAct s a) (hb : UnitsAct s b) : UnitsAct s (if c then a else b) := by
  split
  · exact ha
  · exact hb

theorem irqOpen_unitsAct (n : Nat) (s : State) : UnitsAct s (irqOpen n s) := by
  rw [irqOpen_ic]
  rfl

/-! ### Lanes (R377 to R399) -/

theorem updCapacity_unitsAct (s : State) : UnitsAct s (updCapacity s) := by
  refine unitsAct_foldl (fun s p => ?_) _ s
  dsimp only
  split
  · rfl
  · exact (irqOpen_unitsAct _ _).after ((logEv_logOnly _ _ _).unitsAct.after rfl)

theorem setLane_unitsAct (s : State) (l : Nat) (x : Lane) : UnitsAct s (setLane s l x) := rfl

theorem laneErrors_unitsAct (l lo hi : Nat) (s : State) : UnitsAct s (laneErrors l lo hi s) := rfl

theorem laneSettle_unitsAct (l : Nat) (s : State) : UnitsAct s (laneSettle l s) := by
  have hw : UnitsAct s (laneWords l s) := by
    unfold laneWords
    dsimp only
    split <;> rfl
  unfold laneSettle
  refine UnitsAct.after (setLane_unitsAct _ _ _) (UnitsAct.after ?_ hw)
  exact unitsAct_ite (laneErrors_unitsAct _ _ _ _) (.refl _)

theorem laneDownEv_unitsAct (l : Nat) (reason : Option Nat) (s : State) : UnitsAct s (laneDownEv l reason s) := by
  unfold laneDownEv
  refine (wrapEv_logOnly _ _ _ _ _).unitsAct.after ((logEv_logOnly _ _ _).unitsAct.after ?_)
  cases reason <;> rfl

theorem timeState_unitsAct (n : Nat) (s : State) : UnitsAct s (timeState n s) := by
  unfold timeState
  split
  · rfl
  · exact (logEv_logOnly _ _ _).unitsAct.after rfl

theorem timeLink_unitsAct (s : State) : UnitsAct s (timeLink s) := rfl

theorem timeHoldover_unitsAct (s : State) : UnitsAct s (timeHoldover s) := by
  unfold timeHoldover
  exact unitsAct_ite ((timeState_unitsAct _ _).after rfl) rfl

theorem laneTo_unitsAct (l : Nat) (reason : Option Nat) (f : Lane → Lane) (s : State) : UnitsAct s (laneTo l reason f s) := by
  unfold laneTo
  refine UnitsAct.after (updCapacity_unitsAct _) ?_
  refine UnitsAct.after (unitsAct_ite (UnitsAct.after (timeHoldover_unitsAct _) (timeLink_unitsAct _)) (.refl _)) ?_
  refine UnitsAct.after (irqOpen_unitsAct _ _) (UnitsAct.after (unitsAct_ite (laneDownEv_unitsAct _ _ _) (.refl _)) ?_)
  refine UnitsAct.after (unitsAct_ite (.refl _) (logEv_logOnly _ _ _).unitsAct) ?_
  exact UnitsAct.after (setLane_unitsAct _ _ _) (laneSettle_unitsAct _ _)

theorem laneFec_unitsAct (l code : Nat) (s : State) : UnitsAct s (laneFec l code s).2 := by
  unfold laneFec
  repeat' split
  all_goals rfl

theorem laneTrain_unitsAct (l code : Nat) (reason : Option Nat) (s : State) : UnitsAct s (laneTrain l code reason s) := by
  unfold laneTrain
  exact (laneTo_unitsAct _ _ _ _).after (laneFec_unitsAct l code s)

theorem laneNegotiate_unitsAct (l : Nat) (reason : Option Nat) (s : State) : UnitsAct s (laneNegotiate l reason s) := by
  unfold laneNegotiate
  exact unitsAct_ite ((laneTrain_unitsAct _ _ _ _).after (laneTo_unitsAct _ _ _ _)) (laneTo_unitsAct _ _ _ _)

theorem laneEnable_unitsAct (l : Nat) (same : Bool) (s : State) : UnitsAct s (laneEnable l same s) := by
  unfold laneEnable
  exact unitsAct_ite (unitsAct_ite rfl (laneTo_unitsAct _ _ _ _)) (unitsAct_ite (laneTo_unitsAct _ _ _ _) rfl)

theorem laneLimits_unitsAct (l : Nat) (s : State) : UnitsAct s (laneLimits l s) := by
  unfold laneLimits
  exact unitsAct_ite ((laneNegotiate_unitsAct _ _ _).after (setLane_unitsAct _ _ _)) rfl

/-! ### The other units -/

theorem ringEnable_unitsAct (s : State) : UnitsAct s (ringEnable s) := by
  unfold ringEnable
  exact unitsAct_ite rfl (unitsAct_ite rfl rfl)

theorem updCaps_unitsAct (s : State) : UnitsAct s (updCaps s) := by
  unfold updCaps
  exact unitsAct_ite rfl ((logEv_logOnly _ _ _).unitsAct.after rfl)

theorem applyThrottle_unitsAct (s : State) : UnitsAct s (applyThrottle s) :=
  UnitsAct.after (updCaps_unitsAct _) rfl

theorem setTarget_unitsAct (n : Nat) (s : State) : UnitsAct s (setTarget n s) := by
  unfold setTarget
  refine unitsAct_ite rfl ?_
  refine UnitsAct.after (unitsAct_ite (.refl _) (applyThrottle_unitsAct _)) ?_
  exact (wrapEv_logOnly _ _ _ _ _).unitsAct.after ((logEv_logOnly _ _ _).unitsAct.after rfl)

theorem hostStep_unitsAct (s : State) : UnitsAct s (hostStep s) := by
  unfold hostStep
  exact unitsAct_ite rfl ((setTarget_unitsAct _ _).after rfl)

theorem restartMarks_unitsAct (n : Nat) (s : State) : UnitsAct s (restartMarks n s) := by
  unfold restartMarks
  dsimp only
  repeat' split
  all_goals rfl

theorem tpRestart_unitsAct (p : Nat) (same : Bool) (s : State) : UnitsAct s (tpRestart p same s) := by
  unfold tpRestart
  refine UnitsAct.after (unitsAct_ite (.refl _) (unitsAct_foldl (fun s n => restartMarks_unitsAct n s) _ _)) ?_
  rfl

theorem timeFree_unitsAct (s : State) : UnitsAct s (timeFree s) :=
  (timeState_unitsAct 0 _).after rfl

theorem handTarget_unitsAct (n : Nat) (x : Int) (s : State) : UnitsAct s (handTarget n x s) := rfl

/-- What follows an immediate write in its unit. -/
theorem imEffect_unitsAct (id i v : Nat) (same : Bool) (s : State) : UnitsAct s (imEffect id i v same s) := by
  unfold imEffect
  refine unitsAct_ite (laneEnable_unitsAct ..) (unitsAct_ite (laneLimits_unitsAct ..) (unitsAct_ite (ringEnable_unitsAct ..) ?_))
  refine unitsAct_ite (hostStep_unitsAct ..) (unitsAct_ite (handTarget_unitsAct ..) (unitsAct_ite (tpRestart_unitsAct ..) ?_))
  exact unitsAct_ite rfl (unitsAct_ite (timeFree_unitsAct ..) (unitsAct_ite (timeLink_unitsAct ..) (unitsAct_ite rfl rfl)))

theorem setAmbRod_unitsAct (s : State) (r : Nat) (x : AmbRod) : UnitsAct s (setAmbRod s r x) := rfl

theorem planCopy_unitsAct (mode : Nat) (s : State) : UnitsAct s (planCopy mode s) := by
  unfold planCopy
  exact unitsAct_ite rfl rfl

/-- What follows a change of a service's mode. -/
theorem modeChange_unitsAct (id v : Nat) (s : State) : UnitsAct s (modeChange id v s) := by
  unfold modeChange
  refine unitsAct_ite (UnitsAct.after (unitsAct_ite (unitsAct_foldl (fun s r => setAmbRod_unitsAct s r _) _ _) (.refl _)) ?_)
    (unitsAct_ite rfl (unitsAct_ite (planCopy_unitsAct v s) rfl))
  rfl

end Sys2Proof.Machine
end

section
/-! SUPPORT. PARAM_SET (R7, R459): what one written value and a run of them leave, and the clauses of O52. -/

namespace Sys2Proof.Machine

/-! ### One value -/

theorem pKey_inj {id i j : Nat} : pKey id i = pKey id j ↔ i = j :=
  Nat.add_left_cancel_iff

/-- A frame-synchronous value goes into the shadow. -/
theorem writeVal_shadow {p : PRow} (hc : p.cls = 0) (i v : Nat) (s : State) :
    writeVal p i v s = { s with par.shadow := (writeVal p i v s).par.shadow } := by
  unfold writeVal
  dsimp only
  rw [if_pos hc]

theorem writeVal_shadow_vals {p : PRow} (hc : p.cls = 0) (i v : Nat) (s : State) :
    (writeVal p i v s).par.shadow.vals = tput none s.par.shadow.vals (pKey p.id i) (some v) := by
  unfold writeVal
  dsimp only
  rw [if_pos hc]

/-- A boot-only value is stored for the next boot. -/
theorem writeVal_boot {p : PRow} (hc : p.cls = 2) (i v : Nat) (s : State) :
    writeVal p i v s = { s with par.bo := tput none s.par.bo (pKey p.id i) (some v) } := by
  unfold writeVal
  dsimp only
  rw [if_neg (by omega), if_pos hc]

/-- An immediate value is in force when its unit acts on it. -/
def putIm (p : PRow) (i v : Nat) (s : State) : State := { s with par.im := tput none s.par.im (pKey p.id i) (some v) }

theorem writeVal_immediate {p : PRow} (h0 : p.cls ≠ 0) (h2 : p.cls ≠ 2) (i v : Nat) (s : State) :
    writeVal p i v s = imEffect p.id i v (par s p.id i == v)
      (if par s p.id i = v then putIm p i v s else modeChange p.id v (putIm p i v s)) := by
  unfold writeVal
  dsimp only
  rw [if_neg h0, if_neg h2]
  rfl

theorem writeVal_unitsAct {p : PRow} (h0 : p.cls ≠ 0) (h2 : p.cls ≠ 2) (i v : Nat) (s : State) : UnitsAct (putIm p i v s) (writeVal p i v s) := by
  rw [writeVal_immediate h0 h2]
  exact UnitsAct.after (imEffect_unitsAct _ _ _ _ _) (unitsAct_ite (.refl _) (modeChange_unitsAct _ _ _))

theorem UnitsAct.im {s u : State} (h : UnitsAct s u) : u.par.im = s.par.im := by
  rw [h]

/-- The parameters whose write a unit acts on at once, or that are a service's mode. -/
def ActsAtOnce (id : Nat) : Prop :=
  [pLaneEnable, pLaneMaxRate, pLaneMinRate, pRingEnable, pHealthThermalMode, pHealthThrottleStep, pServoSetpoint,
    pTpSource, pTimeSource, pTimePort, pTimeDomain, pCoincAdaptMode, pIfmMode, pPlanMode].contains id = true
  ∨ (pSenseCicDecimation ≤ id ∧ id ≤ pSenseShifts)

/-- The write of any other immediate value ends there. -/
theorem writeVal_quiet {p : PRow} (h0 : p.cls ≠ 0) (h2 : p.cls ≠ 2) (hq : ¬ActsAtOnce p.id) (i v : Nat) (s : State) :
    writeVal p i v s = putIm p i v s := by
  simp only [ActsAtOnce, List.contains_eq_mem, decide_eq_true_eq, List.mem_cons, List.not_mem_nil, or_false, not_or] at hq
  rw [writeVal_immediate h0 h2]
  simp [imEffect, modeChange, hq]

/-! ### A run of values -/

/-- The values of a PARAM_SET, written one after the other. -/
def writeAll (p : PRow) (pairs : List (Nat × Nat)) (s : State) : State := pairs.foldl (fun s q => writeVal p q.1 q.2 s) s

/-- What is written reads back, wherever a written value is kept and one index is given one value alone. -/
theorem tget_writeAll {g : State → Tab (Option Nat)} {p : PRow}
    (hg : ∀ i v s, g (writeVal p i v s) = tput none (g s) (pKey p.id i) (some v)) {i v : Nat} (pairs : List (Nat × Nat)) (s : State)
    (hu : ∀ q ∈ pairs, q.1 = i → q.2 = v) (hv : (i, v) ∈ pairs ∨ tget none (g s) (pKey p.id i) = some v) :
    tget none (g (writeAll p pairs s)) (pKey p.id i) = some v := by
  induction pairs generalizing s with
  | nil => exact hv.resolve_left List.not_mem_nil
  | cons q pairs ih =>
    refine ih _ (fun x hx => hu x (List.mem_cons_of_mem _ hx)) ?_
    rw [hg, tget_tput]
    by_cases hq : q.1 = i
    · exact .inr (by rw [if_pos (pKey_inj.2 hq.symm), hu q List.mem_cons_self hq])
    · rw [if_neg (fun h => hq (pKey_inj.1 h).symm)]
      exact hv.imp_left fun hm => (List.mem_cons.1 hm).resolve_left fun h => hq (by rw [← h])

/-- What each write leaves as it was, a run of writes does. -/
theorem writeAll_related {R : State → State → Prop} (hr : ∀ s, R s s) (ht : ∀ s u v, R s u → R u v → R s v) {p : PRow}
    (h : ∀ i v s, R s (writeVal p i v s)) (pairs : List (Nat × Nat)) (s : State) : R s (writeAll p pairs s) :=
  List.foldlRecOn (motive := R s) pairs _ (hr s) fun u hu q _ => ht s u _ hu (h q.1 q.2 u)

theorem writeAll_shadow {p : PRow} (hc : p.cls = 0) (pairs : List (Nat × Nat)) (s : State) :
    writeAll p pairs s = { s with par.shadow := (writeAll p pairs s).par.shadow } :=
  writeAll_related (R := fun s u => u = { s with par.shadow := u.par.shadow }) (fun _ => rfl)
    (fun s u v h g => by rw [h] at g; exact g) (writeVal_shadow hc) pairs s

theorem writeAll_boot {p : PRow} (hc : p.cls = 2) (pairs : List (Nat × Nat)) (s : State) :
    writeAll p pairs s = { s with par.bo := (writeAll p pairs s).par.bo } :=
  writeAll_related (R := fun s u => u = { s with par.bo := u.par.bo }) (fun _ => rfl)
    (fun s u v h g => by rw [h] at g; exact g) (fun i v s => by rw [writeVal_boot hc]) pairs s

theorem writeAll_quiet {p : PRow} (h0 : p.cls ≠ 0) (h2 : p.cls ≠ 2) (hq : ¬ActsAtOnce p.id) (pairs : List (Nat × Nat)) (s : State) :
    writeAll p pairs s = { s with par.im := (writeAll p pairs s).par.im } :=
  writeAll_related (R := fun s u => u = { s with par.im := u.par.im }) (fun _ => rfl)
    (fun s u v h g => by rw [h] at g; exact g) (fun i v s => by rw [writeVal_quiet h0 h2 hq]; rfl) pairs s

theorem writeAll_unitsAct {p : PRow} (h0 : p.cls ≠ 0) (h2 : p.cls ≠ 2) (pairs : List (Nat × Nat)) (s : State) :
    UnitsAct { s with par.im := (writeAll p pairs s).par.im } (writeAll p pairs s) :=
  writeAll_related (R := fun s u => UnitsAct { s with par.im := u.par.im } u) (fun _ => rfl)
    (fun s u v h g => by unfold UnitsAct at h g ⊢; rw [h] at g; exact g)
    (fun i v s => by
      have h := writeVal_unitsAct h0 h2 i v s
      rw [h.im]
      exact h) pairs s

/-! ### The body -/

/-- The answer's fields: parameter, index, count and whether a boot is awaited (R459). -/
def setAnswer (r : Req) (p : PRow) (cnt : Nat) : List Byte :=
  le 2 (fld r.payload 0 2) ++ le 2 (fld r.payload 2 2) ++ le 2 cnt ++ le 2 (b2n (p.cls == 2))

@[simp] theorem length_setAnswer (r : Req) (p : PRow) (cnt : Nat) : (setAnswer r p cnt).length = 8 := by
  simp [setAnswer]

/-- The indices that a PARAM_SET names, and the value of each. -/
def setIdx (r : Req) : List Nat := (List.range (fld r.payload 4 2)).map (fld r.payload 2 2 + ·)
def setVals (r : Req) : List Nat := (List.range (fld r.payload 4 2)).map (fun k => fld r.payload (8 + 8 * k) 8)
def setPairs (r : Req) : List (Nat × Nat) :=
  (List.range (fld r.payload 4 2)).map (fun k => (fld r.payload 2 2 + k, fld r.payload (8 + 8 * k) 8))

theorem paramSetBody_owned {op : Nat} {r : Req} {p : PRow} {s : State} (hrow : paramRow (fld r.payload 0 2) = some p)
    (ho : ownedNow s (fld r.payload 0 2) = true) : paramSetBody op r s = .done rNotPermitted [] s := by
  unfold paramSetBody
  dsimp only
  rw [hrow]
  exact if_pos (.inl ho)

theorem ownedNow_of_setBarred {s : State} {id : Nat} {idx vals : List Nat} (hb : setBarred s id idx vals = false) : ownedNow s id = false := by
  rw [setBarred, Bool.or_assoc, Bool.or_eq_false_iff] at hb
  exact hb.1

/-- Values for indices of a scope that are not barred: judged, then written. -/
theorem paramSetBody_indexed {op : Nat} {r : Req} {p : PRow} {s : State} (hrow : paramRow (fld r.payload 0 2) = some p)
    (hscope : inScope p (fld r.payload 2 2) (fld r.payload 4 2) = true) (hn : fld r.payload 4 2 ≤ 29) (hz : fld r.payload 6 2 = 0)
    (hi : fld r.payload 2 2 ≠ 0xFFFF) (hb : setBarred s (fld r.payload 0 2) (setIdx r) (setVals r) = false) :
    paramSetBody op r s = if (setPairs r).all (fun q => inRange p q.2 && valueFits s (fld r.payload 0 2) q.1 q.2) = false
      then .done rRange (setAnswer r p 0) s else .done rOK (setAnswer r p (fld r.payload 4 2)) (writeAll p (setPairs r) s) := by
  have ho := ownedNow_of_setBarred hb
  unfold paramSetBody
  dsimp only
  rw [hrow]
  simp only [hi, if_false, hscope, ho, true_and]
  rw [if_neg (by rw [setIdx, setVals] at hb; simp [hb]), if_neg (by simp [hn, hz]), List.zip_map']
  simp only [List.length_map, List.length_range]
  rfl

/-- One value for every index of a scope. -/
theorem paramSetBody_every {op : Nat} {r : Req} {p : PRow} {s : State} (hrow : paramRow (fld r.payload 0 2) = some p)
    (hn : fld r.payload 4 2 = 1) (hz : fld r.payload 6 2 = 0) (hi : fld r.payload 2 2 = 0xFFFF)
    (hb : setBarred s (fld r.payload 0 2) ((List.range p.count).map (p.first + ·)) [fld r.payload 8 8] = false)
    (hr : inRange p (fld r.payload 8 8) = true)
    (hf : ∀ k ∈ (List.range p.count).map (p.first + ·), valueFits s (fld r.payload 0 2) k (fld r.payload 8 8) = true) :
    paramSetBody op r s = .done rOK (setAnswer r p p.count)
      (writeAll p (((List.range p.count).map (p.first + ·)).map (fun k => (k, fld r.payload 8 8))) s) := by
  have ho := ownedNow_of_setBarred hb
  unfold paramSetBody
  dsimp only
  rw [hrow]
  simp only [hi, if_true, hn, ho]
  rw [if_neg (by simpa using hb), if_neg (by simp [hz]), if_neg]
  · simp [setAnswer, writeAll, hi]
  · simpa [hr] using hf

/-! ### The command -/

/-- `s` with the immediate values, the shadow and the units of `u` that immediate values act on. -/
def unitsFrom (u s : State) : State := { s with
  par.im := u.par.im, par.shadow := u.par.shadow, amb := u.amb, hlt := u.hlt, lan.ch := u.lan.ch, rng := u.rng, sch := u.sch
  sns := u.sns, srv := u.srv, str.paths := u.str.paths, tim := u.tim }

theorem unitsFrom_deskOnly {k : Nat} {e u s : State} (h : DeskOnly k e u) : unitsFrom u s = unitsFrom e s := by
  rw [h.1]
  rfl

theorem deskOnly_unitsFrom {k : Nat} {s b e : State} (hs : DeskOnly k s b) (hx : UnitsAct { b with par.im := e.par.im } e)
    (hm : e.desk.mbs = b.desk.mbs) : DeskOnly k (unitsFrom e s) e := by
  obtain ⟨hb, hj⟩ := hs
  refine ⟨?_, fun j hne => Eq.trans (by unfold mb; rw [hm]) (hj j hne)⟩
  unfold UnitsAct at hx
  rw [hb] at hx
  rw [hm]
  exact hx

/-- No write touches a mailbox. -/
theorem writeAll_mbs (p : PRow) (pairs : List (Nat × Nat)) (s : State) : (writeAll p pairs s).desk.mbs = s.desk.mbs := by
  by_cases h0 : p.cls = 0
  · rw [writeAll_shadow h0]
  · by_cases h2 : p.cls = 2
    · rw [writeAll_boot h2]
    · rw [writeAll_unitsAct h0 h2]
      rfl

/-- A PARAM_SET whose values are written. -/
def setDone (t : Nat) (r : Req) (p : PRow) (pairs : List (Nat × Nat)) (cnt : Nat) (s : State) : State :=
  mbDone r.mb 0x0002 rOK r.tag (setAnswer r p cnt) (writeAll p pairs (started 0x0002 t r s))

section
variable (t : Nat) (r : Req) (p : PRow) (pairs : List (Nat × Nat)) (cnt : Nat) (s : State)

theorem writeAll_origin : (mb (writeAll p pairs (started 0x0002 t r s)) r.mb).origin = none :=
  (mb_origin_of_mbs (writeAll_mbs p pairs _)).trans (started_origin ..)

theorem setDone_answered : Answered r 0x0002 rOK (setAnswer r p cnt) (setDone t r p pairs cnt s) :=
  mbDone_answered r _ _ _ _ (writeAll_origin t r p pairs s) (.inl rfl) (by simp)

theorem setDone_deskOnly : DeskOnly r.mb (writeAll p pairs (started 0x0002 t r s)) (setDone t r p pairs cnt s) :=
  mbDone_deskOnly _ _ _ _ _ _ (writeAll_origin t r p pairs s)

theorem setDone_par : (setDone t r p pairs cnt s).par = (writeAll p pairs (started 0x0002 t r s)).par :=
  (setDone_deskOnly t r p pairs cnt s).par

end

section
variable {t : Nat} {r : Req} {p : PRow} {pairs : List (Nat × Nat)} {cnt : Nat} {s : State} (h : Ready r s)
include h

/-- Where the writes move the parameters alone, so does the command, but for the desk's own. -/
theorem setDone_parOnly {x : Par} (hx : writeAll p pairs (started 0x0002 t r s) = { started 0x0002 t r s with par := x }) :
    DeskOnly r.mb { advance t s with par := x } (setDone t r p pairs cnt s) :=
  ((started_deskOnly 0x0002 t r s h.2.2.2.2.2).withPar x).trans (hx ▸ setDone_deskOnly t r p pairs cnt s)

theorem setDone_shadow (hc : p.cls = 0) :
    DeskOnly r.mb { advance t s with par.shadow := (setDone t r p pairs cnt s).par.shadow } (setDone t r p pairs cnt s) := by
  have hx := writeAll_shadow hc pairs (started 0x0002 t r s)
  rw [started_par] at hx
  rw [setDone_par]
  exact setDone_parOnly h hx

theorem setDone_boot (hc : p.cls = 2) :
    DeskOnly r.mb { advance t s with par.bo := (setDone t r p pairs cnt s).par.bo } (setDone t r p pairs cnt s) := by
  have hx := writeAll_boot hc pairs (started 0x0002 t r s)
  rw [started_par] at hx
  rw [setDone_par]
  exact setDone_parOnly h hx

theorem setDone_quiet (hc : p.cls = 1) (hq : ¬ActsAtOnce p.id) :
    DeskOnly r.mb { advance t s with par.im := (setDone t r p pairs cnt s).par.im } (setDone t r p pairs cnt s) := by
  have hx := writeAll_quiet (by omega) (by omega) hq pairs (started 0x0002 t r s)
  rw [started_par] at hx
  rw [setDone_par]
  exact setDone_parOnly h hx

/-- An immediate write touches its units, the log and the interrupt controller besides. -/
theorem setDone_units (hc : p.cls = 1) :
    DeskOnly r.mb (unitsFrom (setDone t r p pairs cnt s) (advance t s)) (setDone t r p pairs cnt s) := by
  have hd := setDone_deskOnly t r p pairs cnt s
  rw [unitsFrom_deskOnly hd]
  exact (deskOnly_unitsFrom (started_deskOnly 0x0002 t r s h.2.2.2.2.2) (writeAll_unitsAct (p := p) (by omega) (by omega) pairs _)
    (writeAll_mbs p pairs _)).trans hd

end

/-- The value of one index reads back from where its class is kept. -/
theorem setDone_reads {t : Nat} {r : Req} {p : PRow} {pairs : List (Nat × Nat)} {cnt : Nat} {s : State} {i v : Nat} (hm : (i, v) ∈ pairs)
    (hu : ∀ q ∈ pairs, q.1 = i → q.2 = v) : let u := setDone t r p pairs cnt s
    (p.cls = 0 → tget none u.par.shadow.vals (pKey p.id i) = some v)
    ∧ (p.cls = 1 → tget none u.par.im (pKey p.id i) = some v)
    ∧ (p.cls = 2 → tget none u.par.bo (pKey p.id i) = some v) := by
  dsimp only
  rw [setDone_par]
  refine ⟨fun hc => ?_, fun hc => ?_, fun hc => ?_⟩
  · exact tget_writeAll (g := fun s => s.par.shadow.vals) (writeVal_shadow_vals hc) pairs _ hu (.inl hm)
  · refine tget_writeAll (g := fun s => s.par.im) (fun i v s => ?_) pairs _ hu (.inl hm)
    exact (writeVal_unitsAct (by omega) (by omega) i v s).im
  · refine tget_writeAll (g := fun s => s.par.bo) (fun i v s => ?_) pairs _ hu (.inl hm)
    rw [writeVal_boot hc]

/-! ### The clauses of PARAM_SET -/

section
variable {t : Nat} {r : Req} {p : PRow} {s : State} (h : Ready r s)
include h

/-- A PARAM_SET of the length its count gives answers with what its body gives. -/
theorem exec_paramSet {result : Nat} {b : List Byte} {e : State} (hlen : r.payload.length = 8 + 8 * fld r.payload 4 2)
    (hn : fld r.payload 4 2 ≤ 29) (hb : paramSetBody 0x0002 r (started 0x0002 t r s) = .done result b e) :
    exec (.paramSet t r) s = .next (mbDone r.mb 0x0002 result r.tag b e) :=
  congrArg Host.Outcome.next
    (command_done h (Nat.zero_le _) (Nat.le_of_lt_succ h.1) (Nat.zero_le _) (by omega) (by simp [hlen]) hb)

theorem paramSet_owned (hlen : r.payload.length = 8 + 8 * fld r.payload 4 2) (hn : fld r.payload 4 2 ≤ 29)
    (hrow : paramRow (fld r.payload 0 2) = some p) (ho : ownedNow s (fld r.payload 0 2) = true) :
    RefusedWith (.paramSet t r) r 0x0002 rNotPermitted t s :=
  refusedWith_of_done h (exec_paramSet h hlen hn (paramSetBody_owned hrow (by simpa using ho)))
    (mbDone_answered_empty r _ _ _ (started_origin ..))

section
variable (hlen : r.payload.length = 8 + 8 * fld r.payload 4 2) (hn : fld r.payload 4 2 ≤ 29) (hz : fld r.payload 6 2 = 0)
  (hrow : paramRow (fld r.payload 0 2) = some p) (hscope : inScope p (fld r.payload 2 2) (fld r.payload 4 2) = true)
  (hi : fld r.payload 2 2 ≠ 0xFFFF) (hb : setBarred s (fld r.payload 0 2) (setIdx r) (setVals r) = false)
include hlen hn hz hrow hscope hi hb

theorem paramSet_outOfRange (hbad : ∃ k, k < fld r.payload 4 2 ∧ (inRange p (fld r.payload (8 + 8 * k) 8) = false
      ∨ valueFits s (fld r.payload 0 2) (fld r.payload 2 2 + k) (fld r.payload (8 + 8 * k) 8) = false)) :
    RefusedWith (.paramSet t r) r 0x0002 rRange t s := by
  refine refusedWith_of_done h (exec_paramSet h hlen hn ?_) (mbDone_answered r _ _ _ _ (started_origin ..) (.inr (.inr (.inr rfl)))
    (by rw [length_setAnswer r p 0]; omega))
  rw [paramSetBody_indexed hrow hscope hn hz hi (by simpa using hb), if_pos]
  simpa [setPairs, or_iff_not_imp_left] using hbad

theorem paramSet_written (hgood : ∀ k, k < fld r.payload 4 2 → inRange p (fld r.payload (8 + 8 * k) 8) = true
      ∧ valueFits s (fld r.payload 0 2) (fld r.payload 2 2 + k) (fld r.payload (8 + 8 * k) 8) = true) :
    exec (.paramSet t r) s = .next (setDone t r p (setPairs r) (fld r.payload 4 2) s) := by
  refine exec_paramSet h hlen hn ?_
  rw [paramSetBody_indexed hrow hscope hn hz hi (by simpa using hb), if_neg]
  simpa [setPairs] using hgood

end

end

/-- The pairs of a PARAM_SET give each index its one value. -/
theorem setPairs_reads {t : Nat} {r : Req} {p : PRow} {cnt : Nat} {s : State} {k : Nat} (hk : k < fld r.payload 4 2) :
    let u := setDone t r p (setPairs r) cnt s
    let i := fld r.payload 2 2 + k
    let v := fld r.payload (8 + 8 * k) 8
    (p.cls = 0 → tget none u.par.shadow.vals (pKey p.id i) = some v)
    ∧ (p.cls = 1 → tget none u.par.im (pKey p.id i) = some v)
    ∧ (p.cls = 2 → tget none u.par.bo (pKey p.id i) = some v) := by
  refine setDone_reads (List.mem_map.2 ⟨k, List.mem_range.2 hk, rfl⟩) fun q hq hqi => ?_
  obtain ⟨j, -, rfl⟩ := List.mem_map.1 hq
  rw [Nat.add_left_cancel hqi]

/-- One value for every index of a frame-synchronous parameter is written at each. -/
theorem paramSet_every {t : Nat} {r : Req} {p : PRow} {s : State} (h : Ready r s) (hlen : r.payload.length = 16)
    (hi : fld r.payload 2 2 = 0xFFFF) (hn : fld r.payload 4 2 = 1) (hz : fld r.payload 6 2 = 0)
    (hrow : paramRow (fld r.payload 0 2) = some p) (hc : p.cls = 0)
    (hb : setBarred s (fld r.payload 0 2) ((List.range p.count).map (p.first + ·)) [fld r.payload 8 8] = false)
    (hr : inRange p (fld r.payload 8 8) = true)
    (hf : ∀ k ∈ (List.range p.count).map (p.first + ·), valueFits s (fld r.payload 0 2) k (fld r.payload 8 8) = true) :
    Runs (.paramSet t r) s (fun u => Answered r 0x0002 rOK (le 2 (fld r.payload 0 2) ++ le 2 0xFFFF ++ le 2 p.count ++ le 2 0) u
      ∧ (∀ k ∈ (List.range p.count).map (p.first + ·), tget none u.par.shadow.vals (pKey (fld r.payload 0 2) k) = some (fld r.payload 8 8))
      ∧ DeskOnly r.mb { advance t s with par.shadow := u.par.shadow } u) := by
  have hans := setDone_answered t r p (((List.range p.count).map (p.first + ·)).map (fun k => (k, fld r.payload 8 8))) p.count s
  simp only [setAnswer, hi, hc] at hans
  refine ⟨_, exec_paramSet h (by omega) (by omega) (paramSetBody_every hrow hn hz hi (by simpa using hb) hr (by simpa using hf)),
    hans, fun k hk => ?_, setDone_shadow h hc⟩
  have hread := (setDone_reads (t := t) (r := r) (p := p) (cnt := p.count) (s := s)
    (List.mem_map_of_mem (f := fun k => (k, fld r.payload 8 8)) hk) fun q hq _ => ?_).1 hc
  · rwa [paramRow_id hrow] at hread
  · obtain ⟨j, -, rfl⟩ := List.mem_map.1 hq
    rfl

/-- Settles O52: a read of a copy, a write of indices and of a whole scope, and the list. -/
theorem parameterAccess : Obligations.ParameterAccess := by
  unfold Obligations.ParameterAccess
  refine ⟨fun t r p s h hlen hrow hscope hn hcopy hz => paramGet_completes h hlen hrow hscope hn hcopy hz,
    fun t r p s h hlen hn hz hrow hscope hin => ⟨paramSet_owned h hlen hn hrow, fun hb => ⟨?_, fun hgood => ?_⟩⟩,
    fun t r p s h hlen hi hn hz hrow hc hb hr hf => paramSet_every h hlen hi hn hz hrow hc hb hr hf,
    fun t r s h hlen hs hz => paramList_completes h hlen hs hz⟩
  · exact paramSet_outOfRange h hlen hn hz hrow hscope (by omega) hb
  · refine ⟨_, paramSet_written h hlen hn hz hrow hscope (by omega) hb hgood, setDone_answered .., fun k hk => ?_, setDone_shadow h,
      setDone_boot h, setDone_units h, fun hc hq => setDone_quiet h hc (by rwa [ActsAtOnce, paramRow_id hrow])⟩
    have hread := setPairs_reads (t := t) (p := p) (cnt := fld r.payload 4 2) (s := s) hk
    rwa [paramRow_id hrow] at hread

end Sys2Proof.Machine
end

section
/-! SUPPORT. The invariant (Safety.lean) as a predicate that every operation keeps, one lemma per operation in the order of the model's files, and
O4. `Sound φ` is the invariant with its emission clause (R271) under the hypothesis `φ`: while an operation has written a state that does not emit
and Nerrak has not answered yet, `Sound False` holds, and Nerrak's update gives `Sound φ` again (`sound_nkUpdate_of_false`). -/

namespace Sys2Proof.Machine

/-- The invariant of the fields that it speaks of. -/
def SoundOf (φ : Prop) (a b : Bool) (st : Nat) (events : List Ev) (attention : Word) (from_ : Nat) (mem slotA slotB : List Host.Cell) : Prop :=
  a = b ∧ (φ → a = true → st = 3 ∨ st = 4 ∨ st = 5) ∧ (events ≠ [] → attention.getLsbD 8 = true) ∧ events.length ≤ 1024
    ∧ (st ≤ 7 ∧ from_ ≤ 7) ∧ Memory.wf 0 mem = true ∧ Memory.wf 0xFF#8 slotA = true ∧ Memory.wf 0xFF#8 slotB = true

/-- The invariant, with its emission clause claimed only under `φ`. -/
def Sound (φ : Prop) (s : State) : Prop :=
  SoundOf φ s.pins.lsrA s.pins.lsrB s.desk.st s.desk.events s.desk.attention s.rst.from_ s.mem.bytes s.nv.slotA s.nv.slotB

variable {φ : Prop}

@[simp] theorem sound_mk {wall dev free pins nv desk par ch capture amb tal ext sch srv sns nk cal str tim mot lan twn rng ic dma mem lgb hlt
    rst tap pending} :
    Sound φ ⟨wall, dev, free, pins, nv, desk, par, ch, capture, amb, tal, ext, sch, srv, sns, nk, cal, str, tim, mot, lan, twn, rng, ic, dma, mem,
      lgb, hlt, rst, tap, pending⟩
      = SoundOf φ pins.lsrA pins.lsrB desk.st desk.events desk.attention rst.from_ mem.bytes nv.slotA nv.slotB := (rfl)

@[simp] theorem sound_fold (s : State) :
    SoundOf φ s.pins.lsrA s.pins.lsrB s.desk.st s.desk.events s.desk.attention s.rst.from_ s.mem.bytes s.nv.slotA s.nv.slotB = Sound φ s := (rfl)

@[simp] theorem sound_ite (c : Prop) [Decidable c] (s u : State) : Sound φ (if c then s else u) = if c then Sound φ s else Sound φ u :=
  apply_ite (Sound φ) c s u
@[simp] theorem sound_snd_ite {α : Type} (c : Prop) [Decidable c] (a b : α × State) :
    Sound φ (if c then a else b).2 = if c then Sound φ a.2 else Sound φ b.2 :=
  apply_ite (fun q => Sound φ q.2) c a b

theorem sound_branches {c : Prop} [Decidable c] {a b : State} (ha : Sound φ a) (hb : Sound φ b) :
    Sound φ (if c then a else b) := by
  split
  · exact ha
  · exact hb

theorem sound_snd_branches {α : Type} {c : Prop} [Decidable c] {a b : α × State} (ha : Sound φ a.2) (hb : Sound φ b.2) :
    Sound φ (if c then a else b).2 := by
  split
  · exact ha
  · exact hb

theorem sound_state_branches {c : Prop} [Decidable c] {a b : CmdOut} (ha : Sound φ a.state) (hb : Sound φ b.state) :
    Sound φ (if c then a else b).state := by
  split
  · exact ha
  · exact hb

theorem foldl_holds {α β : Type} (m : β → Prop) {f : β → α → β} (h : ∀ b a, m b → m (f b a)) (l : List α) (b : β) (hb : m b) :
    m (l.foldl f b) := by
  induction l generalizing b with
  | nil => exact hb
  | cons a l ih => exact ih _ (h b a hb)

@[simp] theorem sound_foldl {α : Type} {f : State → α → State} (h : ∀ s a, Sound φ s → Sound φ (f s a)) (l : List α) (s : State) (hs : Sound φ s) :
    Sound φ (l.foldl f s) :=
  foldl_holds (Sound φ) h l s hs

theorem sound_iff (s : State) : Sound φ s ↔ s.pins.lsrA = s.pins.lsrB ∧ (φ → s.pins.lsrA = true → s.desk.st = 3 ∨ s.desk.st = 4 ∨ s.desk.st = 5)
    ∧ QueueOk s ∧ (s.desk.st ≤ 7 ∧ s.rst.from_ ≤ 7) ∧ Memory.wf 0 s.mem.bytes = true ∧ Memory.wf 0xFF#8 s.nv.slotA = true
    ∧ Memory.wf 0xFF#8 s.nv.slotB = true := by
  unfold Sound SoundOf QueueOk
  tauto

theorem Sound.weaken {s : State} {ψ : Prop} (h : Sound φ s) (hψ : ψ → φ) : Sound ψ s := by
  obtain ⟨h1, h2, h3⟩ := h
  exact ⟨h1, fun p => h2 (hψ p), h3⟩

theorem Sound.states {s : State} (h : Sound φ s) : s.desk.st ≤ 7 ∧ s.rst.from_ ≤ 7 := by
  obtain ⟨-, -, -, -, hs, -⟩ := h
  exact hs

/-- Changes of the log alone keep what does not speak of the queue. -/
theorem sound_of_logOnly {s u : State} (hl : LogOnly s u) (hq : QueueOk s → QueueOk u) (h : Sound φ s) : Sound φ u := by
  obtain ⟨h1, h2, h3, h4, h5, h6, h7⟩ := (sound_iff s).1 h
  have hu : u = logOf s u := hl
  have hv : u.pins.lsrA = s.pins.lsrA ∧ u.pins.lsrB = s.pins.lsrB ∧ u.desk.st = s.desk.st ∧ u.rst = s.rst ∧ u.mem = s.mem ∧ u.nv = s.nv := by
    rw [hu]
    exact ⟨rfl, rfl, rfl, rfl, rfl, rfl⟩
  obtain ⟨e1, e2, e3, e4, e5, e6⟩ := hv
  rw [sound_iff, e1, e2, e3, e4, e5, e6]
  exact ⟨h1, h2, hq h3, h4, h5, h6, h7⟩

@[simp] theorem setMb_desk_st (s k m) : (setMb s k m).desk.st = s.desk.st := (rfl)
@[simp] theorem setMb_desk_events (s k m) : (setMb s k m).desk.events = s.desk.events := (rfl)
@[simp] theorem setMb_desk_attention (s k m) : (setMb s k m).desk.attention = s.desk.attention := (rfl)

@[simp] theorem sound_freeBytes (n s) (h : Sound φ s) : Sound φ (freeBytes n s).2 := by
  induction n generalizing s with
  | zero => exact h
  | succ n ih => simp [freeBytes, ih, h]

/-! ### Ops.lean -/

@[simp] theorem sound_freeVal (n s) (h : Sound φ s) : Sound φ (freeVal n s).2 := by simp [freeVal, h]
@[simp] theorem sound_setCh (s c v) (h : Sound φ s) : Sound φ (setCh s c v) := by simp [setCh, h]
@[simp] theorem sound_setMb (s k m) (h : Sound φ s) : Sound φ (setMb s k m) := by simp [setMb, h]
@[simp] theorem sound_setAmbRod (s r v) (h : Sound φ s) : Sound φ (setAmbRod s r v) := by simp [setAmbRod, h]
@[simp] theorem sound_setPage (s k v) (h : Sound φ s) : Sound φ (setPage s k v) := by simp [setPage, h]
@[simp] theorem sound_setTalRod (s r v) (h : Sound φ s) : Sound φ (setTalRod s r v) := by simp [setTalRod, h]
@[simp] theorem sound_setTalDeck (s d v) (h : Sound φ s) : Sound φ (setTalDeck s d v) := by simp [setTalDeck, h]
@[simp] theorem sound_setExtDeck (s d v) (h : Sound φ s) : Sound φ (setExtDeck s d v) := by simp [setExtDeck, h]
@[simp] theorem sound_setStrng (s i v) (h : Sound φ s) : Sound φ (setStrng s i v) := by simp [setStrng, h]
@[simp] theorem sound_attnUpdate (was safety s) (h : Sound φ s) : Sound φ (attnUpdate was safety s) := by simp [attnUpdate, h]

@[simp] theorem sound_attnRaise (bits s) (h : Sound φ s) : Sound φ (attnRaise bits s) :=
  sound_of_logOnly (attnRaise_logOnly bits s) (attnRaise_queueOk bits) h

@[simp] theorem sound_attnSet (bits s) (h : Sound φ s) : Sound φ (attnSet bits s) := by simp [attnSet, h]

@[simp] theorem sound_pushEv (code data s) (h : Sound φ s) : Sound φ (pushEv code data s) :=
  sound_of_logOnly (pushEv_logOnly code data s) (pushEv_queueOk code data) h

@[simp] theorem sound_countEv (code data s) (h : Sound φ s) : Sound φ (countEv code data s) := by simp [countEv, h]
@[simp] theorem sound_pushLost (s) (h : Sound φ s) : Sound φ (pushLost s) := by simp [pushLost, h]

@[simp] theorem sound_logNow (code data s) (h : Sound φ s) : Sound φ (logNow code data s) := by
  unfold logNow
  apply sound_attnRaise
  simp [h]

@[simp] theorem sound_logEv (code data s) (h : Sound φ s) : Sound φ (logEv code data s) := by simp [logEv, h]
@[simp] theorem sound_wrapEv (old k code data s) (h : Sound φ s) : Sound φ (wrapEv old k code data s) := by simp [wrapEv, h]
@[simp] theorem sound_setIcSrc (s n v) (h : Sound φ s) : Sound φ (setIcSrc s n v) := by simp [setIcSrc, h]
@[simp] theorem sound_icLine (s) (h : Sound φ s) : Sound φ (icLine s) := by simp [icLine, h]
@[simp] theorem sound_icPend (n s) (h : Sound φ s) : Sound φ (icPend n s) := by simp [icPend, h]
@[simp] theorem sound_icWake (s) (h : Sound φ s) : Sound φ (icWake s) := by simp [icWake, h]
@[simp] theorem sound_icCount (n s) (h : Sound φ s) : Sound φ (icCount n s) := by simp [icCount, h]

@[simp] theorem sound_irqNow (n s) (h : Sound φ s) : Sound φ (irqNow n s) := by
  unfold irqNow
  apply sound_icPend
  simp [h]

@[simp] theorem sound_irq (n s) (h : Sound φ s) : Sound φ (irq n s) := by simp [irq, h]
@[simp] theorem sound_irqLevel (n on s) (h : Sound φ s) : Sound φ (irqLevel n on s) := by simp [irqLevel, h]
@[simp] theorem sound_irqOpen (n s) (h : Sound φ s) : Sound φ (irqOpen n s) := by simp [irqOpen, h]

@[simp] theorem sound_mbDone (k op result tag payload s) (h : Sound φ s) : Sound φ (mbDone k op result tag payload s) := by
  unfold mbDone
  dsimp only
  split
  · apply sound_attnSet
    simp [h]
  · simp [h]

@[simp] theorem sound_mbOverrun (k inBand s) (h : Sound φ s) : Sound φ (mbOverrun k inBand s) := by simp [mbOverrun, h]
@[simp] theorem sound_mbRing (k bytes o s) (h : Sound φ s) : Sound φ (mbRing k bytes o s) := by simp [mbRing, h]

@[simp] theorem sound_refuseBytes (l s) (h : Sound φ s) : Sound φ (refuseBytes l s).2 := by
  unfold refuseBytes
  split
  · simp [h]
  · dsimp only
    apply sound_refuseBytes
    split <;> simp [h]

@[simp] theorem sound_refuse (result l s) (h : Sound φ s) : Sound φ (refuse result l s).state := by simp [refuse, h]

@[simp] theorem sound_answerReserved (n s) (h : Sound φ s) : Sound φ (answerReserved n s) := by
  unfold answerReserved
  split
  · simp [h]
  · split
    · simp [h]
    · dsimp only
      refine sound_branches (by simp [h]) ?_
      apply sound_answerReserved
      simp [h]

/-! ### Stream.lean -/

@[simp] theorem sound_setLane (s l v) (h : Sound φ s) : Sound φ (setLane s l v) := by simp [setLane, h]
@[simp] theorem sound_setPath (s p v) (h : Sound φ s) : Sound φ (setPath s p v) := by simp [setPath, h]
@[simp] theorem sound_setSlot (s k v) (h : Sound φ s) : Sound φ (setSlot s k v) := by simp [setSlot, h]
@[simp] theorem sound_setQueue (s q cls v) (h : Sound φ s) : Sound φ (setQueue s q cls v) := by simp [setQueue, h]

@[simp] theorem sound_pushLoss (l s) (h : Sound φ s) : Sound φ (pushLoss l s) := by
  unfold pushLoss
  refine sound_branches (by simp [h]) ?_
  split
  · simp [h]
  · apply sound_logEv
    exact sound_foldl (fun s a hs => by simp [hs]) _ _ (by simp [h])

@[simp] theorem sound_gap (stage cls index start stop items s) (h : Sound φ s) : Sound φ (gap stage cls index start stop items s) := by simp [gap, h]

@[simp] theorem sound_closeEp (q cls s) (h : Sound φ s) : Sound φ (closeEp q cls s) := by
  unfold closeEp
  dsimp only
  split <;> simp [h]

@[simp] theorem sound_segBack (newest f s) (h : Sound φ s) : Sound φ (segBack newest f s) := by simp [segBack, h]
@[simp] theorem sound_segOut (f s) (h : Sound φ s) : Sound φ (segOut f s) := by simp [segOut, h]

@[simp] theorem sound_shedFrame (q f s) (h : Sound φ s) : Sound φ (shedFrame q f s) := by
  unfold shedFrame
  refine sound_foldl (fun s a hs => ?_) _ _ ?_
  · simp [hs]
  · apply sound_setPath
    simp [h]

@[simp] theorem sound_enqueueFrame (q f s) (h : Sound φ s) : Sound φ (enqueueFrame q f s) := by
  unfold enqueueFrame
  refine sound_branches (by simp [h]) ?_
  refine sound_branches ?_ (by simp [h])
  apply sound_shedFrame
  simp [h]

theorem sound_dequeue {q cls s f u} (hf : dequeue q cls s = some (f, u)) (h : Sound φ s) : Sound φ u := by
  unfold dequeue at hf
  dsimp only at hf
  split at hf
  · cases hf
  · cases hf
    have hq := sound_setQueue _ q cls (queue s q cls) h
    apply sound_branches
    · apply sound_closeEp
      simp [h]
    · simp [h]

@[simp] theorem sound_closeFrame (o s) (h : Sound φ s) : Sound φ (closeFrame o s) := by simp [closeFrame, h]
@[simp] theorem sound_closeAll (p s) (h : Sound φ s) : Sound φ (closeAll p s) := by simp +contextual [closeAll, h]

@[simp] theorem sound_addOwn (r s) (h : Sound φ s) : Sound φ (addOwn r s) := by
  unfold addOwn
  dsimp only
  split <;> simp [h]

@[simp] theorem sound_lateKey (r s) (h : Sound φ s) : Sound φ (lateKey r s) := by simp [lateKey, h]

@[simp] theorem sound_addKeyed (r s) (h : Sound φ s) : Sound φ (addKeyed r s) := by
  unfold addKeyed
  split
  · simp [h]
  · refine sound_branches (by simp [h]) ?_
    dsimp only
    split <;> simp [h]

@[simp] theorem sound_closeCeil (s) (h : Sound φ s) : Sound φ (closeCeil s) := by
  unfold closeCeil
  split <;> simp [h]

@[simp] theorem sound_ceilShed (s) (h : Sound φ s) : Sound φ (ceilShed s) := by
  unfold ceilShed
  dsimp only
  exact sound_foldl (fun s a hs => by simp [hs]) _ _ (by simp [h])

@[simp] theorem sound_addRec (r s) (h : Sound φ s) : Sound φ (addRec r s) := by simp [addRec, h]
@[simp] theorem sound_formed (r s) (h : Sound φ s) : Sound φ (formed r s) := by simp [formed, h]
@[simp] theorem sound_accrue (s) (h : Sound φ s) : Sound φ (accrue s) := by simp [accrue, h]

@[simp] theorem sound_admitRec (r s) (h : Sound φ s) : Sound φ (admitRec r s) := by
  unfold admitRec
  refine sound_branches ?_ (by simp [h])
  dsimp only
  refine sound_branches (by simp [h]) ?_
  apply sound_addRec
  simp [h]

@[simp] theorem sound_pushRec (r s) (h : Sound φ s) : Sound φ (pushRec r s) := by simp [pushRec, h]

theorem sound_serveTurn {cls s u} (hu : serveTurn cls s = some u) (h : Sound φ s) : Sound φ u := by
  unfold serveTurn at hu
  split at hu
  · cases hu
  · split at hu <;> cases hu
    simp [h]

@[simp] theorem sound_serveTurns (n s) (h : Sound φ s) : Sound φ (serveTurns n s) := by
  induction n generalizing s with
  | zero => exact h
  | succ n ih =>
    simp only [serveTurns]
    split
    · next hu => exact ih _ (sound_serveTurn hu h)
    · split
      · next hu => exact ih _ (sound_serveTurn hu h)
      · split
        · next hu => exact ih _ (sound_serveTurn hu h)
        · exact h

@[simp] theorem sound_assemble (s) (h : Sound φ s) : Sound φ (assemble s) := by simp [assemble, h]
@[simp] theorem sound_deckRec (d r s) (h : Sound φ s) : Sound φ (deckRec d r s) := by simp [deckRec, h]
@[simp] theorem sound_ownRec (typ cls flags body s) (h : Sound φ s) : Sound φ (ownRec typ cls flags body s) := by simp [ownRec, h]
@[simp] theorem sound_formSegs (s) (h : Sound φ s) : Sound φ (formSegs s) := by simp +contextual [formSegs, h]
@[simp] theorem sound_setDmaS (s n v) (h : Sound φ s) : Sound φ (setDmaS s n v) := by simp [setDmaS, h]
@[simp] theorem sound_setDmaC (s n v) (h : Sound φ s) : Sound φ (setDmaC s n v) := by simp [setDmaC, h]
@[simp] theorem sound_setDmaE (s n v) (h : Sound φ s) : Sound φ (setDmaE s n v) := by simp [setDmaE, h]

@[simp] theorem sound_dmaShedClose (n s) (h : Sound φ s) : Sound φ (dmaShedClose n s) := by
  unfold dmaShedClose
  dsimp only
  split
  · simp [h]
  · apply sound_logEv
    simp [h]

@[simp] theorem sound_dmaUnshed (n s) (h : Sound φ s) : Sound φ (dmaUnshed n s) := by simp [dmaUnshed, h]
@[simp] theorem sound_dmaShed (n s) (h : Sound φ s) : Sound φ (dmaShed n s) := by simp [dmaShed, h]
@[simp] theorem sound_spillServe (s) (h : Sound φ s) : Sound φ (spillServe s) := by simp +contextual [spillServe, h]
@[simp] theorem sound_spillSeg (g s) (h : Sound φ s) : Sound φ (spillSeg g s) := by simp [spillSeg, h]

@[simp] theorem sound_segRefill (s) (h : Sound φ s) : Sound φ (segRefill s) := by
  unfold segRefill
  split <;> simp [h]

@[simp] theorem sound_stackedRecord (e gen frame s) (h : Sound φ s) : Sound φ (stackedRecord e gen frame s) := by simp [stackedRecord, h]

@[simp] theorem sound_pnCheck (p s) (h : Sound φ s) : Sound φ (pnCheck p s) := by
  unfold pnCheck
  split
  · simp [h]
  · dsimp only
    refine sound_branches (by simp [h]) ?_
    split
    · simp [h]
    · apply sound_logEv
      simp [h]

@[simp] theorem sound_usePn (p s) (h : Sound φ s) : Sound φ (usePn p s) := by
  unfold usePn
  split <;> simp [h]

@[simp] theorem sound_takeSeq (f s) (h : Sound φ s) : Sound φ (takeSeq f s).2 := by
  unfold takeSeq
  split <;> simp [h]

@[simp] theorem sound_startTx (l q f seq s) (h : Sound φ s) : Sound φ (startTx l q f seq s) := by
  unfold startTx
  refine sound_branches ?_ (by simp [h])
  apply sound_usePn
  simp [h]

theorem sound_lossFrame {q s f u} (hf : lossFrame q s = some (f, u)) (h : Sound φ s) : Sound φ u := by
  unfold lossFrame at hf
  split at hf <;> cases hf
  simp [h]

@[simp] theorem sound_replCopy (p f seq s) (h : Sound φ s) : Sound φ (replCopy p f seq s) := by simp [replCopy, h]

theorem sound_nextFrame {p s q f u} (hf : nextFrame p s = some (q, f, u)) (h : Sound φ s) : Sound φ u := by
  unfold nextFrame at hf
  dsimp only at hf
  split at hf
  · next r hr =>
    cases hf
    split at hr
    · exact sound_lossFrame hr h
    · cases hr
  · revert hf
    refine List.foldlRecOn (motive := fun r : Option (Nat × BFrame × State) => r = some (q, f, u) → Sound φ u) _ _
      (fun hn => nomatch hn) ?_
    intro r hr c _ hf
    split at hf
    · exact hr hf
    · split at hf
      · obtain ⟨x, hx, he⟩ := Option.map_eq_some_iff.1 hf
        cases he
        exact sound_dequeue hx h
      · cases hf

@[simp] theorem sound_sendNext (p l s) (h : Sound φ s) : Sound φ (sendNext p l s) := by
  unfold sendNext
  split
  · simp [h]
  · split
    · next hf =>
      have hn := sound_nextFrame hf h
      apply sound_branches
      · apply sound_replCopy
        simp [hn]
      · simp [hn]
    · exact h

@[simp] theorem sound_linkFree (l s) (h : Sound φ s) : Sound φ (linkFree l s) := by
  unfold linkFree
  apply sound_segRefill
  refine sound_branches (by simp [h]) ?_
  split <;> simp [h]

@[simp] theorem sound_timeRecord (s) (h : Sound φ s) : Sound φ (timeRecord s) := by simp [timeRecord, h]

/-! ### Score.lean -/

@[simp] theorem sound_setDieSensor (s n v) (h : Sound φ s) : Sound φ (setDieSensor s n v) := by simp [setDieSensor, h]
@[simp] theorem sound_setServo (s n v) (h : Sound φ s) : Sound φ (setServo s n v) := by simp [setServo, h]
@[simp] theorem sound_setSense (s n v) (h : Sound φ s) : Sound φ (setSense s n v) := by simp [setSense, h]
@[simp] theorem sound_setPmon (s k v) (h : Sound φ s) : Sound φ (setPmon s k v) := by simp [setPmon, h]
@[simp] theorem sound_updScore (s) (h : Sound φ s) : Sound φ (updScore s) := by simp [updScore, h]
@[simp] theorem sound_healthRecord (s) (h : Sound φ s) : Sound φ (healthRecord s) := by simp [healthRecord, h]

/-! ### Guard.lean -/

@[simp] theorem sound_freeRound (num den s) (h : Sound φ s) : Sound φ (freeRound num den s).2 := by simp [freeRound, h]
@[simp] theorem sound_updCaps (s) (h : Sound φ s) : Sound φ (updCaps s) := by simp [updCaps, h]
@[simp] theorem sound_updCharge (s) (h : Sound φ s) : Sound φ (updCharge s) := by simp [updCharge, h]

@[simp] theorem sound_judgeHost (late first a h s) (hs : Sound φ s) : Sound φ (judgeHost late first a h s) := by
  unfold judgeHost
  split <;> split <;> simp [hs]

@[simp] theorem sound_judgeSvc (late first v s) (h : Sound φ s) : Sound φ (judgeSvc late first v s) := by simp [judgeSvc, h]

@[simp] theorem sound_judgeOne (late a s) (h : Sound φ s) : Sound φ (judgeOne late a s) := by
  unfold judgeOne
  dsimp only
  split
  · apply sound_judgeSvc
    split <;> simp [h]
  · split <;> simp [h]

@[simp] theorem sound_judgeSeals (s) (h : Sound φ s) : Sound φ (judgeSeals s) := by
  unfold judgeSeals
  split
  · exact h
  · exact sound_foldl (fun s a hs => sound_judgeOne _ a s hs) _ _ (by simp [h])

@[simp] theorem sound_stopEmission (s) (h : Sound φ s) : Sound φ (stopEmission s) := by simp [stopEmission, h]

/-- With the enables low no state is wrong for them. -/

theorem sound_dropLsr_of_false {s} (h : Sound False s) : Sound φ (dropLsr s) := by
  obtain ⟨h1, -, h3⟩ := h
  unfold dropLsr
  split
  · have hl : Sound φ { s with pins.lsrA := false, pins.lsrB := false, nk.lsrFell := s.wall } := ⟨rfl, fun _ => nofun, h3⟩
    dsimp only
    split
    · exact sound_stopEmission _ hl
    · exact hl
  · next hl =>
    simp only [Bool.or_eq_true, not_or, Bool.not_eq_true] at hl
    exact ⟨h1, fun _ ha => absurd ha (by simp [hl.1]), h3⟩

@[simp] theorem sound_dropLsr (s) (h : Sound φ s) : Sound φ (dropLsr s) := sound_dropLsr_of_false (h.weaken nofun)

@[simp] theorem sound_driveCut (s) (h : Sound φ s) : Sound φ (driveCut s) := by simp [driveCut, h]

@[simp] theorem sound_degClock (s) (h : Sound φ s) : Sound φ (degClock s) := by
  unfold degClock
  split <;> simp [h]

/-- Permission is given in an emitting state alone (R271). -/

theorem permOk_emits {s : State} (h : permOk s = true) : s.desk.st = 3 ∨ s.desk.st = 4 ∨ s.desk.st = 5 := by
  unfold permOk at h
  split at h
  · cases h
  · simp only [Bool.and_eq_true, Bool.or_eq_true, beq_iff_eq] at h
    tauto

/-- Nerrak's update takes the enables low where the state does not emit (R271). -/

theorem sound_nkUpdate_of_false {s} (h : Sound False s) : Sound φ (nkUpdate s) := by
  have hd : Sound φ (if s.pins.lsrA && !permOk s then dropLsr s else s) := by
    split
    · exact sound_dropLsr_of_false h
    · next hp =>
      obtain ⟨h1, -, h3⟩ := h
      refine ⟨h1, fun _ ha => ?_, h3⟩
      simp only [ha, Bool.true_and, Bool.not_eq_true', Bool.not_eq_false] at hp
      exact permOk_emits hp
  exact sound_updCaps _ (sound_degClock _ (sound_driveCut _ hd))

@[simp] theorem sound_nkUpdate (s) (h : Sound φ s) : Sound φ (nkUpdate s) := sound_nkUpdate_of_false (h.weaken nofun)

@[simp] theorem sound_vddNkChange (mv s) (h : Sound φ s) : Sound φ (vddNkChange mv s) := by simp [vddNkChange, h]
@[simp] theorem sound_setNkCell (s c v) (h : Sound φ s) : Sound φ (setNkCell s c v) := by simp [setNkCell, h]
@[simp] theorem sound_topCell (s st) (h : Sound φ s) : Sound φ (topCell s st).2 := by simp [topCell, h]
@[simp] theorem sound_noteFills (st s) (h : Sound φ s) : Sound φ (noteFills st s) := by simp [noteFills, h]

@[simp] theorem sound_capEval (s) (h : Sound φ s) : Sound φ (capEval s) := by
  unfold capEval
  split
  · simp [h]
  · dsimp only
    apply sound_branches
    · apply sound_updCaps
      apply sound_logEv
      simp [h]
    · refine sound_branches ?_ (by simp [h])
      apply sound_updCaps
      apply sound_logEv
      simp [h]

@[simp] theorem sound_incident (kind s) (h : Sound φ s) : Sound φ (incident kind s) := by simp [incident, h]

@[simp] theorem sound_nkFaultEv (bitNo str em val s) (h : Sound φ s) : Sound φ (nkFaultEv bitNo str em val s) := by
  unfold nkFaultEv
  refine sound_branches ?_ (by simp [h])
  apply sound_incident
  simp [h]

@[simp] theorem sound_latchFault (bitNo s) (h : Sound φ s) : Sound φ (latchFault bitNo s) := by simp [latchFault, h]
@[simp] theorem sound_unlatch (bitNo s) (h : Sound φ s) : Sound φ (unlatch bitNo s) := by simp [unlatch, h]
@[simp] theorem sound_setChgHeld (held s) (h : Sound φ s) : Sound φ (setChgHeld held s) := by simp [setChgHeld, h]

@[simp] theorem sound_relatch (s) (h : Sound φ s) : Sound φ (relatch s) := by
  unfold relatch
  apply sound_setChgHeld
  apply sound_capEval
  simp [h]

/-- Where the state is written the enables may still be high: Nerrak's update, later in the entry, takes them low. -/

theorem sound_entered {s} (new) (hn : new ≤ 7) (h : Sound φ s) : Sound False { s with desk.st := new } := by
  obtain ⟨h1, -, h3, h4, ⟨-, h5⟩, h6⟩ := h
  exact ⟨h1, nofun, h3, h4, ⟨hn, h5⟩, h6⟩

@[simp] theorem sound_setSt (new cause s) (hn : new ≤ 7) (h : Sound φ s) : Sound φ (setSt new cause s) := by
  unfold setSt
  extract_lets old _ s1 _ s2 _ s3 s4 s5 s6
  have h1 : Sound False s1 := sound_entered new hn h
  have h2 : Sound False s2 := sound_branches h1 h1
  have h3 : Sound False s3 := sound_branches h2 h2
  have h4 : Sound False s4 := sound_branches (sound_relatch _ h3) h3
  have h5 : Sound False s5 := sound_logNow _ _ _ (sound_attnRaise _ _ (sound_updScore _ h4))
  have h6 : Sound φ s6 := sound_healthRecord _ (sound_nkUpdate_of_false (sound_updCharge _ h5))
  exact sound_branches (sound_incident _ _ h6) (sound_branches (sound_incident _ _ h6) h6)

@[simp] theorem sound_dropPend (s) (h : Sound φ s) : Sound φ (dropPend s) := by simp [dropPend, h]

@[simp] theorem sound_stNow (new cause s) (hn : new ≤ 7) (h : Sound φ s) : Sound φ (stNow new cause s) := by
  unfold stNow
  simp [hn, h]

@[simp] theorem sound_raiseFault (bitNo str em val s) (h : Sound φ s) : Sound φ (raiseFault bitNo str em val s) := by simp [raiseFault, h]
@[simp] theorem sound_raiseFree (bitNo str em s) (h : Sound φ s) : Sound φ (raiseFree bitNo str em s) := by simp [raiseFree, h]
@[simp] theorem sound_clearFault (bitNo s) (h : Sound φ s) : Sound φ (clearFault bitNo s) := by simp [clearFault, h]
@[simp] theorem sound_levelFault (bitNo on s) (h : Sound φ s) : Sound φ (levelFault bitNo on s) := by simp [levelFault, h]

@[simp] theorem sound_rejudge (s) (h : Sound φ s) : Sound φ (rejudge s) := by
  unfold rejudge
  apply sound_setChgHeld
  apply sound_nkUpdate
  apply sound_capEval
  simp [h]

/-! ### NkLedger.lean -/

@[simp] theorem sound_nkMark (stamp s) (h : Sound φ s) : Sound φ (nkMark stamp s) := by
  unfold nkMark
  split
  · simp [h]
  · dsimp only
    split <;> simp [h]

@[simp] theorem sound_nkCompare (theta s) (h : Sound φ s) : Sound φ (nkCompare theta s) := by simp [nkCompare, h]

@[simp] theorem sound_stallWindow (s) (h : Sound φ s) : Sound φ (stallWindow s) := by
  unfold stallWindow
  refine sound_branches (by simp [h]) ?_
  dsimp only
  split <;> simp [h]

@[simp] theorem sound_exEnergy (st i code s) (h : Sound φ s) : Sound φ (exEnergy st i code s).2 := by simp [exEnergy, h]
@[simp] theorem sound_ex12 (ex s) (h : Sound φ s) : Sound φ (ex12 ex s).2 := by simp [ex12, h]

@[simp] theorem sound_accountPulse (st i e stamp amount s) (h : Sound φ s) : Sound φ (accountPulse st i e stamp amount s) := by
  unfold accountPulse
  apply sound_capEval
  simp [h]

@[simp] theorem sound_publishFills (s) (h : Sound φ s) : Sound φ (publishFills s) := by
  unfold publishFills
  dsimp only
  split <;> simp [h]

@[simp] theorem sound_subBinBoundary (w s) (h : Sound φ s) : Sound φ (subBinBoundary w s) := by
  unfold subBinBoundary
  split <;> simp [h]

@[simp] theorem sound_badCell (st s c) (h : Sound φ s) : Sound φ (badCell st s c) := by
  unfold badCell
  refine sound_branches (by simp [h]) ?_
  dsimp only
  apply sound_setNkCell
  apply sound_freeRound
  simp [h]

@[simp] theorem sound_ledgerScrub (bad s) (h : Sound φ s) : Sound φ (ledgerScrub bad s) := by
  unfold ledgerScrub
  split
  · simp [h]
  · refine sound_branches (by simp [h]) ?_
    apply sound_capEval
    exact sound_foldl (fun s a hs => by simp [hs]) _ _ (by simp [h])

@[simp] theorem sound_pmonRaise (k s) (h : Sound φ s) : Sound φ (pmonRaise k s) := by simp [pmonRaise, h]
@[simp] theorem sound_pmonTry (k s) (h : Sound φ s) : Sound φ (pmonTry k s) := by simp [pmonTry, h]

/-! ### Servo.lean -/

@[simp] theorem sound_handTarget (n v s) (h : Sound φ s) : Sound φ (handTarget n v s) := by simp [handTarget, h]
@[simp] theorem sound_handElev (l s) (h : Sound φ s) : Sound φ (handElev l s) := by simp [handElev, h]
@[simp] theorem sound_polyChange (s) (h : Sound φ s) : Sound φ (polyChange s) := by simp [polyChange, h]
@[simp] theorem sound_passUsed (facet s) (h : Sound φ s) : Sound φ (passUsed facet s) := by simp [passUsed, h]
@[simp] theorem sound_giveAngle (a s) (h : Sound φ s) : Sound φ (giveAngle a s) := by simp [giveAngle, h]
@[simp] theorem sound_settleLate (s) (h : Sound φ s) : Sound φ (settleLate s) := by simp [settleLate, h]

@[simp] theorem sound_servoMark (n stamp s) (h : Sound φ s) : Sound φ (servoMark n stamp s) := by
  unfold servoMark
  dsimp only
  split <;> simp [h]

@[simp] theorem sound_marksOf (port stamp s) (h : Sound φ s) : Sound φ (marksOf port stamp s) := by simp +contextual [marksOf, h]

@[simp] theorem sound_markMissing (s) (h : Sound φ s) : Sound φ (markMissing s) := by
  unfold markMissing
  dsimp only
  split <;> simp [h]

@[simp] theorem sound_restartMarks (n s) (h : Sound φ s) : Sound φ (restartMarks n s) := by
  unfold restartMarks
  dsimp only
  apply sound_branches <;> simp [h]

@[simp] theorem sound_takePort (n s) (h : Sound φ s) : Sound φ (takePort n s) := by simp [takePort, h]

@[simp] theorem sound_speedError (n tm s) (h : Sound φ s) : Sound φ (speedError n tm s).2 := by
  unfold speedError
  split <;> simp [h]

@[simp] theorem sound_servoMeasure (n x v s) (h : Sound φ s) : Sound φ (servoMeasure n x v s).2 := by simp [servoMeasure, h]

@[simp] theorem sound_servoOutput (n oldMode x v hand s) (h : Sound φ s) : Sound φ (servoOutput n oldMode x v hand s) := by
  unfold servoOutput
  apply sound_setServo
  apply sound_branches
  · apply sound_logEv
    apply sound_branches
    · apply sound_logEv
      refine sound_branches ?_ (by simp [h])
      apply sound_logEv
      simp [h]
    · refine sound_branches ?_ (by simp [h])
      apply sound_logEv
      simp [h]
  · apply sound_branches
    · apply sound_logEv
      refine sound_branches ?_ (by simp [h])
      apply sound_logEv
      simp [h]
    · refine sound_branches ?_ (by simp [h])
      apply sound_logEv
      simp [h]

@[simp] theorem sound_polyLock (s) (h : Sound φ s) : Sound φ (polyLock s) := by simp [polyLock, h]

@[simp] theorem sound_servoSample (n x s) (h : Sound φ s) : Sound φ (servoSample n x s) := by
  unfold servoSample
  refine sound_branches (by simp [h]) ?_
  dsimp only
  apply sound_irqOpen
  apply sound_branches
  · apply sound_nkCompare
    apply sound_polyLock
    apply sound_servoOutput
    simp [h]
  · apply sound_servoOutput
    simp [h]

@[simp] theorem sound_lawWriteBody (n r s) (h : Sound φ s) : Sound φ (lawWriteBody n r s).state := by simp [lawWriteBody, h]
@[simp] theorem sound_tableWriteBody (n r s) (h : Sound φ s) : Sound φ (tableWriteBody n r s).state := by simp [tableWriteBody, h]
@[simp] theorem sound_servoStatusBody (n r s) (h : Sound φ s) : Sound φ (servoStatusBody n r s).state := by simp [servoStatusBody, h]

/-! ### TimePort.lean -/

@[simp] theorem sound_setTport (s p v) (h : Sound φ s) : Sound φ (setTport s p v) := by simp [setTport, h]
@[simp] theorem sound_tpRestart (p same s) (h : Sound φ s) : Sound φ (tpRestart p same s) := by simp +contextual [tpRestart, h]

@[simp] theorem sound_tpQueue (p stamp rising s) (h : Sound φ s) : Sound φ (tpQueue p stamp rising s) := by
  unfold tpQueue
  refine sound_branches (by simp [h]) ?_
  refine sound_branches ?_ (by simp [h])
  apply sound_logEv
  simp [h]

@[simp] theorem sound_portEdge (p raw rising s) (h : Sound φ s) : Sound φ (portEdge p raw rising s) := by
  unfold portEdge
  refine sound_branches (by simp [h]) ?_
  dsimp only
  refine sound_branches (by simp [h]) ?_
  apply sound_tpQueue
  simp [h]

@[simp] theorem sound_sourceEdge (k p raw rising s) (h : Sound φ s) : Sound φ (sourceEdge k p raw rising s) := by
  unfold sourceEdge
  refine sound_branches (by simp [h]) ?_
  exact sound_foldl (fun s a hs => by simp [hs]) _ _ (by simp [h])

@[simp] theorem sound_polyEdge (raw rising s) (h : Sound φ s) : Sound φ (polyEdge raw rising s) := by simp [polyEdge, h]
@[simp] theorem sound_tpEdge (p raw rising s) (h : Sound φ s) : Sound φ (tpEdge p raw rising s) := by simp [tpEdge, h]

@[simp] theorem sound_tpHoldEnd (p s) (h : Sound φ s) : Sound φ (tpHoldEnd p s) := by
  unfold tpHoldEnd
  dsimp only
  split <;> simp [h]

@[simp] theorem sound_tpGateEnd (p s) (h : Sound φ s) : Sound φ (tpGateEnd p s) := by
  unfold tpGateEnd
  refine sound_branches (by simp [h]) ?_
  refine sound_branches ?_ (by simp [h])
  apply sound_logEv
  simp [h]

@[simp] theorem sound_tpGateResult (p s) (h : Sound φ s) : Sound φ (tpGateResult p s) := by
  unfold tpGateResult
  dsimp only
  split <;> simp [h]

@[simp] theorem sound_tpReadBody (n r s) (h : Sound φ s) : Sound φ (tpReadBody n r s).state := by simp [tpReadBody, h]

/-! ### Image.lean -/

@[simp] theorem sound_dirWrite (active trial boots s) (h : Sound φ s) : Sound φ (dirWrite active trial boots s) := by simp [dirWrite, h]

/-! ### NkPulse.lean -/

@[simp] theorem sound_nkWrap (old k n s) (h : Sound φ s) : Sound φ (nkWrap old k n s) := by simp [nkWrap, h]
@[simp] theorem sound_account12 (st i e stamp ex s) (h : Sound φ s) : Sound φ (account12 st i e stamp ex s) := by simp [account12, h]
@[simp] theorem sound_segGate (k g s) (h : Sound φ s) : Sound φ (segGate k g s) := by simp [segGate, h]
@[simp] theorem sound_openGate (st r ex nthShot s) (h : Sound φ s) : Sound φ (openGate st r ex nthShot s) := by simp [openGate, h]

@[simp] theorem sound_takeRecord (r s) (h : Sound φ s) : Sound φ (takeRecord r s) := by
  unfold takeRecord
  split
  · simp [h]
  · dsimp only
    apply sound_openGate
    simp [h]

@[simp] theorem sound_fireRecord (a b s) (h : Sound φ s) : Sound φ (fireRecord a b s) := by
  unfold fireRecord
  split
  · simp [h]
  · dsimp only
    split
    · simp [h]
    · apply sound_takeRecord
      simp [h]

@[simp] theorem sound_judgePulse (st k g em s) (h : Sound φ s) : Sound φ (judgePulse st k g em s) := by
  unfold judgePulse
  apply sound_branches
  · apply sound_pmonTry
    simp [h]
  · apply sound_branches
    · apply sound_raiseFault
      simp [h]
    · refine sound_branches ?_ (by simp [h])
      apply sound_branches
      · apply sound_pmonRaise
        apply sound_nkWrap
        simp [h]
      · apply sound_nkWrap
        simp [h]

@[simp] theorem sound_segKnown (k gate e s) (h : Sound φ s) : Sound φ (segKnown k gate e s) := by simp [segKnown, h]

@[simp] theorem sound_integrationDone (k gate outside s) (h : Sound φ s) : Sound φ (integrationDone k gate outside s) := by
  unfold integrationDone
  dsimp only
  split
  · refine sound_branches (by simp [h]) ?_
    apply sound_irqOpen
    apply sound_judgePulse
    apply sound_segKnown
    simp [h]
  · simp [h]
  · simp [h]

@[simp] theorem sound_strayPulse (k energy s) (h : Sound φ s) : Sound φ (strayPulse k energy s) := by
  unfold strayPulse
  split <;> simp [h]

@[simp] theorem sound_closeSegGap (k trig s) (h : Sound φ s) : Sound φ (closeSegGap k trig s) := by
  unfold closeSegGap
  split <;> simp [h]

@[simp] theorem sound_closeSegGaps (s) (h : Sound φ s) : Sound φ (closeSegGaps s) := by simp +contextual [closeSegGaps, h]

@[simp] theorem sound_segLost (g s) (h : Sound φ s) : Sound φ (segLost g s) := by
  unfold segLost
  dsimp only
  split <;> simp [h]

@[simp] theorem sound_segStore (g s) (h : Sound φ s) : Sound φ (segStore g s) := by simp [segStore, h]
@[simp] theorem sound_segTrigger (k trig before samples s) (h : Sound φ s) : Sound φ (segTrigger k trig before samples s) := by simp [segTrigger, h]

@[simp] theorem sound_segRearm (k s) (h : Sound φ s) : Sound φ (segRearm k s) := by
  unfold segRearm
  dsimp only
  split <;> simp [h]

@[simp] theorem sound_baselineFault (k code s) (h : Sound φ s) : Sound φ (baselineFault k code s) := by simp [baselineFault, h]
@[simp] theorem sound_baselineOk (k code s) (h : Sound φ s) : Sound φ (baselineOk k code s) := by simp [baselineOk, h]

/-! ### NkEvents.lean -/

@[simp] theorem sound_clockCheck (n s) (h : Sound φ s) : Sound φ (clockCheck n s) := by simp [clockCheck, h]
@[simp] theorem sound_tAbsent (s) (h : Sound φ s) : Sound φ (tAbsent s) := by simp [tAbsent, h]
@[simp] theorem sound_headSwitch (high s) (h : Sound φ s) : Sound φ (headSwitch high s) := by simp [headSwitch, h]
@[simp] theorem sound_hvFbChange (closed s) (h : Sound φ s) : Sound φ (hvFbChange closed s) := by simp [hvFbChange, h]
@[simp] theorem sound_contactorStuck (s) (h : Sound φ s) : Sound φ (contactorStuck s) := by simp [contactorStuck, h]
@[simp] theorem sound_hvFbOpen (s) (h : Sound φ s) : Sound φ (hvFbOpen s) := by simp [hvFbOpen, h]
@[simp] theorem sound_peerCutChange (high s) (h : Sound φ s) : Sound φ (peerCutChange high s) := by simp [peerCutChange, h]
@[simp] theorem sound_hvCutAssert (s) (h : Sound φ s) : Sound φ (hvCutAssert s) := by simp [hvCutAssert, h]

@[simp] theorem sound_permissionGrant (s) (h : Sound φ s) : Sound φ (permissionGrant s) := by
  unfold permissionGrant
  split
  · next hp =>
    obtain ⟨-, -, h3⟩ := h
    refine ⟨rfl, fun _ _ => ?_, h3⟩
    exact permOk_emits (Bool.and_eq_true_iff.1 hp).1
  · exact h

@[simp] theorem sound_enableReadback (pin pad s) (h : Sound φ s) : Sound φ (enableReadback pin pad s) := by simp [enableReadback, h]
@[simp] theorem sound_nkSelftest (item codes s) (h : Sound φ s) : Sound φ (nkSelftest item codes s) := by simp [nkSelftest, h]
@[simp] theorem sound_degradedExpire (s) (h : Sound φ s) : Sound φ (degradedExpire s) := by simp [degradedExpire, h]

@[simp] theorem sound_degradedClear (s) (h : Sound φ s) : Sound φ (degradedClear s) := by
  unfold degradedClear
  split <;> simp [h]

/-! ### NkCommands.lean -/

@[simp] theorem sound_setAllow (p s) (h : Sound φ s) : Sound φ (setAllow p s) := by simp +contextual [setAllow, h]

@[simp] theorem sound_startEmission (s) (h : Sound φ s) : Sound φ (startEmission s) := by
  unfold startEmission
  apply sound_setAllow
  simp [h]

@[simp] theorem sound_exitCommissioning (s) (h : Sound φ s) : Sound φ (exitCommissioning s) := by simp [exitCommissioning, h]

@[simp] theorem sound_commissionBody (n r s) (h : Sound φ s) : Sound φ (commissionBody n r s).state := by
  unfold commissionBody
  refine sound_state_branches (by simp [h]) ?_
  refine sound_state_branches (by simp [h]) ?_
  refine sound_state_branches ?_ (by simp [h])
  rw [CmdOut.state_done]
  apply sound_startEmission
  simp [h]

@[simp] theorem sound_setWriteBody (n r s) (h : Sound φ s) : Sound φ (setWriteBody n r s).state := by simp [setWriteBody, h]

@[simp] theorem sound_confirmBody (n r s) (h : Sound φ s) : Sound φ (confirmBody n r s).state := by
  unfold confirmBody
  refine sound_state_branches (by simp [h]) ?_
  refine sound_state_branches (by simp [h]) ?_
  refine sound_state_branches ?_ (by simp [h])
  split <;> simp [h]

@[simp] theorem sound_setStore (c r s) (h : Sound φ s) : Sound φ (setStore c r s) := by simp [setStore, h]

@[simp] theorem sound_setConfirmed (s) (h : Sound φ s) : Sound φ (setConfirmed s) := by
  unfold setConfirmed
  split
  · simp [h]
  · refine sound_branches (by simp [h]) ?_
    refine sound_branches (by simp [h]) ?_
    dsimp only
    apply sound_branches
    · apply sound_exitCommissioning
      apply sound_mbDone
      simp [h]
    · apply sound_rejudge
      simp only [sound_mk, sound_fold]
      apply sound_mbDone
      simp [h]

@[simp] theorem sound_confirmTimeout (s) (h : Sound φ s) : Sound φ (confirmTimeout s) := by
  unfold confirmTimeout
  split <;> simp [h]

@[simp] theorem sound_nkStatusBody (n x s) (h : Sound φ s) : Sound φ (nkStatusBody n x s).state := by simp [nkStatusBody, h]

@[simp] theorem sound_nkLedgerBody (n r s) (h : Sound φ s) : Sound φ (nkLedgerBody n r s).state := by
  unfold nkLedgerBody
  split <;> simp [h]

@[simp] theorem sound_faultClearBody (n x s) (h : Sound φ s) : Sound φ (faultClearBody n x s).state := by simp +contextual [faultClearBody, h]

/-! ### Dma.lean -/

@[simp] theorem sound_memPut (a l s) (h : Sound φ s) : Sound φ (memPut a l s) := by
  obtain ⟨h1, h2, h3, h4, h5, h6, h7⟩ := h
  exact ⟨h1, h2, h3, h4, h5, wf_cputs h6, h7⟩

@[simp] theorem sound_eccCorrected (n s) (h : Sound φ s) : Sound φ (eccCorrected n s) := by
  unfold eccCorrected
  refine sound_branches (by simp [h]) ?_
  dsimp only
  refine sound_branches ?_ (by simp [h])
  apply sound_logEv
  simp [h]

@[simp] theorem sound_eccBad (a s) (h : Sound φ s) : Sound φ (eccBad a s) := by
  unfold eccBad
  dsimp only
  apply sound_branches
  · apply sound_branches
    · apply sound_logEv
      apply sound_irq
      simp [h]
    · split
      · apply sound_freeVal
        apply sound_logEv
        apply sound_irq
        simp [h]
      · apply sound_wrapEv
        apply sound_setTalDeck
        simp only [sound_mk, sound_fold]
        apply sound_freeVal
        apply sound_logEv
        apply sound_irq
        simp [h]
  · apply sound_branches
    · apply sound_branches
      · apply sound_logEv
        apply sound_irq
        simp [h]
      · apply sound_nkWrap
        simp only [sound_mk, sound_fold]
        apply sound_freeVal
        apply sound_logEv
        apply sound_irq
        simp [h]
    · apply sound_branches
      · apply sound_branches
        · apply sound_logEv
          apply sound_irq
          simp [h]
        · simp only [sound_mk, sound_fold]
          apply sound_freeVal
          apply sound_logEv
          apply sound_irq
          simp [h]
      · simp only [sound_mk, sound_fold]
        apply sound_logEv
        apply sound_irq
        simp [h]

@[simp] theorem sound_logTrim (s) (h : Sound φ s) : Sound φ (logTrim s) := by simp [logTrim, h]
@[simp] theorem sound_logNew (kind r s) (h : Sound φ s) : Sound φ (logNew kind r s) := by simp [logNew, h]

@[simp] theorem sound_logAdd (kind at_ bytes s) (h : Sound φ s) : Sound φ (logAdd kind at_ bytes s) := by
  unfold logAdd
  dsimp only
  split <;> simp [h]

@[simp] theorem sound_freezeCapture (withEvents s) (h : Sound φ s) : Sound φ (freezeCapture withEvents s) := by simp [freezeCapture, h]
@[simp] theorem sound_logFrozen (s) (h : Sound φ s) : Sound φ (logFrozen s) := by simp [logFrozen, h]
@[simp] theorem sound_dmaErrLine (e s) (h : Sound φ s) : Sound φ (dmaErrLine e s) := by simp [dmaErrLine, h]

@[simp] theorem sound_dmaHalt (e chan desc reason addr s) (h : Sound φ s) : Sound φ (dmaHalt e chan desc reason addr s) := by
  unfold dmaHalt
  apply sound_dmaErrLine
  apply sound_logEv
  apply sound_setDmaE
  simp [h]

@[simp] theorem sound_dmaReserve (e s) (h : Sound φ s) : Sound φ (dmaReserve e s) := by
  unfold dmaReserve
  dsimp only
  split <;> simp [h]

@[simp] theorem sound_dmaPick (n e s) (h : Sound φ s) : Sound φ (dmaPick n e s) := by
  unfold dmaPick
  split
  · simp [h]
  · dsimp only
    refine sound_branches (by simp [h]) ?_
    split
    · apply sound_branches
      · apply sound_dmaPick
        simp [h]
      · apply sound_dmaReserve
        simp [h]
    · split
      · simp [h]
      · apply sound_branches
        · apply sound_dmaPick
          simp [h]
        · apply sound_dmaReserve
          simp [h]

@[simp] theorem sound_streamDone (e n withdrawn recEnd s) (h : Sound φ s) : Sound φ (streamDone e n withdrawn recEnd s) := by
  unfold streamDone
  apply sound_branches
  · apply sound_irq
    apply sound_setDmaE
    simp [h]
  · apply sound_setDmaE
    simp [h]

@[simp] theorem sound_logMoved (n l s) (h : Sound φ s) : Sound φ (logMoved n l s) := by simp +contextual [logMoved, h]
@[simp] theorem sound_burstNext (e n moved len atEnd s) (h : Sound φ s) : Sound φ (burstNext e n moved len atEnd s) := by simp [burstNext, h]

@[simp] theorem sound_queueBurst (e n s) (h : Sound φ s) : Sound φ (queueBurst e n s) := by
  unfold queueBurst
  apply sound_burstNext
  apply sound_dmaUnshed
  apply sound_setDmaE
  apply sound_setDmaS
  simp [h]

@[simp] theorem sound_sinkBurst (e n s) (h : Sound φ s) : Sound φ (sinkBurst e n s) := by
  unfold sinkBurst
  apply sound_burstNext
  simp [h]

@[simp] theorem sound_streamBurst (e n s) (h : Sound φ s) : Sound φ (streamBurst e n s) := by simp [streamBurst, h]

@[simp] theorem sound_ctlBurst (e n s) (h : Sound φ s) : Sound φ (ctlBurst e n s) := by
  unfold ctlBurst
  apply sound_branches
  · apply sound_dmaReserve
    simp [h]
  · apply sound_branches
    · apply sound_irq
      apply sound_setDmaE
      apply sound_setDmaC
      apply sound_memPut
      simp [h]
    · apply sound_setDmaE
      apply sound_setDmaC
      apply sound_memPut
      simp [h]

@[simp] theorem sound_dmaBurstEnd (e corrected bad s) (h : Sound φ s) : Sound φ (dmaBurstEnd e corrected bad s) := by
  unfold dmaBurstEnd
  refine sound_branches (by simp [h]) ?_
  split
  · simp [h]
  · dsimp only
    apply sound_spillServe
    apply sound_dmaPick
    split
    · apply sound_dmaHalt
      simp [h]
    · simp [h]

@[simp] theorem sound_dmaGo (n s) (h : Sound φ s) : Sound φ (dmaGo n s) := by simp [dmaGo, h]

@[simp] theorem sound_haltedClear (stream n s) (h : Sound φ s) : Sound φ (haltedClear stream n s) := by
  unfold haltedClear
  apply sound_branches
  · dsimp only
    refine sound_branches (by simp [h]) ?_
    apply sound_dmaPick
    simp [h]
  · dsimp only
    refine sound_branches (by simp [h]) ?_
    apply sound_dmaPick
    simp [h]

theorem sound_logNext {n s b u} (hb : logNext n s = some (b, u)) (h : Sound φ s) : Sound φ u := by
  unfold logNext at hb
  repeat' split at hb
  all_goals cases hb <;> simp [h]

@[simp] theorem sound_dmaArrive (n bytes s) (h : Sound φ s) : Sound φ (dmaArrive n bytes s) := by simp [dmaArrive, h]
@[simp] theorem sound_sinkTakes (n k s) (h : Sound φ s) : Sound φ (sinkTakes n k s) := by simp [sinkTakes, h]

@[simp] theorem sound_dmaRecord (n bytes s) (h : Sound φ s) : Sound φ (dmaRecord n bytes s) := by
  unfold dmaRecord
  split
  · exact h
  · split
    · simp [h]
    · split
      · simp [h]
      · split
        · next hb => simp [sound_logNext hb h]
        · exact h

@[simp] theorem sound_dmaXferBody (n r s) (h : Sound φ s) : Sound φ (dmaXferBody n r s).state := by simp [dmaXferBody, h]

@[simp] theorem sound_slotPut (o l s) (h : Sound φ s) : Sound φ (slotPut o l s) := by
  obtain ⟨h1, h2, h3, h4, h5, h6, h7, h8⟩ := h
  unfold slotPut
  split
  · exact ⟨h1, h2, h3, h4, h5, h6, h7, wf_cputs h8⟩
  · exact ⟨h1, h2, h3, h4, h5, h6, wf_cputs h7, h8⟩

@[simp] theorem sound_dmaXferDone (s) (h : Sound φ s) : Sound φ (dmaXferDone s) := by
  unfold dmaXferDone
  split
  · simp [h]
  · dsimp only
    refine sound_branches (by simp [h]) ?_
    refine sound_branches (by simp [h]) ?_
    apply sound_mbDone
    simp [h]

@[simp] theorem sound_logAnswer (result s) (h : Sound φ s) : Sound φ (logAnswer result s).state := by simp [logAnswer, h]
@[simp] theorem sound_logControlBody (n r s) (h : Sound φ s) : Sound φ (logControlBody n r s).state := by simp [logControlBody, h]
@[simp] theorem sound_memStatusBody (n r s) (h : Sound φ s) : Sound φ (memStatusBody n r s).state := by simp [memStatusBody, h]

/-! ### TimeMotion.lean -/

@[simp] theorem sound_timeSync (s) (h : Sound φ s) : Sound φ (timeSync s) := by simp [timeSync, h]
@[simp] theorem sound_timeState (n s) (h : Sound φ s) : Sound φ (timeState n s) := by simp [timeState, h]
@[simp] theorem sound_timeFree (s) (h : Sound φ s) : Sound φ (timeFree s) := by simp [timeFree, h]
@[simp] theorem sound_timeHoldover (s) (h : Sound φ s) : Sound φ (timeHoldover s) := by simp [timeHoldover, h]
@[simp] theorem sound_rhoOf (d0 p0 d1 p1 s) (h : Sound φ s) : Sound φ (rhoOf d0 p0 d1 p1 s).2 := by simp [rhoOf, h]

@[simp] theorem sound_timeCorrect (rx originNs corr s) (h : Sound φ s) : Sound φ (timeCorrect rx originNs corr s) := by
  unfold timeCorrect
  split
  · simp [h]
  · dsimp only
    apply sound_timeState
    simp only [sound_mk, sound_fold]
    apply sound_freeVal
    split <;> simp [h]

@[simp] theorem sound_timeAnnounce (a s) (h : Sound φ s) : Sound φ (timeAnnounce a s) := by simp [timeAnnounce, h]

@[simp] theorem sound_gptpFrame (l m s) (h : Sound φ s) : Sound φ (gptpFrame l m s) := by
  unfold gptpFrame
  refine sound_branches (by simp [h]) ?_
  dsimp only
  split
  · simp [h]
  · simp [h]
  · split <;> simp [h]
  · simp [h]
  · split <;> simp [h]
  · split <;> simp [h]

@[simp] theorem sound_timeLink (s) (h : Sound φ s) : Sound φ (timeLink s) := by simp [timeLink, h]
@[simp] theorem sound_syncTimeout (s) (h : Sound φ s) : Sound φ (syncTimeout s) := by simp [syncTimeout, h]
@[simp] theorem sound_peerDelayRequest (s) (h : Sound φ s) : Sound φ (peerDelayRequest s) := by simp [peerDelayRequest, h]
@[simp] theorem sound_holdoverExpiry (s) (h : Sound φ s) : Sound φ (holdoverExpiry s) := by simp [holdoverExpiry, h]
@[simp] theorem sound_trapezoid (ta tb f wa wb s) (h : Sound φ s) : Sound φ (trapezoid ta tb f wa wb s).2 := by simp [trapezoid, h]

@[simp] theorem sound_trap3 (ta tb f x y z s) (h : Sound φ s) : Sound φ (trap3 ta tb f x y z s).2 := by
  unfold trap3
  split
  · dsimp only
    apply sound_trap3
    simp [h]
  · simp [h]

@[simp] theorem sound_motionFrames (o m l s) (h : Sound φ s) : Sound φ (motionFrames o m l s).2 := by
  unfold motionFrames
  split
  · simp [h]
  · dsimp only
    apply sound_motionFrames
    simp [h]

@[simp] theorem sound_motionSample (m s) (h : Sound φ s) : Sound φ (motionSample m s) := by
  unfold motionSample
  simp only [sound_mk, sound_fold]
  refine sound_branches (by simp [h]) ?_
  simp only [sound_mk, sound_fold]
  split <;> simp [h]

@[simp] theorem sound_motionFrameStart (s) (h : Sound φ s) : Sound φ (motionFrameStart s) := by simp [motionFrameStart, h]

@[simp] theorem sound_axes3 (g tick x y s) (h : Sound φ s) : Sound φ (axes3 g tick x y s).2 := by
  unfold axes3
  split
  · dsimp only
    apply sound_axes3
    simp [h]
  · simp [h]

@[simp] theorem sound_motionRecord (line tls s) (h : Sound φ s) : Sound φ (motionRecord line tls s) := by
  unfold motionRecord
  refine sound_branches (by simp [h]) ?_
  dsimp only
  apply sound_ownRec
  simp [h]

@[simp] theorem sound_motionStale (s) (h : Sound φ s) : Sound φ (motionStale s) := by simp [motionStale, h]
@[simp] theorem sound_motionFeedBody (n r s) (h : Sound φ s) : Sound φ (motionFeedBody n r s).state := by simp +contextual [motionFeedBody, h]

/-! ### TwinOps.lean -/

@[simp] theorem sound_pushLineKey (l moved s) (h : Sound φ s) : Sound φ (pushLineKey l moved s) := by simp [pushLineKey, h]
@[simp] theorem sound_seedSourceEv (first s) (h : Sound φ s) : Sound φ (seedSourceEv first s) := by simp [seedSourceEv, h]

@[simp] theorem sound_adoptCopy (b s) (h : Sound φ s) : Sound φ (adoptCopy b s) := by
  unfold adoptCopy
  apply sound_branches
  · refine sound_foldl (fun s a hs => ?_) _ _ ?_
    · simp [hs]
    · refine sound_foldl (fun s a hs => ?_) _ _ ?_
      · simp [hs]
      · exact sound_foldl (fun s a hs => by simp [hs]) _ _ (by simp [h])
  · apply sound_seedSourceEv
    simp only [sound_mk, sound_fold]
    refine sound_foldl (fun s a hs => ?_) _ _ ?_
    · simp [hs]
    · refine sound_foldl (fun s a hs => ?_) _ _ ?_
      · simp [hs]
      · exact sound_foldl (fun s a hs => by simp [hs]) _ _ (by simp [h])

@[simp] theorem sound_staleEv (on reason s) (h : Sound φ s) : Sound φ (staleEv on reason s) := by
  unfold staleEv
  apply sound_updScore
  simp [h]

theorem sound_copyAtLineStart_bad (r s) (h : Sound φ s) : Sound φ (copyAtLineStart.bad r s) := by
  simp [copyAtLineStart.bad, h]

@[simp] theorem sound_copyAtLineStart (s) (h : Sound φ s) : Sound φ (copyAtLineStart s).2 := by
  unfold copyAtLineStart
  dsimp only
  split
  · apply sound_snd_branches
    · simp [h]
    · apply sound_copyAtLineStart_bad
      simp [h]
  · apply sound_copyAtLineStart_bad
    simp [h]

@[simp] theorem sound_takeCopy (b s) (h : Sound φ s) : Sound φ (takeCopy b s) := by simp [takeCopy, h]

/-! ### Shots.lean -/

@[simp] theorem sound_shedLine (line r s) (h : Sound φ s) : Sound φ (shedLine line r s) := by simp +contextual [shedLine, h]

@[simp] theorem sound_lineEndWork (s) (h : Sound φ s) : Sound φ (lineEndWork s) := by
  unfold lineEndWork
  split
  · exact h
  · next l _ =>
    apply sound_branches
    · exact h
    · extract_lets _ s1 s2 s3
      have h1 : Sound φ s1 := h
      have h2 : Sound φ s2 := sound_branches h1 (sound_handElev _ _ h1)
      have h3 : Sound φ s3 := sound_foldl (fun s r hs => sound_shedLine _ r s hs) _ _ h2
      split
      · simp only [sound_mk, sound_fold]
        exact h3
      · exact h3

@[simp] theorem sound_lineEnd (s) (h : Sound φ s) : Sound φ (lineEnd s) := by
  unfold lineEnd
  split <;> simp [h]

@[simp] theorem sound_overrunLine (l s) (h : Sound φ s) : Sound φ (overrunLine l s) := by
  unfold overrunLine
  apply sound_logEv
  simp [h]

@[simp] theorem sound_fixFbe (l close s) (h : Sound φ s) : Sound φ (fixFbe l close s) := by simp [fixFbe, h]
@[simp] theorem sound_fixIfLast (l s) (h : Sound φ s) : Sound φ (fixIfLast l s) := by simp [fixIfLast, h]

@[simp] theorem sound_lineRecords (l s) (h : Sound φ s) : Sound φ (lineRecords l s) := by
  unfold lineRecords
  apply sound_motionRecord
  apply sound_ownRec
  refine sound_branches ?_ (by simp [h])
  apply sound_timeRecord
  simp [h]

@[simp] theorem sound_beginLine (facet moved s) (h : Sound φ s) : Sound φ (beginLine facet moved s) := by
  unfold beginLine
  apply sound_irq
  apply sound_giveAngle
  simp [h]

@[simp] theorem sound_facetWait (s) (h : Sound φ s) : Sound φ (facetWait s) := by simp [facetWait, h]
@[simp] theorem sound_turnPass (s) (h : Sound φ s) : Sound φ (turnPass s) := by simp [turnPass, h]
@[simp] theorem sound_rehandElev (s) (h : Sound φ s) : Sound φ (rehandElev s) := by simp [rehandElev, h]
@[simp] theorem sound_lastOverrun (l s) (h : Sound φ s) : Sound φ (lastOverrun l s) := by simp [lastOverrun, h]
@[simp] theorem sound_lineOverrun (l s) (h : Sound φ s) : Sound φ (lineOverrun l s) := by simp [lineOverrun, h]

theorem sound_lineEvent_start {facet c s} (hs : Sound φ s) (hc : Sound φ c.2) : Sound φ (lineEvent.start facet c s) := by
  simp [lineEvent.start, hs, hc]

@[simp] theorem sound_lineEvent (facet s) (h : Sound φ s) : Sound φ (lineEvent facet s) := by
  have hr := sound_rehandElev s h
  unfold lineEvent
  dsimp only
  apply sound_branches
  · exact hr
  · have hc : Sound φ (if standby (rehandElev s) then copyAtLineStart (rehandElev s) else (false, rehandElev s)).2 := by
      apply sound_snd_branches <;> simp [h]
    have hs := sound_lineEvent_start (facet := facet) hr hc
    split
    · next l _ =>
      apply sound_branches
      · apply sound_branches
        · exact sound_facetWait _ hr
        · apply sound_branches
          · exact sound_turnPass _ hr
          · apply sound_branches
            · exact sound_lastOverrun _ _ hr
            · have ho := sound_lineOverrun l _ hr
              apply sound_beginLine
              apply sound_snd_branches
              · exact sound_copyAtLineStart _ ho
              · exact ho
      · exact sound_branches hr hs
    · exact sound_branches hr hs

@[simp] theorem sound_sendNotice (facet s) (h : Sound φ s) : Sound φ (sendNotice facet s) := by simp [sendNotice, h]

@[simp] theorem sound_lineStart (facet s) (h : Sound φ s) : Sound φ (lineStart facet s) := by
  unfold lineStart
  refine sound_branches (by simp [h]) ?_
  refine sound_branches (by simp [h]) ?_
  refine sound_branches (by simp [h]) ?_
  dsimp only
  apply sound_branches
  · apply sound_settleLate
    apply sound_sendNotice
    simp [h]
  · apply sound_lineEvent
    apply sound_sendNotice
    simp [h]

@[simp] theorem sound_placeShot (i q em code edge0 sh s) (h : Sound φ s) : Sound φ (placeShot i q em code edge0 sh s) := by simp [placeShot, h]

@[simp] theorem sound_setInstant (i s) (h : Sound φ s) : Sound φ (setInstant i s) := by
  unfold setInstant
  split
  · simp [h]
  · dsimp only
    refine sound_branches (by simp [h]) ?_
    split
    · simp [h]
    · refine sound_branches (by simp [h]) ?_
      refine sound_branches (by simp [h]) ?_
      refine sound_branches (by simp [h]) ?_
      apply sound_fixIfLast
      simp [h]

@[simp] theorem sound_countShot (sh c s) (h : Sound φ s) : Sound φ (countShot sh c s) := by
  unfold countShot
  dsimp only
  split
  · simp [h]
  · split <;> simp [h]

@[simp] theorem sound_sendRecord (i p s) (h : Sound φ s) : Sound φ (sendRecord i p s) := by simp [sendRecord, h]

@[simp] theorem sound_addShot (i p s) (h : Sound φ s) : Sound φ (addShot i p s) := by
  unfold addShot
  split
  · simp [h]
  · dsimp only
    split
    · simp [h]
    · exact sound_foldl (fun s a hs => by simp [hs]) _ _ (by simp [h])

@[simp] theorem sound_gapShortEv (s) (h : Sound φ s) : Sound φ (gapShortEv s) := by simp [gapShortEv, h]

@[simp] theorem sound_fireEdge (i s) (h : Sound φ s) : Sound φ (fireEdge i s) := by
  unfold fireEdge
  split
  · simp [h]
  · refine sound_branches (by simp [h]) ?_
    refine sound_branches (by simp [h]) ?_
    dsimp only
    apply sound_setStrng
    simp [h]

@[simp] theorem sound_fireWidthEnd (i s) (h : Sound φ s) : Sound φ (fireWidthEnd i s) := by simp [fireWidthEnd, h]
@[simp] theorem sound_shuntHoldEnd (i s) (h : Sound φ s) : Sound φ (shuntHoldEnd i s) := by simp [shuntHoldEnd, h]

/-! ### Channels.lean -/

@[simp] theorem sound_chmapWriteBody (n r s) (h : Sound φ s) : Sound φ (chmapWriteBody n r s).state := by
  unfold chmapWriteBody
  refine sound_state_branches (by simp [h]) ?_
  refine sound_state_branches (by simp [h]) ?_
  split <;> simp [h]

@[simp] theorem sound_chmapReadBody (n r s) (h : Sound φ s) : Sound φ (chmapReadBody n r s).state := by simp [chmapReadBody, h]
@[simp] theorem sound_chCountersBody (n r s) (h : Sound φ s) : Sound φ (chCountersBody n r s).state := by simp [chCountersBody, h]
@[simp] theorem sound_chCaptureBody (n r s) (h : Sound φ s) : Sound φ (chCaptureBody n r s).state := by simp [chCaptureBody, h]

@[simp] theorem sound_captureEnd (s) (h : Sound φ s) : Sound φ (captureEnd s) := by
  unfold captureEnd
  split <;> simp [h]

@[simp] theorem sound_setCalCh (s c v) (h : Sound φ s) : Sound φ (setCalCh s c v) := by simp [setCalCh, h]
@[simp] theorem sound_cdCount (c j s) (h : Sound φ s) : Sound φ (cdCount c j s) := by simp [cdCount, h]

@[simp] theorem sound_windowTest (c j stamp s) (h : Sound φ s) : Sound φ (windowTest c j stamp s) := by
  unfold windowTest
  dsimp only
  split <;> simp [h]

@[simp] theorem sound_capture (c stamp s) (h : Sound φ s) : Sound φ (capture c stamp s) := by
  unfold capture
  split <;> simp [h]

@[simp] theorem sound_detectorEvent (c passed s) (h : Sound φ s) : Sound φ (detectorEvent c passed s) := by
  unfold detectorEvent
  refine sound_branches (by simp [h]) ?_
  refine sound_branches (by simp [h]) ?_
  apply sound_windowTest
  apply sound_capture
  simp [h]

@[simp] theorem sound_rearm (c s) (h : Sound φ s) : Sound φ (rearm c s) := by simp [rearm, h]
@[simp] theorem sound_stuckHigh (c s) (h : Sound φ s) : Sound φ (stuckHigh c s) := by simp [stuckHigh, h]
@[simp] theorem sound_shedSat (c s) (h : Sound φ s) : Sound φ (shedSat c s) := by simp [shedSat, h]

@[simp] theorem sound_shed (c te s) (h : Sound φ s) : Sound φ (shed c te s) := by
  unfold shed
  dsimp only
  split
  · simp [h]
  · split
    · split
      · apply sound_branches
        · apply sound_shedSat
          apply sound_setPage
          simp [h]
        · apply sound_setPage
          simp [h]
      · apply sound_branches
        · apply sound_shedSat
          apply sound_setCh
          simp [h]
        · apply sound_setCh
          simp [h]
    · simp [h]

@[simp] theorem sound_enqueue (c te s) (h : Sound φ s) : Sound φ (enqueue c te s) := by simp [enqueue, h]

@[simp] theorem sound_coincidence (c s) (h : Sound φ s) : Sound φ (coincidence c s) := by
  unfold coincidence
  dsimp only
  split
  · simp [h]
  · refine sound_branches (by simp [h]) ?_
    refine sound_branches ?_ (by simp [h])
    apply sound_enqueue
    simp [h]

/-! ### Ambient.lean -/

@[simp] theorem sound_publishRod (first own deck r s) (h : Sound φ s) : Sound φ (publishRod first own deck r s) := by simp [publishRod, h]

@[simp] theorem sound_publish (s) (h : Sound φ s) : Sound φ (publish s) := by
  unfold publish
  split
  · simp [h]
  · dsimp only
    simp only [sound_mk, sound_fold]
    refine sound_foldl (fun s a hs => ?_) _ _ ?_
    · simp [hs]
    · refine sound_foldl (fun s a hs => ?_) _ _ ?_
      · simp [hs]
      · exact sound_foldl (fun s a hs => by simp [hs]) _ _ (by simp [h])

@[simp] theorem sound_ambientPublish (s) (h : Sound φ s) : Sound φ (ambientPublish s) := by
  unfold ambientPublish
  split <;> simp [h]

@[simp] theorem sound_intervalStart (s) (h : Sound φ s) : Sound φ (intervalStart s) := by
  unfold intervalStart
  split
  · simp [h]
  · split
    · simp [h]
    · refine sound_branches (by simp [h]) ?_
      dsimp only
      simp only [sound_mk, sound_fold]
      split
      · refine sound_foldl (fun s a hs => ?_) _ _ ?_
        · simp [hs]
        · exact sound_foldl (fun s a hs => by simp [hs]) _ _ (by simp [h])
      · exact sound_foldl (fun s a hs => by simp [hs]) _ _ (by simp [h])

@[simp] theorem sound_svcSeal (v s) (h : Sound φ s) : Sound φ (svcSeal v s) := by simp [svcSeal, h]
@[simp] theorem sound_adaptRod (o f r q) (h : Sound φ q.2) : Sound φ (adaptRod o f r q).2 := by simp [adaptRod, h]

@[simp] theorem sound_adaptEval (o f q) (h : Sound φ q.2) : Sound φ (adaptEval o f q).2 := by
  unfold adaptEval
  apply sound_snd_branches
  · exact h
  · exact foldl_holds (fun q => Sound φ q.2) (fun q r hq => sound_adaptRod o f r q hq) _ _ h

@[simp] theorem sound_strangerEval (fl f q) (h : Sound φ q.2) : Sound φ (strangerEval fl f q).2 := by simp [strangerEval, h]
@[simp] theorem sound_deriveSeeds (f s) (h : Sound φ s) : Sound φ (deriveSeeds f s) := by simp [deriveSeeds, h]
@[simp] theorem sound_ambientReadBody (n r s) (h : Sound φ s) : Sound φ (ambientReadBody n r s).state := by simp [ambientReadBody, h]
@[simp] theorem sound_passportReadBody (n r s) (h : Sound φ s) : Sound φ (passportReadBody n r s).state := by simp [passportReadBody, h]

/-! ### TallyEng.lean -/

@[simp] theorem sound_markSat (k s) (h : Sound φ s) : Sound φ (markSat k s) := by
  unfold markSat
  refine sound_branches (by simp [h]) ?_
  apply sound_wrapEv
  simp [h]

@[simp] theorem sound_coarsePart (k delta s) (h : Sound φ s) : Sound φ (coarsePart k delta s) := by simp [coarsePart, h]

@[simp] theorem sound_finePart (k delta s) (h : Sound φ s) : Sound φ (finePart k delta s) := by
  unfold finePart
  dsimp only
  split <;> simp [h]

@[simp] theorem sound_increment (c sh te s) (h : Sound φ s) : Sound φ (increment c sh te s) := by
  unfold increment
  dsimp only
  split
  · simp [h]
  · split <;> simp [h]

@[simp] theorem sound_tallyService (rod s) (h : Sound φ s) : Sound φ (tallyService rod s) := by
  unfold tallyService
  refine sound_branches (by simp [h]) ?_
  dsimp only
  split
  · simp [h]
  · split
    · simp [h]
    · apply sound_branches
      · apply sound_wrapEv
        apply sound_setCh
        apply sound_irqOpen
        exact sound_foldl (fun s a hs => by simp [hs]) _ _ (by simp [h])
      · apply sound_irqOpen
        exact sound_foldl (fun s a hs => by simp [hs]) _ _ (by simp [h])

@[simp] theorem sound_firstShot (k merged sh s) (h : Sound φ s) : Sound φ (firstShot k merged sh s) := by simp [firstShot, h]
@[simp] theorem sound_dropLog (c cause f s) (h : Sound φ s) : Sound φ (dropLog c cause f s) := by simp [dropLog, h]

@[simp] theorem sound_pointStart (c s) (h : Sound φ s) : Sound φ (pointStart c s) := by
  unfold pointStart
  dsimp only
  split
  · simp [h]
  · refine sound_branches (by simp [h]) ?_
    split
    · refine sound_foldl (fun s a hs => ?_) _ _ ?_
      · simp [hs]
      · apply sound_setCh
        simp [h]
    · split
      · exact sound_foldl (fun s a hs => by simp [hs]) _ _ (by simp [h])
      · apply sound_branches
        · refine sound_foldl (fun s a hs => ?_) _ _ ?_
          · simp [hs]
          · apply sound_setCh
            apply sound_wrapEv
            apply sound_setTalRod
            simp [h]
        · exact sound_foldl (fun s a hs => by simp [hs]) _ _ (by simp [h])

@[simp] theorem sound_stackRefuse (deck cls s) (h : Sound φ s) : Sound φ (stackRefuse deck cls s) := by simp [stackRefuse, h]
@[simp] theorem sound_stackAdmit (k s) (h : Sound φ s) : Sound φ (stackAdmit k s) := by simp [stackAdmit, h]
@[simp] theorem sound_closePage (k s) (h : Sound φ s) : Sound φ (closePage k s) := by simp [closePage, h]
@[simp] theorem sound_endPage (k s) (h : Sound φ s) : Sound φ (endPage k s) := by simp [endPage, h]
@[simp] theorem sound_planMark (c s p) (h : Sound φ s) : Sound φ (planMark c s p) := by simp [planMark, h]

@[simp] theorem sound_pointEnd (c s) (h : Sound φ s) : Sound φ (pointEnd c s) := by
  unfold pointEnd
  split
  · simp [h]
  · split
    · apply sound_gap
      apply sound_wrapEv
      apply sound_setTalRod
      simp [h]
    · simp [h]

@[simp] theorem sound_pageClose (c s) (h : Sound φ s) : Sound φ (pageClose c s) := by
  unfold pageClose
  split <;> simp [h]

@[simp] theorem sound_scoutStart (rod s) (h : Sound φ s) : Sound φ (scoutStart rod s) := by
  unfold scoutStart
  dsimp only
  split <;> simp [h]

@[simp] theorem sound_scoutEnd (rod s) (h : Sound φ s) : Sound φ (scoutEnd rod s) := by
  unfold scoutEnd
  dsimp only
  split
  · simp [h]
  · refine sound_branches (by simp [h]) ?_
    refine sound_branches ?_ (by simp [h])
    apply sound_wrapEv
    simp [h]

@[simp] theorem sound_fineReplay (rod s) (h : Sound φ s) : Sound φ (fineReplay rod s) := by simp +contextual [fineReplay, h]
@[simp] theorem sound_freePage (k s) (h : Sound φ s) : Sound φ (freePage k s) := by simp [freePage, h]

@[simp] theorem sound_pageRelease (c s) (h : Sound φ s) : Sound φ (pageRelease c s) := by
  unfold pageRelease
  split <;> simp [h]

@[simp] theorem sound_stackRestart (deck reason n first s) (h : Sound φ s) : Sound φ (stackRestart deck reason n first s) := by
  unfold stackRestart
  apply sound_logEv
  simp [h]

@[simp] theorem sound_stackRead (c s) (h : Sound φ s) : Sound φ (stackRead c s) := by
  unfold stackRead
  split <;> simp [h]

@[simp] theorem sound_tallyCountersBody (n r s) (h : Sound φ s) : Sound φ (tallyCountersBody n r s).state := by simp [tallyCountersBody, h]
@[simp] theorem sound_stackStatusBody (n r s) (h : Sound φ s) : Sound φ (stackStatusBody n r s).state := by simp [stackStatusBody, h]

/-! ### Extract.lean -/

@[simp] theorem sound_extractorService (dk s) (h : Sound φ s) : Sound φ (extractorService dk s) := by
  unfold extractorService
  refine sound_branches (by simp [h]) ?_
  split
  · simp [h]
  · split
    · simp [h]
    · apply sound_wrapEv
      apply sound_wrapEv
      apply sound_wrapEv
      apply sound_setExtDeck
      simp [h]

@[simp] theorem sound_planCount (v s) (h : Sound φ s) : Sound φ (planCount v s) := by simp [planCount, h]

@[simp] theorem sound_offsetCount (v s) (h : Sound φ s) : Sound φ (offsetCount v s) := by
  unfold offsetCount
  split <;> simp [h]

@[simp] theorem sound_offsetFrame (frame trunc s) (h : Sound φ s) : Sound φ (offsetFrame frame trunc s) := by
  unfold offsetFrame
  split <;> simp [h]

@[simp] theorem sound_extractionComplete (dk s) (h : Sound φ s) : Sound φ (extractionComplete dk s) := by
  unfold extractionComplete
  dsimp only
  split
  · simp [h]
  · apply sound_irqOpen
    refine sound_foldl (fun s a hs => ?_) _ _ ?_
    · simp [hs]
    · apply sound_planCount
      simp [h]

@[simp] theorem sound_templateWriteBody (n r s) (h : Sound φ s) : Sound φ (templateWriteBody n r s).state := by simp [templateWriteBody, h]
@[simp] theorem sound_extCountersBody (n r s) (h : Sound φ s) : Sound φ (extCountersBody n r s).state := by simp [extCountersBody, h]

/-! ### Emission.lean -/

@[simp] theorem sound_itinWriteBody (n r s) (h : Sound φ s) : Sound φ (itinWriteBody n r s).state := by simp [itinWriteBody, h]
@[simp] theorem sound_itinReadBody (n r s) (h : Sound φ s) : Sound φ (itinReadBody n r s).state := by simp [itinReadBody, h]
@[simp] theorem sound_itinValidateBody (n r s) (h : Sound φ s) : Sound φ (itinValidateBody n r s).state := by simp [itinValidateBody, h]
@[simp] theorem sound_curveWriteBody (n r s) (h : Sound φ s) : Sound φ (curveWriteBody n r s).state := by simp [curveWriteBody, h]
@[simp] theorem sound_planRoiBody (n r s) (h : Sound φ s) : Sound φ (planRoiBody n r s).state := by simp [planRoiBody, h]
@[simp] theorem sound_emitCountersBody (n r s) (h : Sound φ s) : Sound φ (emitCountersBody n r s).state := by simp [emitCountersBody, h]

/-! ### Calib.lean -/

@[simp] theorem sound_cdCandidate (c s) (h : Sound φ s) : Sound φ (cdCandidate c s) := by
  unfold cdCandidate
  refine sound_branches (by simp [h]) ?_
  refine sound_branches ?_ (by simp [h])
  refine sound_branches ?_ (by simp [h])
  apply sound_logEv
  simp [h]

@[simp] theorem sound_noteChanged (o s) (h : Sound φ s) : Sound φ (noteChanged o s) := by simp [noteChanged, h]

@[simp] theorem sound_blendAll (s) (h : Sound φ s) : Sound φ (blendAll s) := by
  unfold blendAll
  refine sound_branches (by simp [h]) ?_
  apply sound_branches
  · simp only [sound_mk, sound_fold]
    apply sound_noteChanged
    exact sound_foldl (fun s a hs => by simp [hs]) _ _ (by simp [h])
  · apply sound_logEv
    simp only [sound_mk, sound_fold]
    apply sound_noteChanged
    exact sound_foldl (fun s a hs => by simp [hs]) _ _ (by simp [h])

@[simp] theorem sound_cdBlendStep (s) (h : Sound φ s) : Sound φ (cdBlendStep s) := by simp [cdBlendStep, h]
@[simp] theorem sound_calStore (b s) (h : Sound φ s) : Sound φ (calStore b s) := by simp [calStore, h]
@[simp] theorem sound_calSave (s) (h : Sound φ s) : Sound φ (calSave s) := by simp [calSave, h]
@[simp] theorem sound_takeTaps (c ns codes s) (h : Sound φ s) : Sound φ (takeTaps c ns codes s) := by simp [takeTaps, h]
@[simp] theorem sound_reselectBody (n r s) (h : Sound φ s) : Sound φ (reselectBody n r s).state := by simp [reselectBody, h]

@[simp] theorem sound_reselectDone (scans s) (h : Sound φ s) : Sound φ (reselectDone scans s) := by
  unfold reselectDone
  split
  · simp [h]
  · split
    · simp [h]
    · dsimp only
      apply sound_logEv
      simp only [sound_mk, sound_fold]
      apply sound_noteChanged
      exact sound_foldl (fun s a hs => by simp [hs]) _ _ (by simp [h])

@[simp] theorem sound_factoryRunBody (n x s) (h : Sound φ s) : Sound φ (factoryRunBody n x s).state := by simp [factoryRunBody, h]

@[simp] theorem sound_factoryDone (f s) (h : Sound φ s) : Sound φ (factoryDone f s) := by
  unfold factoryDone
  refine sound_branches (by simp [h]) ?_
  dsimp only
  refine sound_branches (by simp [h]) ?_
  apply sound_logEv
  apply sound_branches
  · simp only [sound_mk, sound_fold]
    apply sound_branches
    · simp only [sound_mk, sound_fold]
      exact sound_foldl (fun s a hs => by simp [hs]) _ _ (by simp [h])
    · simp only [sound_mk, sound_fold]
      exact sound_foldl (fun s a hs => by simp [hs]) _ _ (by simp [h])
  · simp only [sound_mk, sound_fold]
    apply sound_calStore
    apply sound_branches
    · simp only [sound_mk, sound_fold]
      exact sound_foldl (fun s a hs => by simp [hs]) _ _ (by simp [h])
    · simp only [sound_mk, sound_fold]
      exact sound_foldl (fun s a hs => by simp [hs]) _ _ (by simp [h])

@[simp] theorem sound_offsetMeasureBody (n r s) (h : Sound φ s) : Sound φ (offsetMeasureBody n r s).state := by simp [offsetMeasureBody, h]
@[simp] theorem sound_skewMeasureBody (n r s) (h : Sound φ s) : Sound φ (skewMeasureBody n r s).state := by simp [skewMeasureBody, h]

@[simp] theorem sound_skewCount (seen own s) (h : Sound φ s) : Sound φ (skewCount seen own s) := by
  unfold skewCount
  split <;> simp [h]

@[simp] theorem sound_storeFile (store offs skew s) (h : Sound φ s) : Sound φ (storeFile store offs skew s) := by simp [storeFile, h]

@[simp] theorem sound_measureEv (kind upd short skew s) (h : Sound φ s) : Sound φ (measureEv kind upd short skew s) := by
  unfold measureEv
  apply sound_logEv
  apply sound_freeVal
  simp [h]

@[simp] theorem sound_offsetsDone (m s) (h : Sound φ s) : Sound φ (offsetsDone m s) := by simp [offsetsDone, h]

@[simp] theorem sound_skewDone (m s) (h : Sound φ s) : Sound φ (skewDone m s) := by
  unfold skewDone
  apply sound_measureEv
  simp [h]

@[simp] theorem sound_measureDone (s) (h : Sound φ s) : Sound φ (measureDone s) := by
  unfold measureDone
  split <;> simp [h]

@[simp] theorem sound_calStatusBody (n r s) (h : Sound φ s) : Sound φ (calStatusBody n r s).state := by simp [calStatusBody, h]

/-! ### Commit.lean -/

@[simp] theorem sound_startFades (mask s) (h : Sound φ s) : Sound φ (startFades mask s) := by simp +contextual [startFades, h]

@[simp] theorem sound_stepFades (first s) (h : Sound φ s) : Sound φ (stepFades first s) := by
  unfold stepFades
  refine sound_foldl (fun s a hs => ?_) _ _ ?_
  · dsimp only
    split <;> simp [hs]
  · simp [h]

@[simp] theorem sound_dropStack (reason first p s) (h : Sound φ s) : Sound φ (dropStack reason first p s) := by
  unfold dropStack
  refine sound_branches (by simp [h]) ?_
  apply sound_logEv
  exact sound_foldl (fun s a hs => by simp [hs]) _ _ (by simp [h])

@[simp] theorem sound_commitStack (first s) (h : Sound φ s) : Sound φ (commitStack first s) := by simp [commitStack, h]

@[simp] theorem sound_staleHeld (s) (h : Sound φ s) : Sound φ (staleHeld s) := by
  unfold staleHeld
  refine sound_foldl (fun s a hs => ?_) _ _ ?_
  · dsimp only
    apply sound_freePage
    apply sound_gap
    apply sound_dropLog
    simp [hs]
  · simp [h]

@[simp] theorem sound_staleQueued (s) (h : Sound φ s) : Sound φ (staleQueued s) := by
  unfold staleQueued
  refine sound_foldl (fun s a hs => ?_) _ _ ?_
  · dsimp only
    refine sound_branches (by simp [hs]) ?_
    apply sound_logEv
    apply sound_gap
    exact sound_foldl (fun s a hs => by simp [hs]) _ _ (by simp [hs])
  · simp [h]

@[simp] theorem sound_staleFrames (s) (h : Sound φ s) : Sound φ (staleFrames s) := by
  unfold staleFrames
  refine sound_foldl (fun s a hs => ?_) _ _ ?_
  · dsimp only
    refine sound_branches (by simp [hs]) ?_
    apply sound_gap
    apply sound_branches
    · apply sound_closeEp
      apply sound_setQueue
      exact sound_foldl (fun s a hs => by simp [hs]) _ _ (by simp [hs])
    · exact sound_foldl (fun s a hs => by simp [hs]) _ _ (by simp [hs])
  · simp [h]

@[simp] theorem sound_depthClamped (s) (h : Sound φ s) : Sound φ (depthClamped s) := by
  unfold depthClamped
  dsimp only
  split <;> simp [h]

@[simp] theorem sound_swapImage (planner first s) (h : Sound φ s) : Sound φ (swapImage planner first s) := by simp [swapImage, h]
@[simp] theorem sound_watchNew (s) (h : Sound φ s) : Sound φ (watchNew s) := by simp +contextual [watchNew, h]

@[simp] theorem sound_staleWork (s) (h : Sound φ s) : Sound φ (staleWork s) := by
  unfold staleWork
  apply sound_staleFrames
  simp [h]

@[simp] theorem sound_putSet (host svc s) (h : Sound φ s) : Sound φ (putSet host svc s) := by simp [putSet, h]

@[simp] theorem sound_commitSets (first host svc s) (h : Sound φ s) : Sound φ (commitSets first host svc s) := by
  unfold commitSets
  refine sound_branches (by simp [h]) ?_
  dsimp only
  apply sound_updCharge
  apply sound_depthClamped
  apply sound_commitStack
  apply sound_watchNew
  apply sound_branches
  · apply sound_swapImage
    apply sound_stepFades
    split
    · apply sound_startFades
      simp [h]
    · simp [h]
  · apply sound_branches
    · apply sound_swapImage
      apply sound_stepFades
      split
      · apply sound_startFades
        simp [h]
      · simp [h]
    · apply sound_stepFades
      split
      · apply sound_startFades
        simp [h]
      · simp [h]

@[simp] theorem sound_handLine0 (s) (h : Sound φ s) : Sound φ (handLine0 s) := by simp [handLine0, h]

@[simp] theorem sound_idleCommit (host s) (h : Sound φ s) : Sound φ (idleCommit host s) := by
  unfold idleCommit
  apply sound_irq
  apply sound_handLine0
  simp only [sound_mk, sound_fold]
  refine sound_branches ?_ (by simp [h])
  apply sound_setAllow
  simp [h]

/-! ### Plan.lean -/

@[simp] theorem sound_planEval (o f q) (h : Sound φ q.2) : Sound φ (planEval o f q).2 := by simp [planEval, h]

/-! ### Frame.lean -/

@[simp] theorem sound_chanFrame (f s) (h : Sound φ s) : Sound φ (chanFrame f s) := by
  unfold chanFrame
  simp only [sound_mk, sound_fold]
  refine sound_foldl (fun s a hs => ?_) _ _ ?_
  · simp [hs]
  · refine sound_foldl (fun s a hs => ?_) _ _ ?_
    · simp [hs]
    · split
      · split <;> simp [h]
      · apply sound_logEv
        split <;> simp [h]

@[simp] theorem sound_ambFrame (s) (h : Sound φ s) : Sound φ (ambFrame s) := by
  unfold ambFrame
  dsimp only
  exact sound_foldl (fun s a hs => by simp [hs]) _ _ (by simp [h])

@[simp] theorem sound_stackGap (f d cls n first s) (h : Sound φ s) : Sound φ (stackGap f d cls n first s) := by simp [stackGap, h]

@[simp] theorem sound_tallyFrame (f s) (h : Sound φ s) : Sound φ (tallyFrame f s) := by
  unfold tallyFrame
  refine sound_foldl (fun s a hs => ?_) _ _ ?_
  · simp [hs]
  · refine sound_foldl (fun s a hs => ?_) _ _ ?_
    · simp [hs]
    · exact sound_foldl (fun s a hs => by simp [hs]) _ _ (by simp [h])

@[simp] theorem sound_allowFrame (trunc n s) (h : Sound φ s) : Sound φ (allowFrame trunc n s) := by simp [allowFrame, h]

@[simp] theorem sound_extFrame (s) (h : Sound φ s) : Sound φ (extFrame s) := by
  unfold extFrame
  dsimp only
  exact sound_foldl (fun s a hs => by simp [hs]) _ _ (by simp [h])

@[simp] theorem sound_closeEps (s) (h : Sound φ s) : Sound φ (closeEps s) := by simp +contextual [closeEps, h]

@[simp] theorem sound_closeLate (f s) (h : Sound φ s) : Sound φ (closeLate f s) := by
  unfold closeLate
  split <;> simp [h]

@[simp] theorem sound_shedRecord (f q s) (h : Sound φ s) : Sound φ (shedRecord f q s) := by
  unfold shedRecord
  apply sound_branches
  · apply sound_setPath
    exact sound_foldl (fun s a hs => by simp [hs]) _ _ (by simp [h])
  · apply sound_logEv
    apply sound_pushLoss
    apply sound_setPath
    exact sound_foldl (fun s a hs => by simp [hs]) _ _ (by simp [h])

@[simp] theorem sound_streamFrame (f s) (h : Sound φ s) : Sound φ (streamFrame f s) := by
  unfold streamFrame
  refine sound_foldl (fun s a hs => ?_) _ _ ?_
  · simp [hs]
  · apply sound_branches
    · apply sound_closeLate
      simp [h]
    · apply sound_logEv
      simp only [sound_mk, sound_fold]
      apply sound_closeLate
      simp [h]

@[simp] theorem sound_applyThrottle (s) (h : Sound φ s) : Sound φ (applyThrottle s) := by simp [applyThrottle, h]
@[simp] theorem sound_fbeState (s) (h : Sound φ s) : Sound φ (fbeState s) := by simp [fbeState, h]

@[simp] theorem sound_calFrame (s) (h : Sound φ s) : Sound φ (calFrame s) := by
  unfold calFrame
  dsimp only
  split <;> simp [h]

@[simp] theorem sound_fbeReport (f n trunc s) (h : Sound φ s) : Sound φ (fbeReport f n trunc s) := by
  unfold fbeReport
  apply sound_closeSegGaps
  refine sound_foldl (fun s a hs => ?_) _ _ ?_
  · simp [hs]
  · apply sound_streamFrame
    apply sound_extFrame
    apply sound_tallyFrame
    apply sound_chanFrame
    simp only [sound_mk, sound_fold]
    refine sound_branches (by simp [h]) ?_
    refine sound_branches (by simp [h]) ?_
    exact sound_foldl (fun s a hs => by simp [hs]) _ _ (by simp [h])

@[simp] theorem sound_fbeAdvance (f n s) (h : Sound φ s) : Sound φ (fbeAdvance f n s) := by simp [fbeAdvance, h]

@[simp] theorem sound_fbeCommit (f1 s) (h : Sound φ s) : Sound φ (fbeCommit f1 s) := by
  unfold fbeCommit
  apply sound_irq
  apply sound_deriveSeeds
  simp [h]

@[simp] theorem sound_services (o fl f s) (h : Sound φ s) : Sound φ (services o fl f s) := by
  unfold services
  apply sound_branches
  · apply sound_planEval
    simp [h]
  · apply sound_svcSeal
    simp only [sound_mk, sound_fold]
    apply sound_planEval
    simp [h]

@[simp] theorem sound_handFrame (trunc s) (h : Sound φ s) : Sound φ (handFrame trunc s) := by simp [handFrame, h]

@[simp] theorem sound_frameBoundary (s) (h : Sound φ s) : Sound φ (frameBoundary s) := by
  unfold frameBoundary
  split
  · simp [h]
  · refine sound_branches (by simp [h]) ?_
    dsimp only
    apply sound_healthRecord
    apply sound_services
    apply sound_ambFrame
    apply sound_updScore
    apply sound_updCharge
    apply sound_handFrame
    simp only [sound_mk, sound_fold]
    apply sound_fbeState
    apply sound_applyThrottle
    apply sound_calFrame
    apply sound_publishFills
    apply sound_allowFrame
    apply sound_fbeCommit
    apply sound_fbeAdvance
    apply sound_irq
    simp [h]

@[simp] theorem sound_frameEnd (s) (h : Sound φ s) : Sound φ (frameEnd s) := by
  unfold frameEnd
  split
  · simp [h]
  · refine sound_branches (by simp [h]) ?_
    dsimp only
    apply sound_closeAll
    apply sound_pushRec
    apply sound_closeAll
    simp [h]

@[simp] theorem sound_deadlinePass (s) (h : Sound φ s) : Sound φ (deadlinePass s) := by
  unfold deadlinePass
  split <;> simp [h]

/-! ### Health.lean -/

@[simp] theorem sound_setTarget (n s) (h : Sound φ s) : Sound φ (setTarget n s) := by simp [setTarget, h]
@[simp] theorem sound_hostStep (s) (h : Sound φ s) : Sound φ (hostStep s) := by simp [hostStep, h]
@[simp] theorem sound_criticalCheck (m s) (h : Sound φ s) : Sound φ (criticalCheck m s) := by simp [criticalCheck, h]
@[simp] theorem sound_throttleSample (m s) (h : Sound φ s) : Sound φ (throttleSample m s) := by simp [throttleSample, h]

@[simp] theorem sound_throttleEval (s) (h : Sound φ s) : Sound φ (throttleEval s) := by
  unfold throttleEval
  split <;> simp [h]

@[simp] theorem sound_throttleTimer (s) (h : Sound φ s) : Sound φ (throttleTimer s) := by
  unfold throttleTimer
  refine sound_branches (by simp [h]) ?_
  split <;> simp [h]

@[simp] theorem sound_sampleSensor (held n r s) (h : Sound φ s) : Sound φ (sampleSensor held n r s) := by simp [sampleSensor, h]
@[simp] theorem sound_substitutes (s) (h : Sound φ s) : Sound φ (substitutes s) := by simp +contextual [substitutes, h]
@[simp] theorem sound_writeInterlock (s) (h : Sound φ s) : Sound φ (writeInterlock s) := by simp [writeInterlock, h]

@[simp] theorem sound_tempSample (rs s) (h : Sound φ s) : Sound φ (tempSample rs s) := by
  unfold tempSample
  apply sound_branches
  · exact h
  · extract_lets _ s1 quiet held s2 s3
    have h1 : Sound φ s1 := h
    have h2 : Sound φ s2 := by
      refine sound_foldl (fun u n hu => ?_) _ _ h1
      refine sound_irqOpen _ _ ?_
      refine sound_sampleSensor _ _ _ _ ?_
      exact hu
    have h3 : Sound φ s3 := sound_writeInterlock _ (sound_levelFault _ _ _ (sound_substitutes _ h2))
    split
    · exact h3
    · exact sound_throttleEval _ h3

@[simp] theorem sound_sampleRail (i mv s) (h : Sound φ s) : Sound φ (sampleRail i mv s) := by simp [sampleRail, h]

@[simp] theorem sound_voltageSample (mvs s) (h : Sound φ s) : Sound φ (voltageSample mvs s) := by
  unfold voltageSample
  refine sound_branches (by simp [h]) ?_
  dsimp only
  apply sound_branches
  · simp only [sound_mk, sound_fold]
    split
    · apply sound_branches
      · exact sound_foldl (fun s a hs => by simp [hs]) _ _ (by simp [h])
      · apply sound_vddNkChange
        exact sound_foldl (fun s a hs => by simp [hs]) _ _ (by simp [h])
    · exact sound_foldl (fun s a hs => by simp [hs]) _ _ (by simp [h])
  · split
    · apply sound_branches
      · exact sound_foldl (fun s a hs => by simp [hs]) _ _ (by simp [h])
      · apply sound_vddNkChange
        exact sound_foldl (fun s a hs => by simp [hs]) _ _ (by simp [h])
    · exact sound_foldl (fun s a hs => by simp [hs]) _ _ (by simp [h])

@[simp] theorem sound_railWarning (i s) (h : Sound φ s) : Sound φ (railWarning i s) := by
  unfold railWarning
  dsimp only
  split <;> simp [h]

@[simp] theorem sound_ageRatio (i count s) (h : Sound φ s) : Sound φ (ageRatio i count s).2 := by simp [ageRatio, h]

@[simp] theorem sound_ageing (cs s) (h : Sound φ s) : Sound φ (ageing cs s) := by
  unfold ageing
  refine sound_branches (by simp [h]) ?_
  refine sound_foldl (fun s a hs => ?_) _ _ ?_
  · dsimp only
    refine sound_branches ?_ (by simp [hs])
    apply sound_logEv
    simp [hs]
  · simp [h]

@[simp] theorem sound_healthReadBody (n r s) (h : Sound φ s) : Sound φ (healthReadBody n r s).state := by simp [healthReadBody, h]

@[simp] theorem sound_sensorRetireBody (n r s) (h : Sound φ s) : Sound φ (sensorRetireBody n r s).state := by
  unfold sensorRetireBody
  refine sound_state_branches (by simp [h]) ?_
  refine sound_state_branches (by simp [h]) ?_
  rw [CmdOut.state_done]
  apply sound_writeInterlock
  simp [h]

/-! ### Lanes.lean -/

@[simp] theorem sound_laneFec (l code s) (h : Sound φ s) : Sound φ (laneFec l code s).2 := by
  unfold laneFec
  refine sound_snd_branches (by simp [h]) ?_
  refine sound_snd_branches (by simp [h]) ?_
  refine sound_snd_branches (by simp [h]) ?_
  refine sound_snd_branches (by simp [h]) ?_
  split <;> simp [h]

@[simp] theorem sound_laneWords (l s) (h : Sound φ s) : Sound φ (laneWords l s) := by
  unfold laneWords
  refine sound_branches (by simp [h]) ?_
  apply sound_setLane
  apply sound_freeVal
  simp [h]

@[simp] theorem sound_laneErrors (l lo hi s) (h : Sound φ s) : Sound φ (laneErrors l lo hi s) := by simp [laneErrors, h]

@[simp] theorem sound_laneSettle (l s) (h : Sound φ s) : Sound φ (laneSettle l s) := by
  unfold laneSettle
  apply sound_setLane
  simp [h]

@[simp] theorem sound_laneInject (l s) (h : Sound φ s) : Sound φ (laneInject l s) := by simp [laneInject, h]

@[simp] theorem sound_updCapacity (s) (h : Sound φ s) : Sound φ (updCapacity s) := by
  unfold updCapacity
  refine sound_foldl (fun s a hs => ?_) _ _ ?_
  · dsimp only
    refine sound_branches (by simp [hs]) ?_
    apply sound_irqOpen
    simp [hs]
  · simp [h]

@[simp] theorem sound_laneDownEv (l reason s) (h : Sound φ s) : Sound φ (laneDownEv l reason s) := by
  unfold laneDownEv
  apply sound_wrapEv
  apply sound_logEv
  apply sound_setLane
  split <;> simp [h]

@[simp] theorem sound_laneTo (l reason f s) (h : Sound φ s) : Sound φ (laneTo l reason f s) := by
  unfold laneTo
  apply sound_updCapacity
  apply sound_branches
  · apply sound_timeHoldover
    apply sound_timeLink
    apply sound_irqOpen
    refine sound_branches ?_ (by simp [h])
    apply sound_laneDownEv
    simp [h]
  · apply sound_irqOpen
    refine sound_branches ?_ (by simp [h])
    apply sound_laneDownEv
    simp [h]

@[simp] theorem sound_laneTrain (l code reason s) (h : Sound φ s) : Sound φ (laneTrain l code reason s) := by simp [laneTrain, h]
@[simp] theorem sound_laneNegotiate (l reason s) (h : Sound φ s) : Sound φ (laneNegotiate l reason s) := by simp [laneNegotiate, h]
@[simp] theorem sound_laneRestart (l s) (h : Sound φ s) : Sound φ (laneRestart l s) := by simp [laneRestart, h]
@[simp] theorem sound_laneSelfCheck (l s) (h : Sound φ s) : Sound φ (laneSelfCheck l s) := by simp [laneSelfCheck, h]
@[simp] theorem sound_lanesStart (s) (h : Sound φ s) : Sound φ (lanesStart s) := by simp +contextual [lanesStart, h]
@[simp] theorem sound_laneWait (l reason s) (h : Sound φ s) : Sound φ (laneWait l reason s) := by simp [laneWait, h]
@[simp] theorem sound_selfCheckDone (l passed s) (h : Sound φ s) : Sound φ (selfCheckDone l passed s) := by simp [selfCheckDone, h]

@[simp] theorem sound_negotiated (l partner s) (h : Sound φ s) : Sound φ (negotiated l partner s) := by
  unfold negotiated
  refine sound_branches (by simp [h]) ?_
  dsimp only
  split <;> simp [h]

@[simp] theorem sound_twinHello (l h s) (hs : Sound φ s) : Sound φ (twinHello l h s) := by
  unfold twinHello
  apply sound_branches
  · simp [hs]
  · apply sound_branches
    · simp [hs]
    · apply sound_branches
      · simp [hs]
      · split
        · apply sound_laneTrain
          apply sound_setLane
          simp [hs]
        · simp [hs]

@[simp] theorem sound_laneFailed (l s) (h : Sound φ s) : Sound φ (laneFailed l s) := by
  unfold laneFailed
  refine sound_branches (by simp [h]) ?_
  split
  · simp [h]
  · apply sound_branches
    · apply sound_laneNegotiate
      apply sound_wrapEv
      simp [h]
    · apply sound_laneTrain
      apply sound_wrapEv
      simp [h]

@[simp] theorem sound_trainTimeout (l s) (h : Sound φ s) : Sound φ (trainTimeout l s) := by simp [trainTimeout, h]

@[simp] theorem sound_laneUp (l s) (h : Sound φ s) : Sound φ (laneUp l s) := by
  unfold laneUp
  refine sound_branches (by simp [h]) ?_
  dsimp only
  apply sound_laneInject
  simp [h]

@[simp] theorem sound_ucwAtFailure (l s) (h : Sound φ s) : Sound φ (ucwAtFailure l s) := by simp [ucwAtFailure, h]

@[simp] theorem sound_laneDown (l reason s) (h : Sound φ s) : Sound φ (laneDown l reason s) := by
  unfold laneDown
  refine sound_branches (by simp [h]) ?_
  apply sound_laneTrain
  simp [h]

@[simp] theorem sound_laneRetry (l s) (h : Sound φ s) : Sound φ (laneRetry l s) := by simp [laneRetry, h]
@[simp] theorem sound_laneEnable (l same s) (h : Sound φ s) : Sound φ (laneEnable l same s) := by simp [laneEnable, h]
@[simp] theorem sound_laneLimits (l s) (h : Sound φ s) : Sound φ (laneLimits l s) := by simp [laneLimits, h]
@[simp] theorem sound_checkerLock (l s) (h : Sound φ s) : Sound φ (checkerLock l s) := by simp [checkerLock, h]

@[simp] theorem sound_checkerLoss (l errors s) (h : Sound φ s) : Sound φ (checkerLoss l errors s) := by
  unfold checkerLoss
  refine sound_branches (by simp [h]) ?_
  apply sound_wrapEv
  apply sound_setLane
  simp [h]

@[simp] theorem sound_retrainBody (n r s) (h : Sound φ s) : Sound φ (retrainBody n r s).state := by simp +contextual [retrainBody, h]

@[simp] theorem sound_laneTestBody (n r s) (h : Sound φ s) : Sound φ (laneTestBody n r s).state := by
  unfold laneTestBody
  refine sound_state_branches (by simp [h]) ?_
  refine sound_state_branches (by simp [h]) ?_
  rw [CmdOut.state_done]
  apply sound_laneInject
  apply sound_setLane
  simp [h]

@[simp] theorem sound_laneStatusBody (n r s) (h : Sound φ s) : Sound φ (laneStatusBody n r s).state := by simp [laneStatusBody, h]
@[simp] theorem sound_eyeRefuse (result l kind s) (h : Sound φ s) : Sound φ (eyeRefuse result l kind s).state := by simp [eyeRefuse, h]
@[simp] theorem sound_eyeScanBody (n r s) (h : Sound φ s) : Sound φ (eyeScanBody n r s).state := by simp [eyeScanBody, h]

@[simp] theorem sound_eyeBytes (e low high count s) (h : Sound φ s) : Sound φ (eyeBytes e low high count s).2 := by
  unfold eyeBytes
  refine sound_snd_branches (by simp [h]) ?_
  split <;> simp [h]

@[simp] theorem sound_eyeScanDone (low high count s) (h : Sound φ s) : Sound φ (eyeScanDone low high count s) := by
  unfold eyeScanDone
  split
  · exact h
  · dsimp only
    apply sound_mbDone
    apply sound_freeBytes
    exact foldl_holds (fun a : List Byte × State => Sound φ a.2) (fun a i ha => by simp [ha]) _ _ (by simp [h])

/-! ### StreamCmd.lean -/

@[simp] theorem sound_streamConfigBody (n r s) (h : Sound φ s) : Sound φ (streamConfigBody n r s).state := by simp [streamConfigBody, h]
@[simp] theorem sound_rawRequestBody (n r s) (h : Sound φ s) : Sound φ (rawRequestBody n r s).state := by simp [rawRequestBody, h]

@[simp] theorem sound_keySetBody (n r s) (h : Sound φ s) : Sound φ (keySetBody n r s).state := by
  unfold keySetBody
  refine sound_state_branches (by simp [h]) ?_
  refine sound_state_branches (by simp [h]) ?_
  split <;> simp [h]

@[simp] theorem sound_streamStatusBody (n r s) (h : Sound φ s) : Sound φ (streamStatusBody n r s).state := by simp [streamStatusBody, h]
@[simp] theorem sound_bluwardFlush (k cls s) (h : Sound φ s) : Sound φ (bluwardFlush k cls s) := by simp [bluwardFlush, h]
@[simp] theorem sound_keyClose (k cls s) (h : Sound φ s) : Sound φ (keyClose k cls s) := by simp [keyClose, h]
@[simp] theorem sound_pointToken (s) (h : Sound φ s) : Sound φ (pointToken s) := by simp [pointToken, h]
@[simp] theorem sound_frameDropped (f s) (h : Sound φ s) : Sound φ (frameDropped f s) := by simp [frameDropped, h]

/-! ### Freeze.lean -/

@[simp] theorem sound_releasePins (s) (h : Sound φ s) : Sound φ (releasePins s) := by simp [releasePins, h]

@[simp] theorem sound_freezeNow (to_ s) (ht : to_ ≤ 7) (h : Sound φ s) : Sound φ (freezeNow to_ s) := by
  have hr : Sound φ { s with rst.from_ := to_, mem.refresh := true, rng.engaged := false } := by
    obtain ⟨h1, h2, h3, h4, ⟨h5, -⟩, h6⟩ := h
    exact ⟨h1, h2, h3, h4, ⟨h5, ht⟩, h6⟩
  unfold freezeNow
  simp [hr]

@[simp] theorem sound_doFreeze (s) (h : Sound φ s) : Sound φ (doFreeze s) := by
  unfold doFreeze
  apply sound_branches
  · exact h
  · apply sound_branches
    · simp [h]
    · exact sound_freezeNow _ _ h.states.1 h

@[simp] theorem sound_thawFrame (s) (h : Sound φ s) : Sound φ (thawFrame s) := by simp [thawFrame, h]

@[simp] theorem sound_thawLanes (s) (h : Sound φ s) : Sound φ (thawLanes s) := by
  unfold thawLanes
  exact sound_foldl (fun s a hs => by simp [hs]) _ _ (by simp [h])

@[simp] theorem sound_doThaw (s) (h : Sound φ s) : Sound φ (doThaw s) := by
  have hf : (if s.rst.from_ = 3 ∨ s.rst.from_ = 4 ∨ s.rst.from_ = 5 then 2 else s.rst.from_) ≤ 7 := by
    split
    · decide
    · exact h.states.2
  unfold doThaw
  apply sound_branches
  · exact h
  · dsimp only
    have hs : ∀ c u, Sound φ u → Sound φ (setSt (if s.rst.from_ = 3 ∨ s.rst.from_ = 4 ∨ s.rst.from_ = 5 then 2 else s.rst.from_) c u) :=
      fun c u => sound_setSt _ c u hf
    apply sound_thawLanes
    apply sound_timeHoldover
    apply sound_branches
    · apply sound_thawFrame
      apply hs
      simp [h]
    · apply hs
      simp [h]

@[simp] theorem sound_freezeCtl (v s) (h : Sound φ s) : Sound φ (freezeCtl v s) := by simp [freezeCtl, h]
@[simp] theorem sound_freezeN (w s) (h : Sound φ s) : Sound φ (freezeN w s) := by simp [freezeN, h]
@[simp] theorem sound_freezeWrite (v s) (h : Sound φ s) : Sound φ (freezeWrite v s) := by simp [freezeWrite, h]
@[simp] theorem sound_thawWrite (v s) (h : Sound φ s) : Sound φ (thawWrite v s) := by simp [thawWrite, h]

/-! ### Twin.lean -/

@[simp] theorem sound_claimFault (reason s) (h : Sound φ s) : Sound φ (claimFault reason s) := by simp [claimFault, h]
@[simp] theorem sound_setOwner (o s) (h : Sound φ s) : Sound φ (setOwner o s) := by simp [setOwner, h]
@[simp] theorem sound_claimStart (s) (h : Sound φ s) : Sound φ (claimStart s) := by simp [claimStart, h]

@[simp] theorem sound_claimEnd (syncLow read s) (h : Sound φ s) : Sound φ (claimEnd syncLow read s) := by
  unfold claimEnd
  refine sound_branches (by simp [h]) ?_
  dsimp only
  apply sound_branches
  · apply sound_setOwner
    simp [h]
  · refine sound_branches ?_ (by simp [h])
    apply sound_setOwner
    simp [h]

@[simp] theorem sound_twinStatus (strap headId t1 t2 t3 t4 s) (h : Sound φ s) : Sound φ (twinStatus strap headId t1 t2 t3 t4 s) := by simp [twinStatus, h]
@[simp] theorem sound_statusTimeout (s) (h : Sound φ s) : Sound φ (statusTimeout s) := by simp [statusTimeout, h]
@[simp] theorem sound_lineNotice (f l facet inst s) (h : Sound φ s) : Sound φ (lineNotice f l facet inst s) := by simp [lineNotice, h]
@[simp] theorem sound_noticeMiss (s) (h : Sound φ s) : Sound φ (noticeMiss s) := by simp [noticeMiss, h]
@[simp] theorem sound_serviceSet (v s) (h : Sound φ s) : Sound φ (serviceSet v s) := by simp [serviceSet, h]

@[simp] theorem sound_ownerFireStamp (i s) (h : Sound φ s) : Sound φ (ownerFireStamp i s) := by
  unfold ownerFireStamp
  split <;> simp [h]

/-! ### RingNode.lean -/

@[simp] theorem sound_sendSlot (k s) (h : Sound φ s) : Sound φ (sendSlot k s) := by simp [sendSlot, h]
@[simp] theorem sound_addTrig (code action s) (h : Sound φ s) : Sound φ (addTrig code action s) := by simp [addTrig, h]
@[simp] theorem sound_slotTrig (x s) (h : Sound φ s) : Sound φ (slotTrig x s) := by simp [slotTrig, h]
@[simp] theorem sound_originate (code forward s) (h : Sound φ s) : Sound φ (originate code forward s).2 := by simp [originate, h]
@[simp] theorem sound_trigIo (raw w s) (h : Sound φ s) : Sound φ (trigIo raw w s) := by simp [trigIo, h]

@[simp] theorem sound_trigAction (code s) (h : Sound φ s) : Sound φ (trigAction code s) := by
  unfold trigAction
  split
  · simp [h]
  · dsimp only
    refine sound_branches ?_ (by simp [h])
    apply sound_doFreeze
    simp [h]

@[simp] theorem sound_mapBeat (b l k s) (h : Sound φ s) : Sound φ (mapBeat b l k s) := by simp [mapBeat, h]
@[simp] theorem sound_leaderIs (serial k s) (h : Sound φ s) : Sound φ (leaderIs serial k s) := by simp [leaderIs, h]
@[simp] theorem sound_takeLead (s) (h : Sound φ s) : Sound φ (takeLead s) := by simp [takeLead, h]
@[simp] theorem sound_ringReform (gap nodes loop s) (h : Sound φ s) : Sound φ (ringReform gap nodes loop s) := by simp [ringReform, h]

@[simp] theorem sound_followBeat (b l gap s) (h : Sound φ s) : Sound φ (followBeat b l gap s) := by
  unfold followBeat
  apply sound_branches
  · apply sound_takeLead
    refine sound_foldl (fun s a hs => ?_) _ _ ?_
    · simp [hs]
    · apply sound_branches
      · apply sound_sendSlot
        apply sound_branches
        · refine sound_branches ?_ (by simp [h])
          apply sound_logEv
          simp [h]
        · apply sound_ringReform
          refine sound_branches ?_ (by simp [h])
          apply sound_logEv
          simp [h]
      · apply sound_branches
        · refine sound_branches ?_ (by simp [h])
          apply sound_logEv
          simp [h]
        · apply sound_ringReform
          refine sound_branches ?_ (by simp [h])
          apply sound_logEv
          simp [h]
  · refine sound_foldl (fun s a hs => ?_) _ _ ?_
    · simp [hs]
    · apply sound_branches
      · apply sound_sendSlot
        apply sound_branches
        · refine sound_branches ?_ (by simp [h])
          apply sound_logEv
          simp [h]
        · apply sound_ringReform
          refine sound_branches ?_ (by simp [h])
          apply sound_logEv
          simp [h]
      · apply sound_branches
        · refine sound_branches ?_ (by simp [h])
          apply sound_logEv
          simp [h]
        · apply sound_ringReform
          refine sound_branches ?_ (by simp [h])
          apply sound_logEv
          simp [h]

@[simp] theorem sound_ownBeat (l gap s) (h : Sound φ s) : Sound φ (ownBeat l gap s) := by simp +contextual [ownBeat, h]

@[simp] theorem sound_ringBeat (b l s) (h : Sound φ s) : Sound φ (ringBeat b l s) := by
  unfold ringBeat
  refine sound_branches (by simp [h]) ?_
  dsimp only
  split <;> simp [h]

@[simp] theorem sound_ringCycle (s) (h : Sound φ s) : Sound φ (ringCycle s) := by simp [ringCycle, h]
@[simp] theorem sound_turnWithdraw (s) (h : Sound φ s) : Sound φ (turnWithdraw s) := by simp [turnWithdraw, h]
@[simp] theorem sound_ringInsertion (s) (h : Sound φ s) : Sound φ (ringInsertion s) := by simp [ringInsertion, h]
@[simp] theorem sound_leaderTakeover (s) (h : Sound φ s) : Sound φ (leaderTakeover s) := by simp [leaderTakeover, h]
@[simp] theorem sound_ringHoldover (s) (h : Sound φ s) : Sound φ (ringHoldover s) := by simp [ringHoldover, h]
@[simp] theorem sound_ringLockLost (s) (h : Sound φ s) : Sound φ (ringLockLost s) := by simp [ringLockLost, h]
@[simp] theorem sound_ringEnable (s) (h : Sound φ s) : Sound φ (ringEnable s) := by simp [ringEnable, h]
@[simp] theorem sound_trigSendBody (n r s) (h : Sound φ s) : Sound φ (trigSendBody n r s).state := by simp [trigSendBody, h]
@[simp] theorem sound_twinRingBody (n r s) (h : Sound φ s) : Sound φ (twinRingBody n r s).state := by simp [twinRingBody, h]

/-! ### Sense.lean -/

@[simp] theorem sound_declareOpen (n cond s) (h : Sound φ s) : Sound φ (declareOpen n cond s) := by
  unfold declareOpen
  apply sound_levelFault
  apply sound_wrapEv
  refine sound_branches ?_ (by simp [h])
  apply sound_logEv
  simp [h]

@[simp] theorem sound_restoreOpen (n t0 s) (h : Sound φ s) : Sound φ (restoreOpen n t0 s) := by
  unfold restoreOpen
  apply sound_levelFault
  simp [h]

@[simp] theorem sound_snsStop (n s) (h : Sound φ s) : Sound φ (snsStop n s) := by simp [snsStop, h]

@[simp] theorem sound_snsJudge (n conds s) (h : Sound φ s) : Sound φ (snsJudge n conds s) := by
  unfold snsJudge
  dsimp only
  split
  · simp [h]
  · split <;> simp [h]

@[simp] theorem sound_decimationBlock (n cur term clip bits s) (h : Sound φ s) : Sound φ (decimationBlock n cur term clip bits s) := by
  unfold decimationBlock
  refine sound_branches (by simp [h]) ?_
  refine sound_branches (by simp [h]) ?_
  dsimp only
  apply sound_branches
  · apply sound_irqOpen
    simp [h]
  · refine sound_branches (by simp [h]) ?_
    apply sound_irqOpen
    apply sound_setSense
    apply sound_levelFault
    apply sound_setSense
    apply sound_snsJudge
    simp [h]

@[simp] theorem sound_sensesStart (s) (h : Sound φ s) : Sound φ (sensesStart s) := by simp +contextual [sensesStart, h]

@[simp] theorem sound_laserSample (n v s) (h : Sound φ s) : Sound φ (laserSample n v s) := by
  unfold laserSample
  split <;> simp [h]

@[simp] theorem sound_pushSample (n v fl s) (h : Sound φ s) : Sound φ (pushSample n v fl s) := by
  unfold pushSample
  refine sound_branches (by simp [h]) ?_
  refine sound_branches ?_ (by simp [h])
  apply sound_logEv
  simp [h]

@[simp] theorem sound_rangeTo (n g s) (h : Sound φ s) : Sound φ (rangeTo n g s) := by
  unfold rangeTo
  refine sound_branches ?_ (by simp [h])
  apply sound_logEv
  simp [h]

@[simp] theorem sound_autorange (n v clip s) (h : Sound φ s) : Sound φ (autorange n v clip s) := by simp [autorange, h]
@[simp] theorem sound_leadResult (n l s) (h : Sound φ s) : Sound φ (leadResult n l s) := by simp [leadResult, h]

@[simp] theorem sound_leadSample (n v s) (h : Sound φ s) : Sound φ (leadSample n v s) := by
  unfold leadSample
  dsimp only
  split <;> simp [h]

@[simp] theorem sound_leadL (n s) (h : Sound φ s) : Sound φ (leadL n s).2 := by simp [leadL, h]

@[simp] theorem sound_senseSample (n s) (h : Sound φ s) : Sound φ (senseSample n s) := by
  unfold senseSample
  refine sound_branches (by simp [h]) ?_
  refine sound_branches (by simp [h]) ?_
  apply sound_branches
  · apply sound_leadSample
    apply sound_pushSample
    apply sound_setSense
    simp [h]
  · apply sound_autorange
    apply sound_laserSample
    apply sound_leadSample
    apply sound_pushSample
    apply sound_setSense
    simp [h]

@[simp] theorem sound_settlingEnd (n s) (h : Sound φ s) : Sound φ (settlingEnd n s) := by
  unfold settlingEnd
  refine sound_branches (by simp [h]) ?_
  split <;> simp [h]

@[simp] theorem sound_leadDone (n s) (h : Sound φ s) : Sound φ (leadDone n s) := by
  unfold leadDone
  dsimp only
  split <;> simp [h]

@[simp] theorem sound_laserTimeout (s) (h : Sound φ s) : Sound φ (laserTimeout s) := by simp [laserTimeout, h]
@[simp] theorem sound_senseReadBody (n r s) (h : Sound φ s) : Sound φ (senseReadBody n r s).state := by simp [senseReadBody, h]
@[simp] theorem sound_kfs256 (k s) (h : Sound φ s) : Sound φ (kfs256 k s).2 := by simp [kfs256, h]
@[simp] theorem sound_firWriteBody (n r s) (h : Sound φ s) : Sound φ (firWriteBody n r s).state := by simp [firWriteBody, h]
@[simp] theorem sound_leadMeasureBody (n r s) (h : Sound φ s) : Sound φ (leadMeasureBody n r s).state := by simp [leadMeasureBody, h]
@[simp] theorem sound_senseStatusBody (n r s) (h : Sound φ s) : Sound φ (senseStatusBody n r s).state := by simp [senseStatusBody, h]

/-! ### Reset.lean -/

/-- In RESET the enables are low, and nothing of the desk stands. -/

@[simp] theorem sound_cleared (s) (hst : s.desk.st = 0) (h : Sound φ s) : Sound φ (cleared s) := by
  obtain ⟨h1, h2, -, -, ⟨-, h5⟩, h6⟩ := h
  exact ⟨h1, fun p hl => absurd (h2 p hl) (by omega), nofun, Nat.zero_le _, ⟨Nat.zero_le _, h5⟩, h6⟩

theorem sound_cleared_of_false {s} (h : Sound φ s) : Sound False (cleared s) := by
  obtain ⟨h1, -, -, -, ⟨-, h5⟩, h6⟩ := h
  exact ⟨h1, nofun, nofun, Nat.zero_le _, ⟨Nat.zero_le _, h5⟩, h6⟩

@[simp] theorem sound_enterReset (cause s) (h : Sound φ s) : Sound φ (enterReset cause s) := by
  unfold enterReset
  dsimp only
  split
  · simp [h]
  · refine sound_rejudge _ (sound_dropLsr_of_false ?_)
    have hc := sound_cleared_of_false h
    simp [hc]

@[simp] theorem sound_resetNLow (s) (h : Sound φ s) : Sound φ (resetNLow s) := by simp [resetNLow, h]
@[simp] theorem sound_resetNAssert (w s) (h : Sound φ s) : Sound φ (resetNAssert w s) := by simp [resetNAssert, h]

@[simp] theorem sound_porstAssert (s) (h : Sound φ s) : Sound φ (porstAssert s) := by
  obtain ⟨-, -, -, -, -, -, h7⟩ := h
  exact ⟨rfl, nofun, nofun, Nat.zero_le _, ⟨Nat.zero_le _, Nat.zero_le _⟩, rfl, h7⟩

@[simp] theorem sound_porstRelease (s) (h : Sound φ s) : Sound φ (porstRelease s) := by simp [porstRelease, h]

@[simp] theorem sound_commandReset (s) (h : Sound φ s) : Sound φ (commandReset s) := by
  unfold commandReset
  split <;> simp [h]

@[simp] theorem sound_watchdog (trial s) (h : Sound φ s) : Sound φ (watchdog trial s) := by simp [watchdog, h]

@[simp] theorem sound_voltageFault (i s) (h : Sound φ s) : Sound φ (voltageFault i s) := by
  unfold voltageFault
  split <;> simp [h]

@[simp] theorem sound_bootPick (s) (h : Sound φ s) : Sound φ (bootPick s).2 := by
  obtain ⟨-, -, -, -, -, -, hA, hB⟩ := id h
  unfold bootPick
  extract_lets d o _ r
  have hr : Sound φ r.2 :=
    sound_snd_branches (sound_dirWrite _ _ _ _ h) (sound_snd_branches (sound_dirWrite _ _ _ _ h) h)
  apply sound_snd_branches
  · obtain ⟨h1, h2, h3, h4, h5, h6, -, -⟩ := hr
    exact ⟨h1, h2, h3, h4, h5, h6, hA, hB⟩
  · exact hr

@[simp] theorem sound_bootSlot (k s) (h : Sound φ s) : Sound φ (bootSlot k s) := by simp [bootSlot, h]
@[simp] theorem sound_bootRom (s) (h : Sound φ s) : Sound φ (bootRom s) := by simp [bootRom, h]
@[simp] theorem sound_heldSeconds (h s) (hs : Sound φ s) : Sound φ (heldSeconds h s).2 := by simp [heldSeconds, hs]
@[simp] theorem sound_resetNHigh (s) (h : Sound φ s) : Sound φ (resetNHigh s) := by simp [resetNHigh, h]

@[simp] theorem sound_releaseCause (s) (h : Sound φ s) : Sound φ (releaseCause s) := by
  unfold releaseCause
  split <;> simp [h]

/-- BOOT is entered from RESET, where the enables are low. -/

theorem sound_releaseReset (strap) {s} (hst : s.desk.st = 0) (h : Sound φ s) : Sound φ (releaseReset strap s) := by
  unfold releaseReset
  extract_lets s1 frz _ _ s2
  have h1 : Sound φ s1 := sound_releaseCause _ (sound_cleared _ hst h)
  have h2 : Sound φ s2 := by
    obtain ⟨h1, h2, h3, h4, ⟨h5, -⟩, h6⟩ := h1
    exact ⟨h1, h2, h3, h4, ⟨h5, show 1 ≤ 7 by decide⟩, h6⟩
  apply sound_branches
  · exact sound_freezeNow 1 _ (by decide) h2
  · exact sound_nkUpdate_of_false (sound_bootRom _ (sound_entered 1 (by decide) h2))

@[simp] theorem sound_resetNRelease (strap s) (h : Sound φ s) : Sound φ (resetNRelease strap s) := by
  unfold resetNRelease
  split
  · exact h
  · next hst =>
    have hn : Sound φ (resetNHigh s) := sound_resetNHigh _ h
    apply sound_branches
    · exact h
    · apply sound_branches
      · exact hn
      · refine sound_releaseReset strap ?_ hn
        simpa [resetNHigh] using hst

@[simp] theorem sound_bootSet (s) (h : Sound φ s) : Sound φ (bootSet s) := by simp [bootSet, h]
@[simp] theorem sound_takeCal (f s) (h : Sound φ s) : Sound φ (takeCal f s) := by simp [takeCal, h]

theorem sound_bootCal_bootOtp (reason s) (h : Sound φ s) : Sound φ (bootCal.bootOtp reason s) := by
  unfold bootCal.bootOtp
  dsimp only
  split <;> simp [h]

@[simp] theorem sound_bootCal (s) (h : Sound φ s) : Sound φ (bootCal s) := by
  unfold bootCal
  split
  · simp [h]
  · exact sound_bootCal_bootOtp _ _ h

@[simp] theorem sound_keptLog (s) (h : Sound φ s) : Sound φ (keptLog s) := by simp [keptLog, h]

@[simp] theorem sound_bootMem (b s) (h : Sound φ s) : Sound φ (bootMem b s) := by
  unfold bootMem
  extract_lets usable spill want stack log lay keep s1 s2
  have h1 : Sound φ s1 := by
    obtain ⟨h1, h2, h3, h4, h5, h6, h7⟩ := h
    refine ⟨h1, h2, h3, h4, h5, ?_, h7⟩
    simp only [s1]
    split
    · exact wf_filter _ h6
    · rfl
  have h2 : Sound φ s2 := sound_branches (sound_logEv _ _ _ h1) h1
  exact sound_branches (sound_keptLog _ h2) h2

@[simp] theorem sound_bootFallback (s) (h : Sound φ s) : Sound φ (bootFallback s) := by
  unfold bootFallback
  split <;> simp [h]

@[simp] theorem sound_bootComplete (b s) (h : Sound φ s) : Sound φ (bootComplete b s) := by
  unfold bootComplete
  refine sound_branches (by simp [h]) ?_
  apply sound_lanesStart
  apply sound_sensesStart
  apply sound_setSt
  · simp
  · simp only [sound_mk, sound_fold]
    apply sound_bootMem
    apply sound_bootCal
    apply sound_bootSet
    simp [h]

@[simp] theorem sound_badBlock (a s) (h : Sound φ s) : Sound φ (badBlock a s) := by simp [badBlock, h]
@[simp] theorem sound_patrolScrub (a kind s) (h : Sound φ s) : Sound φ (patrolScrub a kind s) := by simp [patrolScrub, h]

@[simp] theorem sound_burstEnd (e corrected bad s) (h : Sound φ s) : Sound φ (burstEnd e corrected bad s) := by
  unfold burstEnd
  split <;> simp [h]

@[simp] theorem sound_firmwareTimer (n s) (h : Sound φ s) : Sound φ (firmwareTimer n s) := by simp [firmwareTimer, h]

/-! ### Interrupt.lean -/

@[simp] theorem sound_icTake (s) (h : Sound φ s) : Sound φ (icTake s) := by
  unfold icTake
  split <;> simp [h]

@[simp] theorem sound_finish (n s) (h : Sound φ s) : Sound φ (finish n s) := by simp [finish, h]
@[simp] theorem sound_cntClr (n s) (h : Sound φ s) : Sound φ (cntClr n s) := by simp [cntClr, h]
@[simp] theorem sound_icSoft (v s) (h : Sound φ s) : Sound φ (icSoft v s) := by simp +contextual [icSoft, h]

@[simp] theorem sound_icRelease (g s) (h : Sound φ s) : Sound φ (icRelease g s) := by
  unfold icRelease
  apply sound_icLine
  simp only [sound_mk, sound_fold]
  exact sound_foldl (fun s a hs => by simp [hs]) _ _ (by simp [h])

@[simp] theorem sound_moderationRelease (g s) (h : Sound φ s) : Sound φ (moderationRelease g s) := by
  unfold moderationRelease
  split <;> simp [h]

@[simp] theorem sound_processorIdle (s) (h : Sound φ s) : Sound φ (processorIdle s) := by simp +contextual [processorIdle, h]

@[simp] theorem sound_icSrcWrite (n v s) (h : Sound φ s) : Sound φ (icSrcWrite n v s) := by
  unfold icSrcWrite
  apply sound_icLine
  apply sound_setIcSrc
  simp [h]

@[simp] theorem sound_icModWrite (g v s) (h : Sound φ s) : Sound φ (icModWrite g v s) := by simp [icModWrite, h]
@[simp] theorem sound_icWrite (a v s) (h : Sound φ s) : Sound φ (icWrite a v s) := by simp [icWrite, h]

/-! ### ParamCmd.lean -/

@[simp] theorem sound_paramGetBody (n r s) (h : Sound φ s) : Sound φ (paramGetBody n r s).state := by
  unfold paramGetBody
  dsimp only
  split <;> simp [h]

@[simp] theorem sound_modeCopy (mode keys s) (h : Sound φ s) : Sound φ (modeCopy mode keys s) := by simp [modeCopy, h]
@[simp] theorem sound_planCopy (mode s) (h : Sound φ s) : Sound φ (planCopy mode s) := by simp [planCopy, h]
@[simp] theorem sound_modeChange (id v s) (h : Sound φ s) : Sound φ (modeChange id v s) := by simp +contextual [modeChange, h]
@[simp] theorem sound_imEffect (id i v same s) (h : Sound φ s) : Sound φ (imEffect id i v same s) := by simp [imEffect, h]
@[simp] theorem sound_writeVal (r i v s) (h : Sound φ s) : Sound φ (writeVal r i v s) := by simp [writeVal, h]

@[simp] theorem sound_paramSetBody (op r s) (h : Sound φ s) : Sound φ (paramSetBody op r s).state := by
  unfold paramSetBody
  dsimp only
  split
  · simp [h]
  · refine sound_state_branches (by simp [h]) ?_
    refine sound_state_branches (by simp [h]) ?_
    refine sound_state_branches (by simp [h]) ?_
    rw [CmdOut.state_done]
    exact sound_foldl (fun s a hs => by simp [hs]) _ _ (by simp [h])

@[simp] theorem sound_paramSealBody (n r s) (h : Sound φ s) : Sound φ (paramSealBody n r s).state := by simp [paramSealBody, h]
@[simp] theorem sound_paramListBody (n r s) (h : Sound φ s) : Sound φ (paramListBody n r s).state := by simp [paramListBody, h]

/-! ### TestPort.lean -/

@[simp] theorem sound_boundaryCapture (l s) (h : Sound φ s) : Sound φ (boundaryCapture l s).2 := by
  unfold boundaryCapture
  split
  · simp [h]
  · dsimp only
    apply sound_boundaryCapture
    split <;> simp [h]

@[simp] theorem sound_drCapture (s) (h : Sound φ s) : Sound φ (drCapture s).2 := by
  unfold drCapture
  split <;> simp [h]

@[simp] theorem sound_drUpdate (s) (h : Sound φ s) : Sound φ (drUpdate s) := by
  unfold drUpdate
  split <;> simp [h]

@[simp] theorem sound_irCapture (s) (h : Sound φ s) : Sound φ (irCapture s).2 := by simp [irCapture, h]
@[simp] theorem sound_tapReset (s) (h : Sound φ s) : Sound φ (tapReset s) := by simp [tapReset, h]

@[simp] theorem sound_tapRise (tdi s) (h : Sound φ s) : Sound φ (tapRise tdi s) := by
  unfold tapRise
  split <;> simp [h]

@[simp] theorem sound_tapFall (s) (h : Sound φ s) : Sound φ (tapFall s) := by
  unfold tapFall
  dsimp only
  split <;> simp [h]

@[simp] theorem sound_testAccess (tms tdi trstLow s) (h : Sound φ s) : Sound φ (testAccess tms tdi trstLow s) := by simp [testAccess, h]

/-! ### FrontDesk.lean -/

@[simp] theorem sound_devRunBody (n x s) (h : Sound φ s) : Sound φ (devRunBody n x s).state := by simp [devRunBody, h]
@[simp] theorem sound_devStopBody (n x s) (h : Sound φ s) : Sound φ (devStopBody n x s).state := by simp [devStopBody, h]

@[simp] theorem sound_eventReadBody (n r s) (h : Sound φ s) : Sound φ (eventReadBody n r s).state := by
  have hd : Sound φ { s with desk.events := s.desk.events.drop (fld r.payload 0 1) } := by
    obtain ⟨h1, h2, h3, h4, h5⟩ := h
    refine ⟨h1, h2, fun hn => h3 fun he => hn (by simp [he]), ?_, h5⟩
    simp only [List.length_drop]
    omega
  unfold eventReadBody
  dsimp only
  apply sound_state_branches
  · exact h
  · exact sound_pushLost _ hd

@[simp] theorem sound_devResetBody (n r s) (h : Sound φ s) : Sound φ (devResetBody n r s).state := by simp [devResetBody, h]
@[simp] theorem sound_devIdentityBody (n x s) (h : Sound φ s) : Sound φ (devIdentityBody n x s).state := by simp [devIdentityBody, h]
@[simp] theorem sound_flashWait (r s) (h : Sound φ s) : Sound φ (flashWait r s).state := by simp [flashWait, h]
@[simp] theorem sound_fwWriteBody (n r s) (h : Sound φ s) : Sound φ (fwWriteBody n r s).state := by simp [fwWriteBody, h]
@[simp] theorem sound_fwVerify (s) (h : Sound φ s) : Sound φ (fwVerify s).state := by simp [fwVerify, h]
@[simp] theorem sound_fwConfirm (s) (h : Sound φ s) : Sound φ (fwConfirm s).state := by simp [fwConfirm, h]
@[simp] theorem sound_fwCancel (s) (h : Sound φ s) : Sound φ (fwCancel s).state := by simp [fwCancel, h]
@[simp] theorem sound_fwUpdateBody (n r s) (h : Sound φ s) : Sound φ (fwUpdateBody n r s).state := by simp [fwUpdateBody, h]

@[simp] theorem sound_flashNext (l s) (h : Sound φ s) : Sound φ (flashNext l s) := by
  induction l generalizing s with
  | nil => simp [flashNext, h]
  | cons k w ih =>
    simp only [flashNext]
    refine sound_branches (by simp [h]) ?_
    have ho : ∀ r, Sound φ (if cgetLE 0 (mb s k).buf 0 2 = 0x0013 then fwWriteBody (cgetLE 0 (mb s k).buf 0 2) r s
        else fwUpdateBody (cgetLE 0 (mb s k).buf 0 2) r s).state := by simp [h]
    split
    · next hc =>
      have hu := ho { mb := k, tag := cgetLE 0 (mb s k).buf 4 4, payload := cgets 0 (mb s k).buf 8 (cgetLE 0 (mb s k).buf 2 2) }
      rw [hc] at hu
      exact ih _ (sound_mbDone _ _ _ _ _ _ hu)
    · next hc =>
      have hu := ho { mb := k, tag := cgetLE 0 (mb s k).buf 4 4, payload := cgets 0 (mb s k).buf 8 (cgetLE 0 (mb s k).buf 2 2) }
      rw [hc] at hu
      exact ih _ hu

@[simp] theorem sound_fwEraseDone (s) (h : Sound φ s) : Sound φ (fwEraseDone s) := by
  unfold fwEraseDone
  split
  · exact h
  · next k _ =>
    extract_lets tag _ s1 o _ s2 s3
    have h1 : Sound φ s1 := h
    have h2 : Sound φ s2 := by
      obtain ⟨h1, h2, h3, h4, h5, h6, hA, hB⟩ := h1
      apply sound_branches
      · exact ⟨h1, h2, h3, h4, h5, h6, rfl, hB⟩
      · exact ⟨h1, h2, h3, h4, h5, h6, hA, rfl⟩
    have h3 : Sound φ s3 := sound_branches (sound_mbDone _ _ _ _ _ _ h1) (sound_mbDone _ _ _ _ _ _ h2)
    exact sound_flashNext _ _ h3

@[simp] theorem sound_xferDone (s) (h : Sound φ s) : Sound φ (xferDone s) := by simp [xferDone, h]
@[simp] theorem sound_debugChallengeBody (n r s) (h : Sound φ s) : Sound φ (debugChallengeBody n r s).state := by simp [debugChallengeBody, h]

@[simp] theorem sound_challengeLevel (s) (h : Sound φ s) : Sound φ (challengeLevel s).2 := by
  unfold challengeLevel
  split <;> simp [h]

@[simp] theorem sound_debugResponseBody (n r s) (h : Sound φ s) : Sound φ (debugResponseBody n r s).state := by simp [debugResponseBody, h]

/-- EVENT stays while an entry is queued (R442). -/

@[simp] theorem sound_attentionClear (v s) (h : Sound φ s) : Sound φ (attentionClear v s) := by
  unfold attentionClear
  extract_lets was n same kept att gone
  apply sound_attnUpdate
  obtain ⟨h1, h2, h3, h4⟩ := h
  refine ⟨h1, h2, fun he => ?_, h4⟩
  have hb := h3 he
  have hq : s.desk.events ≠ [] := he
  simp only [att, kept]
  cases hv : v.getLsbD 8 <;> simp_all

@[simp] theorem sound_attnEnableWrite (v s) (h : Sound φ s) : Sound φ (attnEnableWrite v s) := by simp [attnEnableWrite, h]

@[simp] theorem sound_attnExpiry (s) (h : Sound φ s) : Sound φ (attnExpiry s) := by
  unfold attnExpiry
  split <;> simp [h]

@[simp] theorem sound_submit (k bytes o s) (h : Sound φ s) : Sound φ (submit k bytes o s) := by simp [submit, h]
@[simp] theorem sound_doorbell (k s) (h : Sound φ s) : Sound φ (doorbell k s) := by simp [doorbell, h]
@[simp] theorem sound_overrun (k s) (h : Sound φ s) : Sound φ (overrun k s) := by simp [overrun, h]
@[simp] theorem sound_bufWrite (k o v s) (h : Sound φ s) : Sound φ (bufWrite k o v s) := by simp [bufWrite, h]
@[simp] theorem sound_mbStatusWrite (k v s) (h : Sound φ s) : Sound φ (mbStatusWrite k v s) := by simp [mbStatusWrite, h]
@[simp] theorem sound_deskWrite (a v s) (h : Sound φ s) : Sound φ (deskWrite a v s) := by simp [deskWrite, h]
@[simp] theorem sound_streamDirection (n s) (h : Sound φ s) : Sound φ (streamDirection n s).2 := by simp [streamDirection, h]

@[simp] theorem sound_streamCtrl (n v s) (h : Sound φ s) : Sound φ (streamCtrl n v s) := by
  unfold streamCtrl
  apply sound_dmaPick
  apply sound_dmaUnshed
  apply sound_setDmaS
  simp [h]

@[simp] theorem sound_streamRegWrite (n o v s) (h : Sound φ s) : Sound φ (streamRegWrite n o v s) := by simp [streamRegWrite, h]
@[simp] theorem sound_ctlRegWrite (n o v s) (h : Sound φ s) : Sound φ (ctlRegWrite n o v s) := by simp [ctlRegWrite, h]
@[simp] theorem sound_fabricWrite (a v s) (h : Sound φ s) : Sound φ (fabricWrite a v s) := by simp [fabricWrite, h]
@[simp] theorem sound_registerWrite (addr v s) (h : Sound φ s) : Sound φ (registerWrite addr v s) := by simp [registerWrite, h]
@[simp] theorem sound_spiWriteWord (a v s) (h : Sound φ s) : Sound φ (spiWriteWord a v s) := by simp [spiWriteWord, h]
@[simp] theorem sound_spiWrite (c data s) (h : Sound φ s) : Sound φ (spiWrite c data s) := by simp +contextual [spiWrite, h]
@[simp] theorem sound_spiRead (c clocks s) (h : Sound φ s) : Sound φ (spiRead c clocks s) := by simp [spiRead, h]

@[simp] theorem sound_spiAccess (bits s) (h : Sound φ s) : Sound φ (spiAccess bits s) := by
  unfold spiAccess
  refine sound_branches (by simp [h]) ?_
  split <;> simp [h]

@[simp] theorem sound_hostAccess (a v s) (h : Sound φ s) : Sound φ (hostAccess a v s) := by
  unfold hostAccess
  split <;> simp [h]

/-! ### Mgmt.lean -/

@[simp] theorem sound_frameSeen (f s) (h : Sound φ s) : Sound φ (frameSeen f s) := by simp [frameSeen, h]
@[simp] theorem sound_reply (f body s) (h : Sound φ s) : Sound φ (reply f body s) := by simp [reply, h]
@[simp] theorem sound_mgmtRefuse (f k reason s) (h : Sound φ s) : Sound φ (mgmtRefuse f k reason s) := by simp [mgmtRefuse, h]
@[simp] theorem sound_mgmtSubmit (f s) (h : Sound φ s) : Sound φ (mgmtSubmit f s) := by simp [mgmtSubmit, h]
@[simp] theorem sound_mgmtRequest (f s) (h : Sound φ s) : Sound φ (mgmtRequest f s) := by simp [mgmtRequest, h]
@[simp] theorem sound_regReply (f words data s) (h : Sound φ s) : Sound φ (regReply f words data s) := by simp [regReply, h]
@[simp] theorem sound_mgmtRead (f s) (h : Sound φ s) : Sound φ (mgmtRead f s) := by simp [mgmtRead, h]

@[simp] theorem sound_mgmtWrite (f s) (h : Sound φ s) : Sound φ (mgmtWrite f s) := by
  unfold mgmtWrite
  refine sound_branches (by simp [h]) ?_
  dsimp only
  refine sound_branches (by simp [h]) ?_
  refine sound_branches (by simp [h]) ?_
  apply sound_branches
  · apply sound_regReply
    exact sound_foldl (fun s a hs => by simp [hs]) _ _ (by simp [h])
  · exact sound_foldl (fun s a hs => by simp [hs]) _ _ (by simp [h])

@[simp] theorem sound_winReply (f kind reason data s) (h : Sound φ s) : Sound φ (winReply f kind reason data s) := by simp [winReply, h]
@[simp] theorem sound_winAct (w s) (h : Sound φ s) : Sound φ (winAct w s) := by simp [winAct, h]

@[simp] theorem sound_winServe (l kept s) (h : Sound φ s) : Sound φ (winServe l kept s) := by
  unfold winServe
  split
  · simp [h]
  · apply sound_branches
    · apply sound_winServe
      simp [h]
    · apply sound_winServe
      simp [h]

@[simp] theorem sound_winFrame (w r s) (h : Sound φ s) : Sound φ (winFrame w r s) := by simp [winFrame, h]
@[simp] theorem sound_windowWrite (f s) (h : Sound φ s) : Sound φ (windowWrite f s) := by simp [windowWrite, h]
@[simp] theorem sound_windowRead (f s) (h : Sound φ s) : Sound φ (windowRead f s) := by simp [windowRead, h]

@[simp] theorem sound_burstRow (e corrected bad s) (h : Sound φ s) : Sound φ (burstRow e corrected bad s) := by
  unfold burstRow
  dsimp only
  apply sound_winServe
  exact sound_burstEnd _ _ _ _ h

/-! ### Commands, events and the step -/

/-! ### Commands, events and the step -/

@[simp] theorem sound_advance (t : Nat) (s : State) (h : Sound φ s) : Sound φ (advance t s) := h

theorem sound_live {f : State → State} (hf : ∀ s, Sound φ s → Sound φ (f s)) (t : Nat) {s : State} (h : Sound φ s) : Sound φ (live t f s) :=
  sound_branches (sound_advance t s h) (hf _ (sound_advance t s h))

theorem sound_runCmd {c : CmdSpec} {lenOk : List Byte → Bool} {body : Nat → Req → State → CmdOut}
    (hb : ∀ op r s, Sound φ s → Sound φ (body op r s).state) (r : Req) {s : State} (h : Sound φ s) : Sound φ (runCmd c lenOk body r s) := by
  unfold runCmd
  extract_lets out
  have ho : Sound φ out.state := by simp [out, h, hb]
  cases hc : out with
  | done result payload u =>
    rw [hc] at ho
    exact sound_mbDone _ _ _ _ _ _ ho
  | pending u =>
    rw [hc] at ho
    exact ho

theorem sound_command {c : CmdSpec} {lenOk : List Byte → Bool} {body : Nat → Req → State → CmdOut}
    (hb : ∀ op r s, Sound φ s → Sound φ (body op r s).state) (t : Nat) (r : Req) {s : State} (h : Sound φ s) :
    Sound φ (command c lenOk body t r s) := by
  have ha := sound_advance t s h
  unfold command
  dsimp only
  generalize advance t s = u at ha ⊢
  have hw : ∀ (v : State) (q : List Nat), Sound φ v → Sound φ { v with desk.waiting := q } := fun v q hv => hv
  apply sound_branches
  · exact ha
  · apply sound_branches
    · apply sound_branches
      · exact sound_answerReserved _ _ (sound_runCmd hb _ (hw _ _ ha))
      · exact sound_branches ha (sound_mbOverrun _ _ _ ha)
    · have hr := sound_mbRing r.mb (reqBytes c.op r) none u ha
      exact sound_branches (sound_runCmd hb _ (hw _ _ hr)) hr

/-- Every command keeps soundness. -/
theorem exec_sound (i : Instr) {s : State} (h : Sound φ s) : ∃ u, exec i s = .next u ∧ Sound φ u := by
  cases i <;> refine ⟨_, rfl, ?_⟩ <;> simp +contextual [sound_live, sound_command, h]

theorem sound_of_inv {s : State} (h : Inv s) : Sound True s := by
  obtain ⟨h1, h2, h3, h4, h5, h6, h7⟩ := h
  exact ⟨h1, fun _ => h2, h3, h4, h5, h6, h7⟩

theorem Sound.inv {s : State} (h : Sound True s) : Inv s := by
  obtain ⟨h1, h2, h3, h4, h5, h6, h7⟩ := h
  exact ⟨h1, h2 trivial, h3, h4, h5, h6, h7⟩

/-- Settles O4: every command keeps soundness (`exec_sound`), which is the invariant in a form that a branch of an operation may weaken. -/
theorem stepsKeepTheInvariant : Obligations.StepsKeepTheInvariant := by
  unfold Obligations.StepsKeepTheInvariant
  intro s t hs h
  cases hp : s.pending with
  | nil =>
    simp only [step, hp, Host.Outcome.next.injEq] at h
    exact h ▸ hs
  | cons c q =>
    simp only [step, hp] at h
    have hq : Sound True { s with pending := q } := show Sound True s from sound_of_inv hs
    obtain ⟨u, hu, hi⟩ := exec_sound c hq
    obtain rfl : u = t := Host.Outcome.next.inj (hu.symm.trans h)
    exact hi.inv

end Sys2Proof.Machine
end

section
/-! SUPPORT. The state that a power-on reset leaves (O2). -/

namespace Sys2Proof.Machine

/-- Settles O2: every field is its structure's default, and a table with no entry reads its default everywhere. -/
theorem resetStands : Obligations.ResetStands := by
  unfold Obligations.ResetStands
  exact ⟨rfl, rfl, rfl, rfl, rfl, rfl, rfl, fun _ => rfl, rfl, rfl, rfl, rfl, fun _ => ⟨rfl, rfl, rfl⟩, rfl, rfl, rfl, rfl, rfl, rfl, rfl, rfl,
    rfl, rfl, rfl, rfl, rfl, rfl, rfl, rfl, fun _ _ => ⟨rfl, rfl⟩⟩

end Sys2Proof.Machine
end

section
/-! SUPPORT. What acts in RESET and in FROZEN (R37, R433, R520, R524, R525), and O6. -/

namespace Sys2Proof.Machine

/-- `u` is `s` at a later time, and device time has not moved if `s` is FROZEN. -/
def OnlyTime (s u : State) : Prop := ∃ w d, u = { s with wall := w, dev := d } ∧ s.wall ≤ w ∧ (s.desk.st = 7 → d = s.dev)

theorem advance_onlyTime (t : Nat) (s : State) : OnlyTime s (advance t s) :=
  ⟨_, _, rfl, le_max_left _ _, fun h => if_pos h⟩

@[simp] theorem live_onlyTime (t : Nat) (f : State → State) {s : State} (h : s.desk.st = 7 ∨ s.desk.st = 0) : OnlyTime s (live t f s) := by
  rw [live_stopped h.symm]
  exact advance_onlyTime t s

/-- No mailbox answers in RESET and FROZEN (R433, R524). -/
@[simp] theorem command_onlyTime (c : CmdSpec) (lenOk : List Byte → Bool) (body : Nat → Req → State → CmdOut) (t : Nat) (r : Req) {s : State}
    (h : s.desk.st = 7 ∨ s.desk.st = 0) : OnlyTime s (command c lenOk body t r s) := by
  have hd : deskAnswers r.mb (advance t s) = false := by
    rcases h with h | h <;> simp [deskAnswers, h]
  have hu : command c lenOk body t r s = advance t s := if_pos (.inr hd)
  rw [hu]
  exact advance_onlyTime t s

/-- A command whose step leaves only time passed. -/
theorem next_of_onlyTime {s u : State} (h : OnlyTime s u) :
    ∃ w d, (Host.Outcome.next u : Host.Outcome State Fault Refusal) = .next { s with wall := w, dev := d } ∧ s.wall ≤ w ∧ (s.desk.st = 7 → d = s.dev) := by
  obtain ⟨w, d, hu, h⟩ := h
  exact ⟨w, d, congrArg _ hu, h⟩

/-- Settles O6: every command but the named ones is an event of a domain that stands still (`live_onlyTime`) or a mailbox command
(`command_onlyTime`). -/
theorem stoppedUnitsHold : Obligations.StoppedUnitsHold := by
  unfold Obligations.StoppedUnitsHold
  intro i s h
  cases i with
  | freeze | thaw | freezeN | registerWrite | tempSample | voltageSample | stallWindowEnd | clockCheck | ledgerScrub | subBinBoundary
  | headSwitch | hvFbChange | contactorStuck | hvFbOpen | enableReadback | hvCutNAssert | permissionGrant | nkDegradedClock
  | degradedClockClear | vddNkWindowChange | tAbsent | nkPeerCutNChange | nkSelftest | fireRecord | integrationDone | strayPulse
  | segmentTrigger | segmentRearm | pmonBaselineFault | pmonChannelClear | porstNAssert | porstNRelease | resetNAssert | resetNRelease
  | voltageFault | laserTempTimeout | polyMark => trivial
  | _ => exact next_of_onlyTime (by simp [h])

end Sys2Proof.Machine
end

section
/-! SUPPORT. What logging, interrupts, the stream and Nerrak's reactions leave as it was: `steady` names those parts, one lemma per operation
in the order of the model's files. The operations that judge seals or change the state keep some of the parts alone. -/

namespace Sys2Proof.Machine

/-- Whom each mailbox answers. -/
def origins (m : Tab Mailbox) (k : Nat) : Option InBand := (tget {} m k).origin

/-- Parts of the state that logging, interrupts, the stream and most of Nerrak leave as they were. -/
structure Steady where
  /-- The sets, their generation, memory, the confirmed set, and whom each mailbox answers. -/
  kept : SetImg × SetImg × Nat × Tab (Option Nat) × Tab (Option Nat) × Tab (Option Nat) × Nat × Nv × Mem × Option (List Host.Cell)
    × Option (Nat × Nat × Nat) × List Instr × Bool × Bool × (Nat → Option InBand)
  /-- The shadow and the units that no guard action touches. -/
  units : SetImg × Tab Sense × Calib × Tim
  /-- State, pending stop and exit, the candidate set. -/
  stage : Nat × Bool × Bool × List Host.Cell × Bool × Option (Nat × Nat)
  /-- Whether a frame runs, the seals that wait, the mailboxes. -/
  boxes : Bool × List Awaiting × Tab Mailbox
  /-- A pending return to RUN. -/
  back : Bool
  /-- The judged host sets, the enable. -/
  enable : Option Sealed × Option Sealed × Bool
  /-- The FBE's time, the judged service set. -/
  due : Option Nat × Option SvcSealed

/-- The parts, of a state. -/
def steady (s : State) : Steady where
  kept := (s.par.inForce, s.par.prev, s.par.gen, s.par.im, s.par.boBoot, s.par.shadow.vals, s.par.shadow.fades,
      s.nv, s.mem, s.nk.conf, s.nk.confirm, s.pending, s.desk.confirmed, s.pins.headSw, origins s.desk.mbs)
  units := (s.par.shadow, s.sns, s.cal, s.tim)
  stage := (s.desk.st, s.desk.pendStop, s.desk.pendExit, s.nk.cand, s.nk.candOk, s.nk.nonce)
  boxes := (s.sch.running, s.par.awaiting, s.desk.mbs)
  back := s.desk.pendRun
  enable := (s.par.timely, s.par.late, s.pins.lsrA)
  due := (s.sch.fbeAt, s.par.svcTimely)

@[simp] theorem steady_mk {wall dev free pins nv desk par ch capture amb tal ext sch srv sns nk cal str tim mot lan twn rng ic dma mem lgb hlt
    rst tap pending} :
    steady ⟨wall, dev, free, pins, nv, desk, par, ch, capture, amb, tal, ext, sch, srv, sns, nk, cal, str, tim, mot, lan, twn, rng, ic, dma, mem,
      lgb, hlt, rst, tap, pending⟩
      = ⟨(par.inForce, par.prev, par.gen, par.im, par.boBoot, par.shadow.vals, par.shadow.fades, nv, mem,
           nk.conf, nk.confirm, pending, desk.confirmed, pins.headSw, origins desk.mbs),
        (par.shadow, sns, cal, tim),
        (desk.st, desk.pendStop, desk.pendExit, nk.cand, nk.candOk, nk.nonce),
        (sch.running, par.awaiting, desk.mbs),
        desk.pendRun,
        (par.timely, par.late, pins.lsrA),
        (sch.fbeAt, par.svcTimely)⟩ := (rfl)

@[simp] theorem steady_kept (s : State) :
    (s.par.inForce, s.par.prev, s.par.gen, s.par.im, s.par.boBoot, s.par.shadow.vals, s.par.shadow.fades,
      s.nv, s.mem, s.nk.conf, s.nk.confirm, s.pending, s.desk.confirmed, s.pins.headSw, origins s.desk.mbs)
      = (steady s).kept := (rfl)
@[simp] theorem steady_units (s : State) :
    (s.par.shadow, s.sns, s.cal, s.tim)
      = (steady s).units := (rfl)
@[simp] theorem steady_stage (s : State) :
    (s.desk.st, s.desk.pendStop, s.desk.pendExit, s.nk.cand, s.nk.candOk, s.nk.nonce)
      = (steady s).stage := (rfl)
@[simp] theorem steady_boxes (s : State) :
    (s.sch.running, s.par.awaiting, s.desk.mbs)
      = (steady s).boxes := (rfl)
@[simp] theorem steady_back (s : State) : s.desk.pendRun = (steady s).back := (rfl)
@[simp] theorem steady_enable (s : State) :
    (s.par.timely, s.par.late, s.pins.lsrA)
      = (steady s).enable := (rfl)
@[simp] theorem steady_due (s : State) : (s.sch.fbeAt, s.par.svcTimely) = (steady s).due := (rfl)

@[simp] theorem steady_ite (c : Prop) [Decidable c] (s u : State) : steady (if c then s else u) = if c then steady s else steady u :=
  apply_ite steady c s u
@[simp] theorem steady_snd_ite {α : Type} (c : Prop) [Decidable c] (a b : α × State) :
    steady (if c then a else b).2 = if c then steady a.2 else steady b.2 :=
  apply_ite (fun q => steady q.2) c a b

@[simp] theorem Steady.kept_ite (c : Prop) [Decidable c] (x y : Steady) : (if c then x else y).kept = if c then x.kept else y.kept :=
  apply_ite Steady.kept c x y
@[simp] theorem Steady.units_ite (c : Prop) [Decidable c] (x y : Steady) : (if c then x else y).units = if c then x.units else y.units :=
  apply_ite Steady.units c x y
@[simp] theorem Steady.stage_ite (c : Prop) [Decidable c] (x y : Steady) : (if c then x else y).stage = if c then x.stage else y.stage :=
  apply_ite Steady.stage c x y
@[simp] theorem Steady.boxes_ite (c : Prop) [Decidable c] (x y : Steady) : (if c then x else y).boxes = if c then x.boxes else y.boxes :=
  apply_ite Steady.boxes c x y
@[simp] theorem Steady.back_ite (c : Prop) [Decidable c] (x y : Steady) : (if c then x else y).back = if c then x.back else y.back :=
  apply_ite Steady.back c x y
@[simp] theorem Steady.enable_ite (c : Prop) [Decidable c] (x y : Steady) : (if c then x else y).enable = if c then x.enable else y.enable :=
  apply_ite Steady.enable c x y
@[simp] theorem Steady.due_ite (c : Prop) [Decidable c] (x y : Steady) : (if c then x else y).due = if c then x.due else y.due :=
  apply_ite Steady.due c x y

@[simp] theorem steady_foldl {α : Type} {f : State → α → State} (h : ∀ s a, steady (f s a) = steady s) (l : List α) (s : State) :
    steady (l.foldl f s) = steady s :=
  foldl_keeps steady h l s

/-! ### Ops.lean -/

@[simp] theorem steady_freeVal (n s) : steady (freeVal n s).2 = steady s := by simp [freeVal]
@[simp] theorem steady_setCh (s c v) : steady (setCh s c v) = steady s := by simp [setCh]

/-- A mailbox that answers whom it answered before. -/
theorem origins_tput (m : Tab Mailbox) (k : Nat) (v : Mailbox) (h : v.origin = origins m k) : origins (tput {} m k v) = origins m := by
  funext j
  unfold origins at h ⊢
  rw [tget_tput]
  split
  · next hj => rw [h, hj]
  · rfl

theorem steady_setMb (s : State) (k : Nat) (m : Mailbox) (h : m.origin = origins s.desk.mbs k) :
    (steady (setMb s k m)).kept = (steady s).kept ∧ (steady (setMb s k m)).units = (steady s).units
      ∧ (steady (setMb s k m)).stage = (steady s).stage ∧ (steady (setMb s k m)).back = (steady s).back
      ∧ (steady (setMb s k m)).enable = (steady s).enable := by
  simp only [steady, setMb, origins_tput _ _ _ h, and_self]

theorem mbs_of_steady {s u : State} (h : steady u = steady s) : u.desk.mbs = s.desk.mbs := congrArg (fun x => x.boxes.2.2) h

@[simp] theorem steady_setPage (s k v) : steady (setPage s k v) = steady s := by simp [setPage]
@[simp] theorem steady_setTalDeck (s d v) : steady (setTalDeck s d v) = steady s := by simp [setTalDeck]
@[simp] theorem steady_attnUpdate (was safety s) : steady (attnUpdate was safety s) = steady s := by simp [attnUpdate]

@[simp] theorem steady_attnRaise (bits s) : steady (attnRaise bits s) = steady s := by
  unfold attnRaise
  split <;> simp

@[simp] theorem steady_attnSet (bits s) : steady (attnSet bits s) = steady s := by simp [attnSet]
@[simp] theorem steady_pushEv (code data s) : steady (pushEv code data s) = steady s := by simp [pushEv]
@[simp] theorem steady_countEv (code data s) : steady (countEv code data s) = steady s := by simp [countEv]
@[simp] theorem steady_pushLost (s) : steady (pushLost s) = steady s := by simp [pushLost]
@[simp] theorem steady_logNow (code data s) : steady (logNow code data s) = steady s := by simp [logNow]
@[simp] theorem steady_logEv (code data s) : steady (logEv code data s) = steady s := by simp [logEv]
@[simp] theorem steady_wrapEv (old k code data s) : steady (wrapEv old k code data s) = steady s := by simp [wrapEv]
@[simp] theorem steady_setIcSrc (s n v) : steady (setIcSrc s n v) = steady s := by simp [setIcSrc]
@[simp] theorem steady_icLine (s) : steady (icLine s) = steady s := by simp [icLine]
@[simp] theorem steady_icPend (n s) : steady (icPend n s) = steady s := by simp [icPend]
@[simp] theorem steady_icWake (s) : steady (icWake s) = steady s := by simp [icWake]
@[simp] theorem steady_icCount (n s) : steady (icCount n s) = steady s := by simp [icCount]
@[simp] theorem steady_irqNow (n s) : steady (irqNow n s) = steady s := by simp [irqNow]
@[simp] theorem steady_irq (n s) : steady (irq n s) = steady s := by simp [irq]

@[simp] theorem steady_mbDone (k op result tag payload s) :
    (steady (mbDone k op result tag payload s)).kept = (steady s).kept ∧ (steady (mbDone k op result tag payload s)).units = (steady s).units
      ∧ (steady (mbDone k op result tag payload s)).stage = (steady s).stage
      ∧ (steady (mbDone k op result tag payload s)).back = (steady s).back
      ∧ (steady (mbDone k op result tag payload s)).enable = (steady s).enable := by
  have hw := steady_wrapEv (mb s k).completed 1 0x0009 (le 1 2 ++ le 1 k) s
  have hm : ∀ m : Mailbox, m.origin = (mb s k).origin → _ := fun m hm =>
    steady_setMb (wrapEv (mb s k).completed 1 0x0009 (le 1 2 ++ le 1 k) s) k m (by rw [mbs_of_steady hw]; exact hm)
  rw [hw] at hm
  unfold mbDone
  dsimp only
  split
  · rw [steady_attnSet]
    exact hm _ rfl
  · simp only [steady_mk, steady_kept, steady_units, steady_stage, steady_back, steady_enable]
    exact hm _ rfl

/-! ### Stream.lean -/

@[simp] theorem steady_setPath (s p v) : steady (setPath s p v) = steady s := by simp [setPath]
@[simp] theorem steady_setQueue (s q cls v) : steady (setQueue s q cls v) = steady s := by simp [setQueue]

@[simp] theorem steady_pushLoss (l s) : steady (pushLoss l s) = steady s := by
  unfold pushLoss
  dsimp only
  split
  · simp
  · split
    · simp
    · simp

@[simp] theorem steady_gap (stage cls index start stop items s) : steady (gap stage cls index start stop items s) = steady s := by simp [gap]
@[simp] theorem steady_segBack (newest f s) : steady (segBack newest f s) = steady s := by simp [segBack]
@[simp] theorem steady_shedFrame (q f s) : steady (shedFrame q f s) = steady s := by simp [shedFrame]
@[simp] theorem steady_enqueueFrame (q f s) : steady (enqueueFrame q f s) = steady s := by simp [enqueueFrame]
@[simp] theorem steady_closeFrame (o s) : steady (closeFrame o s) = steady s := by simp [closeFrame]
@[simp] theorem steady_closeAll (p s) : steady (closeAll p s) = steady s := by simp [closeAll]

@[simp] theorem steady_addOwn (r s) : steady (addOwn r s) = steady s := by
  unfold addOwn
  dsimp only
  split <;> simp

@[simp] theorem steady_lateKey (r s) : steady (lateKey r s) = steady s := by simp [lateKey]

@[simp] theorem steady_addKeyed (r s) : steady (addKeyed r s) = steady s := by
  unfold addKeyed
  dsimp only
  split
  · simp
  · split
    · simp
    · split <;> simp

@[simp] theorem steady_closeCeil (s) : steady (closeCeil s) = steady s := by
  unfold closeCeil
  split <;> simp

@[simp] theorem steady_ceilShed (s) : steady (ceilShed s) = steady s := by simp [ceilShed]
@[simp] theorem steady_addRec (r s) : steady (addRec r s) = steady s := by simp [addRec]
@[simp] theorem steady_formed (r s) : steady (formed r s) = steady s := by simp [formed]
@[simp] theorem steady_accrue (s) : steady (accrue s) = steady s := by simp [accrue]
@[simp] theorem steady_admitRec (r s) : steady (admitRec r s) = steady s := by simp [admitRec]
@[simp] theorem steady_pushRec (r s) : steady (pushRec r s) = steady s := by simp [pushRec]
@[simp] theorem steady_ownRec (typ cls flags body s) : steady (ownRec typ cls flags body s) = steady s := by simp [ownRec]

/-! ### Score.lean -/

@[simp] theorem steady_setServo (s n v) : steady (setServo s n v) = steady s := by simp [setServo]
@[simp] theorem steady_updScore (s) : steady (updScore s) = steady s := by simp [updScore]
@[simp] theorem steady_healthRecord (s) : steady (healthRecord s) = steady s := by simp [healthRecord]

/-! ### Guard.lean -/

@[simp] theorem steady_updCaps (s) : steady (updCaps s) = steady s := by simp [updCaps]
@[simp] theorem steady_updCharge (s) : steady (updCharge s) = steady s := by simp [updCharge]

@[simp] theorem steady_judgeHost (late first a h s) :
    (steady (judgeHost late first a h s)).kept = (steady s).kept ∧ (steady (judgeHost late first a h s)).units = (steady s).units
      ∧ (steady (judgeHost late first a h s)).stage = (steady s).stage ∧ (steady (judgeHost late first a h s)).back = (steady s).back := by
  unfold judgeHost
  split <;> split <;> simp

@[simp] theorem steady_judgeSvc (late first v s) :
    (steady (judgeSvc late first v s)).kept = (steady s).kept ∧ (steady (judgeSvc late first v s)).units = (steady s).units
      ∧ (steady (judgeSvc late first v s)).stage = (steady s).stage ∧ (steady (judgeSvc late first v s)).back = (steady s).back
      ∧ (steady (judgeSvc late first v s)).enable = (steady s).enable := by
  simp [judgeSvc]

@[simp] theorem steady_judgeOne (late a s) :
    (steady (judgeOne late a s)).kept = (steady s).kept ∧ (steady (judgeOne late a s)).units = (steady s).units
      ∧ (steady (judgeOne late a s)).stage = (steady s).stage ∧ (steady (judgeOne late a s)).back = (steady s).back := by
  cases ha : a.host <;> cases hv : a.svc <;> simp [judgeOne, ha, hv]

@[simp] theorem steady_judgeSeals (s) :
    (steady (judgeSeals s)).kept = (steady s).kept ∧ (steady (judgeSeals s)).units = (steady s).units
      ∧ (steady (judgeSeals s)).stage = (steady s).stage ∧ (steady (judgeSeals s)).back = (steady s).back := by
  unfold judgeSeals
  split
  · simp
  · refine ⟨(foldl_keeps (fun s => (steady s).kept) (fun s a => (steady_judgeOne _ a s).1) _ _).trans (by simp),
      (foldl_keeps (fun s => (steady s).units) (fun s a => (steady_judgeOne _ a s).2.1) _ _).trans (by simp),
      (foldl_keeps (fun s => (steady s).stage) (fun s a => (steady_judgeOne _ a s).2.2.1) _ _).trans (by simp),
      (foldl_keeps (fun s => (steady s).back) (fun s a => (steady_judgeOne _ a s).2.2.2) _ _).trans (by simp)⟩

theorem st_of_stage {s u : State} (h : (steady u).stage = (steady s).stage) : u.desk.st = s.desk.st := congrArg Prod.fst h

/-- No seal is judged: no frame runs, or none waits. -/
def Settled (b : Bool × List Awaiting × Tab Mailbox) : Prop := b.1 = false ∨ b.2.1 = []

theorem steady_judgeSeals_none {s : State} (h : s.par.awaiting = []) : steady (judgeSeals s) = steady s := by
  unfold judgeSeals
  split
  · rfl
  · simp only [h, List.foldl_nil]
    simp [← h]

@[simp] theorem steady_stopEmission (s) :
    (steady (stopEmission s)).kept = (steady s).kept ∧ (steady (stopEmission s)).units = (steady s).units
      ∧ (steady (stopEmission s)).stage = (steady s).stage ∧ (steady (stopEmission s)).back = (steady s).back := by
  simp [stopEmission]

@[simp] theorem steady_stopEmission_settled (s) (h : Settled (steady s).boxes) : (steady (stopEmission s)).boxes = (steady s).boxes := by
  unfold stopEmission
  dsimp only
  rcases h with h | h
  · have hr : s.sch.running = false := h
    rw [if_neg (by simp [hr])]
    split <;> simp
  · split
    · rw [steady_judgeSeals_none (by exact h)]
      simp
    · simp

@[simp] theorem steady_dropLsr (s) :
    (steady (dropLsr s)).kept = (steady s).kept ∧ (steady (dropLsr s)).units = (steady s).units
      ∧ (steady (dropLsr s)).stage = (steady s).stage ∧ (steady (dropLsr s)).back = (steady s).back := by
  simp [dropLsr]

@[simp] theorem steady_dropLsr_settled (s) (h : Settled (steady s).boxes) : (steady (dropLsr s)).boxes = (steady s).boxes := by
  simp [dropLsr, h]

@[simp] theorem steady_driveCut (s) : steady (driveCut s) = steady s := by simp [driveCut]

@[simp] theorem steady_degClock (s) : steady (degClock s) = steady s := by
  unfold degClock
  split <;> simp

@[simp] theorem steady_nkUpdate (s) :
    (steady (nkUpdate s)).kept = (steady s).kept ∧ (steady (nkUpdate s)).units = (steady s).units
      ∧ (steady (nkUpdate s)).stage = (steady s).stage ∧ (steady (nkUpdate s)).back = (steady s).back := by
  simp [nkUpdate]

@[simp] theorem steady_nkUpdate_settled (s) (h : Settled (steady s).boxes) : (steady (nkUpdate s)).boxes = (steady s).boxes := by
  simp [nkUpdate, h]

@[simp] theorem steady_topCell (s st) : steady (topCell s st).2 = steady s := by simp [topCell]
@[simp] theorem steady_noteFills (st s) : steady (noteFills st s) = steady s := by simp [noteFills]

@[simp] theorem steady_capEval (s) : steady (capEval s) = steady s := by
  unfold capEval
  split <;> simp

@[simp] theorem steady_incident (kind s) : steady (incident kind s) = steady s := by simp [incident]
@[simp] theorem steady_nkFaultEv (bitNo str em val s) : steady (nkFaultEv bitNo str em val s) = steady s := by simp [nkFaultEv]
@[simp] theorem steady_latchFault (bitNo s) : steady (latchFault bitNo s) = steady s := by simp [latchFault]
@[simp] theorem steady_unlatch (bitNo s) : steady (unlatch bitNo s) = steady s := by simp [unlatch]
@[simp] theorem steady_setChgHeld (held s) : steady (setChgHeld held s) = steady s := by simp [setChgHeld]
@[simp] theorem steady_relatch (s) : steady (relatch s) = steady s := by simp [relatch]

@[simp] theorem steady_setSt (new cause s) :
    (steady (setSt new cause s)).kept = (steady s).kept ∧ (steady (setSt new cause s)).units = (steady s).units
      ∧ (steady (setSt new cause s)).back = (steady s).back := by
  simp [setSt]

@[simp] theorem steady_setSt_settled (new cause s) (h : Settled (steady s).boxes) : (steady (setSt new cause s)).boxes = (steady s).boxes := by
  simp [setSt, h]

/-- The candidate set is discarded on leaving COMMISSIONING alone (R299). -/
theorem steady_setSt_stage (new cause s) (h : s.desk.st = 3 → new = 3) :
    (steady (setSt new cause s)).stage = (new, (steady s).stage.2) := by
  by_cases hs : s.desk.st = 3
  · simp [setSt, hs, h hs]
    rfl
  · simp [setSt, hs]
    rfl

theorem steady_setSt_st (new cause s) : (steady (setSt new cause s)).stage.1 = new
    ∧ (steady (setSt new cause s)).stage.2.1 = s.desk.pendStop ∧ (steady (setSt new cause s)).stage.2.2.1 = s.desk.pendExit := by
  by_cases hn : new = 3 ∨ new = 4 ∨ new = 5 <;> simp [setSt, hn, apply_ite Prod.fst, apply_ite Prod.snd]

@[simp] theorem steady_dropPend (s) :
    (steady (dropPend s)).kept = (steady s).kept ∧ (steady (dropPend s)).units = (steady s).units
      ∧ (steady (dropPend s)).boxes = (steady s).boxes := by
  simp [dropPend]

@[simp] theorem steady_stNow (new cause s) :
    (steady (stNow new cause s)).kept = (steady s).kept ∧ (steady (stNow new cause s)).units = (steady s).units := by
  simp [stNow]

@[simp] theorem steady_stNow_settled (new cause s) (h : Settled (steady s).boxes) : (steady (stNow new cause s)).boxes = (steady s).boxes := by
  simp [stNow, h]

theorem steady_stNow_stage (new cause s) :
    (steady (stNow new cause s)).stage.1 = new ∧ (steady (stNow new cause s)).stage.2.1 = false ∧ (steady (stNow new cause s)).stage.2.2.1 = false
      ∧ (stNow new cause s).desk.pendRun = false := by
  obtain ⟨h1, h2, h3⟩ := steady_setSt_st new cause (if new = 4 ∨ new = 5 then dropPend s else stopEmission (dropPend s))
  have hd : (steady (if new = 4 ∨ new = 5 then dropPend s else stopEmission (dropPend s))).stage = (steady (dropPend s)).stage := by simp
  exact ⟨h1, h2.trans (congrArg (fun x => x.2.1) hd), h3.trans (congrArg (fun x => x.2.2.1) hd),
    by simp [stNow, dropPend]⟩

@[simp] theorem steady_raiseFault (bitNo str em val s) :
    (steady (raiseFault bitNo str em val s)).kept = (steady s).kept ∧ (steady (raiseFault bitNo str em val s)).units = (steady s).units := by
  simp [raiseFault]

@[simp] theorem steady_raiseFault_settled (bitNo str em val s) (h : Settled (steady s).boxes) :
    (steady (raiseFault bitNo str em val s)).boxes = (steady s).boxes := by
  simp [raiseFault, h]

/-- A D fault changes the state from RUN alone (R290). -/
theorem steady_raiseFault_stage (bitNo str em val s) (hb : 16 ≤ bitNo) (h : s.desk.st ≠ 4) :
    (steady (raiseFault bitNo str em val s)).stage = (steady s).stage := by
  unfold raiseFault
  dsimp only
  split
  · rfl
  · have hs : (steady (nkFaultEv bitNo str em val { s with nk.faults := s.nk.faults ||| BitVec.ofNat 32 (2 ^ bitNo) })).stage = (steady s).stage := by
      simp
    rw [if_neg (by omega), if_neg (by rw [st_of_stage hs]; exact h)]
    simp

@[simp] theorem steady_raiseFree (bitNo str em s) :
    (steady (raiseFree bitNo str em s)).kept = (steady s).kept ∧ (steady (raiseFree bitNo str em s)).units = (steady s).units := by
  simp [raiseFree]

@[simp] theorem steady_raiseFree_settled (bitNo str em s) (h : Settled (steady s).boxes) :
    (steady (raiseFree bitNo str em s)).boxes = (steady s).boxes := by
  simp [raiseFree, h]

theorem steady_raiseFree_stage (bitNo str em s) (hb : 16 ≤ bitNo) (h : s.desk.st ≠ 4) :
    (steady (raiseFree bitNo str em s)).stage = (steady s).stage := by
  unfold raiseFree
  split
  · rfl
  · exact (steady_raiseFault_stage _ _ _ _ _ hb (by exact h)).trans (by simp)

@[simp] theorem steady_clearFault (bitNo s) :
    (steady (clearFault bitNo s)).kept = (steady s).kept ∧ (steady (clearFault bitNo s)).units = (steady s).units
      ∧ (steady (clearFault bitNo s)).stage = (steady s).stage := by
  simp [clearFault]

@[simp] theorem steady_clearFault_settled (bitNo s) (h : Settled (steady s).boxes) :
    (steady (clearFault bitNo s)).boxes = (steady s).boxes := by
  simp [clearFault, h]

@[simp] theorem steady_levelFault (bitNo on s) :
    (steady (levelFault bitNo on s)).kept = (steady s).kept ∧ (steady (levelFault bitNo on s)).units = (steady s).units := by
  simp [levelFault]

@[simp] theorem steady_levelFault_settled (bitNo on s) (h : Settled (steady s).boxes) :
    (steady (levelFault bitNo on s)).boxes = (steady s).boxes := by
  simp [levelFault, h]

theorem steady_levelFault_stage (bitNo on s) (hb : 16 ≤ bitNo) (h : s.desk.st ≠ 4) :
    (steady (levelFault bitNo on s)).stage = (steady s).stage := by
  simp [levelFault, steady_raiseFree_stage, hb, h]

@[simp] theorem steady_rejudge (s) :
    (steady (rejudge s)).kept = (steady s).kept ∧ (steady (rejudge s)).units = (steady s).units := by
  simp [rejudge]

@[simp] theorem steady_rejudge_settled (s) (h : Settled (steady s).boxes) : (steady (rejudge s)).boxes = (steady s).boxes := by
  have h1 : (steady (if headOpen s then raiseFree 7 255 255 s else s)).boxes = (steady s).boxes := by simp [h]
  have h2 := (steady_levelFault_settled 17 (senseFault (if headOpen s then raiseFree 7 255 255 s else s)) _ (h1 ▸ h)).trans h1
  simp [rejudge, h2, h]

/-- With the head closed no O fault is raised, and the state stands but in RUN (R287, R290). -/
theorem steady_rejudge_stage (s) (hh : headOpen s = false) (h : s.desk.st ≠ 4) : (steady (rejudge s)).stage = (steady s).stage := by
  simp [rejudge, hh, steady_levelFault_stage, h]

/-! ### NkLedger.lean -/

/-! ### Servo.lean -/

@[simp] theorem steady_handTarget (n v s) : steady (handTarget n v s) = steady s := by simp [handTarget]
@[simp] theorem steady_handElev (l s) : steady (handElev l s) = steady s := by simp [handElev]
@[simp] theorem steady_polyChange (s) : steady (polyChange s) = steady s := by simp [polyChange]
@[simp] theorem steady_giveAngle (a s) : steady (giveAngle a s) = steady s := by simp [giveAngle]

/-! ### TimePort.lean -/

/-! ### Image.lean -/

/-! ### NkPulse.lean -/

/-! ### NkEvents.lean -/

/-! ### NkCommands.lean -/

@[simp] theorem steady_setAllow (p s) : steady (setAllow p s) = steady s := by simp [setAllow]
@[simp] theorem steady_startEmission (s) : steady (startEmission s) = steady s := by simp [startEmission]

@[simp] theorem steady_exitCommissioning (s) :
    (steady (exitCommissioning s)).kept = (steady s).kept ∧ (steady (exitCommissioning s)).units = (steady s).units := by
  simp [exitCommissioning]

@[simp] theorem steady_exitCommissioning_settled (s) (h : Settled (steady s).boxes) :
    (steady (exitCommissioning s)).boxes = (steady s).boxes := by
  simp [exitCommissioning, h]

end Sys2Proof.Machine
end

section
/-! SUPPORT. Run, stop, event read, reset and identity (R38, R181, R456, R462 to R464), and O54. -/

namespace Sys2Proof.Machine

/-! ### What the parts that stay say of the state's fields -/

theorem kept_fields {s u : State} (h : (steady u).kept = (steady s).kept) :
    u.par.inForce = s.par.inForce ∧ u.par.im = s.par.im ∧ u.nv = s.nv ∧ u.mem = s.mem ∧ u.nk.conf = s.nk.conf ∧ u.nk.confirm = s.nk.confirm
      ∧ u.pending = s.pending ∧ u.desk.confirmed = s.desk.confirmed := by
  simp only [steady, Prod.mk.injEq] at h
  obtain ⟨h1, -, -, h2, -, -, -, h3, h4, h5, h6, h7, h8, -, -⟩ := h
  exact ⟨h1, h2, h3, h4, h5, h6, h7, h8⟩

theorem origin_of_kept {s u : State} (h : (steady u).kept = (steady s).kept) (k : Nat) : (mb u k).origin = (mb s k).origin := by
  simp only [steady, Prod.mk.injEq] at h
  exact congrFun h.2.2.2.2.2.2.2.2.2.2.2.2.2.2 k

theorem units_fields {s u : State} (h : (steady u).units = (steady s).units) :
    u.par.shadow = s.par.shadow ∧ u.sns = s.sns ∧ u.cal = s.cal ∧ u.tim = s.tim := by
  simpa only [steady, Prod.mk.injEq] using h

theorem stage_fields {s u : State} (h : (steady u).stage = (steady s).stage) : u.desk.st = s.desk.st ∧ u.desk.pendStop = s.desk.pendStop
    ∧ u.desk.pendExit = s.desk.pendExit ∧ u.nk.cand = s.nk.cand ∧ u.nk.candOk = s.nk.candOk ∧ u.nk.nonce = s.nk.nonce := by
  simpa only [steady, Prod.mk.injEq] using h

/-! ### The started request -/

section
variable (op t : Nat) (r : Req) (s : State)

@[simp] theorem started_st : (started op t r s).desk.st = s.desk.st := by rw [started_eq]
@[simp] theorem started_sch : (started op t r s).sch = s.sch := by rw [started_eq]
@[simp] theorem started_cal : (started op t r s).cal = s.cal := by rw [started_eq]
@[simp] theorem started_nk : (started op t r s).nk = s.nk := by rw [started_eq]
@[simp] theorem started_nv : (started op t r s).nv = s.nv := by rw [started_eq]
@[simp] theorem started_sns : (started op t r s).sns = s.sns := by rw [started_eq]
@[simp] theorem started_tim : (started op t r s).tim = s.tim := by rw [started_eq]
@[simp] theorem started_mem : (started op t r s).mem = s.mem := by rw [started_eq]
@[simp] theorem started_pending : (started op t r s).pending = s.pending := by rw [started_eq]
@[simp] theorem started_dev : (started op t r s).dev = (advance t s).dev := by rw [started_eq]
@[simp] theorem started_wall : (started op t r s).wall = (advance t s).wall := by rw [started_eq]
@[simp] theorem started_events : (started op t r s).desk.events = s.desk.events := by rw [started_eq]
@[simp] theorem started_lostCount : (started op t r s).desk.lostCount = s.desk.lostCount := by rw [started_eq]
@[simp] theorem started_eventCount : (started op t r s).desk.eventCount = s.desk.eventCount := by rw [started_eq]
@[simp] theorem started_cmdReset : (started op t r s).desk.cmdReset = s.desk.cmdReset := by rw [started_eq]

theorem started_completed : (mb (started op t r s) r.mb).completed = (mb s r.mb).completed := by
  rw [started_mb, if_pos rfl]
  rfl

@[simp] theorem itinReady_started : itinReady (started op t r s) = itinReady s := by
  rw [started_eq]
  rfl

@[simp] theorem runWithheld_started : runWithheld (started op t r s) = runWithheld s := by
  rw [started_eq]
  rfl

end

/-- A request that completes after its effect `e'` has been taken: beside the desk's own, what the effect leaves of `e`. -/
theorem completesOk_of_effect {i : Instr} {r : Req} {op : Nat} {s e e' : State} {p : List Byte} {P : List Byte → Prop}
    (hx : exec i s = .next (mbDone r.mb op rOK r.tag p e')) (ho : (mb e' r.mb).origin = none) (hd : DeskOnly r.mb e e') (hp : P p)
    (hl : p.length ≤ 244) : CompletesOk i r op s e P :=
  ⟨_, hx, p, hp, mbDone_answered r op rOK p _ ho (.inl rfl) hl, hd.trans (mbDone_deskOnly _ _ _ _ _ _ ho)⟩

/-! ### The commands -/

section
variable (t : Nat) (r : Req) (s : State)

theorem exec_devRun : exec (.devRun t r) s = .next (command { op := 0x0010 } (lenEq 0) devRunBody t r s) := rfl
theorem exec_devStop : exec (.devStop t r) s = .next (command { op := 0x0011 } (lenEq 0) devStopBody t r s) := rfl
theorem exec_eventRead : exec (.eventRead t r) s = .next (command { op := 0x0012, recovery := true } (lenEq 4) eventReadBody t r s) := rfl
theorem exec_devReset : exec (.devReset t r) s = .next (command { op := 0x0015, recovery := true } (lenEq 4) devResetBody t r s) := rfl
theorem exec_devIdentity : exec (.devIdentity t r) s = .next (command { op := 0x0018 } (lenEq 0) devIdentityBody t r s) := rfl

end

/-- A payload of a length that the command does not take is refused (R454). -/
theorem command_badLength {op t : Nat} {rec : Bool} {lenOk : List Byte → Bool} {body : Nat → Req → State → CmdOut} {r : Req} {s : State}
    (h : Ready r s) (hbad : 248 < r.payload.length ∨ lenOk r.payload = false) :
    command { op := op, recovery := rec } lenOk body t r s = mbDone r.mb op rBadParam r.tag [] (started op t r s) := by
  have hm : ¬(r.mb < 0 ∨ 7 < r.mb ∨ (started op t r s).desk.debug < 0) := by
    have := h.1
    omega
  rw [command_started h, runCmd, if_neg hm, if_pos hbad]

/-! ### DEV_RUN -/

section
variable {t : Nat} {r : Req} {s : State} (h : Ready r s)
include h

/-- A command of debug level 0 that runs on every mailbox answers with what its body gives. -/
theorem exec_of_body {op : Nat} {rec : Bool} {lenOk : List Byte → Bool} {body : Nat → Req → State → CmdOut} {i : Instr} {result : Nat}
    {b : List Byte} {e : State} (hi : exec i s = .next (command { op := op, recovery := rec } lenOk body t r s))
    (hlen : r.payload.length ≤ 248) (hok : lenOk r.payload = true) (hb : body op r (started op t r s) = .done result b e) :
    exec i s = .next (mbDone r.mb op result r.tag b e) := by
  have hm := h.1
  exact hi.trans (congrArg Host.Outcome.next (command_done h (Nat.zero_le _) (by dsimp only; omega) (Nat.zero_le _) hlen hok hb))

theorem devRun_refused (hl : r.payload = []) (hr : s.desk.st ≠ 2 ∨ itinReady s = false ∨ s.cal.factory ≠ none) :
    RefusedWith (.devRun t r) r 0x0010 rNotPermitted t s := by
  refine refusedWith_of_done h (exec_of_body h (exec_devRun t r s) (by simp [hl]) (by simp [hl, lenEq]) ?_)
    (mbDone_answered_empty r _ _ _ (started_origin ..))
  exact if_pos (by simpa [Option.isSome_iff_ne_none] using hr)

theorem devRun_withheld (hl : r.payload = []) (hst : s.desk.st = 2) (hi : itinReady s = true) (hf : s.cal.factory = none)
    (hw : runWithheld s = true) : RefusedWith (.devRun t r) r 0x0010 rSafetyLocked t s := by
  refine refusedWith_of_done h (exec_of_body h (exec_devRun t r s) (by simp [hl]) (by simp [hl, lenEq]) ?_)
    (mbDone_answered_empty r _ _ _ (started_origin ..))
  simp [devRunBody, hst, hi, hf, hw]

theorem devRun_runs (hl : r.payload = []) (hst : s.desk.st = 2) (hi : itinReady s = true) (hf : s.cal.factory = none)
    (hw : runWithheld s = false) :
    Runs (.devRun t r) s (fun u => Answered r 0x0010 rOK (le 4 s.sch.frameNo.val.toNat) u ∧ u.desk.st = 4 ∧ u.par.inForce = s.par.inForce
      ∧ u.par.shadow = s.par.shadow ∧ u.par.im = s.par.im ∧ u.nv = s.nv ∧ u.mem.bytes = s.mem.bytes ∧ u.nk.conf = s.nk.conf ∧ u.pending = s.pending) := by
  have hx : exec (.devRun t r) s = .next (mbDone r.mb 0x0010 rOK r.tag (le 4 s.sch.frameNo.val.toNat)
      (startEmission (setSt 4 1 (started 0x0010 t r s)))) :=
    exec_of_body h (exec_devRun t r s) (by simp [hl]) (by simp [hl, lenEq]) (by simp [devRunBody, hst, hi, hf, hw])
  have he : (steady (startEmission (setSt 4 1 (started 0x0010 t r s)))).kept = (steady (started 0x0010 t r s)).kept := by simp
  refine ⟨_, hx, ?_⟩
  generalize hv : startEmission (setSt 4 1 (started 0x0010 t r s)) = v at he ⊢
  obtain ⟨hk, hu, hs, -⟩ := steady_mbDone r.mb 0x0010 rOK r.tag (le 4 s.sch.frameNo.val.toNat) v
  obtain ⟨f1, f2, f3, f4, f5, -, f7, -⟩ := kept_fields (hk.trans he)
  have hsh := (units_fields (hu.trans (by rw [← hv]; simp : _ = (steady (started 0x0010 t r s)).units))).1
  have h4 : (steady v).stage.1 = 4 := by
    rw [← hv, steady_startEmission]
    exact (steady_setSt_st _ _ _).1
  refine ⟨mbDone_answered r _ _ _ _ ((origin_of_kept he _).trans (started_origin ..)) (.inl rfl) (by simp), (stage_fields hs).1.trans h4, ?_⟩
  simp [f1, f2, f3, f4, f5, f7, hsh]

/-! ### DEV_STOP -/

theorem devStop_refused (hl : r.payload = []) (h4 : s.desk.st ≠ 4) (h5 : s.desk.st ≠ 5) : RefusedWith (.devStop t r) r 0x0011 rNotPermitted t s := by
  refine refusedWith_of_done h (exec_of_body h (exec_devStop t r s) (by simp [hl]) (by simp [hl, lenEq]) ?_)
    (mbDone_answered_empty r _ _ _ (started_origin ..))
  simp [devStopBody, h4, h5]

theorem devStop_pends (hl : r.payload = []) (hst : s.desk.st = 4 ∨ s.desk.st = 5) (hr : s.sch.running = true) :
    CompletesOk (.devStop t r) r 0x0011 s { advance t s with desk.pendStop := true, desk.pendRun := false }
      (fun p => p = le 4 s.sch.frameNo.val.toNat) := by
  have hn : ¬(s.desk.st ≠ 4 ∧ s.desk.st ≠ 5) := by omega
  have hx := exec_of_body h (exec_devStop t r s) (by simp [hl]) (by simp [hl, lenEq]) (result := rOK) (b := le 4 s.sch.frameNo.val.toNat)
    (e := { started 0x0011 t r s with desk.pendStop := true, desk.pendRun := false }) (by simp only [devStopBody, started_st, started_sch, if_neg hn, if_pos hr])
  refine completesOk_of_effect hx (started_origin ..) ?_ rfl (by simp)
  obtain ⟨hd, hm⟩ := started_deskOnly 0x0011 t r s h.2.2.2.2.2
  refine ⟨?_, hm⟩
  rw [hd]
  rfl

theorem devStop_stops (hl : r.payload = []) (hst : s.desk.st = 4 ∨ s.desk.st = 5) (hr : s.sch.running = false) :
    Runs (.devStop t r) s (fun u => Answered r 0x0011 rOK (le 4 0xFFFFFFFF) u ∧ u.desk.st = 2
      ∧ u.desk.pendStop = false ∧ u.desk.pendRun = false ∧ u.desk.pendExit = false
      ∧ u.par.inForce = s.par.inForce ∧ u.par.im = s.par.im ∧ u.nv = s.nv ∧ u.mem.bytes = s.mem.bytes ∧ u.pending = s.pending) := by
  have hn : ¬(s.desk.st ≠ 4 ∧ s.desk.st ≠ 5) := by omega
  have hx := exec_of_body h (exec_devStop t r s) (by simp [hl]) (by simp [hl, lenEq]) (result := rOK) (b := le 4 0xFFFFFFFF)
    (e := stNow 2 1 (started 0x0011 t r s)) (by simp [devStopBody, hn, hr])
  have he : (steady (stNow 2 1 (started 0x0011 t r s))).kept = (steady (started 0x0011 t r s)).kept := by simp
  obtain ⟨h1, h2, h3, hrun⟩ := steady_stNow_stage 2 1 (started 0x0011 t r s)
  refine ⟨_, hx, ?_⟩
  generalize stNow 2 1 (started 0x0011 t r s) = v at he h1 h2 h3 hrun ⊢
  obtain ⟨hk, -, hs, hen, -⟩ := steady_mbDone r.mb 0x0011 rOK r.tag (le 4 0xFFFFFFFF) v
  obtain ⟨f1, f2, f3, f4, -, -, f7, -⟩ := kept_fields (hk.trans he)
  obtain ⟨g1, g2, g3, -⟩ := stage_fields hs
  refine ⟨mbDone_answered r _ _ _ _ ((origin_of_kept he _).trans (started_origin ..)) (.inl rfl) (by simp), g1.trans h1, g2.trans h2,
    Eq.trans hen hrun, g3.trans h3, ?_⟩
  simp [f1, f2, f3, f4, f7]

/-! ### DEV_IDENTITY -/

theorem devIdentity_completes (hl : r.payload = []) :
    CompletesOk (.devIdentity t r) r 0x0018 s (advance t s) (fun p => p.length = 72 ∧ p = le 8 s.nv.serial ++ identityKey) := by
  have hlen : (le 8 s.nv.serial ++ identityKey).length = 72 := by simp [identityKey]
  exact completesOk_of_done h (exec_of_body h (exec_devIdentity t r s) (by simp [hl]) (by simp [hl, lenEq]) (by simp [devIdentityBody]))
    ⟨hlen, rfl⟩ (by omega)

/-! ### DEV_RESET -/

theorem devReset_refused (hl : r.payload.length = 4) (hs : fld r.payload 0 4 ≠ s.nv.serial % 2 ^ 32) :
    RefusedWith (.devReset t r) r 0x0015 rBadParam t s := by
  refine refusedWith_of_done h (exec_of_body h (exec_devReset t r s) (by omega) (by simp [hl, lenEq]) ?_)
    (mbDone_answered_empty r _ _ _ (started_origin ..))
  exact if_pos (by simpa using hs)

theorem devReset_completes (hl : r.payload.length = 4) (hs : fld r.payload 0 4 = s.nv.serial % 2 ^ 32) (hn : s.desk.cmdReset = none) :
    CompletesOk (.devReset t r) r 0x0015 s { advance t s with desk.cmdReset := some ((advance t s).dev + tMs) } (fun p => p = []) := by
  have hx := exec_of_body h (exec_devReset t r s) (by omega) (by simp [hl, lenEq]) (result := rOK) (b := [])
    (e := { started 0x0015 t r s with desk.cmdReset := some ((advance t s).dev + tMs) }) (by
      simp only [devResetBody, started_nv, if_neg (not_not.2 hs), started_cmdReset, hn, started_dev, Option.getD_none])
  refine completesOk_of_effect hx (started_origin ..) ?_ rfl (by simp)
  obtain ⟨hd, hm⟩ := started_deskOnly 0x0015 t r s h.2.2.2.2.2
  refine ⟨?_, hm⟩
  rw [hd]
  rfl

end

/-! ### EVENT_READ -/

/-- What EVENT_READ answers: the entries, how many remain, the count of events (R456). -/
def eventAnswer (s : State) (out : List Ev) (rest : Nat) : List Byte :=
  le 1 out.length ++ le 1 0 ++ le 2 rest ++ le 4 s.desk.eventCount.val.toNat ++ out.flatMap evBytes

@[simp] theorem length_evBytes (e : Ev) : (evBytes e).length = 40 := by
  simp [evBytes]

theorem length_eventAnswer (s : State) (out : List Ev) (rest : Nat) : (eventAnswer s out rest).length = 8 + 40 * out.length := by
  simp [eventAnswer, List.length_flatMap]
  omega

theorem eventReadBody_refused {op : Nat} {r : Req} {s : State} (h : 5 < fld r.payload 0 1 ∨ allZero (r.payload.drop 1) = false) :
    eventReadBody op r s = .done rBadParam (eventAnswer s [] s.desk.events.length) s :=
  if_pos h

/-- With no loss to report a read only takes its entries off the queue. -/
theorem eventReadBody_reads {op : Nat} {r : Req} {s : State} (hn : fld r.payload 0 1 ≤ 5) (hz : allZero (r.payload.drop 1) = true)
    (hc : s.desk.lostCount = 0) :
    eventReadBody op r s = .done rOK (eventAnswer s (s.desk.events.take (fld r.payload 0 1)) (s.desk.events.drop (fld r.payload 0 1)).length)
      { s with desk.events := s.desk.events.drop (fld r.payload 0 1) } := by
  unfold eventReadBody
  dsimp only
  rw [if_neg (by rw [hz]; simp [hn]), pushLost, if_pos (.inl hc)]
  rfl

theorem attnUpdate_eventCount (was : Word) (safety : Bool) (s : State) : (attnUpdate was safety s).desk.eventCount = s.desk.eventCount := by
  rw [attnUpdate_frame]

theorem attnRaise_eventCount (b : Word) (s : State) : (attnRaise b s).desk.eventCount = s.desk.eventCount := by
  unfold attnRaise
  dsimp only
  split
  · split <;> exact attnUpdate_eventCount _ _ _
  · exact attnUpdate_eventCount _ _ _

theorem attnSet_queue (b : Word) (s : State) : (attnSet b s).desk.events = s.desk.events ∧ (attnSet b s).desk.eventCount = s.desk.eventCount := by
  unfold attnSet
  split
  · exact ⟨rfl, rfl⟩
  · exact ⟨attnRaise_events b s, attnRaise_eventCount b s⟩

/-- A completion that does not wrap its mailbox's count raises no event (R8). -/
theorem mbDone_queue {k op result tag : Nat} {p : List Byte} {s : State} (ho : (mb s k).origin = none) (hw : (mb s k).completed.wraps 1 = false) :
    (mbDone k op result tag p s).desk.events = s.desk.events ∧ (mbDone k op result tag p s).desk.eventCount = s.desk.eventCount := by
  unfold mbDone
  simp only [ho, wrapEv, hw]
  exact attnSet_queue _ _

section
variable {t : Nat} {r : Req} {s : State} (h : Ready r s)
include h

theorem eventRead_refused (hbad : r.payload.length ≠ 4 ∨ 5 < fld r.payload 0 1 ∨ allZero (r.payload.drop 1) = false) :
    RefusedWith (.eventRead t r) r 0x0012 rBadParam t s := by
  by_cases hl : r.payload.length = 4
  · refine refusedWith_of_done h (exec_of_body h (exec_eventRead t r s) (by omega) (by simp [hl, lenEq])
      (eventReadBody_refused (hbad.resolve_left (not_not.2 hl)))) (mbDone_answered r _ _ _ _ (started_origin ..) (.inr (.inl rfl)) ?_)
    simp [length_eventAnswer]
  · exact refusedWith_of_done h ((exec_eventRead t r s).trans (congrArg Host.Outcome.next
      (command_badLength h (.inr (by simpa [lenEq] using hl))))) (mbDone_answered_empty r _ _ _ (started_origin ..))

/-- The body of a read takes its entries off the queue. -/
theorem eventRead_effect (hn : fld r.payload 0 1 ≤ 5) (hz : allZero (r.payload.drop 1) = true) (hc : s.desk.lostCount = 0) :
    ∃ e, eventReadBody 0x0012 r (started 0x0012 t r s) = .done rOK (eventAnswer (started 0x0012 t r s)
        (s.desk.events.take (fld r.payload 0 1)) (s.desk.events.drop (fld r.payload 0 1)).length) e
      ∧ DeskOnly r.mb (advance t s) e ∧ (mb e r.mb).origin = none ∧ (mb e r.mb).completed = (mb s r.mb).completed
      ∧ e.desk.events = s.desk.events.drop (fld r.payload 0 1) ∧ e.desk.eventCount = s.desk.eventCount := by
  have hb := eventReadBody_reads (op := 0x0012) (r := r) (s := started 0x0012 t r s) hn hz (by simpa using hc)
  obtain ⟨hd, hm⟩ := started_deskOnly 0x0012 t r s h.2.2.2.2.2
  rw [started_events] at hb
  refine ⟨_, hb, ⟨?_, hm⟩, started_origin .., started_completed .., rfl, started_eventCount ..⟩
  rw [hd]
  rfl

theorem eventRead_reads (hl : r.payload.length = 4) (hn : fld r.payload 0 1 ≤ 5) (hz : allZero (r.payload.drop 1) = true)
    (hc : s.desk.lostCount = 0) :
    let n := fld r.payload 0 1
    let out := s.desk.events.take n
    Runs (.eventRead t r) s (fun u => DeskOnly r.mb (advance t s) u
      ∧ Answered r 0x0012 rOK (le 1 out.length ++ le 1 0 ++ le 2 (s.desk.events.length - out.length) ++ le 4 s.desk.eventCount.val.toNat
          ++ out.flatMap evBytes) u
      ∧ ((mb s r.mb).completed.wraps 1 = false → u.desk.events = s.desk.events.drop n ∧ u.desk.eventCount = s.desk.eventCount)) := by
  intro n out
  have ha : eventAnswer (started 0x0012 t r s) out (s.desk.events.drop n).length = le 1 out.length ++ le 1 0
      ++ le 2 (s.desk.events.length - out.length) ++ le 4 s.desk.eventCount.val.toNat ++ out.flatMap evBytes := by
    have hrest : (s.desk.events.drop n).length = s.desk.events.length - out.length := by
      simp [out]
      omega
    rw [eventAnswer, hrest, started_eventCount]
  have hl5 : out.length ≤ 5 := (List.length_take_le _ _).trans hn
  obtain ⟨e, hb, hd, ho, hw, he, hcnt⟩ := eventRead_effect h hn hz hc
  have hx := exec_of_body h (exec_eventRead t r s) (by omega) (by simp [hl, lenEq]) hb
  have hp : (eventAnswer (started 0x0012 t r s) out (s.desk.events.drop n).length).length ≤ 244 := by
    rw [length_eventAnswer]
    omega
  refine ⟨_, hx, hd.trans (mbDone_deskOnly _ _ _ _ _ _ ho), ha ▸ mbDone_answered r _ _ _ _ ho (.inl rfl) hp, fun hwrap => ?_⟩
  obtain ⟨h1, h2⟩ := mbDone_queue (op := 0x0012) (result := rOK) (tag := r.tag)
    (p := eventAnswer (started 0x0012 t r s) out (s.desk.events.drop n).length) ho (hw ▸ hwrap)
  exact ⟨h1.trans he, h2.trans hcnt⟩

end

/-- Settles O54: a clause per command. -/
theorem deviceCommandsComplete : Obligations.DeviceCommandsComplete := by
  unfold Obligations.DeviceCommandsComplete
  exact ⟨fun t r s h hl => ⟨devRun_runs h hl, devRun_refused h hl, devRun_withheld h hl,
      fun hst => ⟨devStop_pends h hl hst, devStop_stops h hl hst⟩, devStop_refused h hl, devIdentity_completes h hl⟩,
    fun t r s h hl hn hz hc => eventRead_reads h hl hn hz hc, fun t r s h hbad => eventRead_refused h hbad,
    fun t r s h hl => ⟨devReset_completes h hl, devReset_refused h hl⟩⟩

end Sys2Proof.Machine
end

section
/-! SUPPORT. The safety mailbox's commands of COMMISSIONING (R298, R299, R302). -/

namespace Sys2Proof.Machine

/-! ### Check values, fields and free bytes -/

theorem crc32Bits_lt (n c : Nat) (h : c < 2 ^ 32) : crc32Bits n c < 2 ^ 32 := by
  induction n generalizing c with
  | zero => exact h
  | succ n ih =>
    refine ih _ ?_
    split
    · exact Nat.xor_lt_two_pow (by omega) (by decide)
    · omega

theorem crc32_lt (l : List Byte) : crc32 l < 2 ^ 32 := by
  refine Nat.xor_lt_two_pow ?_ (by decide)
  refine foldl_holds (· < 2 ^ 32) (fun c b hc => crc32Bits_lt _ _ ?_) l _ (by decide)
  exact Nat.xor_lt_two_pow hc (b.isLt.trans (by decide))

theorem unle_le (n v : Nat) : unle (le n v) = v % 256 ^ n := by
  induction n generalizing v with
  | zero => simp [le, unle, Nat.mod_one]
  | succ n ih =>
    have hm : v % (256 * 256 ^ n) = v % 256 + 256 * (v / 256 % 256 ^ n) := Nat.mod_mul
    have hp : 256 ^ (n + 1) = 256 * 256 ^ n := pow_succ' ..
    rw [le, unle, ih, BitVec.toNat_ofNat, hp, hm]

/-- A field of a payload in the place where it was written. -/
theorem fld_append {a b c : List Byte} {o n : Nat} (ha : a.length = o) (hb : b.length = n) : fld (a ++ (b ++ c)) o n = unle b := by
  rw [fld, List.drop_left' ha, List.take_left' hb]

theorem freeBytes_free (n : Nat) (s : State) : (freeBytes n s).2 = { s with free := (freeBytes n s).2.free } := by
  induction n generalizing s with
  | zero => rfl
  | succ n ih => exact (ih _).trans rfl

@[simp] theorem length_freeBytes (n : Nat) (s : State) : (freeBytes n s).1.length = n := by
  induction n generalizing s with
  | zero => rfl
  | succ n ih => simp [freeBytes, ih]

/-! ### The safety mailbox's commands -/

section
variable (t : Nat) (r : Req) (s : State)

theorem exec_nkCommission : exec (.nkCommission t r) s = .next (command { op := 0x0C10, mbLo := 4, mbHi := 4 } (lenEq 4) commissionBody t r s) :=
  rfl

theorem exec_nkSetWrite : exec (.nkSetWrite t r) s = .next (command { op := 0x0C11, mbLo := 4, mbHi := 4 }
    (fun p => decide (4 ≤ p.length) && p.length == 4 + fld p 2 2) setWriteBody t r s) := rfl

theorem exec_nkConfirm : exec (.nkConfirm t r) s = .next (command { op := 0x0C12, mbLo := 4, mbHi := 4 } (lenEq 12) confirmBody t r s) := rfl

end

section
variable {t : Nat} {r : Req} {s : State}

/-- A command of mailbox 4 that its body completes. -/
theorem exec_of_safetyDone {op : Nat} {lenOk : List Byte → Bool} {body : Nat → Req → State → CmdOut} {i : Instr} {result : Nat} {b : List Byte}
    {e : State} (h : Ready r s) (hm : r.mb = 4) (hi : exec i s = .next (command { op := op, mbLo := 4, mbHi := 4 } lenOk body t r s))
    (hlen : r.payload.length ≤ 248) (hok : lenOk r.payload = true) (hb : body op r (started op t r s) = .done result b e) :
    exec i s = .next (mbDone r.mb op result r.tag b e) := by
  have hrec : s.desk.recovery = false := h.2.2.2.1
  rw [hi, command_started h, runCmd_body (by dsimp only; omega) (by dsimp only; omega) (Nat.zero_le _) hlen hok (by simpa using hrec), hb]

/-- A command of mailbox 4 that its body leaves waiting. -/
theorem exec_of_safetyPending {op : Nat} {lenOk : List Byte → Bool} {body : Nat → Req → State → CmdOut} {i : Instr} {e : State} (h : Ready r s)
    (hm : r.mb = 4) (hi : exec i s = .next (command { op := op, mbLo := 4, mbHi := 4 } lenOk body t r s)) (hlen : r.payload.length ≤ 248)
    (hok : lenOk r.payload = true) (hb : body op r (started op t r s) = .pending e) : exec i s = .next e := by
  have hrec : s.desk.recovery = false := h.2.2.2.1
  rw [hi, command_started h, runCmd_body (by dsimp only; omega) (by dsimp only; omega) (Nat.zero_le _) hlen hok (by simpa using hrec), hb]

/-- The head switch reads by the governing set alone (R287, R295). -/
theorem headOpen_of_steady {s u : State} (hs : (steady u).stage = (steady s).stage) (hk : (steady u).kept = (steady s).kept) :
    headOpen u = headOpen s := by
  simp only [steady, Prod.mk.injEq] at hs hk
  obtain ⟨h1, -, -, h2, h3, -⟩ := hs
  obtain ⟨-, -, -, -, -, -, -, -, -, h4, -, -, -, h5, -⟩ := hk
  simp only [headOpen, headClosed, governing, h1, h2, h3, h4, h5]
  rfl

/-- An answer on the mailbox of the request, after an effect that answers whom it answered before. -/
theorem safety_answered {op : Nat} {v : State} (hk : (steady v).kept = (steady (started op t r s)).kept) :
    Answered r op rOK [] (mbDone r.mb op rOK r.tag [] v) :=
  mbDone_answered_empty r op rOK v ((origin_of_kept hk _).trans (started_origin ..))

/-- COMMISSIONING ends at once while no frame runs (R38). -/
theorem exitCommissioning_st (s : State) : (s.sch.running = true → (exitCommissioning s).desk.st = s.desk.st ∧ (exitCommissioning s).desk.pendExit = true)
    ∧ (s.sch.running = false → (exitCommissioning s).desk.st = 2) := by
  unfold exitCommissioning
  constructor
  · intro hr
    rw [if_pos hr]
    exact ⟨rfl, rfl⟩
  · intro hr
    rw [if_neg (by simp [hr])]
    exact (steady_stNow_stage _ _ _).1

/-! ### NK_COMMISSION -/

/-- The request with the candidate that entering COMMISSIONING takes over (R299). -/
def candidateTaken (s : State) : State :=
  { s with nk.cand := s.nk.conf.getD [], nk.candOk := (setInvalid (s.nk.conf.getD [])).isNone, nk.nonce := none }

theorem commissionBody_enters {op : Nat} (hp : r.payload = le 1 1 ++ zeros 3) (hst : s.desk.st = 2) (hi : itinReady s = true)
    (hf : s.cal.factory = none) :
    commissionBody op r s = .done rOK [] (startEmission (rejudge (setSt 3 1 (candidateTaken s)))) := by
  have h1 : fld r.payload 0 1 = 1 := by rw [hp]; decide
  have hz : allZero r.payload.tail = true := by rw [hp]; decide
  simp [commissionBody, h1, hz, hst, hi, hf, candidateTaken]

theorem commissionBody_leaves {op : Nat} (hp : r.payload = le 1 2 ++ zeros 3) (hst : s.desk.st = 3) :
    commissionBody op r s = .done rOK [] (exitCommissioning s) := by
  have h1 : fld r.payload 0 1 = 2 := by rw [hp]; decide
  have hz : allZero r.payload.tail = true := by rw [hp]; decide
  simp [commissionBody, h1, hz, hst]

/-- Entering COMMISSIONING with the head closed under the candidate (R287, R299). -/
theorem enter_effect {e : State}
    (hh : headOpen { e with desk.st := 3, nk.cand := e.nk.conf.getD [], nk.candOk := (setInvalid (e.nk.conf.getD [])).isNone } = false) :
    let v := startEmission (rejudge (setSt 3 1 (candidateTaken e)))
    (steady v).kept = (steady e).kept ∧ (steady v).units = (steady e).units ∧ v.desk.st = 3 ∧ v.nk.cand = e.nk.conf.getD [] ∧ v.nk.nonce = none := by
  have hc : (steady (candidateTaken e)).kept = (steady e).kept := by simp [candidateTaken]
  have hu : (steady (candidateTaken e)).units = (steady e).units := by simp [candidateTaken]
  have hg : (steady (setSt 3 1 (candidateTaken e))).stage = (steady { candidateTaken e with desk.st := 3 }).stage :=
    steady_setSt_stage _ _ _ fun _ => rfl
  have hk : (steady (setSt 3 1 (candidateTaken e))).kept = (steady { candidateTaken e with desk.st := 3 }).kept := by simp
  have hj : (steady (rejudge (setSt 3 1 (candidateTaken e)))).stage = _ :=
    (steady_rejudge_stage _ ((headOpen_of_steady hg hk).trans hh) (by rw [st_of_stage hg]; show 3 ≠ 4; decide)).trans hg
  have hv : (steady (startEmission (rejudge (setSt 3 1 (candidateTaken e))))).stage = (steady { candidateTaken e with desk.st := 3 }).stage := by
    rw [steady_startEmission, hj]
  obtain ⟨h3, -, -, hcand, -, hn⟩ := stage_fields hv
  exact ⟨by simp [hc], by simp [hu], h3, hcand, hn⟩

theorem commission_enters (h : Ready r s) (hm : r.mb = 4) (hp : r.payload = le 1 1 ++ zeros 3) (hst : s.desk.st = 2) (hi : itinReady s = true)
    (hf : s.cal.factory = none)
    (hh : headOpen { s with desk.st := 3, nk.cand := s.nk.conf.getD [], nk.candOk := (setInvalid (s.nk.conf.getD [])).isNone } = false) :
    Runs (.nkCommission t r) s (fun u => Answered r 0x0C10 rOK [] u ∧ u.desk.st = 3 ∧ u.nk.cand = s.nk.conf.getD []
      ∧ u.nk.nonce = none ∧ u.nv = s.nv ∧ u.sns = s.sns ∧ u.cal = s.cal ∧ u.tim = s.tim) := by
  have hx := exec_of_safetyDone h hm (exec_nkCommission t r s) (by simp [hp]) (by simp [hp, lenEq])
    (commissionBody_enters hp (by simpa using hst) (by simpa using hi) (by simpa using hf))
  obtain ⟨hk, hu, h3, hc, hn⟩ := enter_effect (e := started 0x0C10 t r s) (by
    rw [← hh, started_eq]
    rfl)
  refine ⟨_, hx, ?_⟩
  generalize startEmission (rejudge (setSt 3 1 (candidateTaken (started 0x0C10 t r s)))) = v at hk hu h3 hc hn ⊢
  obtain ⟨gk, gu, gs, -⟩ := steady_mbDone r.mb 0x0C10 rOK r.tag [] v
  obtain ⟨-, -, f1, -⟩ := kept_fields (gk.trans hk)
  obtain ⟨-, f2, f3, f4⟩ := units_fields (gu.trans hu)
  obtain ⟨g3, -, -, gc, -, gn⟩ := stage_fields gs
  rw [started_nv] at f1
  refine ⟨safety_answered hk, g3.trans h3, ?_, gn.trans hn, f1, ?_, ?_, ?_⟩
  · exact (gc.trans hc).trans (by rw [started_nk])
  · simpa using f2
  · simpa using f3
  · simpa using f4

theorem commission_leaves (h : Ready r s) (hm : r.mb = 4) (hp : r.payload = le 1 2 ++ zeros 3) (hst : s.desk.st = 3) :
    Runs (.nkCommission t r) s (fun u => Answered r 0x0C10 rOK [] u ∧ u.nv = s.nv ∧ u.sns = s.sns
      ∧ (s.sch.running = true → u.desk.st = 3 ∧ u.desk.pendExit = true) ∧ (s.sch.running = false → u.desk.st = 2)) := by
  have hx := exec_of_safetyDone h hm (exec_nkCommission t r s) (by simp [hp]) (by simp [hp, lenEq])
    (commissionBody_leaves hp (by simpa using hst))
  obtain ⟨hk, hu⟩ := steady_exitCommissioning (started 0x0C10 t r s)
  obtain ⟨hrun, hidle⟩ := exitCommissioning_st (started 0x0C10 t r s)
  refine ⟨_, hx, ?_⟩
  generalize exitCommissioning (started 0x0C10 t r s) = v at hk hu hrun hidle ⊢
  obtain ⟨gk, gu, gs, -⟩ := steady_mbDone r.mb 0x0C10 rOK r.tag [] v
  obtain ⟨-, -, f1, -⟩ := kept_fields (gk.trans hk)
  obtain ⟨-, f2, -⟩ := units_fields (gu.trans hu)
  obtain ⟨g3, -, ge, -⟩ := stage_fields gs
  refine ⟨safety_answered hk, f1.trans (by simp), f2.trans (by simp), fun hr => ?_, fun hr => ?_⟩
  · obtain ⟨e1, e2⟩ := hrun (by simpa using hr)
    exact ⟨(g3.trans e1).trans (by simpa using hst), ge.trans e2⟩
  · exact g3.trans (hidle (by simpa using hr))

/-! ### NK_SET_WRITE -/

theorem setWriteBody_writes {op : Nat} {c : List Host.Cell} (hst : s.desk.st = 3) (hn : fld r.payload 0 2 + fld r.payload 2 2 ≤ 1984)
    (h1 : 1 ≤ fld r.payload 2 2) (h2 : fld r.payload 2 2 ≤ 240) (hw : s.nk.wrHeld = false)
    (hc : c = cputs 0 s.nk.cand (fld r.payload 0 2) (r.payload.drop 4)) :
    setWriteBody op r s = .done rOK [] (rejudge { s with nk.cand := c, nk.candOk := (setInvalid c).isNone, nk.nonce := none }) := by
  subst hc
  unfold setWriteBody
  dsimp only
  rw [if_neg (not_not.2 hst), if_neg (by omega), if_neg (by simp [hw])]

/-- A write into the candidate with the head closed under it (R287, R298). -/
theorem write_effect {e : State} {c : List Host.Cell} (hst : e.desk.st = 3)
    (hh : headOpen { e with nk.cand := c, nk.candOk := (setInvalid c).isNone } = false) :
    let v := rejudge { e with nk.cand := c, nk.candOk := (setInvalid c).isNone, nk.nonce := none }
    (steady v).kept = (steady e).kept ∧ v.desk.st = 3 ∧ v.nk.cand = c ∧ v.nk.candOk = (setInvalid c).isNone ∧ v.nk.nonce = none := by
  obtain ⟨h3, -, -, hc, hok, hn⟩ := stage_fields
    (steady_rejudge_stage { e with nk.cand := c, nk.candOk := (setInvalid c).isNone, nk.nonce := none } hh (by show e.desk.st ≠ 4; omega))
  exact ⟨by simp, h3.trans hst, hc, hok, hn⟩

theorem setWrite_runs (h : Ready r s) (hm : r.mb = 4) (hst : s.desk.st = 3) :
    let o := fld r.payload 0 2
    let n := fld r.payload 2 2
    r.payload.length = 4 + n → o + n ≤ 1984 → 1 ≤ n → n ≤ 240 → s.nk.wrHeld = false →
    let c := cputs 0 s.nk.cand o (r.payload.drop 4)
    headOpen { s with nk.cand := c, nk.candOk := (setInvalid c).isNone } = false →
    Runs (.nkSetWrite t r) s (fun u => Answered r 0x0C11 rOK [] u ∧ u.nk.cand = c
      ∧ u.nk.candOk = (setInvalid u.nk.cand).isNone ∧ u.nk.nonce = none ∧ u.nk.conf = s.nk.conf ∧ u.nv = s.nv ∧ u.desk.st = 3) := by
  intro o n hlen hon h1 h2 hw c hh
  have hx := exec_of_safetyDone h hm (exec_nkSetWrite t r s) (by omega) (by simp; omega)
    (setWriteBody_writes (c := c) (by simpa using hst) hon h1 h2 (by simpa using hw) (by rw [started_nk]))
  obtain ⟨hk, h3, hc, hok, hn⟩ := write_effect (e := started 0x0C11 t r s) (c := c) (by simpa using hst) (by
    rw [← hh, started_eq]
    rfl)
  refine ⟨_, hx, ?_⟩
  generalize rejudge { started 0x0C11 t r s with nk.cand := c, nk.candOk := (setInvalid c).isNone, nk.nonce := none } = v at hk h3 hc hok hn ⊢
  obtain ⟨gk, -, gs, -⟩ := steady_mbDone r.mb 0x0C11 rOK r.tag [] v
  obtain ⟨-, -, f1, -, f2, -⟩ := kept_fields (gk.trans hk)
  obtain ⟨g3, -, -, gc, gok, gn⟩ := stage_fields gs
  exact ⟨safety_answered hk, gc.trans hc, (gok.trans hok).trans (by rw [gc, hc]), gn.trans hn, f2.trans (by simp), f1.trans (by simp),
    g3.trans h3⟩

/-! ### NK_CONFIRM -/

/-- The nonce that step 1 gives, after the free bytes of its answer. -/
def nonceGiven (s : State) : Nat × State := freeVal (2 ^ 32) (freeBytes 4 s).2

theorem nonceGiven_lt (s : State) : (nonceGiven s).1 < 2 ^ 32 := Nat.mod_lt _ (by decide)

theorem nonceGiven_free (s : State) : (nonceGiven s).2 = { s with free := (nonceGiven s).2.free } := by
  have h := freeBytes_free 4 s
  unfold nonceGiven freeVal
  rw [h]

theorem confirmBody_nonce {op : Nat} (hst : s.desk.st = 3) (hp : r.payload = le 1 1 ++ zeros 11) (hv : setInvalid s.nk.cand = none) :
    confirmBody op r s = .done rOK (confirmBytes (nonceGiven s).1 (sf s.nk.cand 4 4) 0xFFFF (freeBytes 4 s).1)
      { (nonceGiven s).2 with nk.nonce := some ((nonceGiven s).1, s.wall) } := by
  have h1 : fld r.payload 0 1 = 1 := by rw [hp]; decide
  have hz : allZero ((r.payload.drop 1).take 3) = true := by rw [hp]; decide
  have hz' : allZero (r.payload.drop 4) = true := by rw [hp]; decide
  unfold confirmBody
  dsimp only
  rw [if_neg (not_not.2 hst), if_neg (by rw [h1, hz, hz']; simp), if_pos h1, hv]
  rfl

theorem confirmBody_waits {op n a : Nat} (hst : s.desk.st = 3) (hn : s.nk.nonce = some (n, a)) (hlt : n < 2 ^ 32) (ha : s.wall ≤ a + 10 * tSec)
    (hp : r.payload = le 1 2 ++ zeros 3 ++ le 4 n ++ le 4 (setCheck s.nk.cand)) (hw : s.nk.wrHeld = false) :
    confirmBody op r s = .pending { s with nk.nonce := none, nk.confirm := some (r.mb, r.tag, s.wall) } := by
  have h1 : fld r.payload 0 1 = 2 := by rw [hp]; rfl
  have hz : allZero ((r.payload.drop 1).take 3) = true := by rw [hp]; rfl
  have h4 : fld r.payload 4 4 = n := by
    rw [hp, List.append_assoc, fld_append (by simp) (by simp), unle_le]
    exact Nat.mod_eq_of_lt (by omega)
  have h8 : fld r.payload 8 4 = setCheck s.nk.cand := by
    rw [hp, ← List.append_nil (le 4 (setCheck s.nk.cand)), fld_append (by simp) (by simp), unle_le]
    exact Nat.mod_eq_of_lt (crc32_lt _)
  unfold confirmBody
  dsimp only
  rw [if_neg (not_not.2 hst), if_neg (by rw [h1, hz]; simp), if_neg (by omega), hn, h4, h8]
  simp [ha, hw]

theorem length_confirmBytes {cnt : List Byte} (nonce setId bad : Nat) (h : cnt.length = 4) : (confirmBytes nonce setId bad cnt).length = 16 := by
  simp [confirmBytes, h]

theorem take_confirmBytes (nonce setId bad : Nat) (cnt : List Byte) :
    (confirmBytes nonce setId bad cnt).take 10 = le 4 nonce ++ le 4 setId ++ le 2 bad := by
  rw [confirmBytes, List.append_assoc (_ ++ _)]
  exact List.take_left' (by simp)

/-- A nonce given to a started request. -/
theorem nonce_deskOnly (h : Ready r s) (n : Nat) : DeskOnly r.mb { advance t s with nk.nonce := some (n, max s.wall t) }
    { (nonceGiven (started 0x0C12 t r s)).2 with nk.nonce := some (n, (started 0x0C12 t r s).wall) } := by
  obtain ⟨hd, hj⟩ := started_deskOnly 0x0C12 t r s h.2.2.2.2.2
  have hf := nonceGiven_free (started 0x0C12 t r s)
  have hw : (started 0x0C12 t r s).wall = max s.wall t := started_wall ..
  rw [hf, hw]
  refine ⟨?_, hj⟩
  rw [hd]
  rfl

theorem confirm_gives (h : Ready r s) (hm : r.mb = 4) (hst : s.desk.st = 3) (hp : r.payload = le 1 1 ++ zeros 11)
    (hv : setInvalid s.nk.cand = none) :
    Runs (.nkConfirm t r) s (fun u => ∃ n p, n < 2 ^ 32 ∧ p.length = 16 ∧ p.take 10 = le 4 n ++ le 4 (sf s.nk.cand 4 4) ++ le 2 0xFFFF
      ∧ Answered r 0x0C12 rOK p u ∧ DeskOnly 4 { advance t s with nk.nonce := some (n, max s.wall t) } u) := by
  have hx := exec_of_safetyDone h hm (exec_nkConfirm t r s) (by simp [hp]) (by simp [hp, lenEq])
    (confirmBody_nonce (by simpa using hst) hp (by simpa using hv))
  rw [started_nk] at hx
  have hf := nonceGiven_free (started 0x0C12 t r s)
  have ho : (mb { (nonceGiven (started 0x0C12 t r s)).2 with
      nk.nonce := some ((nonceGiven (started 0x0C12 t r s)).1, (started 0x0C12 t r s).wall) } r.mb).origin = none := by
    rw [hf]
    exact started_origin ..
  have hd : ∀ p, DeskOnly r.mb _ (mbDone r.mb 0x0C12 rOK r.tag p _) := fun p =>
    DeskOnly.trans (nonce_deskOnly h _) (mbDone_deskOnly r.mb 0x0C12 rOK r.tag p _ ho)
  refine ⟨_, hx, _, _, nonceGiven_lt _, length_confirmBytes _ _ _ (length_freeBytes ..), take_confirmBytes _ _ _ _,
    mbDone_answered r _ _ _ _ ho (.inl rfl) (by rw [length_confirmBytes _ _ _ (length_freeBytes ..)]; decide), ?_⟩
  have h4 := hd (confirmBytes (nonceGiven (started 0x0C12 t r s)).1 (sf s.nk.cand 4 4) 0xFFFF (freeBytes 4 (started 0x0C12 t r s)).1)
  rwa [hm] at h4 ⊢

theorem confirm_waits {n a : Nat} (h : Ready r s) (hm : r.mb = 4) (hst : s.desk.st = 3) (hn : s.nk.nonce = some (n, a)) (hlt : n < 2 ^ 32)
    (ha : max s.wall t ≤ a + 10 * tSec) (hp : r.payload = le 1 2 ++ zeros 3 ++ le 4 n ++ le 4 (setCheck s.nk.cand)) (hw : s.nk.wrHeld = false) :
    Runs (.nkConfirm t r) s (fun u => (mb u 4).st = 1
      ∧ DeskOnly 4 { advance t s with nk.nonce := none, nk.confirm := some (4, r.tag, max s.wall t) } u) := by
  have hb := confirmBody_waits (op := 0x0C12) (r := r) (s := started 0x0C12 t r s) (n := n) (a := a) (by simpa using hst) (by simpa using hn) hlt
    (by simpa using ha) (by simpa using hp) (by simpa using hw)
  have hx := exec_of_safetyPending h hm (exec_nkConfirm t r s) (by simp [hp]) (by simp [hp, lenEq]) hb
  have h1 : (mb (started 0x0C12 t r s) r.mb).st = 1 := by rw [started_mb, if_pos rfl]
  obtain ⟨hd, hj⟩ := started_deskOnly 0x0C12 t r s h.2.2.2.2.2
  have hwall : (started 0x0C12 t r s).wall = max s.wall t := started_wall ..
  rw [hm] at h1 hj hx
  refine ⟨_, hx, h1, ?_, hj⟩
  rw [hwall, hd]
  rfl

end

end Sys2Proof.Machine
end

section
/-! SUPPORT. How a confirmation ends (R298, R302, R465), and O16. -/

namespace Sys2Proof.Machine

/-! ### Completion on any mailbox -/

/-- Completion leaves its status whoever is answered (R447). -/
theorem mbDone_status (k op result tag : Nat) (p : List Byte) (s : State) :
    (mb (mbDone k op result tag p s) k).st = 2 ∧ (mb (mbDone k op result tag p s) k).lastResult = result := by
  unfold mbDone
  dsimp only
  split
  · rw [LogOnly.mb (attnSet_logOnly _ _), mb_setMb, if_pos rfl]
    exact ⟨rfl, rfl⟩
  · simp [mb, setMb, tget_tput]

/-- Beside the log it touches the mailboxes and the in-band answers alone. -/
theorem mbDone_frame (k op result tag : Nat) (p : List Byte) (s : State) :
    mbDone k op result tag p s = { logOf s (mbDone k op result tag p s) with
      desk := { (logOf s (mbDone k op result tag p s)).desk with
        mbs := (mbDone k op result tag p s).desk.mbs, replies := (mbDone k op result tag p s).desk.replies } } := by
  have h1 := wrapEv_logOnly (mb s k).completed 1 0x0009 (le 1 2 ++ le 1 k) s
  unfold mbDone
  dsimp only
  unfold LogOnly at h1
  generalize wrapEv (mb s k).completed 1 0x0009 (le 1 2 ++ le 1 k) s = v at h1 ⊢
  split
  · generalize ha : setMb v k _ = w
    have h2 := attnSet_logOnly (BitVec.ofNat 32 (2 ^ k)) w
    unfold LogOnly at h2
    generalize attnSet (BitVec.ofNat 32 (2 ^ k)) w = z at h2 ⊢
    rw [h2, ← ha, h1]
    rfl
  · rw [h1]
    rfl

theorem mbDone_seals (k op result tag : Nat) (p : List Byte) (s : State) :
    (mbDone k op result tag p s).sch = s.sch ∧ (mbDone k op result tag p s).par = s.par := by
  rw [mbDone_frame]
  exact ⟨rfl, rfl⟩

/-! ### What the end of COMMISSIONING leaves of the mailboxes -/

theorem exitCommissioning_mbs (s : State) : (exitCommissioning s).desk.mbs = s.desk.mbs := by
  by_cases hr : s.sch.running = true
  · rw [exitCommissioning, if_pos hr]
  · exact congrArg (fun b => b.2.2) (steady_exitCommissioning_settled s (.inl (show s.sch.running = false by simpa using hr)))

theorem rejudge_mbs (s : State) (h : s.par.awaiting = []) : (rejudge s).desk.mbs = s.desk.mbs :=
  congrArg (fun b => b.2.2) (steady_rejudge_settled s (.inr h))

/-! ### The record is verified (R298, R302) -/

/-- The record of the set that is confirmed. -/
def confirmRec (s : State) : SetRec :=
  { check := setCheck s.nk.cand, setId := sf s.nk.cand 4 4, serial := s.nv.serial, count := max (setCount s 0) (setCount s 1) + 1
    sig := signRecord (recordBytes (setCheck s.nk.cand) (sf s.nk.cand 4 4) s.nv.serial (max (setCount s 0) (setCount s 1) + 1)) s.nv.signs }

/-- The set is stored with its record and confirmed. -/
def recordStored (s : State) : State :=
  { setStore s.nk.cand (confirmRec s) s with
    nv.signs := (setStore s.nk.cand (confirmRec s) s).nv.signs + 1, nk.conf := some s.nk.cand, nk.confirm := none, desk.confirmed := true }

/-- The request is answered. -/
def confirmAnswered (k tag : Nat) (s : State) : State :=
  mbDone k 0x0C12 rOK tag (confirmBytes 0 (confirmRec s).setId 0xFFFF (le 4 (confirmRec s).count))
    (logEv 0x0C06 (le 4 (confirmRec s).setId ++ le 4 (confirmRec s).check ++ le 4 (confirmRec s).count) (recordStored s))

section
variable {s : State} {k tag a : Nat} (hc : s.nk.confirm = some (k, tag, a)) (ht : s.wall ≤ a + 2 * tSec)
include hc ht

theorem setConfirmed_eq (hw : s.nk.wrHeld = false) :
    setConfirmed s = if (confirmAnswered k tag s).desk.st = 3 then exitCommissioning (confirmAnswered k tag s)
      else rejudge { confirmAnswered k tag s with nk.cand := [], nk.candOk := false } := by
  unfold setConfirmed
  simp only [hc]
  rw [if_neg (by omega), if_neg (by simp [hw])]
  rfl

theorem setConfirmed_blocked (hw : s.nk.wrHeld = true) :
    setConfirmed s = if (mbDone k 0x0C12 rSafetyLocked tag [] { s with nk.confirm := none }).desk.st = 3
      then mbDone k 0x0C12 rSafetyLocked tag [] { s with nk.confirm := none }
      else { mbDone k 0x0C12 rSafetyLocked tag [] { s with nk.confirm := none } with nk.cand := [], nk.candOk := false } := by
  unfold setConfirmed
  simp only [hc]
  rw [if_neg (by omega), if_pos (by exact hw)]

end

/-- Which copy is written, and with what (R465). -/
theorem recordStored_copy (s : State) : ∃ c j, j < 2 ∧ setCopy (recordStored s) j = (s.nk.cand, some c)
    ∧ setCopy (recordStored s) (1 - j) = setCopy s (1 - j) ∧ (setReasonOf s (setGov s) = 0 → j ≠ setGov s)
    ∧ (∀ i, i < 2 → setCount s i < c.count) ∧ c.check = setCheck s.nk.cand ∧ c.serial = s.nv.serial
    ∧ c.sig = signRecord (recordBytes c.check c.setId c.serial c.count) s.nv.signs := by
  have hcount : ∀ i, i < 2 → setCount s i < (confirmRec s).count := by
    intro i hi
    show _ < max _ _ + 1
    obtain rfl | rfl : i = 0 ∨ i = 1 := by omega
    · omega
    · omega
  by_cases hg : setGov s = 0 ∧ setReasonOf s 0 = 0
  · refine ⟨confirmRec s, 1, by decide, ?_, ?_, fun _ => ?_, hcount, rfl, rfl, rfl⟩
    · simp [setCopy, recordStored, setStore, hg]
    · simp [setCopy, recordStored, setStore, hg]
    · omega
  · refine ⟨confirmRec s, 0, by decide, ?_, ?_, fun hr h0 => hg ⟨h0.symm, h0 ▸ hr⟩, hcount, rfl, rfl, rfl⟩
    · simp [setCopy, recordStored, setStore, hg]
    · simp [setCopy, recordStored, setStore, hg]

theorem confirmAnswered_kept (k tag : Nat) (s : State) :
    (steady (confirmAnswered k tag s)).kept = (steady (recordStored s)).kept ∧ (steady (confirmAnswered k tag s)).stage = (steady (recordStored s)).stage := by
  simp [confirmAnswered]

theorem recordStored_stage (s : State) : (steady (recordStored s)).stage = (steady s).stage := by
  unfold recordStored setStore
  split <;> simp

theorem recordStored_fields (s : State) : (recordStored s).nk.conf = some s.nk.cand ∧ (recordStored s).nk.confirm = none
    ∧ (recordStored s).desk.confirmed = true ∧ (recordStored s).nv.calFile = s.nv.calFile ∧ (recordStored s).sch.running = s.sch.running
    ∧ (recordStored s).par = s.par := by
  unfold recordStored setStore
  split <;> exact ⟨rfl, rfl, rfl, rfl, rfl, rfl⟩

theorem confirmAnswered_seals (k tag : Nat) (s : State) :
    (confirmAnswered k tag s).sch = (recordStored s).sch ∧ (confirmAnswered k tag s).par = (recordStored s).par := by
  obtain ⟨h1, h2⟩ := mbDone_seals k 0x0C12 rOK tag (confirmBytes 0 (confirmRec s).setId 0xFFFF (le 4 (confirmRec s).count))
    (logEv 0x0C06 (le 4 (confirmRec s).setId ++ le 4 (confirmRec s).check ++ le 4 (confirmRec s).count) (recordStored s))
  have hl := logEv_logOnly 0x0C06 (le 4 (confirmRec s).setId ++ le 4 (confirmRec s).check ++ le 4 (confirmRec s).count) (recordStored s)
  unfold LogOnly at hl
  rw [hl] at h1 h2
  rw [confirmAnswered, hl]
  exact ⟨h1, h2⟩

/-- What the end of the confirmation keeps of the answered request: all but what the state's change and the new limits touch. -/
theorem setConfirmed_keeps {s : State} {k tag a : Nat} (hc : s.nk.confirm = some (k, tag, a)) (ht : s.wall ≤ a + 2 * tSec)
    (hw : s.nk.wrHeld = false) (hq : s.desk.st = 3 ∨ s.par.awaiting = []) :
    (steady (setConfirmed s)).kept = (steady (recordStored s)).kept ∧ (setConfirmed s).desk.mbs = (confirmAnswered k tag s).desk.mbs := by
  obtain ⟨hk, hs⟩ := confirmAnswered_kept k tag s
  have h3 : (confirmAnswered k tag s).desk.st = s.desk.st := st_of_stage (hs.trans (recordStored_stage s))
  rw [setConfirmed_eq hc ht hw]
  split
  · exact ⟨(steady_exitCommissioning _).1.trans hk, exitCommissioning_mbs _⟩
  · next hn =>
    have ha : (confirmAnswered k tag s).par.awaiting = [] := by
      obtain ⟨-, -, -, -, -, hp⟩ := recordStored_fields s
      rw [(confirmAnswered_seals k tag s).2, hp]
      exact hq.resolve_left fun h => hn (h3.trans h)
    refine ⟨((steady_rejudge _).1.trans ?_).trans hk, rejudge_mbs _ ha⟩
    simp

/-- The request is answered with OK, and COMMISSIONING ends at once while no frame runs. -/
theorem setConfirmed_confirms {s : State} {k tag a : Nat} (hc : s.nk.confirm = some (k, tag, a)) (ht : s.wall ≤ a + 2 * tSec)
    (hw : s.nk.wrHeld = false) (hq : s.desk.st = 3 ∨ s.par.awaiting = []) :
    let u := setConfirmed s
    u.nk.conf = some s.nk.cand ∧ u.nk.confirm = none ∧ u.desk.confirmed = true
      ∧ (mb u k).st = 2 ∧ (mb u k).lastResult = rOK ∧ u.nv.calFile = s.nv.calFile
      ∧ (∃ c j, j < 2 ∧ setCopy u j = (s.nk.cand, some c) ∧ setCopy u (1 - j) = setCopy s (1 - j)
          ∧ (setReasonOf s (setGov s) = 0 → j ≠ setGov s) ∧ (∀ i, i < 2 → setCount s i < c.count) ∧ c.check = setCheck s.nk.cand ∧ c.serial = s.nv.serial
          ∧ c.sig = signRecord (recordBytes c.check c.setId c.serial c.count) s.nv.signs)
      ∧ (s.desk.st = 3 → s.sch.running = false → u.desk.st = 2) := by
  obtain ⟨hk, hm⟩ := setConfirmed_keeps hc ht hw hq
  obtain ⟨-, -, f3, -, f5, f6, -, f8⟩ := kept_fields hk
  obtain ⟨r1, r2, r3, r4, r5, -⟩ := recordStored_fields s
  obtain ⟨s1, s2⟩ := mbDone_status k 0x0C12 rOK tag (confirmBytes 0 (confirmRec s).setId 0xFFFF (le 4 (confirmRec s).count))
    (logEv 0x0C06 (le 4 (confirmRec s).setId ++ le 4 (confirmRec s).check ++ le 4 (confirmRec s).count) (recordStored s))
  have hmb : mb (setConfirmed s) k = mb (confirmAnswered k tag s) k := by
    unfold mb
    rw [hm]
  have hcopy : ∀ j, setCopy (setConfirmed s) j = setCopy (recordStored s) j := fun j => by
    unfold setCopy
    rw [f3]
  obtain ⟨c, j, hj, c1, c2, c3⟩ := recordStored_copy s
  refine ⟨f5.trans r1, f6.trans r2, f8.trans r3, hmb ▸ s1, hmb ▸ s2, (congrArg Nv.calFile f3).trans r4,
    ⟨c, j, hj, (hcopy j).trans c1, (hcopy _).trans c2, c3⟩, fun h3 hr => ?_⟩
  obtain ⟨-, hs⟩ := confirmAnswered_kept k tag s
  have hst : (confirmAnswered k tag s).desk.st = 3 := (st_of_stage (hs.trans (recordStored_stage s))).trans h3
  have hrun : (confirmAnswered k tag s).sch.running = false := by
    rw [(confirmAnswered_seals k tag s).1, r5, hr]
  rw [setConfirmed_eq hc ht hw, if_pos hst]
  exact (exitCommissioning_st _).2 hrun

/-- An answer to the waiting NK_CONFIRM after which the earlier set stands; the candidate goes with COMMISSIONING (R299). -/
theorem confirm_ended (k result tag : Nat) (p : List Byte) (s e : State) (he : e = { s with free := e.free, nk.confirm := none }) :
    let v := mbDone k 0x0C12 result tag p e
    let u := if v.desk.st = 3 then v else { v with nk.cand := [], nk.candOk := false }
    u.nk.confirm = none ∧ (mb u k).st = 2 ∧ (mb u k).lastResult = result ∧ u.nv = s.nv ∧ u.nk.conf = s.nk.conf ∧ u.desk.st = s.desk.st := by
  intro v u
  obtain ⟨s1, s2⟩ := mbDone_status k 0x0C12 result tag p e
  obtain ⟨hk, -, hs, -⟩ := steady_mbDone k 0x0C12 result tag p e
  obtain ⟨-, -, f3, -, f5, f6, -⟩ := kept_fields hk
  have hst := st_of_stage hs
  have e1 : e.nv = s.nv ∧ e.nk.conf = s.nk.conf ∧ e.nk.confirm = none ∧ e.desk.st = s.desk.st := by
    rw [he]
    exact ⟨rfl, rfl, rfl, rfl⟩
  obtain ⟨e3, e5, e6, est⟩ := e1
  by_cases h3 : v.desk.st = 3
  · rw [show u = v from if_pos h3]
    exact ⟨f6.trans e6, s1, s2, f3.trans e3, f5.trans e5, hst.trans est⟩
  · rw [show u = { v with nk.cand := [], nk.candOk := false } from if_neg h3]
    exact ⟨f6.trans e6, s1, s2, f3.trans e3, f5.trans e5, hst.trans est⟩

theorem confirmTimeout_eq {s : State} {k tag a : Nat} (hc : s.nk.confirm = some (k, tag, a)) (ht : a + 2 * tSec ≤ s.wall) :
    confirmTimeout s = if (mbDone k 0x0C12 rTimeout tag (confirmBytes 0 (sf s.nk.cand 4 4) 0xFFFF (freeBytes 4 s).1)
          { (freeBytes 4 s).2 with nk.confirm := none }).desk.st = 3
        then mbDone k 0x0C12 rTimeout tag (confirmBytes 0 (sf s.nk.cand 4 4) 0xFFFF (freeBytes 4 s).1) { (freeBytes 4 s).2 with nk.confirm := none }
        else { mbDone k 0x0C12 rTimeout tag (confirmBytes 0 (sf s.nk.cand 4 4) 0xFFFF (freeBytes 4 s).1)
          { (freeBytes 4 s).2 with nk.confirm := none } with nk.cand := [], nk.candOk := false } := by
  have hf : (freeBytes 4 s).2.nk.cand = s.nk.cand := by rw [freeBytes_free]
  unfold confirmTimeout
  simp only [hc]
  rw [if_neg (by omega), hf]

/-- Settles O16: the commands of the safety mailbox, then the three ways a confirmation ends. -/
theorem commissioningRuns : Obligations.CommissioningRuns := by
  unfold Obligations.CommissioningRuns
  refine ⟨fun t r s h hm hp hst hi hf => commission_enters h hm hp hst hi hf, fun t r s h hm hp hst => commission_leaves h hm hp hst,
    fun t r s h hm hst => setWrite_runs h hm hst, fun t r s h hm hst hp hv => confirm_gives h hm hst hp hv,
    fun t n a r s h hm hst hn hlt ha hp hw => confirm_waits h hm hst hn hlt ha hp hw, fun t k tag a s h hc ht hw hq => ?_,
    fun t k tag a s h hc ht hw => ?_, fun t k tag a s h hc ht => ?_⟩
  · exact ⟨_, congrArg Host.Outcome.next (live_awake h), setConfirmed_confirms (s := advance t s) hc ht hw hq⟩
  · refine ⟨_, congrArg Host.Outcome.next (live_awake h), ?_⟩
    rw [setConfirmed_blocked (s := advance t s) hc ht hw]
    exact confirm_ended k rSafetyLocked tag [] (advance t s) _ rfl
  · refine ⟨_, congrArg Host.Outcome.next (live_awake h), ?_⟩
    rw [confirmTimeout_eq (s := advance t s) hc ht]
    exact confirm_ended k rTimeout tag _ (advance t s) _ (by rw [freeBytes_free 4 (advance t s)])

end Sys2Proof.Machine
end

section
/-! SUPPORT. What commits, plans and the frame boundary leave of the steady parts. -/

namespace Sys2Proof.Machine

/-! ### Ops.lean -/

@[simp] theorem steady_setAmbRod (s r v) : steady (setAmbRod s r v) = steady s := by simp [setAmbRod]
@[simp] theorem steady_setTalRod (s r v) : steady (setTalRod s r v) = steady s := by simp [setTalRod]
@[simp] theorem steady_setExtDeck (s d v) : steady (setExtDeck s d v) = steady s := by simp [setExtDeck]
@[simp] theorem steady_setStrng (s i v) : steady (setStrng s i v) = steady s := by simp [setStrng]

/-! ### Stream.lean -/

@[simp] theorem steady_closeEp (q cls s) : steady (closeEp q cls s) = steady s := by
  unfold closeEp
  dsimp only
  split
  · rfl
  · simp

@[simp] theorem steady_setDmaS (s n v) : steady (setDmaS s n v) = steady s := by simp [setDmaS]

@[simp] theorem steady_dmaShedClose (n s) : steady (dmaShedClose n s) = steady s := by
  unfold dmaShedClose
  dsimp only
  split
  · rfl
  · simp

/-! ### NkLedger.lean -/

@[simp] theorem steady_publishFills (s) : steady (publishFills s) = steady s := by
  unfold publishFills
  dsimp only
  split <;> simp

/-! ### NkPulse.lean -/

@[simp] theorem steady_closeSegGap (k trig s) : steady (closeSegGap k trig s) = steady s := by
  unfold closeSegGap
  split <;> simp

@[simp] theorem steady_closeSegGaps (s) : steady (closeSegGaps s) = steady s := by simp [closeSegGaps]

/-! ### TwinOps.lean -/

@[simp] theorem steady_seedSourceEv (first s) : steady (seedSourceEv first s) = steady s := by simp [seedSourceEv]

/-! ### Shots.lean -/

@[simp] theorem steady_shedLine (line r s) : steady (shedLine line r s) = steady s := by simp [shedLine]

@[simp] theorem steady_lineEndWork (s) : steady (lineEndWork s) = steady s := by
  unfold lineEndWork
  split
  · rfl
  · simp only [steady_ite, steady_mk, steady_kept, steady_units, steady_stage, steady_boxes, steady_back, steady_enable, steady_due, ite_self, steady_foldl, steady_shedLine, steady_handElev, implies_true]

/-! ### Ambient.lean -/

@[simp] theorem steady_adaptRod (o f r q) : steady (adaptRod o f r q).2 = steady q.2 := by
  unfold adaptRod
  dsimp only
  split
  · rfl
  · split <;> simp

@[simp] theorem steady_adaptEval (o f q) : steady (adaptEval o f q).2 = steady q.2 := by
  unfold adaptEval
  split
  · rfl
  · exact foldl_keeps (fun q => steady q.2) (fun q r => steady_adaptRod o f r q) _ _

@[simp] theorem steady_strangerEval (fl f q) : steady (strangerEval fl f q).2 = steady q.2 := by simp [strangerEval]
@[simp] theorem steady_deriveSeeds (f s) : steady (deriveSeeds f s) = steady s := by simp [deriveSeeds]

/-! ### TallyEng.lean -/

@[simp] theorem steady_dropLog (c cause f s) : steady (dropLog c cause f s) = steady s := by simp [dropLog]
@[simp] theorem steady_freePage (k s) : steady (freePage k s) = steady s := by simp [freePage]

/-! ### Commit.lean -/

@[simp] theorem steady_startFades (mask s) : steady (startFades mask s) = steady s := by simp [startFades]

@[simp] theorem steady_stepFades (first s) : steady (stepFades first s) = steady s := by
  unfold stepFades
  refine steady_foldl (fun s i => ?_) _ _
  dsimp only
  split <;> simp

@[simp] theorem steady_dropStack (reason first p s) : steady (dropStack reason first p s) = steady s := by simp [dropStack]
@[simp] theorem steady_commitStack (first s) : steady (commitStack first s) = steady s := by simp [commitStack]
@[simp] theorem steady_staleHeld (s) : steady (staleHeld s) = steady s := by simp [staleHeld]
@[simp] theorem steady_staleQueued (s) : steady (staleQueued s) = steady s := by simp [staleQueued]
@[simp] theorem steady_staleFrames (s) : steady (staleFrames s) = steady s := by simp [staleFrames]

@[simp] theorem steady_depthClamped (s) : steady (depthClamped s) = steady s := by
  unfold depthClamped
  dsimp only
  split
  · rfl
  · exact steady_logEv _ _ _

/-- The shadow takes the image over; no written value of it moves (R179). -/
@[simp] theorem steady_swapImage (planner first s) :
    (steady (swapImage planner first s)).kept = (steady s).kept ∧ (steady (swapImage planner first s)).stage = (steady s).stage
      ∧ (steady (swapImage planner first s)).boxes = (steady s).boxes ∧ (steady (swapImage planner first s)).back = (steady s).back
      ∧ (steady (swapImage planner first s)).enable = (steady s).enable ∧ (steady (swapImage planner first s)).due = (steady s).due := by
  simp [swapImage]

@[simp] theorem steady_watchNew (s) : steady (watchNew s) = steady s := by simp [watchNew]
@[simp] theorem steady_staleWork (s) : steady (staleWork s) = steady s := by simp [staleWork]
@[simp] theorem steady_handLine0 (s) : steady (handLine0 s) = steady s := by simp [handLine0]

/-! ### Plan.lean -/

@[simp] theorem steady_planEval (o f q) : steady (planEval o f q).2 = steady q.2 := by
  simp [planEval]

/-! ### Frame.lean -/

@[simp] theorem steady_chanFrame (f s) : steady (chanFrame f s) = steady s := by
  unfold chanFrame
  simp only [steady_mk, steady_kept, steady_units, steady_stage, steady_boxes, steady_back, steady_enable, steady_due, steady_foldl, steady_setCh, steady_logEv, implies_true]
  split <;> split <;> simp only [steady_logEv]

@[simp] theorem steady_ambFrame (s) : steady (ambFrame s) = steady s := by simp [ambFrame]
@[simp] theorem steady_stackGap (f d cls n first s) : steady (stackGap f d cls n first s) = steady s := by simp [stackGap]
@[simp] theorem steady_tallyFrame (f s) : steady (tallyFrame f s) = steady s := by simp [tallyFrame]
@[simp] theorem steady_allowFrame (trunc n s) : steady (allowFrame trunc n s) = steady s := by simp [allowFrame]
@[simp] theorem steady_extFrame (s) : steady (extFrame s) = steady s := by simp [extFrame]
@[simp] theorem steady_closeEps (s) : steady (closeEps s) = steady s := by simp [closeEps]

@[simp] theorem steady_closeLate (f s) : steady (closeLate f s) = steady s := by
  unfold closeLate
  split <;> simp

@[simp] theorem steady_shedRecord (f q s) : steady (shedRecord f q s) = steady s := by simp [shedRecord]
@[simp] theorem steady_streamFrame (f s) : steady (streamFrame f s) = steady s := by simp [streamFrame]
@[simp] theorem steady_applyThrottle (s) : steady (applyThrottle s) = steady s := by simp [applyThrottle]
@[simp] theorem steady_fbeReport (f n trunc s) : steady (fbeReport f n trunc s) = steady s := by simp [fbeReport]

@[simp] theorem steady_fbeAdvance (f n s) : steady (fbeAdvance f n s) = { steady s with due := (none, (steady s).due.2) } := by
  simp only [fbeAdvance, steady_mk]
  rfl

@[simp] theorem steady_handFrame (trunc s) : steady (handFrame trunc s) = steady s := by simp [handFrame]

end Sys2Proof.Machine
end

section
/-! SUPPORT. The seal (R27 to R33, R180, R460), and O53. -/

namespace Sys2Proof.Machine

/-! ### The started request -/

section
variable (op t : Nat) (r : Req) (s : State)

@[simp] theorem sealVerdict_started : sealVerdict (started op t r s) = sealVerdict s := by
  rw [started_eq]
  rfl

@[simp] theorem snapshot_started : snapshot (started op t r s) = snapshot s := by
  rw [started_eq]
  rfl

theorem exec_paramSeal : exec (.paramSeal t r) s = .next (command { op := 0x0003 } (lenEq 4) paramSealBody t r s) := rfl

end

/-! ### What a seal leaves -/

theorem LogOnly.deskOnly {s u : State} (h : LogOnly s u) (k : Nat) : DeskOnly k s u := by
  refine ⟨?_, fun j _ => h.mb j⟩
  unfold LogOnly at h
  rw [h]
  rfl

theorem LogOnly.par {s u : State} (h : LogOnly s u) : u.par = s.par := by
  unfold LogOnly at h
  rw [h]
  rfl

theorem kept_sets {s u : State} (h : (steady u).kept = (steady s).kept) : u.par.prev = s.par.prev ∧ u.par.gen = s.par.gen
    ∧ u.par.boBoot = s.par.boBoot ∧ u.par.shadow.vals = s.par.shadow.vals ∧ u.par.shadow.fades = s.par.shadow.fades := by
  simp only [steady, Prod.mk.injEq] at h
  obtain ⟨-, h1, h2, -, h3, h4, h5, -⟩ := h
  exact ⟨h1, h2, h3, h4, h5⟩

@[simp] theorem length_sealPayload (first flags reason line cell : Nat) : (sealPayload first flags reason line cell).length = 12 := by
  simp [sealPayload]

/-- After a host set has been put in force nothing of a commit moves the sets but the shadow's image (R32, R179). -/
theorem steady_commitSets_host (first : Nat) (h : Sealed) (s : State) :
    (steady (commitSets first (some h) none s)).kept = (steady (putSet (some h) none (polyChange s))).kept
      ∧ (steady (commitSets first (some h) none s)).stage = (steady (putSet (some h) none (polyChange s))).stage := by
  unfold commitSets
  rw [if_neg (by simp)]
  dsimp only
  generalize putSet (some h) none (polyChange s) = v
  simp

/-- What follows an idle commit: the seeds, the allowances, line 0's start angle and the frame gap (R33). -/
def idleReady (f : Nat) (v : State) : State :=
  let s := deriveSeeds f v
  let s := if stEmits s then setAllow (nominalFrame s) s else s
  irq 20 (handLine0 { s with sch.notBefore := max s.sch.notBefore (s.dev + 20 * tUs), sch.ready := s.dev })

@[simp] theorem steady_idleReady (f v) : steady (idleReady f v) = steady v := by simp [idleReady]

theorem idleCommit_eq {h : Sealed} {e : State} (ht : e.par.timely = none) (hl : e.par.late = none) :
    idleCommit h e = idleReady e.sch.frameNo.val.toNat
      (commitSets e.sch.frameNo.val.toNat (some h) none { e with par.timely := none, par.late := none }) := by
  unfold idleCommit
  rw [ht, hl]
  rfl

/-- A set sealed while no frame runs and none waits is in force at once, the one before it kept (R32, R33). -/
theorem steady_idleCommit {h : Sealed} {e : State} (ht : e.par.timely = none) (hl : e.par.late = none) :
    (steady (idleCommit h e)).kept = (steady (putSet (some h) none (polyChange { e with par.timely := none, par.late := none }))).kept
      ∧ (steady (idleCommit h e)).stage = (steady (putSet (some h) none (polyChange { e with par.timely := none, par.late := none }))).stage := by
  rw [idleCommit_eq ht hl, steady_idleReady]
  exact steady_commitSets_host ..

theorem putSet_host {h : Sealed} {e : State} :
    let b := putSet (some h) none (polyChange { e with par.timely := none, par.late := none })
    b.par.inForce = applyHost h e.par.inForce ∧ b.par.prev = e.par.inForce ∧ b.par.gen = 1 - e.par.gen ∧ b.par.shadow = e.par.shadow
      ∧ b.par.im = e.par.im ∧ b.par.boBoot = e.par.boBoot ∧ b.desk = e.desk ∧ b.nv = e.nv ∧ b.pending = e.pending :=
  ⟨rfl, rfl, rfl, rfl, rfl, rfl, rfl, rfl, rfl⟩

/-- What an idle commit leaves of a state in which no set waits. -/
theorem idleCommit_fields {h : Sealed} {e : State} (ht : e.par.timely = none) (hl : e.par.late = none) :
    let v := idleCommit h e
    v.par.inForce = applyHost h e.par.inForce ∧ v.par.prev = e.par.inForce ∧ v.par.gen = 1 - e.par.gen
      ∧ v.par.shadow.vals = e.par.shadow.vals ∧ v.par.shadow.fades = e.par.shadow.fades ∧ v.par.im = e.par.im ∧ v.par.boBoot = e.par.boBoot
      ∧ v.desk.st = e.desk.st ∧ v.nv = e.nv ∧ v.pending = e.pending ∧ ∀ k, (mb v k).origin = (mb e k).origin := by
  obtain ⟨hk, hs⟩ := steady_idleCommit (h := h) ht hl
  obtain ⟨b1, b2, b3, b4, b5, b6, b7, b8, b9⟩ := putSet_host (h := h) (e := e)
  obtain ⟨f1, f2, f3, -, -, -, f7, -⟩ := kept_fields hk
  obtain ⟨g1, g2, g3, g4, g5⟩ := kept_sets hk
  have ho := origin_of_kept hk
  have hst := st_of_stage hs
  generalize putSet (some h) none (polyChange { e with par.timely := none, par.late := none }) = b at *
  refine ⟨f1.trans b1, g1.trans b2, g2.trans b3, by rw [g4, b4], by rw [g5, b4], f2.trans b5, g3.trans b6, by rw [hst, b7], f3.trans b8, f7.trans b9,
    fun k => (ho k).trans ?_⟩
  unfold mb
  rw [b7]

/-! ### The body's answers -/

section
variable {op : Nat} {r : Req} {s : State} (hst : s.desk.st ≠ 1) (hf : fld r.payload 0 1 ≤ 1) (hz : allZero (r.payload.drop 1) = true)
include hst hf hz

theorem paramSealBody_refused (hv : (sealVerdict s).reason ≠ 0) :
    paramSealBody op r s = .done rBadParam (sealPayload 0 0 (sealVerdict s).reason (sealVerdict s).line (sealVerdict s).cell)
      (if fld r.payload 0 1 = 1 then s else logEv 0x0508 (le 1 0 ++ le 1 (sealVerdict s).reason ++ le 1 (sealVerdict s).line ++ le 2 (sealVerdict s).cell) s) := by
  unfold paramSealBody
  dsimp only
  rw [if_neg hst, if_neg (by rw [hz]; simp; omega), if_pos hv]

theorem paramSealBody_validates (hv : (sealVerdict s).reason = 0) (h1 : fld r.payload 0 1 = 1) :
    paramSealBody op r s = .done rOK (sealPayload 0 0 0 255 65535) s := by
  unfold paramSealBody
  dsimp only
  rw [if_neg hst, if_neg (by rw [hz]; simp; omega), if_neg (not_not.2 hv), if_pos h1]

theorem paramSealBody_commits {n : Nat} {h : Sealed} (hv : (sealVerdict s).reason = 0) (h0 : fld r.payload 0 1 = 0) (hr : s.sch.running = false)
    (ht : s.par.timely = none) (hl : s.par.late = none) (hn : s.sch.frameNo.val.toNat = n) (hh : snapshot s = h) :
    paramSealBody op r s = .done rOK (sealPayload n 4 0 255 65535) (idleCommit { h with first := n } { s with par.shadow.fades := 0 }) := by
  subst hn hh
  unfold paramSealBody
  dsimp only
  rw [if_neg hst, if_neg (by rw [hz]; simp; omega), if_neg (not_not.2 hv), if_neg (by omega), hr, ht, hl]
  rfl

/-- The seal that a PARAM_SEAL leaves to wait. -/
def sealWaits (r : Req) (s : State) : Awaiting := { mb := some r.mb, tag := r.tag, at_ := s.dev, host := some (snapshot s), svc := none }

theorem paramSealBody_waits (hv : (sealVerdict s).reason = 0) (h0 : fld r.payload 0 1 = 0) (hr : s.sch.running = true) :
    paramSealBody op r s = .pending (judgeSeals { s with par.shadow.fades := 0, par.awaiting := s.par.awaiting ++ [sealWaits r s] }) := by
  unfold paramSealBody
  dsimp only
  rw [if_neg hst, if_neg (by rw [hz]; simp; omega), if_neg (not_not.2 hv), if_neg (by omega), hr]
  rfl

end

/-! ### Judging one seal -/

/-- A host set in its place among the judged ones (R29, R30). -/
def sealPlaced (late : Bool) (h : Sealed) (p : Par) : Par :=
  { p with
    timely := if late then p.timely else some (sealMerge p.timely h)
    late := if late then some (sealMerge p.late h) else p.late }

theorem sealPlaced_eq (late : Bool) (h : Sealed) (p : Par) :
    sealPlaced late h p = { p with
      timely := if late then p.timely else some (sealMerge (if late then p.late else p.timely) h)
      late := if late then some (sealMerge (if late then p.late else p.timely) h) else p.late } := by
  cases late <;> rfl

/-- A host set that is judged answers its PARAM_SEAL (R460). -/
theorem judgeHost_answers (late : Bool) (first : Nat) (a : Awaiting) (h : Sealed) (s : State) {k : Nat} {was : Option Sealed} (hk : a.mb = some k)
    (hwas : (if late then s.par.late else s.par.timely) = was) :
    ∃ w, LogOnly { s with par := sealPlaced late { h with first := first } s.par } w ∧
      judgeHost late first a h s = mbDone k 0x0003 (if late then rSealLate else rOK) a.tag
        (sealPayload first (b2n late + 2 * b2n was.isSome) 0 255 65535) w := by
  subst hwas
  unfold judgeHost
  rw [hk]
  cases late
  · refine ⟨_, ?_, rfl⟩
    exact rfl
  · exact ⟨_, logEv_logOnly .., rfl⟩

/-- One host seal waits and its deadline is known: it is judged alone. -/
theorem judgeSeals_one {s e : State} {a : Awaiting} {h : Sealed} {f first : Nat} {late : Bool} (ha : s.par.awaiting = [a]) (hh : a.host = some h)
    (hv : a.svc = none) (hf : s.sch.fbeAt = some f) (hlate : decide (max (f - 2 * tUs) s.sch.lastTls ≤ a.at_) = late)
    (hfirst : (s.sch.frameNo.val.toNat + if late then 2 else 1) % 2 ^ 32 = first) (he : { s with par.awaiting := [] } = e) :
    judgeSeals s = judgeHost late first a h e := by
  subst hlate hfirst he
  unfold judgeSeals sealDeadline
  simp only [hf, Option.map_some, ha, List.foldl_cons, List.foldl_nil]
  unfold judgeOne
  rw [hh, hv]

theorem judgeSeals_unknown {s : State} (hf : s.sch.fbeAt = none) : judgeSeals s = s := by
  unfold judgeSeals sealDeadline
  rw [hf]
  rfl

/-! ### PARAM_SEAL -/

section
variable {t : Nat} {r : Req} {s : State} (h : Ready r s)
include h

/-- A request whose body leaves it waiting. -/
theorem exec_of_pending {op : Nat} {rec : Bool} {lenOk : List Byte → Bool} {body : Nat → Req → State → CmdOut} {i : Instr} {e : State}
    (hi : exec i s = .next (command { op := op, recovery := rec } lenOk body t r s)) (hlen : r.payload.length ≤ 248)
    (hok : lenOk r.payload = true) (hb : body op r (started op t r s) = .pending e) : exec i s = .next e := by
  have hm := h.1
  have hrec : s.desk.recovery = false := h.2.2.2.1
  rw [hi, command_started h, runCmd_body (Nat.zero_le _) (by dsimp only; omega) (Nat.zero_le _) hlen hok (by simpa using hrec), hb]

theorem seal_inBoot (hl : r.payload.length = 4) (hst : s.desk.st = 1) : RefusedWith (.paramSeal t r) r 0x0003 rNotPermitted t s := by
  refine refusedWith_of_done h (exec_of_body h (exec_paramSeal t r s) (by omega) (by simp [hl, lenEq]) ?_)
    (mbDone_answered_empty r _ _ _ (started_origin ..))
  exact if_pos (by simpa using hst)

section
variable (hl : r.payload.length = 4) (hst : s.desk.st ≠ 1) (hf : fld r.payload 0 1 ≤ 1) (hz : allZero (r.payload.drop 1) = true)
include hl hst hf hz

theorem seal_refused (hv : (sealVerdict s).reason ≠ 0) :
    Runs (.paramSeal t r) s (fun u =>
      Answered r 0x0003 rBadParam (sealPayload 0 0 (sealVerdict s).reason (sealVerdict s).line (sealVerdict s).cell) u
        ∧ DeskOnly r.mb (advance t s) u) := by
  have hb := paramSealBody_refused (op := 0x0003) (r := r) (s := started 0x0003 t r s) (by simpa using hst) hf hz (by simpa using hv)
  have hx := exec_of_body h (exec_paramSeal t r s) (by omega) (by simp [hl, lenEq]) hb
  rw [sealVerdict_started] at hx
  have hlog : LogOnly (started 0x0003 t r s) (if fld r.payload 0 1 = 1 then started 0x0003 t r s else
      logEv 0x0508 (le 1 0 ++ le 1 (sealVerdict s).reason ++ le 1 (sealVerdict s).line ++ le 2 (sealVerdict s).cell) (started 0x0003 t r s)) := by
    split
    · rfl
    · exact logEv_logOnly ..
  have ho := (congrArg Mailbox.origin (hlog.mb r.mb)).trans (started_origin ..)
  exact ⟨_, hx, mbDone_answered r _ _ _ _ ho (.inr (.inl rfl)) (by simp),
    ((started_deskOnly _ t r s h.2.2.2.2.2).trans (hlog.deskOnly _)).trans (mbDone_deskOnly _ _ _ _ _ _ ho)⟩

theorem seal_validates (hv : (sealVerdict s).reason = 0) (h1 : fld r.payload 0 1 = 1) :
    CompletesOk (.paramSeal t r) r 0x0003 s (advance t s) (fun p => p = sealPayload 0 0 0 255 65535) :=
  completesOk_of_done h (exec_of_body h (exec_paramSeal t r s) (by omega) (by simp [hl, lenEq])
    (paramSealBody_validates (by simpa using hst) hf hz (by simpa using hv) h1)) rfl (by simp)

theorem seal_commits (hv : (sealVerdict s).reason = 0) (h0 : fld r.payload 0 1 = 0) (hr : s.sch.running = false)
    (ht : s.par.timely = none) (hlate : s.par.late = none) :
    Runs (.paramSeal t r) s (fun u => Answered r 0x0003 rOK (sealPayload s.sch.frameNo.val.toNat 4 0 255 65535) u
      ∧ u.par.inForce = applyHost (snapshot s) s.par.inForce ∧ u.par.prev = s.par.inForce ∧ u.par.gen = 1 - s.par.gen
      ∧ u.par.shadow.vals = s.par.shadow.vals ∧ u.par.shadow.fades = 0 ∧ u.par.im = s.par.im ∧ u.par.boBoot = s.par.boBoot
      ∧ u.desk.st = s.desk.st ∧ u.nv = s.nv ∧ u.pending = s.pending) := by
  have hx := exec_of_body h (exec_paramSeal t r s) (by omega) (by simp [hl, lenEq])
    (paramSealBody_commits (by simpa using hst) hf hz (by simpa using hv) h0 (by simpa using hr) (by simpa using ht) (by simpa using hlate)
      (by rw [started_sch]) (snapshot_started ..))
  obtain ⟨v1, v2, v3, v4, v5, v6, v7, v8, v9, v10, vo⟩ := idleCommit_fields (h := { snapshot s with first := s.sch.frameNo.val.toNat })
    (e := { started 0x0003 t r s with par.shadow.fades := 0 }) (by simpa using ht) (by simpa using hlate)
  refine ⟨_, hx, ?_⟩
  generalize idleCommit { snapshot s with first := s.sch.frameNo.val.toNat } { started 0x0003 t r s with par.shadow.fades := 0 } = v at *
  obtain ⟨hk, -, hs, -⟩ := steady_mbDone r.mb 0x0003 rOK r.tag (sealPayload s.sch.frameNo.val.toNat 4 0 255 65535) v
  obtain ⟨f1, f2, f3, -, -, -, f7, -⟩ := kept_fields hk
  obtain ⟨g1, g2, g3, g4, g5⟩ := kept_sets hk
  have hp := started_par 0x0003 t r s
  simp only [hp, started_st, started_nv, started_pending] at v1 v2 v3 v4 v5 v6 v7 v8 v9 v10
  exact ⟨mbDone_answered r _ _ _ _ ((vo _).trans (started_origin ..)) (.inl rfl) (by simp), f1.trans v1, g1.trans v2, g2.trans v3, g4.trans v4,
    g5.trans v5, f2.trans v6, g3.trans v7, (st_of_stage hs).trans v8, f3.trans v9, f7.trans v10⟩

theorem seal_waits (hv : (sealVerdict s).reason = 0) (h0 : fld r.payload 0 1 = 0) (hr : s.sch.running = true) (hfbe : s.sch.fbeAt = none) :
    Runs (.paramSeal t r) s (fun u => (mb u r.mb).st = 1 ∧ u.par.inForce = s.par.inForce ∧ u.par.shadow.fades = 0
      ∧ u.par.awaiting = s.par.awaiting ++ [{ mb := some r.mb, tag := r.tag, at_ := (advance t s).dev, host := some (snapshot s), svc := none }]
      ∧ DeskOnly r.mb { advance t s with par := u.par } u) := by
  have hb := paramSealBody_waits (op := 0x0003) (r := r) (s := started 0x0003 t r s) (by simpa using hst) hf hz (by simpa using hv) h0 (by simpa using hr)
  rw [judgeSeals_unknown (by simpa using hfbe)] at hb
  have hx := exec_of_pending h (exec_paramSeal t r s) (by omega) (by simp [hl, lenEq]) hb
  have hp := started_par 0x0003 t r s
  refine ⟨_, hx, ?_, by show (started 0x0003 t r s).par.inForce = _; rw [hp], rfl, ?_, (started_deskOnly 0x0003 t r s h.2.2.2.2.2).withPar _⟩
  · exact (congrArg Mailbox.st (started_mb 0x0003 t r.mb r s)).trans (by rw [if_pos rfl])
  · exact congrArg₂ (· ++ ·) (congrArg Par.awaiting hp) (by rw [sealWaits, snapshot_started, started_dev])

theorem seal_judged (hv : (sealVerdict s).reason = 0) (h0 : fld r.payload 0 1 = 0) (hr : s.sch.running = true) (hw : s.par.awaiting = [])
    (f : Nat) (hfbe : s.sch.fbeAt = some f) :
    let late := decide (max (f - 2 * tUs) s.sch.lastTls ≤ (advance t s).dev)
    let first := (s.sch.frameNo.val.toNat + if late then 2 else 1) % 2 ^ 32
    let was := if late then s.par.late else s.par.timely
    let put := some (sealMerge was { snapshot s with first := first })
    Runs (.paramSeal t r) s (fun u =>
      Answered r 0x0003 (if late then rSealLate else rOK) (sealPayload first (b2n late + 2 * b2n was.isSome) 0 255 65535) u
      ∧ u.par = { s.par with
          shadow.fades := 0, timely := if late then s.par.timely else put, late := if late then put else s.par.late }
      ∧ DeskOnly r.mb { advance t s with par := u.par } u) := by
  intro late first was put
  have hp := started_par 0x0003 t r s
  have hb := paramSealBody_waits (op := 0x0003) (r := r) (s := started 0x0003 t r s) (by simpa using hst) hf hz (by simpa using hv) h0 (by simpa using hr)
  rw [judgeSeals_one (a := sealWaits r (started 0x0003 t r s)) (h := snapshot s) (f := f) (late := late) (first := first)
    (e := { started 0x0003 t r s with par.shadow.fades := 0, par.awaiting := [] })
    (by show (started 0x0003 t r s).par.awaiting ++ _ = _; rw [hp, hw]; rfl) (by rw [sealWaits, snapshot_started]) rfl (by simpa using hfbe)
    (by simp only [sealWaits, started_sch, started_dev, late]) (by simp only [started_sch, first]) rfl] at hb
  have hx := exec_of_pending h (exec_paramSeal t r s) (by omega) (by simp [hl, lenEq]) hb
  obtain ⟨w, hlog, hj⟩ := judgeHost_answers late first (sealWaits r (started 0x0003 t r s)) (snapshot s)
    { started 0x0003 t r s with par.shadow.fades := 0, par.awaiting := [] } (k := r.mb) (was := was) rfl
    (by show (if late then (started 0x0003 t r s).par.late else (started 0x0003 t r s).par.timely) = _; rw [hp])
  rw [hj] at hx
  have ho : (mb w r.mb).origin = none := (congrArg Mailbox.origin (hlog.mb r.mb)).trans (started_origin ..)
  have hpar := (mbDone_seals r.mb 0x0003 (if late then rSealLate else rOK) (sealWaits r (started 0x0003 t r s)).tag
    (sealPayload first (b2n late + 2 * b2n was.isSome) 0 255 65535) w).2.trans hlog.par
  refine ⟨_, hx, mbDone_answered r _ _ _ _ ho ?_ (by simp), ?_, ?_⟩
  · by_cases hlt : late = true
    · exact .inr (.inr (.inl (if_pos hlt)))
    · exact .inl (if_neg hlt)
  · refine hpar.trans ((sealPlaced_eq ..).trans ?_)
    simp only [hp, hw]
    rfl
  · refine DeskOnly.trans ?_ (mbDone_deskOnly _ _ _ _ _ _ ho)
    rw [hpar]
    exact ((started_deskOnly 0x0003 t r s h.2.2.2.2.2).withPar _).trans (hlog.deskOnly _)

end

end

/-- Settles O53: a clause per verdict, and per moment at which the seal's set can go on. -/
theorem sealsRun : Obligations.SealsRun := by
  unfold Obligations.SealsRun
  refine ⟨fun t r s h hl hst hf hz => ⟨seal_refused h hl hst hf hz, seal_validates h hl hst hf hz, fun hv h0 => ⟨?_, ?_, ?_⟩⟩,
    fun t r s h hl hst => seal_inBoot h hl hst⟩
  · exact seal_commits h hl hst hf hz hv h0
  · exact seal_waits h hl hst hf hz hv h0
  · exact seal_judged h hl hst hf hz hv h0

end Sys2Proof.Machine
end

section
/-! SUPPORT. The frame boundary with a seal that waits, and O34. -/

namespace Sys2Proof.Machine

/-! ### The frame boundary up to the change of state -/

@[simp] theorem steady_calFrame_idle {s : State} (hc : (steady s).units.2.2.1.ch = []) (ho : (steady s).units.2.2.1.outage = none) :
    steady (calFrame s) = steady s := by
  have hc : s.cal.ch = [] := hc
  have ho : s.cal.outage = none := ho
  simp [calFrame, blendAll, hc, ho]

/-- With no set timely the late ones move up and nothing else commits. -/
theorem steady_fbeCommit_none (f1 : Nat) {s : State} (ht : (steady s).enable.1 = none) (hv : (steady s).due.2 = none) :
    steady (fbeCommit f1 s)
      = { steady s with enable := ((steady s).enable.2.1, none, (steady s).enable.2.2), due := ((steady s).due.1, s.par.svcLate) } := by
  have ht : s.par.timely = none := ht
  have hv : s.par.svcTimely = none := hv
  simp only [fbeCommit, commitSets, ht, hv]
  simp
  exact ⟨⟨rfl, rfl⟩, rfl⟩

/-- The frame boundary after the report of the frame that ends, up to its pending transitions. -/
def committed (f x : Nat) (trunc : Bool) (s : State) : State :=
  applyThrottle (calFrame (publishFills (allowFrame trunc x (fbeCommit ((f + 1) % 2 ^ 32) (fbeAdvance f x s)))))

/-- With no set timely or late and no calibration in hand, what comes before the pending transitions clears the FBE's time alone. -/
theorem steady_committed (f x : Nat) (trunc : Bool) {s : State} (ht : s.par.timely = none) (hv : s.par.svcTimely = none)
    (hl : s.par.late = none) (hc : s.cal.ch = []) (ho : s.cal.outage = none) :
    ∃ v, steady (committed f x trunc s) = { steady s with enable := (none, none, s.pins.lsrA), due := (none, v) } := by
  refine ⟨(fbeAdvance f x s).par.svcLate, ?_⟩
  have hb : steady (fbeAdvance f x s) = { steady s with due := (none, none) } := by
    rw [steady_fbeAdvance, ← hv]
    rfl
  have hg : steady (publishFills (allowFrame trunc x (fbeCommit ((f + 1) % 2 ^ 32) (fbeAdvance f x s))))
      = { steady s with enable := (none, none, s.pins.lsrA), due := (none, (fbeAdvance f x s).par.svcLate) } := by
    rw [steady_publishFills, steady_allowFrame, steady_fbeCommit_none _ (by rw [hb]; exact ht) (by rw [hb]), hb, ← hl]
    rfl
  rw [committed, steady_applyThrottle, steady_calFrame_idle (by rw [hg]; exact hc) (by rw [hg]; exact ho), hg]

/-! ### A stop that judges -/

/-- A host set has been judged. -/
def Judged (s : State) : Prop := s.par.timely.isSome = true ∨ s.par.late.isSome = true

theorem judged_of_enable {s u : State} (h : (steady u).enable = (steady s).enable) : Judged u ↔ Judged s := by
  have h1 : u.par.timely = s.par.timely := congrArg (·.1) h
  have h2 : u.par.late = s.par.late := congrArg (·.2.1) h
  rw [Judged, Judged, h1, h2]

theorem judged_of_steady {s u : State} (h : steady u = steady s) : Judged u ↔ Judged s := judged_of_enable (congrArg Steady.enable h)

/-- Judging a host set places it, timely or late (R29, R30). -/
theorem judged_judgeHost (late first a h s) : Judged (judgeHost late first a h s) := by
  have hj : Judged (judgeHost late first { a with mb := none } h s) := by
    cases late with
    | false => exact .inl rfl
    | true => exact (judged_of_steady (steady_logEv ..)).2 (.inr rfl)
  cases ha : a.mb with
  | none =>
    simp only [judgeHost, ha] at hj ⊢
    exact hj
  | some k =>
    simp only [judgeHost, ha] at hj ⊢
    exact (judged_of_enable (steady_mbDone ..).2.2.2.2).2 hj

theorem judged_judgeOne (late : Bool) {a : Awaiting} {h : Sealed} (ha : a.host = some h) (s : State) : Judged (judgeOne late a s) := by
  have hj := judged_judgeHost late ((s.sch.frameNo.val.toNat + if late then 2 else 1) % 2 ^ 32) a h s
  unfold judgeOne
  rw [ha]
  cases a.svc with
  | none => exact hj
  | some v => exact (judged_of_enable (steady_judgeSvc ..).2.2.2.2).2 hj

theorem judged_judgeSeals {a : Awaiting} {h : Sealed} {s : State} (ha : a.host = some h) (hw : s.par.awaiting = [a]) (hf : s.sch.fbeAt.isSome = true) :
    Judged (judgeSeals s) := by
  obtain ⟨f, hf⟩ := Option.isSome_iff_exists.1 hf
  simp only [judgeSeals, sealDeadline, hf, hw, Option.map_some, List.foldl_cons, List.foldl_nil]
  exact judged_judgeOne _ ha _

/-- A stop before the FBE's time is known fixes it (R25), which judges the seal that waits (R28). -/
theorem judged_stopEmission {a : Awaiting} {h : Sealed} {s : State} (ha : a.host = some h) (hw : s.par.awaiting = [a])
    (hr : s.sch.running = true) (hf : s.sch.fbeAt = none) : Judged (stopEmission s) := by
  unfold stopEmission
  rw [if_pos (by simp [hr, hf])]
  exact judged_judgeSeals ha hw rfl

theorem permOk_eq_false {s : State} (hst : s.desk.st ≠ 3) (hc : s.nk.conf = none) : permOk s = false := by
  simp [permOk, governing, hst, hc]

theorem judged_nkUpdate {a : Awaiting} {h : Sealed} {s : State} (ha : a.host = some h) (hw : s.par.awaiting = [a])
    (hr : s.sch.running = true) (hf : s.sch.fbeAt = none) (hst : s.desk.st = 4) (hc : s.nk.conf = none) (hl : s.pins.lsrA = true) :
    Judged (nkUpdate s) := by
  unfold nkUpdate
  rw [if_pos (by simp [hl, permOk_eq_false (s := s) (by omega) hc])]
  dsimp only
  rw [judged_of_steady (by simp : steady (updCaps (degClock (driveCut (dropLsr s)))) = steady (dropLsr s))]
  unfold dropLsr
  rw [if_pos (by simp [hl]), if_pos (by simp [stEmits, hst])]
  exact judged_stopEmission ha hw hr hf

/-- The return to RUN judges the seal that waits when permission ends with it. -/
theorem judged_setSt {a : Awaiting} {h : Sealed} {s : State} (ha : a.host = some h) (hw : s.par.awaiting = [a])
    (hr : s.sch.running = true) (hf : s.sch.fbeAt = none) (hst : s.desk.st = 5) (hc : s.nk.conf = none) (hl : s.pins.lsrA = true) (cause : Nat) :
    Judged (setSt 4 cause s) := by
  have hx : setSt 4 cause s = healthRecord (nkUpdate (updCharge (logNow 0x0002 (le 1 5 ++ le 1 4 ++ le 1 cause)
      (attnRaise 0x400#32 (updScore { s with desk.st := 4 }))))) := by
    simp [setSt, hst]
  have hy : steady (updCharge (logNow 0x0002 (le 1 5 ++ le 1 4 ++ le 1 cause) (attnRaise 0x400#32 (updScore { s with desk.st := 4 }))))
      = { steady s with stage := (4, (steady s).stage.2) } := by
    simp
    rfl
  rw [hx, judged_of_steady (steady_healthRecord _)]
  generalize updCharge _ = y at hy
  exact judged_nkUpdate ha ((congrArg (fun q => q.boxes.2.1) hy).trans hw) ((congrArg (fun q => q.boxes.1) hy).trans hr)
    ((congrArg (fun q => q.due.1) hy).trans hf) (congrArg (fun q => q.stage.1) hy)
    ((congrArg (fun q => q.kept.2.2.2.2.2.2.2.2.2.1) hy).trans hc) ((congrArg (fun q => q.enable.2.2) hy).trans hl)

/-- The sealing of the service set moves no judged host set. -/
theorem judged_services (o : State) (fl : List Nat) (f : Nat) (s : State) : Judged (services o fl f s) ↔ Judged s := by
  refine judged_of_enable ?_
  unfold services
  dsimp only
  split <;> simp [svcSeal]

/-- The scheduler as the next frame starts with it. -/
def restarted (trunc : Bool) (s : State) : State := { s with sch.running := stEmits s && !trunc, sch.rehand := trunc }

theorem judged_restarted (trunc : Bool) (s : State) : Judged (restarted trunc s) ↔ Judged s := Iff.rfl

theorem judged_handed (trunc : Bool) (s : State) : Judged (ambFrame (updScore (updCharge (handFrame trunc s)))) ↔ Judged s :=
  judged_of_steady (by simp)

theorem frameBoundary_eq {s : State} {x : Nat} (hx : s.sch.fbeAt = some x) (hd : x ≤ s.dev) :
    frameBoundary s = healthRecord (services s (strangers s) s.sch.frameNo.val.toNat (ambFrame (updScore (updCharge (handFrame s.sch.truncated
      (restarted s.sch.truncated (fbeState (committed s.sch.frameNo.val.toNat x s.sch.truncated
        (irq (if s.sch.truncated then 21 else 17) (fbeReport s.sch.frameNo.val.toNat x s.sch.truncated (assemble s))))))))))) := by
  simp only [frameBoundary, hx, committed, restarted]
  rw [if_neg (by omega)]

theorem judged_frameBoundary {s : State} {x : Nat} (hx : s.sch.fbeAt = some x) (hd : x ≤ s.dev) :
    Judged (frameBoundary s) ↔ Judged (fbeState (committed s.sch.frameNo.val.toNat x s.sch.truncated
      (irq (if s.sch.truncated then 21 else 17) (fbeReport s.sch.frameNo.val.toNat x s.sch.truncated (assemble s))))) := by
  rw [frameBoundary_eq hx hd, judged_of_steady (steady_healthRecord _), judged_services, judged_handed, judged_restarted]

/-! ### A seal that the return to RUN judges -/

theorem fbeState_return {s : State} (hst : s.desk.st = 5) (hs : s.desk.pendStop = false) (he : s.desk.pendExit = false) (hr : s.desk.pendRun = true) :
    fbeState s = setSt 4 2 (dropPend s) := by
  unfold fbeState
  rw [if_neg (by simp [hs]), if_neg (by simp [he]), if_pos ⟨hr, hst⟩]

theorem judged_fbeState {a : Awaiting} {h : Sealed} {s u : State} {v : Option SvcSealed}
    (hu : steady u = { steady s with enable := (none, none, s.pins.lsrA), due := (none, v) })
    (ha : a.host = some h) (hw : s.par.awaiting = [a]) (hr : s.sch.running = true) (hst : s.desk.st = 5) (hs : s.desk.pendStop = false)
    (he : s.desk.pendExit = false) (hb : s.desk.pendRun = true) (hc : s.nk.conf = none) (hl : s.pins.lsrA = true) : Judged (fbeState u) := by
  rw [fbeState_return ((congrArg (fun q => q.stage.1) hu).trans hst) ((congrArg (fun q => q.stage.2.1) hu).trans hs)
    ((congrArg (fun q => q.stage.2.2.1) hu).trans he) ((congrArg (fun q => q.back) hu).trans hb)]
  exact judged_setSt ha ((congrArg (fun q => q.boxes.2.1) hu).trans hw) ((congrArg (fun q => q.boxes.1) hu).trans hr)
    (congrArg (fun q => q.due.1) hu) ((congrArg (fun q => q.stage.1) hu).trans hst)
    ((congrArg (fun q => q.kept.2.2.2.2.2.2.2.2.2.1) hu).trans hc) ((congrArg (fun q => q.enable.2.2) hu).trans hl) 2

/-- The return to RUN at an FBE with the enables high and no set confirmed judges the host set that waits. -/
theorem judged_frameBoundary_return {a : Awaiting} {h : Sealed} {s : State} {x : Nat} (hx : s.sch.fbeAt = some x) (hd : x ≤ s.dev)
    (ht : s.par.timely = none) (hv : s.par.svcTimely = none) (hlt : s.par.late = none) (hi : s.str.inq = []) (hcc : s.cal.ch = [])
    (ho : s.cal.outage = none)
    (ha : a.host = some h) (hw : s.par.awaiting = [a]) (hr : s.sch.running = true) (hst : s.desk.st = 5) (hs : s.desk.pendStop = false)
    (he : s.desk.pendExit = false) (hb : s.desk.pendRun = true) (hc : s.nk.conf = none) (hl : s.pins.lsrA = true) :
    Judged (frameBoundary s) := by
  have has : assemble s = s := if_pos hi
  rw [judged_frameBoundary hx hd, has]
  have hq : steady (irq (if s.sch.truncated then 21 else 17) (fbeReport s.sch.frameNo.val.toNat x s.sch.truncated s)) = steady s := by simp
  generalize irq _ _ = q at hq
  obtain ⟨v, hu⟩ := steady_committed s.sch.frameNo.val.toNat x s.sch.truncated (s := q) ((congrArg (fun q => q.enable.1) hq).trans ht)
    ((congrArg (fun q => q.due.2) hq).trans hv) ((congrArg (fun q => q.enable.2.1) hq).trans hlt)
    ((congrArg (fun q => q.units.2.2.1.ch) hq).trans hcc) ((congrArg (fun q => q.units.2.2.1.outage) hq).trans ho)
  have hp : q.pins.lsrA = s.pins.lsrA := congrArg (fun q => q.enable.2.2) hq
  rw [hq, hp] at hu
  exact judged_fbeState hu ha hw hr hst hs he hb hc hl

/-- A DEGRADED device with a pending return to RUN at the FBE due now, its enables high though no set is confirmed, and a host set that no
deadline has judged. -/
def strandedSeal : State := { State.reset with
  desk.st := 5, desk.pendRun := true, pins.lsrA := true, pins.lsrB := true, sch.running := true, sch.fbeAt := some 0
  par.awaiting := [{ mb := none, tag := 0, at_ := 0, host := some { img := {}, coinc := false, family := false, plan := false, first := 0 }, svc := none }] }

theorem awake_strandedSeal : Awake strandedSeal := ⟨by decide, by decide⟩

theorem judged_strandedSeal : Judged (frameBoundary (advance 0 strandedSeal)) :=
  judged_frameBoundary_return (x := 0) rfl (Nat.zero_le _) rfl rfl rfl rfl rfl rfl rfl rfl rfl rfl rfl rfl rfl rfl rfl

/-- Refutes O34: the return to RUN at an FBE judges a host set that waits when permission ends with it, so that a set is timely or late
after a boundary that had none. -/
theorem not_framesEnd : ¬ Obligations.FramesEnd := by
  unfold Obligations.FramesEnd
  rintro ⟨hbound, -⟩
  obtain ⟨u, hu, -, -, -, -, -, -, -, -, -, -, hrun, -⟩ := hbound 0 0 strandedSeal awake_strandedSeal rfl (Nat.zero_le _)
  obtain ⟨-, -, -, -, -, -, ht, hl⟩ := hrun rfl rfl rfl rfl
  have he : u = frameBoundary (advance 0 strandedSeal) := by
    have hl : exec (.frameBoundaryEvent 0) strandedSeal = .next (live 0 frameBoundary strandedSeal) := rfl
    rw [hl, live_awake awake_strandedSeal] at hu
    exact (Host.Outcome.next.inj hu).symm
  have hj : Judged u := he ▸ judged_strandedSeal
  have hn : strandedSeal.par.late = none := rfl
  simp [Judged, ht, hl, hn] at hj

end Sys2Proof.Machine
end

section
/-! SUPPORT. Attributions and the bins they raise (R112, R115, R116, R126, R128, R131). -/

namespace Sys2Proof.Machine

/-! ### What changes the log alone leaves of the engine -/

theorem LogOnly.tal {s u : State} (h : LogOnly s u) : u.tal = s.tal := (congrArg State.tal (show u = logOf s u from h) : u.tal = (logOf s u).tal)
theorem LogOnly.ch {s u : State} (h : LogOnly s u) : u.ch = s.ch := (congrArg State.ch (show u = logOf s u from h) : u.ch = (logOf s u).ch)

theorem LogOnly.page {s u : State} (h : LogOnly s u) (k : Nat) : page u k = Machine.page s k := by
  unfold Machine.page
  rw [h.tal]

theorem LogOnly.talRod {s u : State} (h : LogOnly s u) (r : Nat) : talRod u r = Machine.talRod s r := by
  unfold Machine.talRod
  rw [h.tal]

/-- `u` differs from `s` in time, the event log and the tally engine alone. -/
def TalOnly (s u : State) : Prop := LogOnly { s with tal := u.tal } u

theorem TalOnly.trans {s u v : State} (h : TalOnly s u) (g : TalOnly u v) : TalOnly s v := by
  unfold TalOnly LogOnly at h g ⊢
  rw [h] at g
  exact g

theorem TalOnly.ch {s u : State} (h : TalOnly s u) : u.ch = s.ch := LogOnly.ch (s := { s with tal := u.tal }) h

theorem LogOnly.talOnly {s u : State} (h : LogOnly s u) : TalOnly s u := by
  unfold LogOnly at h
  unfold TalOnly LogOnly
  rw [h]
  rfl

theorem setTalRod_talOnly (s : State) (r : Nat) (v : TalRod) : TalOnly s (setTalRod s r v) := rfl

/-! ### Bins -/

theorem binAfter_zero (mx old : Nat) : binAfter mx old 0 = old := by
  unfold binAfter
  omega

theorem binAfter_add (mx old n m : Nat) : binAfter mx (binAfter mx old n) m = binAfter mx old (n + m) := by
  unfold binAfter
  omega

/-- One increment raises its bin and no other (R131). -/
theorem tget_raise (mx : Nat) (m : Tab Nat) (i j : Nat) : tget 0 (raise mx m i).1 j = binAfter mx (tget 0 m j) (if j = i then 1 else 0) := by
  unfold raise binAfter
  by_cases hj : j = i
  · subst hj
    split
    · simp only [if_true]
      omega
    · simp only [tget_tput, if_true]
      omega
  · split <;> simp only [tget_tput, hj, if_false] <;> omega

/-- The model's search for a window finds the first that holds the time. -/
theorem fineBin_eq (f delta : Nat) (l : List Nat) (w : Nat) :
    fineBin f delta l w = ((List.range l.length).find? (fun i => decide (l.getD i 0 ≤ delta) && decide (delta < l.getD i 0 + 64 * 2 ^ f))).map
      (fun i => 64 * (w + i) + (delta - l.getD i 0) / 2 ^ f) := by
  induction l generalizing w with
  | nil => rfl
  | cons st l ih =>
    rw [List.length_cons, List.range_succ_eq_map, List.find?_cons, fineBin]
    by_cases h : st ≤ delta ∧ delta < st + 64 * 2 ^ f
    · simp [h]
    · rw [if_neg h, ih]
      have h' : (decide (st ≤ delta) && decide (delta < st + 64 * 2 ^ f)) = false := by simpa using h
      simp only [List.getD_cons_zero, h', List.find?_map, Option.map_map]
      congr 1
      funext i
      simp [Nat.add_assoc, Nat.add_comm 1 i]

theorem fineBin_fineAt (d : Desc) (delta : Nat) : fineBin d.f delta d.win 0 = fineAt d delta := by
  rw [fineBin_eq, fineAt]
  simp

/-! ### What increments do to the engine -/

/-- `u` is `s` after `n` attributions of a rod's engine, `co` and `fi` of them into each coarse and fine bin, `held` into the scout's store. -/
structure Filled (rod n : Nat) (co fi : Nat → Nat → Nat) (held : List FineHold) (s u : State) : Prop where
  only : TalOnly s u
  incs : (talRod u rod).incs = (talRod s rod).incs + n
  rr : (talRod u rod).rr = (talRod s rod).rr
  hold : (talRod u rod).hold = (talRod s rod).hold ++ held
  pages : ∀ k, page u k = { page s k with coarse := (page u k).coarse, fine := (page u k).fine, d.sat := (page u k).d.sat }
  coarse : ∀ k j, tget 0 (page u k).coarse j = binAfter 4095 (tget 0 (page s k).coarse j) (co k j)
  fine : ∀ k j, tget 0 (page u k).fine j = binAfter 16383 (tget 0 (page s k).fine j) (fi k j)

/-- No bin. -/
def noBin (_ _ : Nat) : Nat := 0

theorem Filled.refl (rod : Nat) (s : State) : Filled rod 0 noBin noBin [] s s where
  only := rfl
  incs := rfl
  rr := rfl
  hold := (List.append_nil _).symm
  pages _ := rfl
  coarse _ _ := (binAfter_zero ..).symm
  fine _ _ := (binAfter_zero ..).symm

theorem Filled.trans {rod n m : Nat} {co fi co' fi' : Nat → Nat → Nat} {a b : List FineHold} {s u v : State} (h : Filled rod n co fi a s u)
    (g : Filled rod m co' fi' b u v) :
    Filled rod (n + m) (fun k j => co k j + co' k j) (fun k j => fi k j + fi' k j) (a ++ b) s v where
  only := h.only.trans g.only
  incs := by rw [g.incs, h.incs, Nat.add_assoc]
  rr := by rw [g.rr, h.rr]
  hold := by rw [g.hold, h.hold, List.append_assoc]
  pages k := by rw [g.pages k, h.pages k]
  coarse k j := by rw [g.coarse, h.coarse, binAfter_add]
  fine k j := by rw [g.fine, h.fine, binAfter_add]

theorem Filled.congr {rod n : Nat} {co fi co' fi' : Nat → Nat → Nat} {a : List FineHold} {s u : State} (h : Filled rod n co fi a s u)
    (hc : ∀ k j, co k j = co' k j) (hf : ∀ k j, fi k j = fi' k j) : Filled rod n co' fi' a s u :=
  { h with coarse := fun k j => by rw [h.coarse, hc], fine := fun k j => by rw [h.fine, hf] }

theorem Filled.of_logOnly {rod : Nat} {s u : State} (h : LogOnly s u) : Filled rod 0 noBin noBin [] s u where
  only := h.talOnly
  incs := by rw [h.talRod]; rfl
  rr := by rw [h.talRod]
  hold := by rw [h.talRod, List.append_nil]
  pages k := by rw [h.page]
  coarse k j := by rw [h.page]; exact (binAfter_zero ..).symm
  fine k j := by rw [h.page]; exact (binAfter_zero ..).symm

/-- A change of the log alone may follow. -/
theorem Filled.logged {rod n : Nat} {co fi : Nat → Nat → Nat} {a : List FineHold} {s u v : State} (h : Filled rod n co fi a s u) (g : LogOnly u v) :
    Filled rod n co fi a s v := by
  simpa [noBin] using h.trans (.of_logOnly g)

/-- A page's saturation mark and the rods' counts of it are no part of the bins. -/
theorem markSat_filled (rod k : Nat) (s : State) : Filled rod 0 noBin noBin [] s (markSat k s) := by
  unfold markSat
  dsimp only
  split
  · exact .refl rod s
  · refine Filled.logged ?_ (wrapEv_logOnly ..)
    refine ⟨rfl, ?_, ?_, ?_, fun k' => ?_, fun k' j => ?_, fun k' j => ?_⟩
    · by_cases h : rod = k / 32 <;> simp [h]
    · by_cases h : rod = k / 32 <;> simp [h]
    · by_cases h : rod = k / 32 <;> simp [h]
    · by_cases h : k' = k <;> simp [h]
    · by_cases h : k' = k <;> simp [h, noBin, binAfter_zero]
    · by_cases h : k' = k <;> simp [h, noBin, binAfter_zero]

theorem raiseCoarse_filled (rod k i : Nat) (s : State) :
    Filled rod 0 (fun k' j => if k' = k ∧ j = i then 1 else 0) noBin [] s
      (setPage s k { page s k with coarse := (raise 4095 (page s k).coarse i).1 }) := by
  refine ⟨rfl, rfl, rfl, (List.append_nil _).symm, fun k' => ?_, fun k' j => ?_, fun k' j => ?_⟩
  · by_cases h : k' = k <;> simp [h]
  · by_cases h : k' = k
    · subst h
      simp [tget_raise]
    · simp [h, binAfter_zero]
  · by_cases h : k' = k <;> simp [h, noBin, binAfter_zero]

theorem raiseFine_filled (rod k i : Nat) (s : State) :
    Filled rod 0 noBin (fun k' j => if k' = k ∧ j = i then 1 else 0) [] s
      (setPage s k { page s k with fine := (raise 16383 (page s k).fine i).1 }) := by
  refine ⟨rfl, rfl, rfl, (List.append_nil _).symm, fun k' => ?_, fun k' j => ?_, fun k' j => ?_⟩
  · by_cases h : k' = k <;> simp [h]
  · by_cases h : k' = k <;> simp [h, noBin, binAfter_zero]
  · by_cases h : k' = k
    · subst h
      simp [tget_raise]
    · simp [h, binAfter_zero]

/-- A saturation mark may follow. -/
theorem Filled.marked {rod n k : Nat} {co fi : Nat → Nat → Nat} {a : List FineHold} {s u : State} (h : Filled rod n co fi a s u) (b : Bool) :
    Filled rod n co fi a s (if b then markSat k u else u) := by
  cases b with
  | false => exact h
  | true => simpa [noBin] using h.trans (markSat_filled rod k u)

/-- Whether a shot Δ on page `k` falls into coarse bin `j`. -/
def coarseHit (s : State) (k delta j : Nat) : Bool := decide (delta / 2 ^ (page s k).d.b = (page s k).d.o + j) && decide (j < 2048)

theorem coarsePart_filled (rod k delta : Nat) (s : State) :
    Filled rod 0 (fun k' j => if k' = k ∧ coarseHit s k delta j = true then 1 else 0) noBin [] s (coarsePart k delta s) := by
  unfold coarsePart
  dsimp only
  split
  · next h =>
    refine (Filled.refl rod s).congr (fun k' j => ?_) (fun _ _ => rfl)
    rw [if_neg (by simp [coarseHit]; omega)]
    rfl
  · next h =>
    refine ((raiseCoarse_filled rod k (delta / 2 ^ (page s k).d.b - (page s k).d.o) s).marked (k := k) _).congr (fun k' j => ?_) (fun _ _ => rfl)
    refine if_congr (and_congr_right fun _ => ?_) rfl rfl
    simp only [coarseHit, Bool.and_eq_true, decide_eq_true_eq]
    omega

theorem finePart_filled (rod k delta : Nat) (s : State) :
    Filled rod 0 noBin (fun k' j => if k' = k ∧ fineAt (page s k).d delta = some j then 1 else 0) [] s (finePart k delta s) := by
  unfold finePart
  dsimp only
  rw [fineBin_fineAt]
  split
  · next h =>
    refine (Filled.refl rod s).congr (fun _ _ => rfl) (fun k' j => ?_)
    rw [if_neg (by simp [h])]
    rfl
  · next i h =>
    refine ((raiseFine_filled rod k i s).marked (k := k) _).congr (fun _ _ => rfl) (fun k' j => ?_)
    refine if_congr (and_congr_right fun _ => ?_) rfl rfl
    rw [h, Option.some.injEq, eq_comm]

section
variable {rod n : Nat} {co fi : Nat → Nat → Nat} {a : List FineHold} {s u : State} (h : Filled rod n co fi a s u)
include h

theorem Filled.zoom (k : Nat) : (page u k).d.zoom = (page s k).d.zoom := congrArg (fun g => g.d.zoom) (h.pages k)
theorem Filled.seff (k : Nat) : (page u k).seff = (page s k).seff := congrArg (fun g => g.seff) (h.pages k)
theorem Filled.scout (k : Nat) : (page u k).scout = (page s k).scout := congrArg (fun g => g.scout) (h.pages k)

theorem Filled.fineAt_eq (k delta : Nat) : fineAt (page u k).d delta = fineAt (page s k).d delta := by
  have hf := congrArg (fun g => g.d.f) (h.pages k)
  have hw := congrArg (fun g => g.d.win) (h.pages k)
  dsimp only at hf hw
  rw [fineAt, fineAt, hf, hw]

end

/-! ### One attribution -/

/-- A shot's point on a channel. -/
def pointOf (s : State) (c : Nat) (sh : Shot) : Option PtRef :=
  (ch s c).pts.find? (fun p => p.frame == sh.frame && p.line == sh.line && p.point == sh.point)

/-- Whether a shot's point has page `k`. -/
def hitsPage (s : State) (c k : Nat) (sh : Shot) : Bool := (pointOf s c sh).bind (·.page) == some k

/-- Whether a shot fills the fine windows of page `k` (R126). -/
def fillsPage (s : State) (c k : Nat) (sh : Shot) : Bool :=
  hitsPage s c k sh && decide ((page s k).d.zoom ≠ 2)
    && ((match pointOf s c sh with | some p => p.merged | none => false) || decide ((page s k).d.zoom = 1) || decide ((page s k).seff < sh.nth))

/-- Whether a page's scout run is due or running (R128). -/
def scoutWaits (s : State) (k : Nat) : Bool := decide ((page s k).scout = 1) || decide ((page s k).scout = 2)

/-- Whether an attribution raises fine bin `j` of page `k` at once. -/
def fineHit (s : State) (c te : Nat) (sh : Shot) (k j : Nat) : Bool :=
  fillsPage s c k sh && !scoutWaits s k && fineAt (page s k).d (te - useStamp s sh) == some j

/-- The fine part that an attribution holds for the scout (R128). -/
def heldFine (s : State) (c te : Nat) (sh : Shot) : Option FineHold :=
  ((pointOf s c sh).bind (·.page)).bind (fun k =>
    if fillsPage s c k sh && scoutWaits s k then some { page := k, delta := te - useStamp s sh } else none)

/-- What one attribution adds to each coarse and fine bin. -/
def coarseAdd (s : State) (c te : Nat) (sh : Shot) (k j : Nat) : Nat :=
  if hitsPage s c k sh && coarseHit s k (te - useStamp s sh) j then 1 else 0
def fineAdd (s : State) (c te : Nat) (sh : Shot) (k j : Nat) : Nat := if fineHit s c te sh k j then 1 else 0

theorem incs_filled (rod : Nat) (s : State) : Filled rod 1 noBin noBin [] s (setTalRod s rod { talRod s rod with incs := (talRod s rod).incs + 1 }) := by
  refine ⟨rfl, ?_, ?_, ?_, fun _ => rfl, fun k j => (binAfter_zero ..).symm, fun k j => (binAfter_zero ..).symm⟩ <;> simp

theorem held_filled (rod : Nat) (h : FineHold) (s : State) :
    Filled rod 0 noBin noBin [h] s (setTalRod s rod { talRod s rod with hold := (talRod s rod).hold ++ [h] }) := by
  refine ⟨rfl, ?_, ?_, ?_, fun _ => rfl, fun k j => (binAfter_zero ..).symm, fun k j => (binAfter_zero ..).symm⟩ <;> simp

/-- The fine part of an attribution to page `k` at `delta`: none, held or raised. -/
def fineStep (rod k delta : Nat) (fills : Bool) (s : State) : State :=
  if fills = false then s
  else if (page s k).scout = 1 ∨ (page s k).scout = 2 then
    setTalRod s rod { talRod s rod with hold := (talRod s rod).hold ++ [{ page := k, delta := delta }] }
  else finePart k delta s

theorem fineStep_filled (rod k delta : Nat) (fills : Bool) (s : State) :
    Filled rod 0 noBin (fun k' j => if k' = k ∧ (fills && !scoutWaits s k && fineAt (page s k).d delta == some j) = true then 1 else 0)
      (if fills && scoutWaits s k then [{ page := k, delta := delta }] else []) s (fineStep rod k delta fills s) := by
  unfold fineStep
  cases fills with
  | false => exact (Filled.refl rod s).congr (fun _ _ => rfl) (fun _ _ => by simp [noBin])
  | true =>
    rw [if_neg (show ¬true = false by decide)]
    simp only [Bool.true_and]
    by_cases h : (page s k).scout = 1 ∨ (page s k).scout = 2
    · have hw : scoutWaits s k = true := by simpa [scoutWaits] using h
      rw [if_pos h, if_pos hw]
      exact (held_filled rod _ s).congr (fun _ _ => rfl) (fun _ _ => by simp [noBin, hw])
    · have hw : scoutWaits s k = false := by simpa [scoutWaits] using h
      rw [if_neg h, if_neg (by simp [hw])]
      exact (finePart_filled rod k delta s).congr (fun _ _ => rfl) (fun _ _ => by simp [hw])

/-- The count of a rod's attributions (R139). -/
def counted (rod : Nat) (s : State) : State := setTalRod s rod { talRod s rod with incs := (talRod s rod).incs + 1 }

theorem increment_none {c te : Nat} {sh : Shot} {s : State} (h : (pointOf s c sh).bind (·.page) = none) :
    increment c sh te s = counted (c / 16) s := by
  unfold increment
  dsimp only
  split
  · rfl
  · next p hp =>
    have hp : pointOf s c sh = some p := hp
    split
    · rfl
    · next k hk => simp [hp, hk] at h

theorem fillsPage_some {c k : Nat} {sh : Shot} {p : PtRef} {s : State} (h : pointOf s c sh = some p) (hp : p.page = some k) :
    fillsPage s c k sh
      = (decide ((page s k).d.zoom ≠ 2) && (p.merged || decide ((page s k).d.zoom = 1) || decide ((page s k).seff < sh.nth))) := by
  simp [fillsPage, hitsPage, h, hp]

theorem increment_some {c te k : Nat} {sh : Shot} {p : PtRef} {s : State} (h : pointOf s c sh = some p) (hp : p.page = some k) :
    increment c sh te s =
      fineStep (c / 16) k (te - useStamp s sh) (fillsPage s c k sh) (coarsePart k (te - useStamp s sh) (counted (c / 16) s)) := by
  have hz := (coarsePart_filled (c / 16) k (te - useStamp s sh) (counted (c / 16) s)).zoom k
  have hs := (coarsePart_filled (c / 16) k (te - useStamp s sh) (counted (c / 16) s)).seff k
  rw [fillsPage_some h hp]
  unfold increment
  dsimp only
  split
  · next hn => exact absurd (h.symm.trans hn) (by simp)
  · next p' hp' =>
    obtain rfl : p = p' := Option.some.inj (h.symm.trans hp')
    split
    · next hk => exact absurd (hp.symm.trans hk) (by simp)
    · next k' hk =>
      obtain rfl : k = k' := Option.some.inj (hp.symm.trans hk)
      have hpage : page (counted (c / 16) s) k = page s k := rfl
      rw [hpage] at hz hs
      rw [← hz, ← hs]
      rfl

theorem coarseAdd_some {c te k : Nat} {sh : Shot} {s : State} (h : (pointOf s c sh).bind (·.page) = some k) (k' j : Nat) :
    coarseAdd s c te sh k' j = if k' = k ∧ coarseHit s k (te - useStamp s sh) j = true then 1 else 0 := by
  unfold coarseAdd hitsPage
  rw [h]
  refine if_congr ?_ rfl rfl
  simp only [Bool.and_eq_true, beq_iff_eq, Option.some.injEq]
  constructor
  · rintro ⟨rfl, hj⟩
    exact ⟨rfl, hj⟩
  · rintro ⟨rfl, hj⟩
    exact ⟨rfl, hj⟩

theorem fillsPage_hits {c k : Nat} {sh : Shot} {s : State} (h : fillsPage s c k sh = true) : (pointOf s c sh).bind (·.page) = some k := by
  simp only [fillsPage, Bool.and_eq_true, hitsPage, beq_iff_eq] at h
  exact h.1.1

theorem fineAdd_some {c te k : Nat} {sh : Shot} {s : State} (h : (pointOf s c sh).bind (·.page) = some k) (k' j : Nat) :
    fineAdd s c te sh k' j
      = if k' = k ∧ (fillsPage s c k sh && !scoutWaits s k && fineAt (page s k).d (te - useStamp s sh) == some j) = true then 1 else 0 := by
  unfold fineAdd fineHit
  refine if_congr ⟨fun hf => ?_, ?_⟩ rfl rfl
  · have hk : fillsPage s c k' sh = true := by
      simp only [Bool.and_eq_true] at hf
      exact hf.1.1
    obtain rfl : k' = k := Option.some.inj ((fillsPage_hits hk).symm.trans h)
    exact ⟨rfl, hf⟩
  · rintro ⟨rfl, hf⟩
    exact hf

theorem heldFine_some {c te k : Nat} {sh : Shot} {s : State} (h : (pointOf s c sh).bind (·.page) = some k) :
    (heldFine s c te sh).toList = if fillsPage s c k sh && scoutWaits s k then [{ page := k, delta := te - useStamp s sh }] else [] := by
  unfold heldFine
  rw [h, Option.bind_some]
  split <;> rfl

theorem increment_filled (c te : Nat) (sh : Shot) (s : State) :
    Filled (c / 16) 1 (coarseAdd s c te sh) (fineAdd s c te sh) (heldFine s c te sh).toList s (increment c sh te s) := by
  cases h : (pointOf s c sh).bind (·.page) with
  | none =>
    rw [increment_none h, heldFine, h]
    refine (incs_filled (c / 16) s).congr (fun k j => ?_) (fun k j => ?_)
    · simp [coarseAdd, hitsPage, h, noBin]
    · simp [fineAdd, fineHit, fillsPage, hitsPage, h, noBin]
  | some k =>
    obtain ⟨p, hp, hk⟩ := Option.bind_eq_some_iff.1 h
    rw [increment_some hp hk, heldFine_some h]
    have h1 := (incs_filled (c / 16) s).trans (coarsePart_filled (c / 16) k (te - useStamp s sh) (counted (c / 16) s))
    have h2 := fineStep_filled (c / 16) k (te - useStamp s sh) (fillsPage s c k sh) (coarsePart k (te - useStamp s sh) (counted (c / 16) s))
    have hw : scoutWaits (coarsePart k (te - useStamp s sh) (counted (c / 16) s)) k = scoutWaits s k := by
      rw [scoutWaits, scoutWaits, h1.scout k]
    rw [hw, h1.fineAt_eq k] at h2
    refine (h1.trans h2).congr (fun k' j => ?_) (fun k' j => ?_)
    · rw [coarseAdd_some h]
      simp [noBin]
      rfl
    · rw [fineAdd_some h]
      simp [noBin]

/-! ### All attributions of an event -/

theorem TalOnly.useStamp {s u : State} (h : TalOnly s u) (sh : Shot) : useStamp u sh = Machine.useStamp s sh :=
  (congrArg (fun x => Machine.useStamp x sh) (show u = logOf { s with tal := u.tal } u from h) :
    Machine.useStamp u sh = Machine.useStamp (logOf { s with tal := u.tal } u) sh)

section
variable {rod n : Nat} {co fi : Nat → Nat → Nat} {a : List FineHold} {s u : State} (h : Filled rod n co fi a s u)
include h

theorem Filled.pointOf (c : Nat) (sh : Shot) : pointOf u c sh = Machine.pointOf s c sh := by
  unfold Machine.pointOf Machine.ch
  rw [h.only.ch]

theorem Filled.hitsPage (c k : Nat) (sh : Shot) : hitsPage u c k sh = Machine.hitsPage s c k sh := by
  rw [Machine.hitsPage, Machine.hitsPage, h.pointOf]

theorem Filled.coarseHit (k delta j : Nat) : coarseHit u k delta j = Machine.coarseHit s k delta j := by
  have hb := congrArg (fun g => g.d.b) (h.pages k)
  have ho := congrArg (fun g => g.d.o) (h.pages k)
  dsimp only at hb ho
  rw [Machine.coarseHit, Machine.coarseHit, hb, ho]

theorem Filled.fillsPage (c k : Nat) (sh : Shot) : fillsPage u c k sh = Machine.fillsPage s c k sh := by
  rw [Machine.fillsPage, Machine.fillsPage, h.hitsPage, h.pointOf, h.zoom, h.seff]

theorem Filled.scoutWaits (k : Nat) : scoutWaits u k = Machine.scoutWaits s k := by
  rw [Machine.scoutWaits, Machine.scoutWaits, h.scout]

theorem Filled.fineHit (c te : Nat) (sh : Shot) (k j : Nat) : fineHit u c te sh k j = Machine.fineHit s c te sh k j := by
  rw [Machine.fineHit, Machine.fineHit, h.fillsPage, h.scoutWaits, h.fineAt_eq, h.only.useStamp]

theorem Filled.heldFine (c te : Nat) (sh : Shot) : heldFine u c te sh = Machine.heldFine s c te sh := by
  simp only [Machine.heldFine, h.pointOf, h.fillsPage, h.scoutWaits, h.only.useStamp]

end

/-- What a list of attributions adds to each coarse and fine bin. -/
def coarseCount (s : State) (c te : Nat) (att : List Shot) (k j : Nat) : Nat :=
  (att.filter (fun sh => hitsPage s c k sh && coarseHit s k (te - useStamp s sh) j)).length
def fineCount (s : State) (c te : Nat) (att : List Shot) (k j : Nat) : Nat := (att.filter (fun sh => fineHit s c te sh k j)).length

theorem length_filter_cons {α : Type} (p : α → Bool) (a : α) (l : List α) :
    ((a :: l).filter p).length = (if p a then 1 else 0) + (l.filter p).length := by
  rw [List.filter_cons]
  split <;> simp [Nat.add_comm]

theorem increments_filled (c te : Nat) (att : List Shot) (s : State) :
    Filled (c / 16) att.length (coarseCount s c te att) (fineCount s c te att) (att.filterMap (heldFine s c te)) s
      (att.foldl (fun s sh => increment c sh te s) s) := by
  induction att generalizing s with
  | nil => exact .refl _ s
  | cons sh l ih =>
    have h1 := increment_filled c te sh s
    have hh : l.filterMap (heldFine (increment c sh te s) c te) = l.filterMap (heldFine s c te) := by
      congr 1
      funext x
      exact h1.heldFine c te x
    have h2 := h1.trans (ih (increment c sh te s))
    rw [hh] at h2
    have ha : (sh :: l).filterMap (heldFine s c te) = (heldFine s c te sh).toList ++ l.filterMap (heldFine s c te) := by
      rw [List.filterMap_cons]
      cases heldFine s c te sh <;> rfl
    rw [List.foldl_cons, ha, List.length_cons, Nat.add_comm]
    refine h2.congr (fun k j => ?_) (fun k j => ?_)
    · simp only [coarseCount, length_filter_cons, h1.hitsPage, h1.coarseHit, h1.only.useStamp]
      rfl
    · simp only [fineCount, length_filter_cons, h1.fineHit]
      rfl

end Sys2Proof.Machine
end

section
/-! SUPPORT. The engine takes a rod's next event (R15, R64 to R67). -/

namespace Sys2Proof.Machine

theorem LogOnly.chan {s u : State} (h : LogOnly s u) (c : Nat) : Machine.ch u c = Machine.ch s c := by
  unfold Machine.ch
  rw [h.ch]

/-- `u` differs from `s` in time, the event log, the channels, the tally engine and the interrupt controller alone. -/
def EngineOnly (s u : State) : Prop := LogOnly { s with ch := u.ch, tal := u.tal, ic := u.ic } u

theorem EngineOnly.trans {s u v : State} (h : EngineOnly s u) (g : EngineOnly u v) : EngineOnly s v := by
  unfold EngineOnly LogOnly at h g ⊢
  rw [h] at g
  exact g

theorem TalOnly.engineOnly {s u : State} (h : TalOnly s u) : EngineOnly s u := by
  unfold TalOnly LogOnly at h
  unfold EngineOnly LogOnly
  rw [h]
  rfl

theorem irqOpen_engineOnly (n : Nat) (s : State) : EngineOnly s (irqOpen n s) := by
  have h := irqOpen_ic n s
  unfold EngineOnly LogOnly
  rw [h]
  rfl

/-! ### The event that the engine takes -/

theorem nextQueue_rod {s : State} {rod i c : Nat} (h : nextQueue s rod i = some c) : c / 16 = rod := by
  obtain ⟨j, -, rfl⟩ := List.mem_map.1 (List.mem_of_find?_eq_some h)
  omega

/-- The rebuilt time is the latest before the present instant with the entry's 22 bits (R64). -/
theorem rebuild_spec {now w : Nat} (h : w % 2 ^ 22 < now) :
    rebuild (now - 1) w % 2 ^ 22 = w % 2 ^ 22 ∧ rebuild (now - 1) w < now ∧ now ≤ rebuild (now - 1) w + 2 ^ 22 := by
  unfold rebuild
  omega

/-- The rod's state once an event is out of its queue. -/
def taken (rod c : Nat) (rest : List Nat) (s : State) : State :=
  setTalRod (setCh s c { ch s c with queue := rest }) rod { talRod s rod with rr := (c + 1) % 16 }

/-- Windows that overlap beyond the channel's attribution limit are counted (R67). -/
def overNoted (c : Nat) (many : Bool) (s : State) : State :=
  if many then
    wrapEv (ch s c).attrOver 1 0x0107 (le 2 c)
      (setCh s c { ch s c with attrOver := (ch s c).attrOver.add 1, frAttr := (ch s c).frAttr.add (2 ^ 32 - 1) 1 })
  else s

theorem overNoted_engineOnly (c : Nat) (many : Bool) (s : State) : EngineOnly s (overNoted c many s) := by
  unfold overNoted
  cases many with
  | false => rfl
  | true => exact EngineOnly.trans (u := setCh s c _) rfl (wrapEv_logOnly ..).talOnly.engineOnly

theorem overNoted_tal (c : Nat) (many : Bool) (s : State) : (overNoted c many s).tal = s.tal := by
  unfold overNoted
  cases many with
  | false => rfl
  | true => exact (wrapEv_logOnly ..).tal

theorem overNoted_ch {c k : Nat} (many : Bool) {s : State} (hk : k ≠ c) : ch (overNoted c many s) k = ch s k := by
  unfold overNoted
  cases many with
  | false => rfl
  | true => rw [if_pos rfl, (wrapEv_logOnly ..).chan, ch_setCh, if_neg hk]

theorem overNoted_queue (c : Nat) (many : Bool) (s : State) : (ch (overNoted c many s) c).queue = (ch s c).queue := by
  unfold overNoted
  cases many with
  | false => rfl
  | true =>
    rw [if_pos rfl, (wrapEv_logOnly ..).chan, ch_setCh, if_pos rfl]

theorem tallyService_eq {rod c w : Nat} {rest : List Nat} {s : State} (hr : rod < 64) (hq : nextQueue s rod (talRod s rod).rr = some c)
    (hw : (ch s c).queue = w :: rest) :
    ∃ many, tallyService rod s = overNoted c many (irqOpen (25 + rod)
      ((attributed s c (rebuild (s.dev - 1) w)).foldl (fun u sh => increment c sh (rebuild (s.dev - 1) w) u) (taken rod c rest s))) := by
  refine ⟨decide ((attributed (taken rod c rest s) c (rebuild (s.dev - 1) w)).length < (covering (taken rod c rest s) c (rebuild (s.dev - 1) w)).length), ?_⟩
  unfold tallyService overNoted
  rw [if_neg (by omega)]
  simp only [hq, hw, decide_eq_true_eq]
  rfl

theorem irqOpen_tal (n : Nat) (s : State) : (irqOpen n s).tal = s.tal := by rw [irqOpen_ic]
theorem irqOpen_ch (n : Nat) (s : State) : (irqOpen n s).ch = s.ch := by rw [irqOpen_ic]

section
variable (rod c : Nat) (rest : List Nat) (s : State)

theorem talRod_taken : talRod (taken rod c rest s) rod = { talRod s rod with rr := (c + 1) % 16 } := (talRod_setTalRod ..).trans (if_pos rfl)

theorem pointOf_taken (sh : Shot) : pointOf (taken rod c rest s) c sh = pointOf s c sh := by
  have h : ch (taken rod c rest s) c = { ch s c with queue := rest } := (ch_setCh ..).trans (if_pos rfl)
  rw [pointOf, h]
  rfl

theorem hitsPage_taken (k : Nat) (sh : Shot) : hitsPage (taken rod c rest s) c k sh = hitsPage s c k sh := by
  rw [hitsPage, hitsPage, pointOf_taken]

theorem fillsPage_taken (k : Nat) (sh : Shot) : fillsPage (taken rod c rest s) c k sh = fillsPage s c k sh := by
  rw [fillsPage, fillsPage, pointOf_taken, hitsPage_taken]
  rfl

theorem coarseCount_taken (te : Nat) (att : List Shot) (k j : Nat) : coarseCount (taken rod c rest s) c te att k j = coarseCount s c te att k j := by
  simp only [coarseCount, hitsPage_taken]
  rfl

theorem fineCount_taken (te : Nat) (att : List Shot) (k j : Nat) : fineCount (taken rod c rest s) c te att k j = fineCount s c te att k j := by
  simp only [fineCount, fineHit, fillsPage_taken]
  rfl

theorem heldFine_taken (te : Nat) : heldFine (taken rod c rest s) c te = heldFine s c te := by
  funext sh
  simp only [heldFine, fillsPage_taken, pointOf_taken]
  rfl

end

/-- What the service of a rod leaves: the event out of its queue, its attributions in the bins. -/
theorem tallyService_serves {rod c w : Nat} {rest : List Nat} {s : State} (hr : rod < 64)
    (hq : nextQueue s rod (talRod s rod).rr = some c) (hw : (ch s c).queue = w :: rest) :
    ∃ v u, tallyService rod s = u ∧ u.tal = v.tal ∧ (ch u c).queue = rest ∧ (∀ k, k ≠ c → ch u k = ch s k)
      ∧ EngineOnly s u
      ∧ Filled rod (attributed s c (rebuild (s.dev - 1) w)).length (coarseCount s c (rebuild (s.dev - 1) w) (attributed s c (rebuild (s.dev - 1) w)))
          (fineCount s c (rebuild (s.dev - 1) w) (attributed s c (rebuild (s.dev - 1) w)))
          ((attributed s c (rebuild (s.dev - 1) w)).filterMap (heldFine s c (rebuild (s.dev - 1) w))) (taken rod c rest s) v := by
  obtain ⟨many, he⟩ := tallyService_eq hr hq hw
  generalize rebuild (s.dev - 1) w = te at he ⊢
  generalize attributed s c te = att at he ⊢
  have hf := increments_filled c te att (taken rod c rest s)
  rw [nextQueue_rod hq, heldFine_taken] at hf
  generalize att.foldl _ _ = v at he hf
  have hch : (irqOpen (25 + rod) v).ch = (taken rod c rest s).ch := (irqOpen_ch _ _).trans hf.only.ch
  refine ⟨v, _, he, ?_, ?_, fun k hk => ?_, ?_, hf.congr (fun k j => coarseCount_taken ..) (fun k j => fineCount_taken ..)⟩
  · exact (overNoted_tal ..).trans (irqOpen_tal _ _)
  · rw [overNoted_queue, ch, hch]
    exact congrArg Chan.queue ((ch_setCh ..).trans (if_pos rfl))
  · rw [overNoted_ch _ hk, ch, hch]
    exact (ch_setCh ..).trans (if_neg hk)
  · exact (EngineOnly.trans (u := taken rod c rest s) rfl hf.only.engineOnly).trans ((irqOpen_engineOnly ..).trans (overNoted_engineOnly ..))

end Sys2Proof.Machine
end

section
/-! SUPPORT. Pages close and are freed (R16, R17, R123, R134, R145). -/

namespace Sys2Proof.Machine

/-- `u` differs from `s` in time, the event log, the channels and the tally engine alone. -/
def PointsOnly (s u : State) : Prop := LogOnly { s with ch := u.ch, tal := u.tal } u

theorem PointsOnly.trans {s u v : State} (h : PointsOnly s u) (g : PointsOnly u v) : PointsOnly s v := by
  unfold PointsOnly LogOnly at h g ⊢
  rw [h] at g
  exact g

theorem TalOnly.pointsOnly {s u : State} (h : TalOnly s u) : PointsOnly s u := by
  unfold TalOnly LogOnly at h
  unfold PointsOnly LogOnly
  rw [h]
  rfl

theorem LogOnly.pointsOnly {s u : State} (h : LogOnly s u) : PointsOnly s u := h.talOnly.pointsOnly

/-! ### A page is freed (R145) -/

theorem pageRelease_eq {s : State} {c k : Nat} (hc : c ≤ 1023) (h : servedPage s c = some k) : pageRelease c s = freePage k s := by
  simp only [pageRelease, h]
  exact if_neg (by omega)

theorem page_freePage (k j : Nat) (s : State) : page (freePage k s) j = if j = k then {} else page s j := page_setPage ..

theorem ch_freePage_pts (k : Nat) (s : State) : (ch (freePage k s) (k / 2)).pts = (ch s (k / 2)).pts.filter (fun p => !(p.page == some k)) := by
  unfold freePage
  dsimp only
  rw [ch_setCh, if_pos rfl]
  rfl

theorem freePage_pointsOnly (k : Nat) (s : State) : PointsOnly s (freePage k s) := rfl

/-! ### A HELD page closes (R123, R134) -/

theorem pageClose_eq {s : State} {c k : Nat} (h : heldPage s c = some k) (hp : pageFree s k = true) (hg : groupFree s (k / 32) = true) :
    pageClose c s = closePage k s := by
  simp [pageClose, h, hp, hg]

/-- A contribution's judgement changes what its page owes the stack and its deck's figures alone. -/
theorem stackAdmit_page (k : Nat) (s : State) :
    (∀ j, j ≠ k → page (stackAdmit k s) j = page s j)
      ∧ page (stackAdmit k s) k = { page s k with stackDue := (page (stackAdmit k s) k).stackDue, newEnt := (page (stackAdmit k s) k).newEnt } := by
  unfold stackAdmit
  dsimp only
  split
  · exact ⟨fun _ _ => rfl, rfl⟩
  · split
    · exact ⟨fun _ _ => rfl, rfl⟩
    · split
      · exact ⟨fun _ _ => rfl, rfl⟩
      · split
        · exact ⟨fun _ _ => rfl, rfl⟩
        · refine ⟨fun j hj => ?_, ?_⟩
          · rw [page_setPage, if_neg hj]
            rfl
          · simp

theorem stackAdmit_rest (k : Nat) (s : State) : ∃ pages decks, stackAdmit k s = { s with tal.pages := pages, tal.decks := decks } := by
  unfold stackAdmit
  dsimp only
  split
  · exact ⟨_, _, rfl⟩
  · split
    · exact ⟨_, _, rfl⟩
    · split
      · exact ⟨_, _, rfl⟩
      · split <;> exact ⟨_, _, rfl⟩

/-- A contribution is admitted (R134): its page owes a read, the deck's charge and count rise. -/
theorem stackAdmit_admits {k : Nat} {s : State} (hm : gPar s (page s k).d.gen pTallyStackMask (k / 2) = 1)
    (hw : stackWaits s (page s k).d.frame = false) (hd : (page s k).d.frame % gPar s (page s k).d.gen pTallyStackDepth 0 = 0)
    (hr : (talDeck s (k / 256)).refused0 = 0) (ha : (talDeck s (k / 256)).charged + 2080 ≤ (talDeck s (k / 256)).allow)
    (hu : stackUsed s + 1040 ≤ s.mem.stackMB * 1048576) :
    ∃ e, stackAdmit k s = setPage (setTalDeck s (k / 256) { talDeck s (k / 256) with
        charged := (talDeck s (k / 256)).charged + 2080, admitted := (talDeck s (k / 256)).admitted + 1 }) k
      { page s k with stackDue := true, newEnt := e } := by
  have hdk : k / 2 / 128 = k / 256 := Nat.div_div_eq_div_mul ..
  unfold stackAdmit
  dsimp only
  rw [hdk, if_neg (by simp [hm, hw]), if_neg (by simp [hd]), if_neg (by omega), if_neg (by omega)]
  exact ⟨_, rfl⟩

theorem mem_insertBy_self {α : Type} (f : α → Nat) (a : α) (l : List α) : a ∈ insertBy f a l := by
  induction l with
  | nil => exact List.mem_singleton_self a
  | cons b l ih =>
    unfold insertBy
    split
    · exact List.mem_cons_self
    · exact List.mem_cons_of_mem _ ih

/-- A page joins its rod's group of the H cycle, or begins it. -/
def joinGroup (rod at_ k : Nat) (l : List Group) : List Group :=
  if l.any (fun y => y.rod == rod && y.at_ == at_)
    then l.map (fun y => if y.rod == rod && y.at_ == at_ then { y with pages := insertBy id k y.pages } else y)
    else l ++ [{ rod := rod, at_ := at_, pages := [k] }]

theorem joinGroup_any (rod at_ k : Nat) (l : List Group) : (joinGroup rod at_ k l).any (fun g => g.rod == rod && g.pages.contains k) = true := by
  unfold joinGroup
  split
  · next h =>
    obtain ⟨y, hy, hr⟩ := List.any_eq_true.1 h
    refine List.any_eq_true.2 ⟨_, List.mem_map_of_mem hy, ?_⟩
    rw [if_pos hr]
    simp only [Bool.and_eq_true] at hr ⊢
    exact ⟨hr.1, List.contains_iff_mem.2 (mem_insertBy_self id k y.pages)⟩
  · simp

/-- A page's contribution judged, the page CLOSED and its rod's count risen: what closing leaves in the tally engine. -/
def closedTal (k : Nat) (s : State) : State :=
  let u := stackAdmit k (setPage s k { page s k with st := 3, slotEnd := none })
  setTalRod u (k / 32) { talRod u (k / 32) with closed := (talRod u (k / 32)).closed + 1 }

/-- A rod with four groups waiting is noted for the frame (R17). -/
def limitNoted (rod n : Nat) (s : State) : State := if 4 ≤ n then { s with ext.frLimit := s.ext.frLimit ||| 2 ^ rod } else s

theorem limitNoted_eq (rod n : Nat) (s : State) : ∃ m, limitNoted rod n s = { s with ext.frLimit := m } := by
  unfold limitNoted
  split
  · exact ⟨_, rfl⟩
  · exact ⟨_, rfl⟩

theorem closePage_eq (k : Nat) (s : State) :
    ∃ n p, closePage k s = limitNoted (k / 32) n (setExtDeck (closedTal k s) (k / 256) { extDeck (closedTal k s) (k / 256) with
      queue := joinGroup (k / 32) (hCycle (closedTal k s)) k (extDeck (closedTal k s) (k / 256)).queue, peak := p }) := by
  have hd : k / 32 / 8 = k / 256 := Nat.div_div_eq_div_mul ..
  unfold closePage
  dsimp only
  rw [hd]
  exact ⟨_, _, rfl⟩

theorem closePage_queue (k : Nat) (s : State) :
    (extDeck (closePage k s) (k / 256)).queue.any (fun g => g.rod == k / 32 && g.pages.contains k) = true := by
  obtain ⟨n, p, h⟩ := closePage_eq k s
  generalize closedTal k s = u at h
  rw [h]
  obtain ⟨m, hm⟩ := limitNoted_eq (k / 32) n (setExtDeck u (k / 256) { extDeck u (k / 256) with
    queue := joinGroup (k / 32) (hCycle u) k (extDeck u (k / 256)).queue, peak := p })
  have he : extDeck (limitNoted (k / 32) n (setExtDeck u (k / 256) { extDeck u (k / 256) with
      queue := joinGroup (k / 32) (hCycle u) k (extDeck u (k / 256)).queue, peak := p })) (k / 256)
      = extDeck (setExtDeck u (k / 256) { extDeck u (k / 256) with
        queue := joinGroup (k / 32) (hCycle u) k (extDeck u (k / 256)).queue, peak := p }) (k / 256) := by
    rw [hm]
    rfl
  rw [he, extDeck_setExtDeck, if_pos rfl]
  exact joinGroup_any ..

theorem closePage_rest (k : Nat) (s : State) : ∃ e, closePage k s = { closedTal k s with ext := e } := by
  obtain ⟨n, p, h⟩ := closePage_eq k s
  rw [h]
  unfold limitNoted
  split
  · exact ⟨_, rfl⟩
  · exact ⟨_, rfl⟩

theorem closePage_tal (k : Nat) (s : State) : (closePage k s).tal = (closedTal k s).tal := by
  obtain ⟨e, h⟩ := closePage_rest k s
  rw [h]

theorem closedTal_talOnly (k : Nat) (s : State) : TalOnly s (closedTal k s) := by
  obtain ⟨p, d, h⟩ := stackAdmit_rest k (setPage s k { page s k with st := 3, slotEnd := none })
  unfold closedTal
  dsimp only
  rw [h]
  rfl

theorem talRod_closedTal (k : Nat) (s : State) : talRod (closedTal k s) (k / 32) = { talRod s (k / 32) with closed := (talRod s (k / 32)).closed + 1 } := by
  obtain ⟨p, d, h⟩ := stackAdmit_rest k (setPage s k { page s k with st := 3, slotEnd := none })
  unfold closedTal
  dsimp only
  rw [talRod_setTalRod, if_pos rfl, h]
  rfl

theorem page_closedTal (k j : Nat) (s : State) :
    page (closedTal k s) j = page (stackAdmit k (setPage s k { page s k with st := 3, slotEnd := none })) j := rfl

theorem page_closedTal_other {k j : Nat} (s : State) (hj : j ≠ k) : page (closedTal k s) j = page s j := by
  rw [page_closedTal, (stackAdmit_page k _).1 j hj, page_setPage, if_neg hj]

theorem page_closedTal_self (k : Nat) (s : State) : (page (closedTal k s) k).st = 3 ∧ (page (closedTal k s) k).slotEnd = none
    ∧ (page (closedTal k s) k).endedAt = (page s k).endedAt := by
  have h := (stackAdmit_page k (setPage s k { page s k with st := 3, slotEnd := none })).2
  rw [page_closedTal, h, page_setPage, if_pos rfl]
  exact ⟨rfl, rfl, rfl⟩

theorem talRod_closePage (k : Nat) (s : State) : (talRod (closePage k s) (k / 32)).closed = (talRod s (k / 32)).closed + 1 := by
  rw [talRod, closePage_tal]
  exact congrArg TalRod.closed (talRod_closedTal k s)

theorem page_closePage (k j : Nat) (s : State) : page (closePage k s) j = page (closedTal k s) j := by
  rw [page, closePage_tal]
  rfl

theorem talDeck_closePage (k d : Nat) (s : State) : talDeck (closePage k s) d = talDeck (closedTal k s) d := by
  rw [talDeck, closePage_tal]
  rfl

/-- `u` differs from `s` in time, the event log, the extractors and the tally engine alone. -/
def ClosingOnly (s u : State) : Prop := LogOnly { s with ext := u.ext, tal := u.tal } u

theorem ClosingOnly.trans {s u v : State} (h : ClosingOnly s u) (g : ClosingOnly u v) : ClosingOnly s v := by
  unfold ClosingOnly LogOnly at h g ⊢
  rw [h] at g
  exact g

theorem TalOnly.closingOnly {s u : State} (h : TalOnly s u) : ClosingOnly s u := by
  unfold TalOnly LogOnly at h
  unfold ClosingOnly LogOnly
  rw [h]
  rfl

theorem ext_closingOnly (e : Ext) (s : State) : ClosingOnly s { s with ext := e } := rfl

theorem closePage_closingOnly (k : Nat) (s : State) : ClosingOnly s (closePage k s) := by
  obtain ⟨e, h⟩ := closePage_rest k s
  rw [h]
  exact (closedTal_talOnly k s).closingOnly.trans (ext_closingOnly e _)

/-- A start frame's contribution, within the allowance and the store, is admitted as its page closes (R134, R135). -/
theorem closePage_admits {k : Nat} {s : State} (hm : gPar s (page s k).d.gen pTallyStackMask (k / 2) = 1)
    (hw : stackWaits s (page s k).d.frame = false) (hd : (page s k).d.frame % gPar s (page s k).d.gen pTallyStackDepth 0 = 0)
    (hr : (talDeck s (k / 256)).refused0 = 0) (ha : (talDeck s (k / 256)).charged + 2080 ≤ (talDeck s (k / 256)).allow)
    (hu : stackUsed (setPage s k { page s k with st := 3, slotEnd := none }) + 1040 ≤ s.mem.stackMB * 1048576) :
    (page (closePage k s) k).stackDue = true ∧ (talDeck (closePage k s) (k / 256)).charged = (talDeck s (k / 256)).charged + 2080
      ∧ (talDeck (closePage k s) (k / 256)).admitted = (talDeck s (k / 256)).admitted + 1 := by
  have hp : page (setPage s k { page s k with st := 3, slotEnd := none }) k = { page s k with st := 3, slotEnd := none } := by
    rw [page_setPage, if_pos rfl]
  obtain ⟨e, he⟩ := stackAdmit_admits (k := k) (s := setPage s k { page s k with st := 3, slotEnd := none })
    (by rw [hp]; exact hm) (by rw [hp]; exact hw) (by rw [hp]; exact hd) (by rw [talDeck_setPage]; exact hr)
    (by rw [talDeck_setPage]; exact ha) hu
  have ht : talDeck (closedTal k s) (k / 256) = talDeck (stackAdmit k (setPage s k { page s k with st := 3, slotEnd := none })) (k / 256) := rfl
  rw [page_closePage, talDeck_closePage, page_closedTal, ht, he, page_setPage, if_pos rfl, talDeck_setPage, talDeck_setTalDeck, if_pos rfl]
  exact ⟨rfl, rfl, rfl⟩

end Sys2Proof.Machine
end

section
/-! SUPPORT. A point opens a page or joins one (R17, R120 to R122). -/

namespace Sys2Proof.Machine

/-! ### A point's first shots (R120 to R122) -/

/-- The entry of a point that starts. -/
def pointRef (pg : Option Nat) (m : Bool) (cause : Nat) (sh : Shot) : PtRef :=
  { frame := sh.frame, line := sh.line, point := sh.point, page := pg, merged := m, shots := 1,
    first := sh.stamp, last := sh.stamp, cause := cause, ended := false, gen := sh.gen, cell := sh.cell }

/-- Channel `x` with a point that starts. -/
def withPoint (p : PtRef) (sh : Shot) (x : Chan) : Chan := { x with ptNew := sh.first + 1, pts := p :: x.pts }

/-- The shots after the first that a point starts with are counted into it. -/
def moreShots (c : Nat) (sh : Shot) (rest : List Shot) (s : State) : State :=
  (rest.filter (fun r => r.frame == sh.frame && r.line == sh.line && r.point == sh.point)).foldl (fun s r => countShot r c s) s

/-- `u` is `s`, whose channel `c` has the point of shot `sh` on the OPEN page `k`, after further shots of that point. -/
structure ShotsAdded (c k : Nat) (m : Bool) (sh : Shot) (s u : State) : Prop where
  only : PointsOnly s u
  chans : ∀ j, j ≠ c → ch u j = ch s j
  others : ∀ j, j ≠ k → page u j = page s j
  rods : u.tal.rods = s.tal.rods
  opened : (page u k).st = 1
  kept : page u k = { page s k with
    st := 1, d.shots := (page u k).d.shots, d.last := (page u k).d.last, d.fineShots := (page u k).d.fineShots
    scout := (page u k).scout, scoutAt := (page u k).scoutAt }
  point : ∃ p l, (ch u c).pts = p :: l ∧ p.frame = sh.frame ∧ p.line = sh.line ∧ p.point = sh.point ∧ p.page = some k ∧ p.merged = m

/-- What a further shot leaves of a point's entry. -/
def shotCounted (r : Shot) (p : PtRef) : PtRef :=
  if p.frame == r.frame && p.line == r.line && p.point == r.point then { p with shots := p.shots + 1, last := r.stamp, ended := false } else p

theorem shotCounted_keeps (r : Shot) (p : PtRef) : (shotCounted r p).frame = p.frame ∧ (shotCounted r p).line = p.line
    ∧ (shotCounted r p).point = p.point ∧ (shotCounted r p).page = p.page ∧ (shotCounted r p).merged = p.merged := by
  unfold shotCounted
  split <;> exact ⟨rfl, rfl, rfl, rfl, rfl⟩

/-- A shot of a known point with an OPEN page counts into both. -/
theorem countShot_known {c k : Nat} {r : Shot} {p : PtRef} {u : State}
    (hfind : (ch u c).pts.find? (fun p => p.frame == r.frame && p.line == r.line && p.point == r.point) = some p) (hk : p.page = some k)
    (hst : (page u k).st = 1) :
    ∃ v n l f sc sa, v = 1 ∧ countShot r c u = setPage (setCh u c { ch u c with pts := (ch u c).pts.map (shotCounted r) }) k
      { page u k with st := v, d := { (page u k).d with shots := n, last := l, fineShots := f }, scout := sc, scoutAt := sa } := by
  unfold countShot
  dsimp only
  rw [hfind]
  dsimp only
  rw [hk]
  dsimp only
  split
  · next h => exact absurd (hst.symm.trans h) (by decide)
  · exact ⟨_, _, _, _, _, _, (if_neg (fun h => absurd (hst.symm.trans h) (by decide))).trans hst, rfl⟩

/-- A further shot of the point. -/
theorem ShotsAdded.countShot {c k : Nat} {m : Bool} {sh r : Shot} {s u : State} (h : ShotsAdded c k m sh s u) (hf : r.frame = sh.frame)
    (hl : r.line = sh.line) (hp : r.point = sh.point) : ShotsAdded c k m sh s (countShot r c u) := by
  obtain ⟨p, l, hpts, hpf, hpl, hpp, hpk, hpm⟩ := h.point
  have hfind : (ch u c).pts.find? (fun p => p.frame == r.frame && p.line == r.line && p.point == r.point) = some p := by
    rw [hpts, List.find?_cons_of_pos]
    simp [hpf, hpl, hpp, hf, hl, hp]
  obtain ⟨v, n, ls, f, sc, sa, rfl, he⟩ := countShot_known hfind hpk h.opened
  obtain ⟨kf, kl, kp, kk, km⟩ := shotCounted_keeps r p
  rw [he]
  refine ⟨h.only.trans rfl, fun j hj => ?_, fun j hj => ?_, h.rods, ?_, ?_, shotCounted r p, l.map (shotCounted r), ?_, kf.trans hpf, kl.trans hpl,
    kp.trans hpp, kk.trans hpk, km.trans hpm⟩
  · exact (ch_setCh ..).trans ((if_neg hj).trans (h.chans j hj))
  · rw [page_setPage, if_neg hj]
    exact h.others j hj
  · rw [page_setPage, if_pos rfl]
  · rw [page_setPage, if_pos rfl, h.kept]
  · have hc : ch (setPage (setCh u c { ch u c with pts := (ch u c).pts.map (shotCounted r) }) k { page u k with
        st := 1, d := { (page u k).d with shots := n, last := ls, fineShots := f }, scout := sc, scoutAt := sa }) c
        = { ch u c with pts := (ch u c).pts.map (shotCounted r) } := (ch_setCh ..).trans (if_pos rfl)
    rw [hc, ← List.map_cons, ← hpts]

theorem moreShots_added {c k : Nat} {m : Bool} {sh : Shot} {s u : State} (h : ShotsAdded c k m sh s u) (rest : List Shot) :
    ShotsAdded c k m sh s (moreShots c sh rest u) := by
  unfold moreShots
  induction rest generalizing u with
  | nil => exact h
  | cons r l ih =>
    rw [List.filter_cons]
    split
    · next hr =>
      simp only [Bool.and_eq_true, beq_iff_eq] at hr
      exact ih (h.countShot hr.1.1 hr.1.2 hr.2)
    · exact ih h

/-! ### A point opens a page (R121) -/

theorem openable_first {s : State} {c : Nat} (hf : (page s (2 * c)).st = 0) (hg : ∀ k, latestPage (ch s c) = some k → groupHeld s k = false) :
    openable s c = some (2 * c) := by
  have h2 : [2 * c, 2 * c + 1].find? (fun k => (page s k).st == 0) = some (2 * c) := by simp [hf]
  unfold openable
  rw [if_neg, h2]
  cases hl : latestPage (ch s c) with
  | none => simp
  | some k => simp [hg k hl]

/-- A point's first shot on the page it opens. -/
def pointOpened (c k : Nat) (sh : Shot) (s : State) : State :=
  setCh (firstShot k false sh (setPage s k (openPage c sh s))) c (withPoint (pointRef (some k) false 0 sh) sh (ch s c))

theorem pointStart_opens {s : State} {c k : Nat} {sh : Shot} {rest : List Shot} (hn : newShots s c = sh :: rest) (h1 : sh.nth = 1)
    (ho : openable s c = some k) : pointStart c s = moreShots c sh rest (pointOpened c k sh s) := by
  unfold pointStart
  dsimp only
  rw [hn]
  dsimp only
  rw [if_neg (by omega), ho]
  rfl

theorem firstShot_page (k : Nat) (m : Bool) (sh : Shot) (s : State) : ∃ n f, page (firstShot k m sh s) k
    = { page s k with d := { (page s k).d with shots := n, last := sh.stamp, fineShots := f } } := by
  unfold firstShot
  dsimp only
  rw [page_setPage, if_pos rfl]
  exact ⟨_, _, rfl⟩

theorem firstShot_other {k j : Nat} (m : Bool) (sh : Shot) (s : State) (hj : j ≠ k) : page (firstShot k m sh s) j = page s j :=
  (page_setPage ..).trans (if_neg hj)

theorem pointOpened_page (c k : Nat) (sh : Shot) (s : State) : ∃ n f, page (pointOpened c k sh s) k
    = { openPage c sh s with d := { (openPage c sh s).d with shots := n, last := sh.stamp, fineShots := f } } := by
  obtain ⟨n, f, h⟩ := firstShot_page k false sh (setPage s k (openPage c sh s))
  rw [page_setPage, if_pos rfl] at h
  exact ⟨n, f, h⟩

theorem pointOpened_added (c k : Nat) (sh : Shot) (s : State) : ShotsAdded c k false sh (pointOpened c k sh s) (pointOpened c k sh s) := by
  obtain ⟨n, f, h⟩ := pointOpened_page c k sh s
  have hc : ch (pointOpened c k sh s) c = withPoint (pointRef (some k) false 0 sh) sh (ch s c) := (ch_setCh ..).trans (if_pos rfl)
  refine ⟨rfl, fun _ _ => rfl, fun _ _ => rfl, rfl, ?_, ?_, _, _, congrArg Chan.pts hc, rfl, rfl, rfl, rfl, rfl⟩
  · rw [h]
    rfl
  · rw [h]
    rfl

theorem pointOpened_pointsOnly (c k : Nat) (sh : Shot) (s : State) : PointsOnly s (pointOpened c k sh s) := rfl

/-! ### A point merges into its channel's HELD page (R17, R122) -/

theorem openable_none {s : State} {c k : Nat} (hl : latestPage (ch s c) = some k) (hg : groupHeld s k = true) : openable s c = none := by
  unfold openable
  rw [hl]
  simp [hg]

/-- The page that another point joins. -/
def joined (k : Nat) (sh : Shot) (s : State) : State :=
  firstShot k true sh (setPage s k { page s k with
    st := 1, d := { (page s k).d with merged := true }, lastPt := sh.point, lastLine := sh.line, points := (page s k).points + 1 })

/-- The rod's merges with one more. -/
def mergeCounted (rod : Nat) (s : State) : State :=
  setTalRod s rod { talRod s rod with mergedC := (talRod s rod).mergedC.add 1, frMerged := (talRod s rod).frMerged + 1 }

/-- A point's first shot on the page it joins. -/
def pointMerged (c k : Nat) (sh : Shot) (s : State) : State :=
  setCh (wrapEv (talRod (joined k sh s) (c / 16)).mergedC 1 0x0306 (le 1 (c / 16) ++ le 1 1) (mergeCounted (c / 16) (joined k sh s))) c
    (withPoint (pointRef (some k) true 0 sh) sh (ch s c))

theorem pointStart_merges {s : State} {c k : Nat} {sh : Shot} {rest : List Shot} (hn : newShots s c = sh :: rest) (h1 : sh.nth = 1)
    (hl : latestPage (ch s c) = some k) (hg : groupHeld s k = true) (hf : (page s k).d.frame = sh.frame) (hge : (page s k).d.gen = sh.gen)
    (hb : (page s k).d.b = sh.b) (hff : (page s k).d.f = sh.f) (ho : (page s k).d.o = sh.o) (hs : (page s k).d.shots + sh.n ≤ 255) :
    pointStart c s = moreShots c sh rest (pointMerged c k sh s) := by
  have hst : (page s k).st = 2 := by
    simp only [groupHeld, Bool.and_eq_true, decide_eq_true_eq] at hg
    exact hg.1.1
  have hl' : latestPage { ch s c with ptNew := sh.first + 1 } = some k := hl
  unfold pointStart
  dsimp only
  rw [hn]
  dsimp only
  rw [if_neg (by omega), openable_none hl hg]
  dsimp only
  rw [hl']
  dsimp only
  rw [if_pos]
  · rfl
  · simp [hst, hf, hge, hb, hff, ho, hs]

theorem pointMerged_page (c k : Nat) (sh : Shot) (s : State) :
    (page (pointMerged c k sh s) k).st = 1 ∧ (page (pointMerged c k sh s) k).d.merged = true
      ∧ (page (pointMerged c k sh s) k).points = (page s k).points + 1 := by
  have hp : page (pointMerged c k sh s) k = page (joined k sh s) k := (wrapEv_logOnly ..).page k
  obtain ⟨n, f, h⟩ := firstShot_page k true sh (setPage s k { page s k with
    st := 1, d := { (page s k).d with merged := true }, lastPt := sh.point, lastLine := sh.line, points := (page s k).points + 1 })
  rw [page_setPage, if_pos rfl] at h
  rw [hp, joined, h]
  exact ⟨rfl, rfl, rfl⟩

theorem pointMerged_other {c k j : Nat} (sh : Shot) (s : State) (hj : j ≠ k) : page (pointMerged c k sh s) j = page s j := by
  have hp : page (pointMerged c k sh s) j = page (joined k sh s) j := (wrapEv_logOnly ..).page j
  rw [hp, joined, firstShot_other _ _ _ hj, page_setPage, if_neg hj]

theorem pointMerged_rod (c k : Nat) (sh : Shot) (s : State) :
    (talRod (pointMerged c k sh s) (c / 16)).mergedC = (talRod s (c / 16)).mergedC.add 1 := by
  have hr : talRod (pointMerged c k sh s) (c / 16) = talRod (mergeCounted (c / 16) (joined k sh s)) (c / 16) := (wrapEv_logOnly ..).talRod _
  rw [hr, mergeCounted, talRod_setTalRod, if_pos rfl]
  rfl

theorem pointMerged_ch (c k j : Nat) (sh : Shot) (s : State) :
    ch (pointMerged c k sh s) j = if j = c then withPoint (pointRef (some k) true 0 sh) sh (ch s c) else ch s j := by
  rw [pointMerged, ch_setCh, (wrapEv_logOnly ..).chan]
  rfl

theorem pointMerged_added (c k : Nat) (sh : Shot) (s : State) : ShotsAdded c k true sh (pointMerged c k sh s) (pointMerged c k sh s) := by
  obtain ⟨hst, -, -⟩ := pointMerged_page c k sh s
  have hc := (pointMerged_ch c k c sh s).trans (if_pos rfl)
  refine ⟨rfl, fun _ _ => rfl, fun _ _ => rfl, rfl, hst, ?_, _, _, congrArg Chan.pts hc, rfl, rfl, rfl, rfl, rfl⟩
  rw [← hst]

theorem pointMerged_pointsOnly (c k : Nat) (sh : Shot) (s : State) : PointsOnly s (pointMerged c k sh s) :=
  PointsOnly.trans (u := mergeCounted (c / 16) (joined k sh s)) rfl ((wrapEv_logOnly ..).pointsOnly.trans rfl)

end Sys2Proof.Machine
end

section
/-! SUPPORT. A point ends (R120, R123, R125). -/

namespace Sys2Proof.Machine

/-! ### Loss records -/

/-- `u` differs from `s` in time, the event log and the stream alone. -/
def StreamOnly (s u : State) : Prop := LogOnly { s with str := u.str } u

theorem StreamOnly.trans {s u v : State} (h : StreamOnly s u) (g : StreamOnly u v) : StreamOnly s v := by
  unfold StreamOnly LogOnly at h g ⊢
  rw [h] at g
  exact g

theorem LogOnly.streamOnly {s u : State} (h : LogOnly s u) : StreamOnly s u := by
  unfold LogOnly at h
  unfold StreamOnly LogOnly
  rw [h]
  rfl

theorem setPath_streamOnly (s : State) (q : Nat) (v : Path) : StreamOnly s (setPath s q v) := rfl

theorem streamOnly_foldl {α : Type} {f : State → α → State} (h : ∀ s a, StreamOnly s (f s a)) (l : List α) (s : State) : StreamOnly s (l.foldl f s) := by
  induction l generalizing s with
  | nil => rfl
  | cons a l ih => exact (h s a).trans (ih (f s a))

theorem pushLoss_streamOnly (l : Loss) (s : State) : StreamOnly s (pushLoss l s) := by
  refine StreamOnly.trans (u := { s with str.logDue := s.str.logDue ++ [(8, lossBytes l)] }) rfl ?_
  unfold pushLoss
  generalize ({ s with str.logDue := s.str.logDue ++ [(8, lossBytes l)] } : State) = s
  dsimp only
  split
  · exact setPath_streamOnly ..
  · split
    · exact setPath_streamOnly ..
    · exact (streamOnly_foldl (fun s k => (setPath_streamOnly ..).trans (wrapEv_logOnly ..).streamOnly) _ _).trans (logEv_logOnly ..).streamOnly

theorem gap_streamOnly (stage cls index start stop items : Nat) (s : State) : StreamOnly s (gap stage cls index start stop items s) :=
  pushLoss_streamOnly _ s

/-! ### A point ends (R120, R123, R125) -/

theorem planMark_eq (c : Nat) (s : State) (p : PtRef) : ∃ m, planMark c s p = { s with sch.planStat := m } := by
  unfold planMark
  dsimp only
  split
  · exact ⟨_, rfl⟩
  · exact ⟨_, rfl⟩

/-- `u` differs from `s` in time, the event log, the channels, the extractors, the planner's figures, the stream and the tally engine alone. -/
def EndOnly (s u : State) : Prop := LogOnly { s with ch := u.ch, ext := u.ext, sch.planStat := u.sch.planStat, str := u.str, tal := u.tal } u

theorem EndOnly.trans {s u v : State} (h : EndOnly s u) (g : EndOnly u v) : EndOnly s v := by
  unfold EndOnly LogOnly at h g ⊢
  rw [h] at g
  exact g

theorem ClosingOnly.endOnly {s u : State} (h : ClosingOnly s u) : EndOnly s u := by
  unfold ClosingOnly LogOnly at h
  unfold EndOnly LogOnly
  rw [h]
  rfl

theorem StreamOnly.endOnly {s u : State} (h : StreamOnly s u) : EndOnly s u := by
  unfold StreamOnly LogOnly at h
  unfold EndOnly LogOnly
  rw [h]
  rfl

theorem PointsOnly.endOnly {s u : State} (h : PointsOnly s u) : EndOnly s u := by
  unfold PointsOnly LogOnly at h
  unfold EndOnly LogOnly
  rw [h]
  rfl

theorem StreamOnly.ch {s u : State} (h : StreamOnly s u) : u.ch = s.ch := LogOnly.ch (s := { s with str := u.str }) h
theorem StreamOnly.tal {s u : State} (h : StreamOnly s u) : u.tal = s.tal := LogOnly.tal (s := { s with str := u.str }) h
theorem ClosingOnly.ch {s u : State} (h : ClosingOnly s u) : u.ch = s.ch := LogOnly.ch (s := { s with ext := u.ext, tal := u.tal }) h

/-- A page's end: the page, its time kept, is HELD or CLOSED, and no other page moves. -/
theorem endPage_page (k : Nat) (s : State) :
    (page (endPage k s) k).endedAt = s.dev ∧ ((page (endPage k s) k).st = 2 ∨ (page (endPage k s) k).st = 3)
      ∧ ∀ j, j ≠ k → page (endPage k s) j = page s j := by
  have hself : page (setPage s k { page s k with endedAt := s.dev }) k = { page s k with endedAt := s.dev } := by
    rw [page_setPage, if_pos rfl]
  have hother : ∀ j, j ≠ k → page (setPage s k { page s k with endedAt := s.dev }) j = page s j := fun j hj => by
    rw [page_setPage, if_neg hj]
  unfold endPage
  dsimp only
  generalize setPage s k { page s k with endedAt := s.dev } = u at hself hother ⊢
  have hheld : (page (setPage u k { page u k with st := 2 }) k).endedAt = s.dev
      ∧ ((page (setPage u k { page u k with st := 2 }) k).st = 2 ∨ (page (setPage u k { page u k with st := 2 }) k).st = 3)
      ∧ ∀ j, j ≠ k → page (setPage u k { page u k with st := 2 }) j = page s j := by
    rw [page_setPage, if_pos rfl, hself]
    refine ⟨rfl, .inl rfl, fun j hj => ?_⟩
    rw [page_setPage, if_neg hj, hother j hj]
  split
  · exact hheld
  · split
    · obtain ⟨hst, -, hat⟩ := page_closedTal_self k u
      refine ⟨?_, .inr ?_, fun j hj => ?_⟩
      · rw [page_closePage, hat, hself]
      · rw [page_closePage, hst]
      · rw [page_closePage, page_closedTal_other u hj, hother j hj]
    · have hw : ∀ j, page (wrapEv (extDeck u (k / 256)).holds 1 0x0405 (le 1 (k / 256) ++ le 1 3)
          { setExtDeck (setPage u k { page u k with st := 2 }) (k / 256) { extDeck u (k / 256) with holds := (extDeck u (k / 256)).holds.add 1 } with
            ext.frHolds := u.ext.frHolds + 1 }) j = page (setPage u k { page u k with st := 2 }) j := fun j => (wrapEv_logOnly ..).page j
      refine ⟨?_, ?_, fun j hj => ?_⟩
      · rw [hw]
        exact hheld.1
      · rw [hw]
        exact hheld.2.1
      · rw [hw]
        exact hheld.2.2 j hj

theorem endPage_closingOnly (k : Nat) (s : State) : ClosingOnly s (endPage k s) := by
  refine ClosingOnly.trans (u := setPage s k { page s k with endedAt := s.dev }) rfl ?_
  unfold endPage
  dsimp only
  generalize setPage s k { page s k with endedAt := s.dev } = u
  split
  · rfl
  · split
    · exact closePage_closingOnly k u
    · exact ClosingOnly.trans (u := { setExtDeck (setPage u k { page u k with st := 2 }) (k / 256)
          { extDeck u (k / 256) with holds := (extDeck u (k / 256)).holds.add 1 } with ext.frHolds := u.ext.frHolds + 1 }) rfl
        (wrapEv_logOnly ..).talOnly.closingOnly

/-- Whether an entry is that of a point. -/
def samePoint (p r : PtRef) : Bool := r.frame == p.frame && r.line == p.line && r.point == p.point

theorem samePoint_iff (p r : PtRef) : samePoint p r = true ↔ r.frame = p.frame ∧ r.line = p.line ∧ r.point = p.point := by
  simp [samePoint, and_assoc]

/-- The rod's unbinned shots with a point's more (R125). -/
def dropCounted (c : Nat) (p : PtRef) (s : State) : State :=
  wrapEv (talRod s (c / 16)).dropped p.shots 0x0306 (le 1 (c / 16) ++ le 1 2)
    (setTalRod s (c / 16) { talRod s (c / 16) with dropped := (talRod s (c / 16)).dropped.add p.shots })

theorem pointEnd_unbinned {s : State} {c : Nat} {p : PtRef} (h : endedPoint s c = some p) (hp : p.page = none) :
    ∃ w, pointEnd c s = gap 2 p.cause c p.first w p.shots
      (dropCounted c p (setCh (planMark c s p) c { ch s c with pts := (ch s c).pts.filter (fun r => !samePoint p r) })) := by
  unfold pointEnd
  dsimp only
  rw [h]
  dsimp only
  rw [hp]
  exact ⟨_, rfl⟩

/-- A channel's points once one has ended. -/
def pointOut (c : Nat) (p : PtRef) (s : State) : State :=
  setCh (planMark c s p) c { ch s c with pts := (ch s c).pts.map (fun r => if samePoint p r then { r with ended := true } else r) }

theorem pointEnd_binned {s : State} {c k : Nat} {p : PtRef} (h : endedPoint s c = some p) (hp : p.page = some k) :
    pointEnd c s = if (ch (pointOut c p s) c).pts.any (fun r => r.page == some k && !r.ended) then pointOut c p s else endPage k (pointOut c p s) := by
  unfold pointEnd
  dsimp only
  rw [h]
  dsimp only
  rw [hp]
  rfl

theorem planMark_setCh (c : Nat) (p : PtRef) (v : Chan) (s : State) :
    EndOnly s (setCh (planMark c s p) c v) ∧ (setCh (planMark c s p) c v).tal = s.tal ∧ (setCh (planMark c s p) c v).dev = s.dev
      ∧ ∀ j, ch (setCh (planMark c s p) c v) j = if j = c then v else ch s j := by
  obtain ⟨m, h⟩ := planMark_eq c s p
  rw [h]
  exact ⟨rfl, rfl, rfl, fun j => ch_setCh ..⟩

theorem dropCounted_talOnly (c : Nat) (p : PtRef) (s : State) : TalOnly s (dropCounted c p s) :=
  (setTalRod_talOnly ..).trans (wrapEv_logOnly ..).talOnly

theorem dropCounted_pages (c : Nat) (p : PtRef) (s : State) : (dropCounted c p s).tal.pages = s.tal.pages := by
  rw [dropCounted, (wrapEv_logOnly ..).tal]
  rfl

theorem dropCounted_rod (c : Nat) (p : PtRef) (s : State) :
    (talRod (dropCounted c p s) (c / 16)).dropped = (talRod s (c / 16)).dropped.add p.shots := by
  rw [dropCounted, (wrapEv_logOnly ..).talRod, talRod_setTalRod, if_pos rfl]

/-- A point that was never binned is forgotten, its shots counted and its loss recorded (R125). -/
theorem pointEnd_drops {s : State} {c : Nat} {p : PtRef} (h : endedPoint s c = some p) (hp : p.page = none) :
    EndOnly s (pointEnd c s) ∧ (∀ k, k ≠ c → ch (pointEnd c s) k = ch s k)
      ∧ (talRod (pointEnd c s) (c / 16)).dropped = (talRod s (c / 16)).dropped.add p.shots ∧ (pointEnd c s).tal.pages = s.tal.pages
      ∧ ∀ q ∈ (ch (pointEnd c s) c).pts, ¬(q.frame = p.frame ∧ q.line = p.line ∧ q.point = p.point) := by
  obtain ⟨w, he⟩ := pointEnd_unbinned h hp
  obtain ⟨ho, htal, -, hch⟩ := planMark_setCh c p { ch s c with pts := (ch s c).pts.filter (fun r => !samePoint p r) } s
  rw [he]
  generalize setCh (planMark c s p) c { ch s c with pts := (ch s c).pts.filter (fun r => !samePoint p r) } = v at ho htal hch ⊢
  have hg := gap_streamOnly 2 p.cause c p.first w p.shots (dropCounted c p v)
  generalize gap 2 p.cause c p.first w p.shots (dropCounted c p v) = u at hg ⊢
  have hchan : ∀ j, ch u j = ch v j := fun j => by rw [ch, hg.ch, (dropCounted_talOnly c p v).ch]; rfl
  refine ⟨ho.trans ((dropCounted_talOnly c p v).pointsOnly.endOnly.trans hg.endOnly), fun k hk => ?_, ?_, ?_, fun q hq => ?_⟩
  · rw [hchan, hch, if_neg hk]
  · have hr : talRod v (c / 16) = talRod s (c / 16) := by
      rw [talRod, htal]
      rfl
    rw [talRod, hg.tal]
    exact (dropCounted_rod c p v).trans (by rw [hr])
  · rw [hg.tal, dropCounted_pages, htal]
  · rw [hchan, hch, if_pos rfl] at hq
    have hn := (List.mem_filter.1 hq).2
    rw [← samePoint_iff]
    simpa using hn

/-- The end of a binned point ends its page when no other point of it goes on (R123). -/
theorem pointEnd_ends {s : State} {c k : Nat} {p : PtRef} (h : endedPoint s c = some p) (hp : p.page = some k) :
    EndOnly s (pointEnd c s) ∧ (∀ j, j ≠ c → ch (pointEnd c s) j = ch s j)
      ∧ ((∀ q ∈ (ch s c).pts, q.page = some k → q.ended = true ∨ q.frame = p.frame ∧ q.line = p.line ∧ q.point = p.point) →
        (page (pointEnd c s) k).endedAt = s.dev ∧ ((page (pointEnd c s) k).st = 2 ∨ (page (pointEnd c s) k).st = 3)
          ∧ ∀ j, j ≠ k → page (pointEnd c s) j = page s j) := by
  obtain ⟨ho, htal, hdev, hch⟩ :=
    planMark_setCh c p { ch s c with pts := (ch s c).pts.map (fun r => if samePoint p r then { r with ended := true } else r) } s
  have he := pointEnd_binned h hp
  have hpo : pointOut c p s
      = setCh (planMark c s p) c { ch s c with pts := (ch s c).pts.map (fun r => if samePoint p r then { r with ended := true } else r) } := rfl
  rw [← hpo] at ho htal hdev hch
  rw [he]
  generalize pointOut c p s = v at ho htal hdev hch ⊢
  have hcl := endPage_closingOnly k v
  refine ⟨?_, fun j hj => ?_, fun hall => ?_⟩
  · split
    · exact ho
    · exact ho.trans hcl.endOnly
  · have hv : ch v j = ch s j := (hch j).trans (if_neg hj)
    split
    · exact hv
    · rw [ch, hcl.ch]
      exact hv
  · have hnone : ((ch v c).pts.any (fun r => r.page == some k && !r.ended)) = false := by
      rw [hch, if_pos rfl, List.any_eq_false]
      intro r hr
      obtain ⟨q, hq, rfl⟩ := List.mem_map.1 hr
      split
      · simp
      · next hs =>
        rw [samePoint_iff] at hs
        simp only [Bool.and_eq_true, beq_iff_eq, Bool.not_eq_true', not_and, Bool.not_eq_false]
        exact fun hk => (hall q hq hk).resolve_right hs
    obtain ⟨hat, hst, hother⟩ := endPage_page k v
    rw [hnone]
    refine ⟨hat.trans hdev, hst, fun j hj => (hother j hj).trans ?_⟩
    rw [page, htal]
    rfl

end Sys2Proof.Machine
end

section
/-! SUPPORT. Points and pages: O28. -/

namespace Sys2Proof.Machine

/-- A command that acts at once on a device awake. -/
theorem runs_live {i : Instr} {t : Nat} {f : State → State} {s : State} {P : State → Prop} (hi : exec i s = .next (live t f s)) (ha : Awake s)
    (hp : P (f (advance t s))) : Runs i s P :=
  ⟨_, hi.trans (by rw [live_awake ha]), hp⟩

/-- Settles O28: each clause by the lemma of its operation. -/
theorem pagesLive : Obligations.PagesLive := by
  unfold Obligations.PagesLive
  refine ⟨?_, ?_, ?_, ?_, ?_, ?_⟩
  · intro t rod c w rest s ha hr hq hw
    obtain ⟨v, u, he, htal, hqu, hch, honly, hf⟩ := tallyService_serves (s := advance t s) hr hq hw
    refine runs_live rfl ha ?_
    rw [he]
    have hp : ∀ k, page u k = page v k := fun k => by rw [page, htal]; rfl
    have ht : talRod u rod = talRod v rod := by rw [talRod, htal]; rfl
    have hpages := hf.pages
    have hco := hf.coarse
    have hfi := hf.fine
    simp only [← hp] at hpages hco hfi
    refine ⟨rebuild_spec, hqu, ?_, ?_, hch, fun k j => (hco k j).trans ?_, hfi, ?_, hpages, honly⟩
    · rw [ht, hf.rr, talRod_taken]
    · rw [ht, hf.incs, talRod_taken]
      rfl
    · simp only [coarseCount, coarseHit, ← Bool.and_assoc]
      rfl
    · rw [ht, hf.hold, talRod_taken]
      rfl
  · intro t c sh rest s ha hn h1 hf hg
    have hst := pointStart_opens (s := advance t s) hn h1 (openable_first (s := advance t s) hf hg)
    obtain ⟨n, f, hpage⟩ := pointOpened_page c (2 * c) sh (advance t s)
    have h := moreShots_added (pointOpened_added c (2 * c) sh (advance t s)) rest
    have honly := (pointOpened_pointsOnly c (2 * c) sh (advance t s)).trans h.only
    refine runs_live rfl ha ?_
    rw [hst]
    obtain ⟨p, l, hpts, -, hpl, hpp, hpk, -⟩ := h.point
    refine ⟨h.opened, ?_, ?_, ?_, ⟨p, hpts ▸ List.mem_cons_self, hpl, hpp, hpk⟩, fun k hk => ?_, fun k hk => ?_, honly⟩
    · rw [h.kept, hpage]
      rfl
    · rw [h.kept, hpage]
      rfl
    · rw [h.kept, hpage]
      rfl
    · rw [h.others k hk]
      exact (firstShot_other _ _ _ hk).trans ((page_setPage ..).trans (if_neg hk))
    · rw [h.chans k hk]
      exact (ch_setCh ..).trans (if_neg hk)
  · intro t c k sh rest s ha hn h1 hl hg g hfr hge hb hf ho hs
    have hst := pointStart_merges (s := advance t s) hn h1 hl hg hfr hge hb hf ho hs
    obtain ⟨-, hm, hpt⟩ := pointMerged_page c k sh (advance t s)
    have h := moreShots_added (pointMerged_added c k sh (advance t s)) rest
    have honly := (pointMerged_pointsOnly c k sh (advance t s)).trans h.only
    refine runs_live rfl ha ?_
    rw [hst]
    obtain ⟨p, l, hpts, -, hpl, hpp, hpk, hpm⟩ := h.point
    refine ⟨h.opened, ?_, ?_, ?_, ⟨p, hpts ▸ List.mem_cons_self, hpl, hpp, hpk, hpm⟩, fun j hj => ?_, fun j hj => ?_, honly⟩
    · rw [h.kept]
      exact hm
    · rw [h.kept]
      exact hpt
    · rw [talRod, h.rods]
      exact pointMerged_rod c k sh (advance t s)
    · rw [h.others j hj, pointMerged_other _ _ hj]
      rfl
    · rw [h.chans j hj, pointMerged_ch, if_neg hj]
      rfl
  · intro t c p s ha he
    refine runs_live rfl ha ?_
    cases hp : p.page with
    | none =>
      obtain ⟨ho, hch, hd, hpg, hq⟩ := pointEnd_drops he hp
      exact ⟨ho, hch, fun _ => ⟨hd, hpg, hq⟩, fun k hk => absurd hk (by simp)⟩
    | some k =>
      obtain ⟨ho, hch, hall⟩ := pointEnd_ends he hp
      refine ⟨ho, hch, fun hn => absurd hn (by simp), fun k' hk hq => ?_⟩
      obtain rfl : k = k' := Option.some.inj hk
      exact hall hq
  · intro t c k s ha hh hp hg
    refine runs_live rfl ha ?_
    rw [pageClose_eq (s := advance t s) hh hp hg]
    obtain ⟨hst, hse, -⟩ := page_closedTal_self k (advance t s)
    refine ⟨by rw [page_closePage, hst], by rw [page_closePage, hse], talRod_closePage k _, fun j hj => ?_, closePage_queue k _,
      closePage_closingOnly k _, fun hm hw hd hr hal hu => closePage_admits (s := advance t s) hm hw hd hr hal hu⟩
    rw [page_closePage, page_closedTal_other _ hj]
    rfl
  · intro t c k s ha hc hs
    refine runs_live rfl ha ?_
    rw [pageRelease_eq hc hs]
    refine ⟨(page_freePage ..).trans (if_pos rfl), fun j hj => (page_freePage ..).trans (if_neg hj), fun p hp => ?_, freePage_pointsOnly k _⟩
    rw [ch_freePage_pts] at hp
    simpa using (List.mem_filter.1 hp).2

end Sys2Proof.Machine
end

section
/-! SUPPORT. What a mailbox buffer holds of a long answer (R446, R452), and O24. -/

namespace Sys2Proof.Machine

/-! ### Beyond the 256 bytes of a buffer -/

theorem cgets_getElem? (d : Byte) (m : List Host.Cell) (a : Nat) {n i : Nat} (h : i < n) : (cgets d m a n)[i]? = some (cget d m (a + i)) := by
  induction n generalizing a i with
  | zero => omega
  | succ n ih =>
    cases i with
    | zero => rfl
    | succ i =>
      rw [cgets, List.getElem?_cons_succ, ih (a + 1) (by omega)]
      congr 2
      omega

theorem bufPut_beyond (m : Mailbox) (l : List Byte) {a : Nat} (h : 256 ≤ a) : cget 0 (bufPut m l).buf a = cget 0 m.buf a := by
  have hl : (l.take 256).length ≤ 256 := List.length_take_le ..
  exact (cget_cputs ..).trans (if_neg (by omega))

theorem started_beyond (op t : Nat) (r : Req) (s : State) {a : Nat} (h : 256 ≤ a) :
    cget 0 (mb (started op t r s) r.mb).buf a = cget 0 (mb s r.mb).buf a := by
  rw [started_mb, if_pos rfl]
  exact bufPut_beyond _ _ h

theorem mbDone_beyond (k op result tag : Nat) (p : List Byte) {s : State} (hs : (mb s k).origin = none) {a : Nat} (h : 256 ≤ a) :
    cget 0 (mb (mbDone k op result tag p s) k).buf a = cget 0 (mb s k).buf a := by
  obtain ⟨-, -, -, hbuf⟩ := mbDone_mailbox k op result tag p s hs
  rw [hbuf]
  exact bufPut_beyond (mb s k) (respBytes op result tag p) h

/-- The bytes of an answer lie behind its header of 12 bytes. -/
theorem Answered.byte {r : Req} {op result : Nat} {p : List Byte} {u : State} (h : Answered r op result p u) {i : Nat} (hi : i < p.length) :
    p[i]? = some (cget 0 (mb u r.mb).buf (12 + i)) := by
  obtain ⟨-, -, -, hbuf⟩ := h
  have hl : (le 2 op ++ le 2 result ++ le 4 r.tag ++ le 2 p.length ++ le 2 0).length = 12 := by simp
  have hg := cgets_getElem? 0 (mb u r.mb).buf 0 (n := 12 + p.length) (i := 12 + i) (by omega)
  rw [hbuf, List.getElem?_append_right (by omega), hl, Nat.add_sub_cancel_left, Nat.zero_add] at hg
  exact hg

/-! ### CHMAP_READ (R54) -/

/-- The entries that CHMAP_READ returns. -/
def mapAnswer (s : State) (r : Req) : List Byte :=
  le 2 (fld r.payload 0 2) ++ le 2 (fld r.payload 2 2) ++ (List.range (fld r.payload 2 2)).flatMap
    (fun i => mapBytes (setMap (if fld r.payload 4 1 = 0 then s.par.shadow else s.par.inForce) (fld r.payload 0 2 + i)))

theorem chmapReadBody_done (op : Nat) {r : Req} {s : State} (h1 : 1 ≤ fld r.payload 2 2) (h10 : fld r.payload 2 2 ≤ 10)
    (hc : fld r.payload 0 2 + fld r.payload 2 2 ≤ 1024) (hset : fld r.payload 4 1 ≤ 1) (hz : allZero (r.payload.drop 5) = true) :
    chmapReadBody op r s = .done rOK (mapAnswer s r) s := by
  refine if_neg ?_
  simp only [hz, Bool.true_eq_false, or_false]
  omega

theorem chmapRead_done {t : Nat} {r : Req} {s : State} (h : Ready r s) (hlen : r.payload.length = 8) (h1 : 1 ≤ fld r.payload 2 2)
    (h10 : fld r.payload 2 2 ≤ 10) (hc : fld r.payload 0 2 + fld r.payload 2 2 ≤ 1024) (hset : fld r.payload 4 1 ≤ 1)
    (hz : allZero (r.payload.drop 5) = true) :
    exec (.chmapRead t r) s = .next (mbDone r.mb 0x0111 rOK r.tag (mapAnswer s r) (started 0x0111 t r s)) := by
  have hp : mapAnswer (started 0x0111 t r s) r = mapAnswer s r := by simp [mapAnswer]
  exact congrArg Host.Outcome.next (command_done h (Nat.zero_le _) (Nat.le_of_lt_succ h.1) (Nat.zero_le _) (by omega)
    (by simp [lenEq, hlen]) (hp ▸ chmapReadBody_done _ h1 h10 hc hset hz))

/-! ### O24 -/

/-- The map entry of channel 9 with one neighbour more than R54's eight. -/
def nineNeighbours : ChMap := { bootMap 9 with nbr := [1, 2, 3, 4, 5, 6, 7, 8, 257] }

/-- A device in BOOT whose shadow map holds the entry. -/
def nineNeighboursDevice : State := { State.reset with par.shadow.chmap := [(9, some nineNeighbours)] }

/-- Asks mailbox 0 for the shadow map of channels 0 to 9. -/
def readTenChannels : Req := { mb := 0, tag := 0, payload := le 2 0 ++ le 2 10 ++ le 1 0 ++ zeros 3 }

theorem ready_readTenChannels : Ready readTenChannels nineNeighboursDevice := by
  unfold Ready
  decide

/-- The last byte of the last entry: the high byte of its ninth neighbour. -/
theorem mapAnswer_readTenChannels : (mapAnswer nineNeighboursDevice readTenChannels)[245]? = some 1#8 := by decide

/-- Refutes O24: of an entry with nine neighbours, which no CHMAP_WRITE stores but the clause of CHMAP_READ does not exclude, the
answer of ten entries is 246 bytes long, and its last two do not fit the buffer. -/
theorem not_channelCommandsComplete : ¬ Obligations.ChannelCommandsComplete := by
  unfold Obligations.ChannelCommandsComplete
  rintro ⟨-, hread, -⟩
  have hr := ready_readTenChannels
  obtain ⟨u, hu, p, rfl, ha, -⟩ := hread 0 readTenChannels nineNeighboursDevice hr rfl (by decide) (by decide) (by decide) (by decide) (by decide)
  have hx := chmapRead_done (t := 0) hr rfl (by decide) (by decide) (by decide) (by decide) (by decide)
  obtain rfl := Host.Outcome.next.inj (hu.symm.trans hx)
  have hlast := ha.byte (List.getElem?_eq_some_iff.1 mapAnswer_readTenChannels).1
  rw [mbDone_beyond _ _ _ _ _ (started_origin ..) (by decide), started_beyond _ _ _ _ (by decide)] at hlast
  exact absurd (mapAnswer_readTenChannels.symm.trans hlast) (by decide)

end Sys2Proof.Machine
end

section
/-! SUPPORT. Detector events and re-arming (R50 to R53, R59, R61, R83, R305). -/

namespace Sys2Proof.Machine

theorem awake_of_detectorsRun {s : State} (h : detectorsRun s = true) : Awake s := by
  simp only [detectorsRun, Bool.and_eq_true, decide_eq_true_eq] at h
  exact ⟨by omega, by omega⟩

theorem channel_runs {c : Nat} {s : State} (hc : c < 1024) (hr : detectorsRun s = true) : ¬(1023 < c ∨ detectorsRun s = false) :=
  not_or.2 ⟨by omega, by simp [hr]⟩

/-- An event that acts at once on a device awake, its result named. -/
theorem exec_live {i : Instr} {t : Nat} {f : State → State} {s u : State} (hi : exec i s = .next (live t f s)) (ha : Awake s)
    (hu : f (advance t s) = u) : exec i s = .next u := by
  rw [hi, live_awake ha, hu]

/-! ### Stamping an armed channel's event (R50, R59, R61) -/

theorem fineCode_lt (x : CalCh) (j r : Nat) : fineCode x j r < 64 := Nat.mod_lt _ (by decide)

theorem capture_eq (c stamp : Nat) (s : State) : capture c stamp s = { s with capture := (capture c stamp s).capture } := by
  unfold capture
  split
  · split <;> rfl
  · rfl

theorem ch_capture (c stamp k : Nat) (s : State) : ch (capture c stamp s) k = ch s k := by
  rw [capture_eq]
  rfl

/-- The fine part of the stamp of an event now, its edge having passed a number of taps. -/
def fineOf (c passed : Nat) (s : State) : Nat := fineCode (calCh s c) (rawCode (calCh s c).mask passed) (freeVal 256 s).1

/-- The stamp of an event now: its coarse cycle and its fine part. -/
def stampOf (c passed : Nat) (s : State) : Nat := coarse s * 64 + fineOf c passed s

/-- A channel that has stamped an event. -/
def stampedChan (x : Chan) (dev stamp : Nat) : Chan :=
  { x with
    det := true, detSince := dev, armed := false, last := stamp, stamped := x.stamped + 1, frStamped := true
    recent := stamp :: x.recent.filter (fun q => decide (stamp < q + 4096)) }

/-- The device once a channel has stamped an event, and a capture of the channel has taken it. -/
def stampedState (c passed : Nat) (s : State) : State :=
  capture c (stampOf c passed s) (setCh (freeVal 256 s).2 c (stampedChan (ch s c) s.dev (stampOf c passed s)))

theorem detectorEvent_armed {c : Nat} (passed : Nat) {s : State} (hc : c < 1024) (hr : detectorsRun s = true) (ha : (ch s c).armed = true)
    (he : chEnabled s c = true) (ho : inOutage s c = false) :
    detectorEvent c passed s = windowTest c (rawCode (calCh s c).mask passed) (stampOf c passed s) (stampedState c passed s) := by
  unfold detectorEvent
  dsimp only
  rw [if_neg (channel_runs hc hr), if_neg (by simp [ha, he, ho])]
  rfl

theorem detectorEvent_unarmed {c : Nat} (passed : Nat) {s : State} (hc : c < 1024) (hr : detectorsRun s = true)
    (h : (ch s c).armed = false ∨ chEnabled s c = false ∨ inOutage s c = true) :
    detectorEvent c passed s = setCh s c { ch s c with det := true, detSince := s.dev } := by
  unfold detectorEvent
  dsimp only
  rw [if_neg (channel_runs hc hr), if_pos h]

/-- Stamping draws a free value and touches the channels and the capture. -/
theorem stampedState_eq (c passed : Nat) (s : State) : stampedState c passed s =
    { s with free := s.free + 1, ch := (stampedState c passed s).ch, capture := (stampedState c passed s).capture } := by
  unfold stampedState
  rw [capture_eq]
  rfl

theorem ch_stampedState (c passed k : Nat) (s : State) :
    ch (stampedState c passed s) k = if k = c then stampedChan (ch s c) s.dev (stampOf c passed s) else ch s k :=
  (ch_capture ..).trans (ch_setCh ..)

/-! ### The window test (R83, R88, R309) -/

theorem cdCount_eq (c j : Nat) (s : State) : cdCount c j s = { s with cal := (cdCount c j s).cal } := by
  unfold cdCount
  split <;> rfl

/-- An event that no window covers may count as ambient, and its raw code goes to the code density. -/
theorem windowTest_uncovered {c stamp : Nat} (j : Nat) {s : State} (h : covering s c stamp = []) :
    ∃ n l cal, windowTest c j stamp s = { setCh s c { ch s c with ambA := n, ambLate := l } with cal := cal } := by
  unfold windowTest
  simp only [h]
  repeat' split
  all_goals exact ⟨_, _, _, cdCount_eq ..⟩

/-- An event that a window covers may count as ambient, and waits for the gate under the set of its most recent covering shot. -/
theorem windowTest_covered {c stamp : Nat} (j : Nat) {sh : Shot} {shots : List Shot} {s : State} (h : covering s c stamp = sh :: shots) :
    ∃ n l, windowTest c j stamp s = setCh s c { ch s c with
      ambA := n, ambLate := l
      pend := (ch s c).pend ++ [{ stamp := stamp, gen := sh.gen, out := !inRegion s c stamp (ch s c).region }] } := by
  unfold windowTest
  simp only [h]
  repeat' split
  all_goals exact ⟨_, _, rfl⟩

/-- What waits for the gate after an event at `stamp`: one that a window covers comes last, under the set of its most recent covering shot. -/
def pendAfter (c stamp : Nat) (s : State) : List QEnt :=
  (ch s c).pend ++ (covering s c stamp).head?.toList.map
    (fun sh => { stamp := stamp, gen := sh.gen, out := !inRegion s c stamp (ch s c).region })

theorem pendAfter_uncovered {c stamp : Nat} {s : State} (h : covering s c stamp = []) : pendAfter c stamp s = (ch s c).pend := by
  simp [pendAfter, h]

theorem pendAfter_covered {c stamp : Nat} {sh : Shot} {shots : List Shot} {s : State} (h : covering s c stamp = sh :: shots) :
    pendAfter c stamp s
      = (ch s c).pend ++ [{ stamp := stamp, gen := sh.gen, out := !inRegion s c stamp (ch s c).region }] := by
  simp [pendAfter, h]

theorem pendAfter_stampedState (c passed stamp : Nat) (s : State) : pendAfter c stamp (stampedState c passed s) = pendAfter c stamp s := by
  unfold pendAfter
  rw [ch_stampedState, if_pos rfl, stampedState_eq]
  rfl

/-- The window test touches the channel's ambient counts and waiting events, and the code density. -/
theorem windowTest_eq (c j stamp : Nat) (s : State) :
    ∃ n l cal, windowTest c j stamp s = { setCh s c { ch s c with ambA := n, ambLate := l, pend := pendAfter c stamp s } with cal := cal } := by
  cases h : covering s c stamp with
  | nil =>
    obtain ⟨n, l, cal, hw⟩ := windowTest_uncovered j h
    refine ⟨n, l, cal, ?_⟩
    rw [hw, pendAfter_uncovered h]
  | cons sh shots =>
    obtain ⟨n, l, hw⟩ := windowTest_covered j h
    refine ⟨n, l, s.cal, ?_⟩
    rw [hw, pendAfter_covered h]
    rfl

/-- What an event at `stamp` leaves: a channel that has stamped it, with its window tested, and all other channels as they were. -/
structure Stamps (c stamp : Nat) (s u : State) : Prop where
  chan  : ∃ n l, ch u c = { stampedChan (ch s c) s.dev stamp with ambA := n, ambLate := l, pend := pendAfter c stamp s }
  chans : ∀ k, k ≠ c → ch u k = ch s k
  only  : LogOnly { s with cal := u.cal, capture := u.capture, ch := u.ch } u

theorem detectorEvent_stamps {c : Nat} (passed : Nat) {s : State} (hc : c < 1024) (hr : detectorsRun s = true) (ha : (ch s c).armed = true)
    (he : chEnabled s c = true) (ho : inOutage s c = false) : Stamps c (stampOf c passed s) s (detectorEvent c passed s) := by
  obtain ⟨n, l, cal, hw⟩ := windowTest_eq c (rawCode (calCh s c).mask passed) (stampOf c passed s) (stampedState c passed s)
  rw [detectorEvent_armed passed hc hr ha he ho, hw]
  refine ⟨⟨n, l, ?_⟩, fun k hk => ?_, ?_⟩
  · refine (ch_setCh (stampedState c passed s) c c _).trans ?_
    rw [if_pos rfl, ch_stampedState, if_pos rfl, pendAfter_stampedState]
  · refine (ch_setCh (stampedState c passed s) c k _).trans ?_
    rw [if_neg hk, ch_stampedState, if_neg hk]
  · rw [stampedState_eq]
    rfl

/-! ### Re-arming and stuck inputs (R50, R53) -/

theorem rearm_rearms {c : Nat} {s : State} (hc : c < 1024) (hr : detectorsRun s = true) (ha : (ch s c).armed = false)
    (ht : (ch s c).last + par s pChDeadTime c * 64 ≤ s.dev) :
    rearm c s = setCh s c { ch s c with det := false, armed := true, offs := ((ch s c).last, s.dev) :: (ch s c).offs } := by
  unfold rearm
  dsimp only
  rw [if_neg (channel_runs hc hr), if_neg (by simp [ha]), if_neg (by omega)]

theorem stuckHigh_logs {c : Nat} {s : State} (hc : c < 1024) (hr : detectorsRun s = true) (he : chEnabled s c = true)
    (hd : (ch s c).det = true) (hf : (ch s c).stuckFr = false) (ht : max (ch s c).detSince (ch s c).enSince + 10 * tUs ≤ s.dev) :
    stuckHigh c s = logEv 0x0104 (le 2 c) (setCh s c { ch s c with stuckFr := true }) := by
  have hs : stuckNow s c = true := by simp only [stuckNow, he, hd, ht, decide_true, Bool.and_true]
  exact if_neg (not_or.2 ⟨by omega, by simp [hr, hs, hf]⟩)

end Sys2Proof.Machine
end

section
/-! SUPPORT. The gate's decision, the queue and shedding (R69 to R72, R88 to R91), and O25. -/

namespace Sys2Proof.Machine

/-! ### Shedding (R70 to R72) -/

/-- From `s` to `u` a shed event has gone to its point: channel `c` keeps what its queue and its gate read. -/
structure PointShed (c : Nat) (s u : State) : Prop where
  only  : PointsOnly s u
  chans : ∀ k, k ≠ c → ch u k = ch s k
  pend  : (ch u c).pend = (ch s c).pend
  queue : (ch u c).queue = (ch s c).queue
  total : (ch u c).shedTotal = (ch s c).shedTotal
  shed  : (ch u c).shedding = (ch s c).shedding

theorem PointShed.trans {c : Nat} {s u v : State} (h : PointShed c s u) (g : PointShed c u v) : PointShed c s v :=
  ⟨h.only.trans g.only, fun k hk => (g.chans k hk).trans (h.chans k hk), g.pend.trans h.pend, g.queue.trans h.queue, g.total.trans h.total,
    g.shed.trans h.shed⟩

theorem pointShed_of_ch {s u : State} (c : Nat) (ho : PointsOnly s u) (h : ∀ k, ch u k = ch s k) : PointShed c s u :=
  ⟨ho, fun k _ => h k, by rw [h], by rw [h], by rw [h], by rw [h]⟩

theorem LogOnly.pointShed {s u : State} (c : Nat) (h : LogOnly s u) : PointShed c s u :=
  pointShed_of_ch c h.pointsOnly (fun k => by rw [Machine.ch, h.ch]; rfl)

theorem setCh_pointShed {s : State} {c : Nat} {v : Chan} (hp : v.pend = (ch s c).pend) (hq : v.queue = (ch s c).queue)
    (ht : v.shedTotal = (ch s c).shedTotal) (hs : v.shedding = (ch s c).shedding) : PointShed c s (setCh s c v) := by
  have hv : ch (setCh s c v) c = v := by simp
  exact ⟨rfl, fun k hk => by simp [hk], by rw [hv, hp], by rw [hv, hq], by rw [hv, ht], by rw [hv, hs]⟩

theorem shedSat_pointShed (c : Nat) (s : State) : PointShed c s (shedSat c s) := by
  have h : PointShed c s (setCh s c { ch s c with satPoints := (ch s c).satPoints.add (2 ^ 32 - 1) 1, frSatLog := true }) :=
    setCh_pointShed rfl rfl rfl rfl
  unfold shedSat
  dsimp only
  split
  · exact h
  · exact h.trans ((logEv_logOnly ..).pointShed c)

/-- The point's count may reach its limit. -/
theorem PointShed.thenSat {c : Nat} {s u : State} (h : PointShed c s u) (b : Prop) [Decidable b] :
    PointShed c s (if b then shedSat c u else u) := by
  split
  · exact h.trans (shedSat_pointShed c u)
  · exact h

/-- The channel's own counts of a shed event, before its point's. -/
def shedCounted (c : Nat) (s : State) : State :=
  wrapEv (ch s c).shedTotal 1 0x0106 (le 2 c) (setCh s c { ch s c with
    shedding := true, shedTotal := (ch s c).shedTotal.add 1, frShed := (ch s c).frShed.add (2 ^ 32 - 1) 1, lnShed := (ch s c).lnShed + 1 })

theorem shed_pointShed (c te : Nat) (s : State) : PointShed c (shedCounted c s) (shed c te s) := by
  unfold shed shedCounted
  dsimp only
  generalize wrapEv _ _ _ _ _ = v
  split
  · exact (LogOnly.refl v).pointShed c
  · split
    · split
      · refine PointShed.thenSat ?_ _
        exact pointShed_of_ch c rfl fun _ => rfl
      · refine PointShed.thenSat ?_ _
        exact setCh_pointShed rfl rfl rfl rfl
    · exact (LogOnly.refl v).pointShed c

theorem shedCounted_pointsOnly (c : Nat) (s : State) : PointsOnly s (shedCounted c s) :=
  PointsOnly.trans (u := setCh s c _) rfl (wrapEv_logOnly ..).pointsOnly

theorem ch_shedCounted (c k : Nat) (s : State) : ch (shedCounted c s) k = if k = c then { ch s c with
    shedding := true, shedTotal := (ch s c).shedTotal.add 1, frShed := (ch s c).frShed.add (2 ^ 32 - 1) 1, lnShed := (ch s c).lnShed + 1 }
    else ch s k := by
  rw [shedCounted, ch, (wrapEv_logOnly ..).ch]
  exact ch_setCh ..

/-! ### The queue (R69, R70) -/

/-- What the gate passes: it enters the queue, or it is shed. -/
structure Enqueues (c te : Nat) (s u : State) : Prop where
  only   : PointsOnly s u
  chans  : ∀ k, k ≠ c → ch u k = ch s k
  pend   : (ch u c).pend = (ch s c).pend
  queued : (if (ch s c).shedding then (ch s c).queue.length ≤ 4 else (ch s c).queue.length < 8) →
    (ch u c).queue = (ch s c).queue ++ [queueWord te] ∧ (ch u c).queued = (ch s c).queued + 1 ∧ u.tal = s.tal
  shed   : (if (ch s c).shedding then 4 < (ch s c).queue.length else 8 ≤ (ch s c).queue.length) →
    (ch u c).queue = (ch s c).queue ∧ (ch u c).shedTotal = (ch s c).shedTotal.add 1 ∧ (ch u c).shedding = true

theorem room_iff_not_full (b : Bool) (n : Nat) : (if b then n ≤ 4 else n < 8) ↔ ¬ if b then 4 < n else 8 ≤ n := by
  split <;> omega

theorem enqueue_full {c : Nat} (te : Nat) {s : State}
    (h : if (ch s c).shedding then 4 < (ch s c).queue.length else 8 ≤ (ch s c).queue.length) : enqueue c te s = shed c te s := by
  refine if_pos ?_
  cases hs : (ch s c).shedding <;> simpa [hs] using h

theorem enqueue_room {c : Nat} (te : Nat) {s : State}
    (h : if (ch s c).shedding then (ch s c).queue.length ≤ 4 else (ch s c).queue.length < 8) :
    enqueue c te s = setCh s c { ch s c with
      shedding := false, queue := (ch s c).queue ++ [queueWord te], queued := (ch s c).queued + 1, lnQueued := (ch s c).lnQueued + 1 } := by
  refine if_neg ?_
  cases hs : (ch s c).shedding <;> simpa [hs] using h

theorem enqueue_enqueues (c te : Nat) (s : State) : Enqueues c te s (enqueue c te s) := by
  by_cases hfull : if (ch s c).shedding then 4 < (ch s c).queue.length else 8 ≤ (ch s c).queue.length
  · have hp := shed_pointShed c te s
    have hself := (ch_shedCounted c c s).trans (if_pos rfl)
    rw [enqueue_full te hfull]
    refine ⟨(shedCounted_pointsOnly c s).trans hp.only, fun k hk => ?_, ?_, fun hroom => absurd hfull ((room_iff_not_full ..).1 hroom),
      fun _ => ⟨?_, ?_, ?_⟩⟩
    · rw [hp.chans k hk, ch_shedCounted, if_neg hk]
    · rw [hp.pend, hself]
    · rw [hp.queue, hself]
    · rw [hp.total, hself]
    · rw [hp.shed, hself]
  · rw [enqueue_room te ((room_iff_not_full ..).2 hfull)]
    exact ⟨rfl, fun k hk => by simp [hk], by simp, fun _ => ⟨by simp, by simp, rfl⟩, fun h => absurd h hfull⟩

/-! ### The gate (R89 to R91, R105) -/

/-- The channel's oldest waiting event is decided: a figure of its rod moves, and the gate goes on to the next. -/
def decided (c : Nat) (e : QEnt) (rest : List QEnt) (pass : Bool) (s : State) : State :=
  setAmbRod (setCh s c { ch s c with pend := rest }) (c / 16) { ambRod s (c / 16) with
    rejects := (ambRod s (c / 16)).rejects + b2n (!pass)
    v := (ambRod s (c / 16)).v.add (2 ^ 32 - 1) (b2n e.out), u := (ambRod s (c / 16)).u.add (2 ^ 32 - 1) (b2n (e.out && pass)) }

/-- The gate's decision, once the cycles of its window have passed. -/
theorem coincidence_decides {c : Nat} {e : QEnt} {rest : List QEnt} {s : State} (hp : (ch s c).pend = e :: rest)
    (ht : (e.stamp / 64 + cdiv (gPar s e.gen pCoincWindow (c / 16)) 2 + 2) * 64 ≤ s.dev) :
    (coincCount s e.gen c e.stamp < depthG s e.gen c → coincidence c s = decided c e rest false s) ∧
    (depthG s e.gen c ≤ coincCount s e.gen c e.stamp → coincidence c s = enqueue c e.stamp (decided c e rest true s)) := by
  unfold coincidence
  simp only [hp]
  rw [if_neg (by omega)]
  refine ⟨fun hlt => ?_, fun hle => ?_⟩
  · simp only [Nat.not_le.2 hlt, decide_false]
    rfl
  · simp only [hle, decide_true]
    rfl

theorem ch_decided (c : Nat) (e : QEnt) (rest : List QEnt) (pass : Bool) (s : State) (k : Nat) :
    ch (decided c e rest pass s) k = if k = c then { ch s c with pend := rest } else ch s k := ch_setCh ..

theorem ambRod_decided (c : Nat) (e : QEnt) (rest : List QEnt) (pass : Bool) (s : State) :
    ambRod (decided c e rest pass s) (c / 16) = { ambRod s (c / 16) with
      rejects := (ambRod s (c / 16)).rejects + b2n (!pass)
      v := (ambRod s (c / 16)).v.add (2 ^ 32 - 1) (b2n e.out), u := (ambRod s (c / 16)).u.add (2 ^ 32 - 1) (b2n (e.out && pass)) } :=
  (ambRod_setAmbRod ..).trans (if_pos rfl)

theorem LogOnly.amb {s u : State} (h : LogOnly s u) : u.amb = s.amb :=
  (congrArg State.amb (show u = logOf s u from h) : u.amb = (logOf s u).amb)

theorem PointsOnly.amb {s u : State} (h : PointsOnly s u) : u.amb = s.amb := LogOnly.amb (s := { s with ch := u.ch, tal := u.tal }) h

/-- A passed event enters the queue or is shed, and counts in its rod's figures. -/
structure Passes (c : Nat) (e : QEnt) (rest : List QEnt) (s u : State) : Prop where
  only : LogOnly { s with amb := u.amb, ch := u.ch, tal := u.tal } u
  rod  : ambRod u (c / 16) = ambRod (decided c e rest true s) (c / 16)
  gate : Enqueues c e.stamp (decided c e rest true s) u

theorem passes_enqueue (c : Nat) (e : QEnt) (rest : List QEnt) (s : State) :
    Passes c e rest s (enqueue c e.stamp (decided c e rest true s)) := by
  have h := enqueue_enqueues c e.stamp (decided c e rest true s)
  refine ⟨?_, by rw [ambRod, h.only.amb]; rfl, h⟩
  have ho := h.only
  have hamb := h.only.amb
  unfold PointsOnly LogOnly at ho
  unfold LogOnly
  generalize enqueue c e.stamp _ = u at ho hamb ⊢
  rw [ho]
  rfl

/-! ### O25 -/

/-- Settles O25: each clause by the lemma of its operation. -/
theorem channelEventsComplete : Obligations.ChannelEventsComplete := by
  unfold Obligations.ChannelEventsComplete
  refine ⟨?_, ?_, ?_, ?_, ?_⟩
  · intro t c passed s hc hr ha he ho a
    obtain ⟨⟨n, l, hch⟩, hother, honly⟩ := detectorEvent_stamps (s := a) passed hc hr ha he ho
    refine runs_live rfl (awake_of_detectorsRun hr) ⟨fineOf c passed a, fineCode_lt .., ?_⟩
    rw [hch]
    refine ⟨rfl, rfl, rfl, rfl, rfl, rfl, ⟨(freeVal 256 a).1, rfl⟩, fun hnone => ?_, fun sh shots hcov => ?_, rfl, hother, honly⟩
    · exact pendAfter_uncovered hnone
    · exact pendAfter_covered hcov
  · intro t c passed s hc hr h
    exact exec_live rfl (awake_of_detectorsRun hr) (detectorEvent_unarmed passed hc hr h)
  · intro t c s hc hr ha ht
    exact exec_live rfl (awake_of_detectorsRun hr) (rearm_rearms hc hr ha ht)
  · intro t c s hc hr he hd hf ht
    refine runs_live rfl (awake_of_detectorsRun hr) ?_
    rw [stuckHigh_logs (s := advance t s) hc hr he hd hf ht]
    exact logEv_logOnly ..
  · intro t c e rest s ha hp ht a x
    obtain ⟨hrefuse, hpass⟩ := coincidence_decides (s := a) hp ht
    refine ⟨fun hlt => exec_live rfl ha ((hrefuse hlt).trans ?_), fun hle => runs_live rfl ha ?_⟩
    · rw [decided, Bool.and_false]
      rfl
    · rw [hpass hle]
      obtain ⟨honly, hrod, hgate⟩ := passes_enqueue c e rest a
      have hself := (ch_decided c e rest true a c).trans (if_pos rfl)
      have hqueued := hgate.queued
      have hshed := hgate.shed
      rw [hself] at hqueued hshed
      rw [hrod, ambRod_decided, Bool.and_true]
      refine ⟨?_, fun k hk => ?_, honly, rfl, rfl, hqueued, hshed⟩
      · rw [hgate.pend, hself]
      · rw [hgate.chans k hk, ch_decided, if_neg hk]
        rfl

end Sys2Proof.Machine
end

section
/-! SUPPORT. What judging the seals that wait leaves as it was (R28 to R30), and the fixing of an FBE's time (R24). -/

namespace Sys2Proof.Machine

/-! ### Judging seals -/

theorem SealsJudged.trans {s u v : State} (h : SealsJudged s u) (g : SealsJudged u v) : SealsJudged s v := by
  unfold SealsJudged at h g ⊢
  rw [h] at g
  exact g

theorem SealsJudged.sch {s u : State} (h : SealsJudged s u) : u.sch = s.sch := by
  unfold SealsJudged at h
  rw [h]
  rfl

theorem LogOnly.sealsJudged {s u : State} (h : LogOnly s u) : SealsJudged s u := by
  unfold LogOnly at h
  unfold SealsJudged
  rw [h]
  rfl

/-- An answer of a mailbox, to the host or in-band, is among what judging a seal may leave. -/
theorem mbDone_sealsJudged (k op result tag : Nat) (p : List Byte) (s : State) : SealsJudged s (mbDone k op result tag p s) := by
  unfold mbDone
  dsimp only
  refine (wrapEv_logOnly (mb s k).completed 1 0x0009 (le 1 2 ++ le 1 k) s).sealsJudged.trans ?_
  generalize wrapEv _ _ _ _ _ = v
  split
  · exact SealsJudged.trans (u := setMb v k _) rfl (attnSet_logOnly ..).sealsJudged
  · rfl

theorem judgeHost_sealsJudged (late : Bool) (first : Nat) (a : Awaiting) (h : Sealed) (s : State) :
    SealsJudged s (judgeHost late first a h s) := by
  cases hk : a.mb with
  | some k =>
    obtain ⟨w, hw, he⟩ := judgeHost_answers late first a h s hk rfl
    rw [he]
    exact (SealsJudged.trans (u := { s with par := sealPlaced late { h with first := first } s.par }) rfl hw.sealsJudged).trans
      (mbDone_sealsJudged ..)
  | none =>
    unfold judgeHost
    rw [hk]
    cases late with
    | false => rfl
    | true => exact SealsJudged.trans (u := { s with par.late := _ }) rfl (logEv_logOnly ..).sealsJudged

theorem judgeSvc_sealsJudged (late : Bool) (first : Nat) (v : SvcSealed) (s : State) : SealsJudged s (judgeSvc late first v s) := by
  cases late with
  | false => rfl
  | true => exact SealsJudged.trans (u := { s with par.svcLate := _ }) rfl (logEv_logOnly ..).sealsJudged

theorem judgeOne_sealsJudged (late : Bool) (a : Awaiting) (s : State) : SealsJudged s (judgeOne late a s) := by
  unfold judgeOne
  cases a.host with
  | none =>
    cases a.svc with
    | none => rfl
    | some v => exact judgeSvc_sealsJudged ..
  | some h =>
    cases a.svc with
    | none => exact judgeHost_sealsJudged ..
    | some v => exact (judgeHost_sealsJudged ..).trans (judgeSvc_sealsJudged ..)

theorem judgeSeals_sealsJudged (s : State) : SealsJudged s (judgeSeals s) := by
  unfold judgeSeals
  split
  · rfl
  · exact foldl_holds (SealsJudged s) (fun u a h => h.trans (judgeOne_sealsJudged _ a u)) _ _ rfl

/-! ### Fixing the FBE -/

/-- From `s` to `u` the strings, their line, the edge placed last and the frame's shots stand: beside the scheduler's counts, its FBE and
judged seals nothing moves. -/
structure ShotsStand (s u : State) : Prop where
  strs       : u.sch.strs = s.sch.strs
  line       : u.sch.line = s.sch.line
  lastEdge   : u.sch.lastEdge = s.sch.lastEdge
  frameShots : u.sch.frameShots = s.sch.frameShots
  only       : SealsJudged { s with sch := u.sch } u

theorem ShotsStand.refl (s : State) : ShotsStand s s := ⟨rfl, rfl, rfl, rfl, rfl⟩

theorem ShotsStand.trans {s u v : State} (h : ShotsStand s u) (g : ShotsStand u v) : ShotsStand s v := by
  refine ⟨g.strs.trans h.strs, g.line.trans h.line, g.lastEdge.trans h.lastEdge, g.frameShots.trans h.frameShots, ?_⟩
  have ho := h.only
  have go := g.only
  unfold SealsJudged at ho go ⊢
  rw [ho] at go
  exact go

theorem ShotsStand.strng {s u : State} (h : ShotsStand s u) (i : Nat) : Machine.strng u i = Machine.strng s i := by
  rw [Machine.strng, h.strs]
  rfl

theorem ShotsStand.twn {s u : State} (h : ShotsStand s u) : u.twn = s.twn := by
  have ho := h.only
  unfold SealsJudged at ho
  rw [ho]
  rfl

theorem SealsJudged.shotsStand {s u : State} (h : SealsJudged s u) : ShotsStand s u := by
  refine ⟨by rw [h.sch], by rw [h.sch], by rw [h.sch], by rw [h.sch], ?_⟩
  rw [h.sch]
  exact h

theorem fixFbe_shotsStand (l : LineRun) (close : Nat) (s : State) : ShotsStand s (fixFbe l close s) := by
  unfold fixFbe
  refine ShotsStand.trans ?_ (judgeSeals_sealsJudged _).shotsStand
  exact ⟨rfl, rfl, rfl, rfl, rfl⟩

theorem fixIfLast_shotsStand (l : LineRun) (s : State) : ShotsStand s (fixIfLast l s) := by
  unfold fixIfLast
  split
  · exact .refl s
  · split
    · exact .refl s
    · exact fixFbe_shotsStand ..

end Sys2Proof.Machine
end

section
/-! SUPPORT. What a slot draws and where its edge is placed (R96, R99, R187, R188, R192, R195). -/

namespace Sys2Proof.Machine

/-! ### The slot -/

/-- What the next slot of string `i` draws (R96, R99). -/
def slotDraw (i : Nat) (s : State) : Strng × Nat := drawSlot s (strng s i) (strng s i).nextSlot

/-- The emitter that the next slot of string `i` selects. -/
def slotEm (i : Nat) (s : State) : Nat := (slotDraw i s).1.perm.getD ((strng s i).nextSlot % 8) 0

/-- The edge of the next slot of string `i` with its dither, before it is moved away from the edge placed last. -/
def slotEdge (l : LineRun) (i : Nat) (s : State) : Nat := nominalEdge s l i (strng s i).nextSlot + (slotDraw i s).2 * 64

/-- The next slot of string `i` fires in a cell: its emitter is selected and present, emission is permitted, the gap between frames is over
and the rate cap lets its cycle pass (R26, R184, R197). -/
def SlotFires (l : LineRun) (i : Nat) (cell : Cell) (s : State) : Prop :=
  bit (cell.masks.getD i 0) (slotEm i s) = true ∧ bit (present s i) (slotEm i s) = true ∧ emitting s = true
    ∧ s.sch.notBefore ≤ slotEdge l i s + sepShift s (slotEdge l i s) * 64 ∧ (strng s i).nextSlot / 8 % s.sch.rdiv = 0

/-- String `i` is now this device's when it owns the head, and the other twin's when it does not (R408). -/
def slotOwned (i : Nat) (s : State) : State :=
  { s with twn.own := if s.twn.owner then s.twn.own ||| 2 ^ i else s.twn.own &&& (65535 - 2 ^ i) }

/-- The device once the slot has been drawn and the string's outputs have been let go (R193, R403). -/
def slotDrawn (i : Nat) (s : State) : State :=
  setStrng (slotOwned i s) i { (slotDraw i s).1 with
    placed := none, shunt := 0, iset := if drivesString (slotOwned i s) i then (slotDraw i s).1.iset else 0 }

/-- A draw moves the string on to its next slot and leaves its current reference. -/
theorem slotDraw_regs (i : Nat) (s : State) :
    (slotDraw i s).1.nextSlot = (strng s i).nextSlot + 1 ∧ (slotDraw i s).1.iset = (strng s i).iset := by
  unfold slotDraw drawSlot
  dsimp only
  split <;> exact ⟨rfl, rfl⟩

theorem drivesString_alone {s : State} (i : Nat) (h : twinMode s = false) : drivesString s i = true := by
  simp [drivesString, h]

theorem strng_slotDrawn (i k : Nat) (s : State) : strng (slotDrawn i s) k = if k = i then { (slotDraw i s).1 with
    placed := none, shunt := 0, iset := if drivesString (slotOwned i s) i then (slotDraw i s).1.iset else 0 } else strng s k :=
  strng_setStrng ..

/-- The first position 15 ns after the edge placed last (R188). -/
theorem sepShift_separates {s : State} {b : Nat} (e0 : Nat) (h : s.sch.lastEdge = some b) : b + 1920 ≤ e0 + sepShift s e0 * 64 := by
  simp only [sepShift, h, cdiv]
  omega

/-! ### The set instant -/

/-- A slot inside the gap between frames is counted (R26). -/
def gapCounted (s : State) : State :=
  wrapEv s.sch.gap 1 0x0509 (le 1 1) { s with sch.gap := s.sch.gap.add 1, sch.gapFr := s.sch.gapFr + 1 }

/-- A slot that the rate cap skips is counted (R197). -/
def rateCounted (s : State) : State := { s with sch.rateSkip := s.sch.rateSkip + 1 }

theorem gapCounted_shotsStand (s : State) : ShotsStand s (gapCounted s) := by
  refine ShotsStand.trans (u := { s with sch.gap := s.sch.gap.add 1, sch.gapFr := s.sch.gapFr + 1 }) ⟨rfl, rfl, rfl, rfl, rfl⟩ ?_
  exact (wrapEv_logOnly ..).sealsJudged.shotsStand

theorem rateCounted_shotsStand (s : State) : ShotsStand s (rateCounted s) := ⟨rfl, rfl, rfl, rfl, rfl⟩

/-- The device once the slot's shot has been placed. -/
def slotPlaced (l : LineRun) (i : Nat) (cell : Cell) (s : State) : State :=
  placeShot i (strng s i).nextSlot (slotEm i s) (cell.codes.getD i 0) (slotEdge l i s) (sepShift s (slotEdge l i s)) (slotDrawn i s)

/-- The shot that the slot places (R187, R192, R195, R316). -/
def slotShot (l : LineRun) (i : Nat) (cell : Cell) (s : State) : Placed :=
  let edge := slotEdge l i s + sepShift s (slotEdge l i s) * 64
  let v := isetOf s i (cell.codes.getD i 0) (slotDraw i s).1.lvl
  { slot := (strng s i).nextSlot, em := slotEm i s, edge := edge, launch := 16 * (edge : Int) - tget 0 s.cal.fire i, iset := v.1
    drive := drivesString (slotOwned i s) i, shift := decide (sepShift s (slotEdge l i s) ≠ 0), capped := v.2 }

theorem strng_slotPlaced (l : LineRun) (i : Nat) (cell : Cell) (k : Nat) (s : State) :
    strng (slotPlaced l i cell s) k = if k = i then { strng (slotDrawn i s) i with
      placed := some (slotShot l i cell s), holdEdge := (slotShot l i cell s).edge
      iset := if (slotShot l i cell s).drive then (slotShot l i cell s).iset else 0
      shunt := if (slotShot l i cell s).drive then 2 ^ (slotShot l i cell s).em else 0 } else strng (slotDrawn i s) k := by
  refine (strng_setStrng ..).trans ?_
  rw [slotShot]
  dsimp only
  have hlvl : (strng (slotDrawn i s) i).lvl = (slotDraw i s).1.lvl := by rw [strng_slotDrawn, if_pos rfl]
  rw [hlvl]
  rfl

section
variable {i : Nat} {l : LineRun} {s : State} (hi : i < 16) (hl : s.sch.line = some l) (hq : (strng s i).nextSlot < l.slots)
  (hc : setCycle s l i (strng s i).nextSlot ≤ coarse s)
include hi hl hq hc

/-- What becomes of the slot, by its cell. -/
theorem setInstant_eq : setInstant i s = match cellAt (lineCells (pvForce s) s.par.inForce.itin l.line) 0 0 0 ((strng s i).nextSlot / 8) with
    | none => fixIfLast l (slotDrawn i s)
    | some (_, cell, _, _) =>
      if (bit (cell.masks.getD i 0) (slotEm i s) && bit (present s i) (slotEm i s)) = false ∨ emitting s = false then fixIfLast l (slotDrawn i s)
      else if slotEdge l i s + sepShift s (slotEdge l i s) * 64 < s.sch.notBefore then fixIfLast l (gapCounted (slotDrawn i s))
      else if (strng s i).nextSlot / 8 % s.sch.rdiv ≠ 0 then fixIfLast l (rateCounted (slotDrawn i s))
      else fixIfLast l (placeShot i (strng s i).nextSlot (slotEm i s) (cell.codes.getD i 0) (slotEdge l i s) (sepShift s (slotEdge l i s))
        (slotDrawn i s)) := by
  unfold setInstant
  rw [hl]
  exact if_neg (by omega)

theorem setInstant_places {ci pt x : Nat} {cell : Cell} (hf : SlotFires l i cell s)
    (hcell : cellAt (lineCells (pvForce s) s.par.inForce.itin l.line) 0 0 0 ((strng s i).nextSlot / 8) = some (ci, cell, pt, x)) :
    setInstant i s = fixIfLast l (slotPlaced l i cell s) := by
  obtain ⟨hsel, hpres, hemit, hgap, hrate⟩ := hf
  rw [setInstant_eq hi hl hq hc, hcell]
  dsimp only
  rw [if_neg (not_or.2 ⟨by rw [hsel, hpres]; decide, by rw [hemit]; decide⟩), if_neg (Nat.not_lt.2 hgap), if_neg (not_not.2 hrate)]
  rfl

/-- A slot that does not fire, or has no cell, is drawn and at most counted. -/
theorem setInstant_passes
    (hf : ∀ ci cell pt x, cellAt (lineCells (pvForce s) s.par.inForce.itin l.line) 0 0 0 ((strng s i).nextSlot / 8) = some (ci, cell, pt, x) →
      ¬ SlotFires l i cell s) : ShotsStand (slotDrawn i s) (setInstant i s) := by
  have hfix := fixIfLast_shotsStand l
  rw [setInstant_eq hi hl hq hc]
  cases hcell : cellAt (lineCells (pvForce s) s.par.inForce.itin l.line) 0 0 0 ((strng s i).nextSlot / 8) with
  | none => exact hfix _
  | some q =>
    obtain ⟨ci, cell, pt, x⟩ := q
    have hno := hf ci cell pt x hcell
    dsimp only
    split
    · exact hfix _
    · next hsel =>
      split
      · exact (gapCounted_shotsStand _).trans (hfix _)
      · next hgap =>
        split
        · exact (rateCounted_shotsStand _).trans (hfix _)
        · next hrate =>
          simp only [not_or, Bool.not_eq_false, Bool.and_eq_true] at hsel
          exact absurd ⟨hsel.1.1, hsel.1.2, hsel.2, Nat.not_lt.1 hgap, not_not.1 hrate⟩ hno

end

/-! ### What every set instant leaves -/

/-- The slot of string `i` has been drawn: its registers have moved, the other strings, the line and the frame's shots stand. -/
structure SlotTaken (i : Nat) (s u : State) : Prop where
  next       : (strng u i).nextSlot = (strng s i).nextSlot + 1
  order      : (strng u i).order = (slotDraw i s).1.order
  dither     : (strng u i).dither = (slotDraw i s).1.dither
  others     : ∀ k, k ≠ i → strng u k = strng s k
  frameShots : u.sch.frameShots = s.sch.frameShots
  line       : u.sch.line = s.sch.line
  only       : SealsJudged { s with sch := u.sch, twn := u.twn } u

theorem slotDrawn_taken (i : Nat) (s : State) : SlotTaken i s (slotDrawn i s) := by
  have hself := (strng_slotDrawn i i s).trans (if_pos rfl)
  refine ⟨?_, by rw [hself], by rw [hself], fun k hk => (strng_slotDrawn ..).trans (if_neg hk), rfl, rfl, rfl⟩
  rw [hself]
  exact (slotDraw_regs i s).1

theorem slotPlaced_taken (l : LineRun) (i : Nat) (cell : Cell) (s : State) : SlotTaken i s (slotPlaced l i cell s) := by
  have h := slotDrawn_taken i s
  have hself := (strng_slotPlaced l i cell i s).trans (if_pos rfl)
  refine ⟨by rw [hself, h.next], by rw [hself, h.order], by rw [hself, h.dither],
    fun k hk => ((strng_slotPlaced ..).trans (if_neg hk)).trans (h.others k hk), rfl, rfl, rfl⟩

theorem SlotTaken.stands {i : Nat} {s u v : State} (h : SlotTaken i s u) (g : ShotsStand u v) : SlotTaken i s v := by
  refine ⟨by rw [g.strng, h.next], by rw [g.strng, h.order], by rw [g.strng, h.dither], fun k hk => (g.strng k).trans (h.others k hk),
    g.frameShots.trans h.frameShots, g.line.trans h.line, ?_⟩
  rw [g.twn]
  have ho := h.only
  have go := g.only
  unfold SealsJudged at ho go ⊢
  rw [ho] at go
  exact go

theorem setInstant_taken {i : Nat} {l : LineRun} {s : State} (hi : i < 16) (hl : s.sch.line = some l) (hq : (strng s i).nextSlot < l.slots)
    (hc : setCycle s l i (strng s i).nextSlot ≤ coarse s) : SlotTaken i s (setInstant i s) := by
  by_cases hf : ∃ ci cell pt x, cellAt (lineCells (pvForce s) s.par.inForce.itin l.line) 0 0 0 ((strng s i).nextSlot / 8) = some (ci, cell, pt, x)
      ∧ SlotFires l i cell s
  · obtain ⟨ci, cell, pt, x, hcell, hf⟩ := hf
    rw [setInstant_places hi hl hq hc hf hcell]
    exact (slotPlaced_taken l i cell s).stands (fixIfLast_shotsStand ..)
  · exact (slotDrawn_taken i s).stands (setInstant_passes hi hl hq hc fun ci cell pt x hcell h => hf ⟨ci, cell, pt, x, hcell, h⟩)

/-! ### O22 -/

/-- Settles O22: the slot is drawn in every case, and its shot is placed where it fires. -/
theorem setInstantPlacesShots : Obligations.SetInstantPlacesShots := by
  unfold Obligations.SetInstantPlacesShots
  intro t i l s ha hi hl a q dr e e0 hq hc
  obtain ⟨hnext, horder, hdither, hothers, hshots, hline, honly⟩ := setInstant_taken (s := a) hi hl hq hc
  refine runs_live rfl ha ⟨hnext, horder, hdither, hothers, hshots, hline, honly, fun ci cell pt x hcell => ?_⟩
  split
  · next hf =>
    have h := fixIfLast_shotsStand l (slotPlaced l i cell a)
    rw [← setInstant_places (s := a) hi hl hq hc hf hcell] at h
    have hself := (h.strng i).trans ((strng_slotPlaced l i cell i a).trans (if_pos rfl))
    rw [hself]
    exact ⟨slotShot l i cell a, rfl, rfl, rfl, rfl, rfl, Nat.min_le_right _ _, h.lastEdge, fun b hb => sepShift_separates (s := a) _ hb, rfl, rfl⟩
  · next hf =>
    have h := setInstant_passes (s := a) hi hl hq hc fun ci' cell' pt' x' hcell' => by
      obtain ⟨⟩ := hcell.symm.trans hcell'
      exact hf
    have hself := (h.strng i).trans ((strng_slotDrawn i i a).trans (if_pos rfl))
    rw [hself]
    refine ⟨rfl, rfl, h.lastEdge, fun ht => ?_⟩
    dsimp only
    rw [drivesString_alone (s := slotOwned i a) i ht, if_pos rfl]
    exact (slotDraw_regs i a).2

end Sys2Proof.Machine
end

section
/-! SUPPORT. What pends an interrupt source keeps pending, and what a loop reaches of each of its elements (R472). -/

namespace Sys2Proof.Machine

/-- What a loop's turn makes true of its own element, and every other turn keeps, holds of each element at the end. -/
theorem foldl_reaches {α β : Type} {m : β → α → Prop} {f : β → α → β} (hself : ∀ b a, m (f b a) a) (hkeep : ∀ b a c, m b c → m (f b a) c)
    {l : List α} {c : α} (hc : c ∈ l) (b : β) : m (l.foldl f b) c := by
  induction l generalizing b with
  | nil => exact absurd hc List.not_mem_nil
  | cons a l ih =>
    rcases List.mem_cons.1 hc with rfl | hl
    · exact foldl_holds (m · c) (fun b a => hkeep b a c) l _ (hself b c)
    · exact ih hl _

theorem icSrc_of_ic {s u : State} (h : u.ic = s.ic) (n : Nat) : icSrc u n = icSrc s n := by
  unfold icSrc
  rw [h]

theorem icSrc_icWake (s : State) (m : Nat) : icSrc (icWake s) m = icSrc s m := by
  unfold icWake
  split <;> rfl

theorem icCount_pending (n m : Nat) (s : State) : (icSrc (icCount n s) m).pending = (icSrc s m).pending := by
  unfold icCount
  dsimp only
  rw [icSrc_setIcSrc]
  split
  · next h => rw [h]
  · rfl

theorem icPend_pending {n m : Nat} {s : State} (h : (icSrc s m).pending = true) : (icSrc (icPend n s) m).pending = true := by
  have hset : ∀ (v : IcSrc) (s : State), v.pending = true → (icSrc s m).pending = true → (icSrc (icLine (setIcSrc s n v)) m).pending = true := by
    intro v s hv hs
    refine (congrArg IcSrc.pending (icSrc_setIcSrc s n m v)).trans ?_
    split
    · exact hv
    · exact hs
  unfold icPend
  dsimp only
  split
  · exact h
  · split <;> exact hset _ _ rfl h

/-- An edge of one source takes no source's pending flag away. -/
theorem irq_keepsPending {n m : Nat} {s : State} (h : (icSrc s m).pending = true) : (icSrc (irq n s) m).pending = true := by
  unfold irq irqNow
  split
  · exact h
  · exact icPend_pending (by rw [icCount_pending, icSrc_icWake, h])

theorem cStopped_awake {s : State} (h : Awake s) : cStopped s = false := by
  simp [cStopped, h.1, h.2]

end Sys2Proof.Machine
end

section
/-! SUPPORT. The ambient engine: publication, intervals, its reads (R81 to R87, R101, R109, R110), and O26. -/

namespace Sys2Proof.Machine

/-! ### What publication and interval starts touch -/

/-- From `s` to `u` the ambient engine has published or measured: beside its figures, the channels and the interrupts nothing moves. -/
def FiguresOnly (s u : State) : Prop :=
  u = { s with
    amb.interval := u.amb.interval, amb.rods := u.amb.rods, amb.pubFrame := u.amb.pubFrame, amb.pubIdx := u.amb.pubIdx
    amb.lcDeck := u.amb.lcDeck, ch := u.ch, ic := u.ic }

theorem FiguresOnly.trans {s u v : State} (h : FiguresOnly s u) (g : FiguresOnly u v) : FiguresOnly s v := by
  unfold FiguresOnly at h g ⊢
  rw [h] at g
  exact g

theorem FiguresOnly.logOnly {s u : State} (h : FiguresOnly s u) : LogOnly { s with amb := u.amb, ch := u.ch, ic := u.ic } u := by
  unfold FiguresOnly at h
  unfold LogOnly
  rw [h]
  rfl

theorem figuresOnly_foldl {α : Type} {f : State → α → State} (h : ∀ s a, FiguresOnly s (f s a)) (l : List α) (s : State) :
    FiguresOnly s (l.foldl f s) :=
  foldl_holds (FiguresOnly s) (fun u a hu => hu.trans (h u a)) l s rfl

theorem figuresOnly_ite {s u : State} (b : Prop) [Decidable b] (h : FiguresOnly s u) : FiguresOnly s (if b then u else s) := by
  split
  · exact h
  · rfl

/-! ### Publication (R85 to R87) -/

/-- Every rod has published. -/
def rodsPublished (iv : Interval) (fs : List (Nat × Nat)) (s : State) : State :=
  (List.range 64).foldl (fun s r => publishRod (iv.idx == 0) ((fs.drop (16 * r)).take 16) ((fs.drop (128 * (r / 8))).take 128) r s) s

/-- The decks below the least count have been counted. -/
def decksCounted (fs : List (Nat × Nat)) (s : State) : State :=
  (List.range 8).foldl (fun u d =>
    if sumN (((fs.drop (128 * d)).take 128).map (·.1)) < par0 s pAmbMinCount then { u with amb.lcDeck := tmod 0 u.amb.lcDeck d (· + 1) } else u) s

/-- A channel's sums of the interval go to its history, and its counts start again (R84). -/
def chanClosed (iv : Interval) (fs : List (Nat × Nat)) (c : Nat) (s : State) : State :=
  let f := fs.getD c (0, 0)
  let x := ch s c
  if x = {} ∧ f.2 = 0 then s else
  setCh s c { x with
    ambA := 0, ambLate := [], offs := x.offs.filter (fun p => decide (s.dev < p.2 + 2 ^ 22))
    hist := ({ frame := iv.frame, line := iv.line, idx := iv.idx, a := f.1, l := f.2 } ::
      (x.hist.take 8 ++ (x.hist.drop 8).filter (histNeeded s c))) }

/-- Every channel's interval is closed. -/
def chansClosed (iv : Interval) (fs : List (Nat × Nat)) (s : State) : State := (List.range 1024).foldl (fun s c => chanClosed iv fs c s) s

/-- The device once an interval's figures are out. -/
def figuresOut (iv : Interval) (s : State) : State :=
  let fs := (List.range 1024).map (chanFigures s iv)
  chansClosed iv fs (decksCounted fs (rodsPublished iv fs s))

/-- The interval is over, and its figures are the published ones. -/
def intervalEnded (iv : Interval) (s : State) : State := { s with amb.interval := none, amb.pubFrame := iv.frame, amb.pubIdx := iv.idx }

theorem publish_eq {s : State} {iv : Interval} (h : s.amb.interval = some iv) : publish s = intervalEnded iv (figuresOut iv s) := by
  unfold publish figuresOut chansClosed
  rw [h]
  generalize List.range 1024 = channels
  exact congrArg (intervalEnded iv) rfl

theorem publishRod_figuresOnly (first : Bool) (own deck : List (Nat × Nat)) (r : Nat) (s : State) :
    FiguresOnly s (publishRod first own deck r s) := by
  unfold publishRod
  dsimp only
  rw [irq_ic]
  rfl

theorem rodsPublished_figuresOnly (iv : Interval) (fs : List (Nat × Nat)) (s : State) : FiguresOnly s (rodsPublished iv fs s) :=
  figuresOnly_foldl (fun _ _ => publishRod_figuresOnly ..) _ s

theorem decksCounted_figuresOnly (fs : List (Nat × Nat)) (s : State) : FiguresOnly s (decksCounted fs s) := by
  unfold decksCounted
  refine figuresOnly_foldl (fun u d => ?_) _ s
  split <;> rfl

theorem chanClosed_figuresOnly (iv : Interval) (fs : List (Nat × Nat)) (c : Nat) (s : State) : FiguresOnly s (chanClosed iv fs c s) := by
  unfold chanClosed
  dsimp only
  split <;> rfl

theorem chansClosed_figuresOnly (iv : Interval) (fs : List (Nat × Nat)) (s : State) : FiguresOnly s (chansClosed iv fs s) := by
  unfold chansClosed
  exact figuresOnly_foldl (fun _ _ => chanClosed_figuresOnly ..) _ s

theorem intervalEnded_figuresOnly (iv : Interval) (s : State) : FiguresOnly s (intervalEnded iv s) := rfl

theorem figuresOut_figuresOnly (iv : Interval) (s : State) : FiguresOnly s (figuresOut iv s) := by
  unfold figuresOut
  exact ((rodsPublished_figuresOnly ..).trans (decksCounted_figuresOnly ..)).trans (chansClosed_figuresOnly ..)

theorem publish_figuresOnly (s : State) : FiguresOnly s (publish s) := by
  cases h : s.amb.interval with
  | none =>
    unfold publish
    rw [h]
    rfl
  | some iv =>
    rw [publish_eq h]
    exact (figuresOut_figuresOnly iv s).trans (intervalEnded_figuresOnly ..)

/-- A closed channel has no counted event left. -/
theorem chanClosed_ambA (iv : Interval) (fs : List (Nat × Nat)) (c : Nat) (s : State) : (ch (chanClosed iv fs c s) c).ambA = 0 := by
  unfold chanClosed
  dsimp only
  split
  · next h => rw [h.1]
  · simp

theorem chanClosed_keeps (iv : Interval) (fs : List (Nat × Nat)) (a c : Nat) (s : State) (h : (ch s c).ambA = 0) :
    (ch (chanClosed iv fs a s) c).ambA = 0 := by
  by_cases hc : c = a
  · rw [hc]
    exact chanClosed_ambA ..
  · unfold chanClosed
    dsimp only
    split
    · exact h
    · rw [ch_setCh, if_neg hc, h]

theorem chansClosed_ambA (iv : Interval) (fs : List (Nat × Nat)) (s : State) {c : Nat} (hc : c < 1024) :
    (ch (chansClosed iv fs s) c).ambA = 0 := by
  unfold chansClosed
  exact foldl_reaches (m := fun u c => (ch u c).ambA = 0) (fun u a => chanClosed_ambA iv fs a u) (fun u a c => chanClosed_keeps iv fs a c u)
    (List.mem_range.2 hc) s

theorem figuresOut_ambA (iv : Interval) (s : State) {c : Nat} (hc : c < 1024) : (ch (figuresOut iv s) c).ambA = 0 := by
  unfold figuresOut
  exact chansClosed_ambA iv _ _ hc

theorem FiguresOnly.cStopped {s u : State} (h : FiguresOnly s u) : Machine.cStopped u = Machine.cStopped s := by
  unfold FiguresOnly at h
  rw [h]
  rfl

theorem decksCounted_ic (fs : List (Nat × Nat)) (s : State) : (decksCounted fs s).ic = s.ic := by
  unfold decksCounted
  refine foldl_keeps State.ic (fun u d => ?_) _ s
  split <;> rfl

theorem chansClosed_ic (iv : Interval) (fs : List (Nat × Nat)) (s : State) : (chansClosed iv fs s).ic = s.ic := by
  unfold chansClosed
  refine foldl_keeps State.ic (fun u c => ?_) _ s
  unfold chanClosed
  dsimp only
  split <;> rfl

/-- A rod that publishes raises its source (R87). -/
theorem rodsPublished_pending (iv : Interval) (fs : List (Nat × Nat)) {s : State} (hs : cStopped s = false) {r : Nat} (hr : r < 64) :
    (icSrc (rodsPublished iv fs s) (105 + r)).pending = true := by
  refine foldl_reaches (m := fun u r => cStopped u = false → (icSrc u (105 + r)).pending = true) (fun u r hu => ?_) (fun u a c h hu => ?_)
    (List.mem_range.2 hr) s ((rodsPublished_figuresOnly iv fs s).cStopped.trans hs)
  · rw [(publishRod_figuresOnly ..).cStopped] at hu
    exact irq_pending _ _ hu
  · rw [(publishRod_figuresOnly ..).cStopped] at hu
    exact irq_keepsPending (h hu)

theorem figuresOut_pending (iv : Interval) {s : State} (hs : cStopped s = false) {r : Nat} (hr : r < 64) :
    (icSrc (figuresOut iv s) (105 + r)).pending = true := by
  have hic : (figuresOut iv s).ic = (rodsPublished iv ((List.range 1024).map (chanFigures s iv)) s).ic :=
    (chansClosed_ic ..).trans (decksCounted_ic ..)
  rw [icSrc_of_ic hic]
  exact rodsPublished_pending iv _ hs hr

theorem ch_intervalEnded (iv : Interval) (s : State) (c : Nat) : ch (intervalEnded iv s) c = ch s c := rfl

theorem icSrc_intervalEnded (iv : Interval) (s : State) (n : Nat) : icSrc (intervalEnded iv s) n = icSrc s n := rfl

/-- The interval ends at the next point start or the close of the line's last window (R81). -/
theorem ambientPublish_ends {s : State} {iv : Interval} (hi : s.amb.interval = some iv)
    (hend : ivEnd s iv ≤ s.dev ∨ s.sch.line = none ∧ iv.close = 0) : ambientPublish s = intervalEnded iv (figuresOut iv s) := by
  unfold ambientPublish
  rw [hi]
  exact (if_pos hend).trans (publish_eq hi)

/-! ### Interval starts (R81, R82) -/

/-- The interval that starts now in a line. -/
def openedInterval (l : LineRun) (s : State) : Interval :=
  { start := s.dev, frame := s.sch.frameNo.val.toNat, line := l.line, idx := s.amb.nextIdx, close := s.sch.lineClose }

theorem FiguresOnly.openedInterval {s u : State} {l : LineRun} (h : FiguresOnly s u) : Machine.openedInterval l u = Machine.openedInterval l s := by
  unfold FiguresOnly at h
  rw [h]
  rfl

theorem FiguresOnly.nextIdx {s u : State} (h : FiguresOnly s u) : u.amb.nextIdx = s.amb.nextIdx := by
  unfold FiguresOnly at h
  rw [h]

theorem FiguresOnly.logOnly_amb {s u : State} (h : FiguresOnly s u) (x : Amb) :
    LogOnly { s with amb := x, ch := u.ch, ic := u.ic } { u with amb := x } := by
  unfold FiguresOnly at h
  unfold LogOnly
  rw [h]
  rfl

/-- A due point start publishes the open interval, sets the channels' regions and the rods' cells, and opens the next. -/
theorem intervalStart_opens {s : State} {l : LineRun} {c : Nat} (hl : s.sch.line = some l) (hp : pointStartCycle s l s.amb.nextIdx = some c)
    (hc : c ≤ coarse s) :
    ∃ w, FiguresOnly s w ∧ intervalStart s = { w with amb.interval := some (openedInterval l w), amb.nextIdx := w.amb.nextIdx + 1 } := by
  unfold intervalStart
  rw [hl]
  dsimp only
  rw [hp]
  dsimp only
  rw [if_neg (Nat.not_lt.2 hc)]
  refine ⟨_, ?_, rfl⟩
  generalize hu : List.foldl _ (publish s) (publish s).ext.last = u
  have hregions : FiguresOnly s u := by
    rw [← hu]
    refine (publish_figuresOnly s).trans (figuresOnly_foldl (fun _ _ => ?_) _ _)
    rfl
  refine hregions.trans ?_
  split
  · refine figuresOnly_foldl (fun _ _ => ?_) _ u
    exact figuresOnly_ite _ rfl
  · rfl

/-! ### The reads (R101, R109, R110) -/

theorem exec_ambientRead (t : Nat) (r : Req) (s : State) :
    exec (.ambientRead t r) s = .next (command { op := 0x0210 } (lenEq 4) ambientReadBody t r s) := rfl
theorem exec_passportRead (t : Nat) (r : Req) (s : State) :
    exec (.passportRead t r) s = .next (command { op := 0x0211 } (lenEq 8) passportReadBody t r s) := rfl

/-- The published figures of a deck's rods as AMBIENT_READ answers them. -/
def ambientAnswer (r : Req) (s : State) : List Byte :=
  le 1 (fld r.payload 0 1) ++ zeros 3 ++ le 4 s.amb.pubFrame ++ le 2 s.amb.pubIdx ++ le 2 0 ++
    (List.range 8).flatMap (fun i =>
      let x := ambRod s (8 * fld r.payload 0 1 + i)
      le 4 x.lam ++ le 2 x.disp ++ le 2 (b2n x.fb + 2 * b2n x.lc) ++ le 8 x.rejects)

theorem length_ambientAnswer (r : Req) (s : State) : (ambientAnswer r s).length = 140 := by
  simp [ambientAnswer]

theorem ambientAnswer_started (op t : Nat) (r : Req) (s : State) : ambientAnswer r (started op t r s) = ambientAnswer r s := by
  rw [started_eq]
  rfl

theorem ambientReadBody_done (op : Nat) {r : Req} {s : State} (hd : fld r.payload 0 1 ≤ 7) (hz : allZero (r.payload.drop 1) = true) :
    ambientReadBody op r s = .done rOK (ambientAnswer r s) s :=
  if_neg (not_or.2 ⟨Nat.not_lt.2 hd, by rw [hz]; decide⟩)

/-- The frame whose seeds PASSPORT_READ asks for: the running one, or one by its number. -/
def askedFrame (r : Req) (s : State) : Nat := if fld r.payload 4 4 = 0xFFFFFFFF then s.sch.frameNo.val.toNat else fld r.payload 4 4

/-- What stands ahead of the seeds in PASSPORT_READ's answer. -/
def passportHead (r : Req) (s : State) : List Byte :=
  le 1 (fld r.payload 0 1) ++ le 1 (par0 s pPassportFamily) ++ le 1 (seedInForce s).1 ++ le 1 0 ++ le 4 (askedFrame r s) ++ le 2 (seedInForce s).2 ++ le 2 0

/-- The seed word and the seeds of a string and frame (R101) as PASSPORT_READ answers them. -/
def passportAnswer (r : Req) (s : State) : List Byte :=
  let n := seedInForce s
  let q := seeds n.1 (par0 s pPassportFamily) n.2 (fld r.payload 0 1) (askedFrame r s)
  passportHead r s ++ le 4 (seedX n.1 (par0 s pPassportFamily) (fld r.payload 0 1) (askedFrame r s)) ++ le 4 q.1 ++ le 4 q.2

theorem length_passportHead (r : Req) (s : State) : (passportHead r s).length = 12 := by
  simp [passportHead]

theorem length_passportAnswer (r : Req) (s : State) : (passportAnswer r s).length = 24 := by
  simp [passportAnswer, length_passportHead]

theorem passportAnswer_started (op t : Nat) (r : Req) (s : State) : passportAnswer r (started op t r s) = passportAnswer r s := by
  rw [started_eq]
  rfl

theorem passportReadBody_done (op : Nat) {r : Req} {s : State} (hi : fld r.payload 0 1 ≤ 15)
    (hz : allZero ((r.payload.drop 1).take 3) = true) : passportReadBody op r s = .done rOK (passportAnswer r s) s :=
  (if_neg (Nat.not_lt.2 hi)).trans (if_neg (by rw [hz]; decide))

/-! ### O26 -/

/-- Settles O26: the reads answer with what stands, and the interval's start and end by what publication leaves. -/
theorem ambientRuns : Obligations.AmbientRuns := by
  unfold Obligations.AmbientRuns
  refine ⟨?_, ?_, ?_, ?_⟩
  · intro t r s h hlen hd hz
    refine completesOk_of_done h (exec_of_body h (exec_ambientRead t r s) (by omega) (by simp [lenEq, hlen]) (ambientReadBody_done _ hd hz)) ?_
      (by rw [length_ambientAnswer]; decide)
    exact ambientAnswer_started ..
  · intro t r s h hlen hi hz i f n q
    refine completesOk_of_done h (exec_of_body h (exec_passportRead t r s) (by omega) (by simp [lenEq, hlen]) (passportReadBody_done _ hi hz)) ?_
      (by rw [length_passportAnswer]; decide)
    rw [passportAnswer_started]
    exact ⟨rfl, rfl, rfl, rfl⟩
  · intro t c l s ha hl hp hc
    refine runs_live rfl ha ?_
    obtain ⟨w, hw, he⟩ := intervalStart_opens (s := advance t s) hl hp hc
    rw [he]
    exact ⟨hw.logOnly_amb _, congrArg some hw.openedInterval, congrArg (· + 1) hw.nextIdx⟩
  · intro t iv s ha hi hend
    refine runs_live rfl ha ?_
    rw [ambientPublish_ends (s := advance t s) hi hend]
    refine ⟨((figuresOut_figuresOnly ..).trans (intervalEnded_figuresOnly ..)).logOnly, rfl, rfl, rfl, fun c hc => ?_, fun r hr => ?_⟩
    · rw [ch_intervalEnded]
      exact figuresOut_ambA iv _ hc
    · rw [icSrc_intervalEnded]
      exact figuresOut_pending iv (cStopped_awake (s := advance t s) ha) hr

end Sys2Proof.Machine
end

section
/-! SUPPORT. The counters, the stack status and the templates (R139, R140, R151, R171, R172), and O27. -/

namespace Sys2Proof.Machine

/-! ### Effects on the engines beside an open request -/

theorem DeskOnly.withTal {k : Nat} {s u : State} (h : DeskOnly k s u) (x : Tally) :
    DeskOnly k { s with tal := x } { u with tal := x } := by
  obtain ⟨hu, hm⟩ := h
  refine ⟨?_, hm⟩
  rw [hu]
  rfl

theorem DeskOnly.withExt {k : Nat} {s u : State} (h : DeskOnly k s u) (x : Ext) :
    DeskOnly k { s with ext := x } { u with ext := x } := by
  obtain ⟨hu, hm⟩ := h
  refine ⟨?_, hm⟩
  rw [hu]
  rfl

@[simp] theorem started_tal (op t : Nat) (r : Req) (s : State) : (started op t r s).tal = s.tal := by rw [started_eq]
@[simp] theorem started_ext (op t : Nat) (r : Req) (s : State) : (started op t r s).ext = s.ext := by rw [started_eq]

theorem exec_tallyCountersRead (t : Nat) (r : Req) (s : State) :
    exec (.tallyCountersRead t r) s = .next (command { op := 0x0310 } (lenEq 4) tallyCountersBody t r s) := rfl
theorem exec_stackStatusRead (t : Nat) (r : Req) (s : State) :
    exec (.stackStatusRead t r) s = .next (command { op := 0x0311 } (lenEq 4) stackStatusBody t r s) := rfl
theorem exec_templateWrite (t : Nat) (r : Req) (s : State) :
    exec (.templateWrite t r) s = .next (command { op := 0x0410 } (lenEq 20) templateWriteBody t r s) := rfl
theorem exec_extCountersRead (t : Nat) (r : Req) (s : State) :
    exec (.extCountersRead t r) s = .next (command { op := 0x0411 } (lenEq 4) extCountersBody t r s) := rfl

/-! ### TALLY_COUNTERS_READ (R139) -/

/-- A rod's counters and wrap bits cleared as bits 0 and 1 of a request's second byte ask. -/
def TalRod.cleared (x : TalRod) (r : Req) : TalRod :=
  let a := bit (fld r.payload 1 1) 0
  let b := bit (fld r.payload 1 1) 1
  { x with
    closed := if a then 0 else x.closed, incs := if a then 0 else x.incs, mergedC := x.mergedC.clear a b
    dropped := x.dropped.clear a b, satPages := x.satPages.clear a b, empty := x.empty.clear a b }

/-- A rod's counters in the order of R139's table. -/
def TalRod.counters (x : TalRod) : List Byte :=
  le 8 x.closed ++ le 8 x.incs ++ le 4 x.mergedC.val.toNat ++ le 4 x.dropped.val.toNat ++ le 4 x.satPages.val.toNat ++ le 4 x.empty.val.toNat

theorem TalRod.length_counters (x : TalRod) : x.counters.length = 32 := by
  simp [TalRod.counters]

theorem tallyCountersBody_done (op : Nat) {r : Req} {s : State} (hn : fld r.payload 0 1 ≤ 63) (hc : fld r.payload 1 1 < 4)
    (hz : fld r.payload 2 2 = 0) :
    ∃ held flags, tallyCountersBody op r s = .done rOK
      (le 1 (fld r.payload 0 1) ++ (le 1 held ++ le 2 flags ++ (talRod s (fld r.payload 0 1)).counters))
      (setTalRod s (fld r.payload 0 1) ((talRod s (fld r.payload 0 1)).cleared r)) := by
  unfold tallyCountersBody
  dsimp only
  rw [if_neg (by simp [clearOk]; omega)]
  exact ⟨_, _, by simp only [TalRod.counters, List.append_assoc]; rfl⟩

theorem tallyCountersRead_completes {t : Nat} {r : Req} {s : State} (h : Ready r s) (hlen : r.payload.length = 4)
    (hn : fld r.payload 0 1 ≤ 63) (hc : fld r.payload 1 1 < 4) (hz : fld r.payload 2 2 = 0) :
    CompletesOk (.tallyCountersRead t r) r 0x0310 s
      (setTalRod (advance t s) (fld r.payload 0 1) ((talRod s (fld r.payload 0 1)).cleared r))
      (fun p => p.take 1 = le 1 (fld r.payload 0 1) ∧ p.drop 4 = (talRod s (fld r.payload 0 1)).counters) := by
  obtain ⟨held, flags, hb⟩ := tallyCountersBody_done 0x0310 (s := started 0x0310 t r s) hn hc hz
  simp only [talRod, setTalRod, started_tal] at hb
  refine completesOk_of_effect (exec_of_body h (exec_tallyCountersRead t r s) (by omega) (by simp [lenEq, hlen]) hb)
    (started_origin ..) ((started_deskOnly 0x0310 t r s h.2.2.2.2.2).withTal _) ⟨rfl, rfl⟩ ?_
  simp [TalRod.length_counters]

/-! ### STACK_STATUS_READ (R140) -/

/-- A deck's figures of the last frame in the order of R140's table. -/
def stackFigures (r : Req) (x : TalDeck) : List Byte :=
  le 1 (fld r.payload 0 1) ++ zeros 3 ++ le 4 x.lFrame ++ le 8 x.lAllow ++ le 8 x.lCharged ++ le 4 x.lAdmitted ++ le 4 x.lRefused
    ++ le 4 x.lExported

theorem length_stackFigures (r : Req) (x : TalDeck) : (stackFigures r x).length = 36 := by
  simp [stackFigures]

theorem stackStatusBody_done (op : Nat) {r : Req} {s : State} (hd : fld r.payload 0 1 ≤ 7) (hz : allZero (r.payload.drop 1) = true) :
    ∃ n c, stackStatusBody op r s = .done rOK (stackFigures r (talDeck s (fld r.payload 0 1)) ++ (le 4 n ++ le 4 c ++ le 4 0)) s := by
  unfold stackStatusBody
  dsimp only
  rw [if_neg (not_or.2 ⟨Nat.not_lt.2 hd, by rw [hz]; decide⟩)]
  exact ⟨_, _, by simp only [stackFigures, List.append_assoc]; rfl⟩

theorem stackStatusRead_completes {t : Nat} {r : Req} {s : State} (h : Ready r s) (hlen : r.payload.length = 4)
    (hd : fld r.payload 0 1 ≤ 7) (hz : allZero (r.payload.drop 1) = true) :
    CompletesOk (.stackStatusRead t r) r 0x0311 s (advance t s)
      (fun p => p.length = 48 ∧ p.take 36 = stackFigures r (talDeck s (fld r.payload 0 1))) := by
  obtain ⟨n, c, hb⟩ := stackStatusBody_done 0x0311 (s := started 0x0311 t r s) hd hz
  simp only [talDeck, started_tal] at hb
  refine completesOk_of_done h (exec_of_body h (exec_stackStatusRead t r s) (by omega) (by simp [lenEq, hlen]) hb) ⟨?_, ?_⟩ ?_
  · simp [length_stackFigures]
  · exact List.take_left' (length_stackFigures ..)
  · simp [length_stackFigures]

/-! ### TEMPLATE_WRITE (R151, R171) -/

/-- The template that a request carries. -/
def reqTmpl (r : Req) : Tmpl :=
  { taps := (List.range (fld r.payload 1 1)).map (fun i => fld r.payload (4 + i) 1), anchor := fld r.payload 2 1 }

/-- The shadow's templates with the request's, which is left out where it is the built-in one. -/
def tmplStored (r : Req) (m : Tab (Option Tmpl)) : Tab (Option Tmpl) :=
  tput none m (fld r.payload 0 1) (if reqTmpl r = bootTmpl (fld r.payload 0 1) then none else some (reqTmpl r))

/-- What TEMPLATE_WRITE answers of the template it took. -/
def tmplAnswer (r : Req) : List Byte :=
  le 1 (fld r.payload 0 1) ++ le 1 (tmplHalf (reqTmpl r)) ++ le 2 (tmplGamma (reqTmpl r)) ++ le 2 (sumN (reqTmpl r).taps) ++ le 2 0

theorem templateWriteBody_done (op : Nat) {r : Req} {s : State} (hk : fld r.payload 0 1 ≤ 3) (h1 : 1 ≤ fld r.payload 1 1)
    (h16 : fld r.payload 1 1 ≤ 16) (ha : (reqTmpl r).anchor < fld r.payload 1 1) (h3 : fld r.payload 3 1 = 0)
    (hz : allZero (r.payload.drop (4 + fld r.payload 1 1)) = true) (hs : 0 < sumN (reqTmpl r).taps) :
    templateWriteBody op r s = .done rOK (tmplAnswer r) { s with par.shadow.tmpl := tmplStored r s.par.shadow.tmpl } := by
  have ha : fld r.payload 2 1 < fld r.payload 1 1 := ha
  refine if_neg ?_
  rintro (g | g | g | g | g | g | g)
  · omega
  · omega
  · omega
  · omega
  · exact g h3
  · exact absurd (hz.symm.trans g) (by decide)
  · exact absurd g (Nat.ne_of_gt hs)

theorem templateWrite_completes {t : Nat} {r : Req} {s : State} (h : Ready r s) (hlen : r.payload.length = 20)
    (hk : fld r.payload 0 1 ≤ 3) (h1 : 1 ≤ fld r.payload 1 1) (h16 : fld r.payload 1 1 ≤ 16)
    (ha : (reqTmpl r).anchor < fld r.payload 1 1) (h3 : fld r.payload 3 1 = 0)
    (hz : allZero (r.payload.drop (4 + fld r.payload 1 1)) = true) (hs : 0 < sumN (reqTmpl r).taps) :
    CompletesOk (.templateWrite t r) r 0x0410 s { advance t s with par.shadow.tmpl := tmplStored r s.par.shadow.tmpl }
      (fun p => p = tmplAnswer r) := by
  have hb := templateWriteBody_done 0x0410 (s := started 0x0410 t r s) hk h1 h16 ha h3 hz hs
  simp only [started_par] at hb
  refine completesOk_of_effect (exec_of_body h (exec_templateWrite t r s) (by omega) (by simp [lenEq, hlen]) hb)
    (started_origin ..) ((started_deskOnly 0x0410 t r s h.2.2.2.2.2).withPar _) rfl ?_
  simp [tmplAnswer]

/-! ### EXT_COUNTERS_READ (R172) -/

/-- A deck's counters and wrap bits cleared as bits 0 and 1 of a request's second byte ask. -/
def ExtDeck.cleared (x : ExtDeck) (r : Req) : ExtDeck :=
  let a := bit (fld r.payload 1 1) 0
  let b := bit (fld r.payload 1 1) 1
  { x with
    served := if a then 0 else x.served, reported := if a then 0 else x.reported, peak := if a then 0 else x.peak
    suppr := x.suppr.clear a b, candDrop := x.candDrop.clear a b, holds := x.holds.clear a b
    discarded := x.discarded.clear a b, pileup := x.pileup.clear a b }

/-- A deck's counters in the order of R172's table. -/
def ExtDeck.counters (x : ExtDeck) : List Byte :=
  le 8 x.served ++ le 8 x.reported ++ le 4 x.suppr.val.toNat ++ le 4 x.candDrop.val.toNat ++ le 4 x.holds.val.toNat
    ++ le 4 x.discarded.val.toNat ++ le 4 x.pileup.val.toNat

theorem ExtDeck.length_counters (x : ExtDeck) : x.counters.length = 36 := by
  simp [ExtDeck.counters]

theorem extCountersBody_done (op : Nat) {r : Req} {s : State} (hd : fld r.payload 0 1 ≤ 7) (hc : fld r.payload 1 1 < 4)
    (hz : fld r.payload 2 2 = 0) :
    ∃ flags, extCountersBody op r s = .done rOK
      (le 1 (fld r.payload 0 1) ++ le 1 (extDeck s (fld r.payload 0 1)).peak ++ (le 2 flags ++ (extDeck s (fld r.payload 0 1)).counters))
      (setExtDeck s (fld r.payload 0 1) ((extDeck s (fld r.payload 0 1)).cleared r)) := by
  unfold extCountersBody
  dsimp only
  rw [if_neg (by simp [clearOk]; omega)]
  exact ⟨_, by simp only [ExtDeck.counters, List.append_assoc]; rfl⟩

theorem extCountersRead_completes {t : Nat} {r : Req} {s : State} (h : Ready r s) (hlen : r.payload.length = 4)
    (hd : fld r.payload 0 1 ≤ 7) (hc : fld r.payload 1 1 < 4) (hz : fld r.payload 2 2 = 0) :
    CompletesOk (.extCountersRead t r) r 0x0411 s
      (setExtDeck (advance t s) (fld r.payload 0 1) ((extDeck s (fld r.payload 0 1)).cleared r))
      (fun p => p.take 2 = le 1 (fld r.payload 0 1) ++ le 1 (extDeck s (fld r.payload 0 1)).peak
        ∧ p.drop 4 = (extDeck s (fld r.payload 0 1)).counters) := by
  obtain ⟨flags, hb⟩ := extCountersBody_done 0x0411 (s := started 0x0411 t r s) hd hc hz
  simp only [extDeck, setExtDeck, started_ext] at hb
  refine completesOk_of_effect (exec_of_body h (exec_extCountersRead t r s) (by omega) (by simp [lenEq, hlen]) hb)
    (started_origin ..) ((started_deskOnly 0x0411 t r s h.2.2.2.2.2).withExt _) ⟨rfl, rfl⟩ ?_
  simp [ExtDeck.length_counters]

/-- Settles O27: a clause per command. -/
theorem tallyCommandsComplete : Obligations.TallyCommandsComplete := by
  unfold Obligations.TallyCommandsComplete
  exact ⟨fun t r s h hlen hn hc hz => tallyCountersRead_completes h hlen hn hc hz,
    fun t r s h hlen hd hz => stackStatusRead_completes h hlen hd hz,
    fun t r s h hlen hk h1 h16 ha h3 hz hs => templateWrite_completes h hlen hk h1 h16 ha h3 hz hs,
    fun t r s h hlen hd hc hz => extCountersRead_completes h hlen hd hc hz⟩

end Sys2Proof.Machine
end

section
/-! SUPPORT. The scout and the replay of held fine parts (R116, R127, R128). -/

namespace Sys2Proof.Machine

/-! ### A run starts (R128) -/

theorem scoutStart_starts {s : State} {rod k : Nat} (hr : (talRod s rod).run = none) (hk : scoutNext s rod = some k) :
    scoutStart rod s = setTalRod (setPage s k { page s k with scout := 2 }) rod { talRod s rod with run := some (k, s.dev) } := by
  unfold scoutStart
  dsimp only
  rw [hr, hk]

/-! ### A run ends (R127, R128) -/

/-- At most four windows are placed (R116). -/
theorem length_placeAll (f : Nat) (l : List Nat) {acc : List Nat} (h : acc.length ≤ 4) : (placeAll f l acc).length ≤ 4 := by
  induction l generalizing acc with
  | nil => exact h
  | cons st l ih =>
    unfold placeAll
    split
    · next hroom =>
      refine ih ?_
      rw [List.length_append, List.length_singleton]
      exact hroom.1
    · exact ih h

/-- The windows that a rod's run places on page `k`. -/
def foundWindows (rod k : Nat) (s : State) : List Nat :=
  let g := page s k
  let w := gPar s g.d.gen pChRangeWindow 0
  let nb := coarseBins w g.d.b g.d.o
  if nb = 0 then [] else scoutWindows w nb (gPar s g.d.gen pTallyScoutMin rod) (gPar s g.d.gen pTallyScoutK rod) g

theorem length_foundWindows (rod k : Nat) (s : State) : (foundWindows rod k s).length ≤ 4 := by
  unfold foundWindows
  dsimp only
  split
  · exact Nat.zero_le 4
  · exact length_placeAll _ _ (Nat.zero_le 4)

/-- The run's page with its windows `win`, the rod without a run, a run without a window counted (R139). -/
def scouted (rod k : Nat) (win : List Nat) (s : State) : State :=
  setTalRod (setPage s k { page s k with scout := 3, d := { (page s k).d with win := win } }) rod { talRod s rod with
    run := none, empty := if win = [] then (talRod s rod).empty.add 1 else (talRod s rod).empty }

theorem scoutEnd_eq {s : State} {rod k b : Nat} (hr : (talRod s rod).run = some (k, b)) (hb : b + 80 * tNs ≤ s.dev) :
    scoutEnd rod s = if foundWindows rod k s = []
      then wrapEv (talRod s rod).empty 1 0x0306 (le 1 rod ++ le 1 4) (scouted rod k (foundWindows rod k s) s)
      else scouted rod k (foundWindows rod k s) s := by
  unfold scoutEnd
  dsimp only
  rw [hr]
  exact if_neg (Nat.not_lt.2 hb)

theorem scoutEnd_ends {s : State} {rod k b : Nat} (hr : (talRod s rod).run = some (k, b)) (hb : b + 80 * tNs ≤ s.dev) :
    LogOnly (scouted rod k (foundWindows rod k s) s) (scoutEnd rod s) := by
  rw [scoutEnd_eq hr hb]
  split
  · exact wrapEv_logOnly ..
  · rfl

theorem scouted_talOnly (rod k : Nat) (win : List Nat) (s : State) : TalOnly s (scouted rod k win s) := rfl

theorem talRod_scouted (rod k : Nat) (win : List Nat) (s : State) : talRod (scouted rod k win s) rod = { talRod s rod with
    run := none, empty := if win = [] then (talRod s rod).empty.add 1 else (talRod s rod).empty } :=
  (talRod_setTalRod ..).trans (if_pos rfl)

theorem page_scouted (rod k j : Nat) (win : List Nat) (s : State) : page (scouted rod k win s) j
    = if j = k then { page s k with scout := 3, d := { (page s k).d with win := win } } else page s j :=
  page_setPage ..

/-! ### Held fine parts are replayed (R128) -/

/-- The fine bins that replayed parts raise. -/
def replayCount (s : State) (l : List FineHold) (k j : Nat) : Nat :=
  (l.filter (fun h => h.page == k && fineAt (page s k).d h.delta == some j)).length

theorem replayCount_cons (s : State) (h : FineHold) (l : List FineHold) (k j : Nat) :
    replayCount s (h :: l) k j = (if k = h.page ∧ fineAt (page s h.page).d h.delta = some j then 1 else 0) + replayCount s l k j := by
  unfold replayCount
  rw [length_filter_cons]
  congr 1
  refine if_congr ?_ rfl rfl
  simp only [Bool.and_eq_true, beq_iff_eq]
  constructor
  · rintro ⟨rfl, hj⟩
    exact ⟨rfl, hj⟩
  · rintro ⟨rfl, hj⟩
    exact ⟨rfl, hj⟩

theorem Filled.replayCount {rod n : Nat} {co fi : Nat → Nat → Nat} {a : List FineHold} {s u : State} (h : Filled rod n co fi a s u)
    (l : List FineHold) (k j : Nat) : replayCount u l k j = Machine.replayCount s l k j := by
  simp only [Machine.replayCount, h.fineAt_eq]

theorem fineParts_filled (rod : Nat) (l : List FineHold) (s : State) :
    Filled rod 0 noBin (replayCount s l) [] s (l.foldl (fun s h => finePart h.page h.delta s) s) := by
  induction l generalizing s with
  | nil => exact .refl rod s
  | cons h l ih =>
    have h1 := finePart_filled rod h.page h.delta s
    refine (h1.trans (ih (finePart h.page h.delta s))).congr (fun _ _ => rfl) (fun k j => ?_)
    rw [h1.replayCount, replayCount_cons]

/-- The held parts whose page's run has finished. -/
def replayDue (rod : Nat) (s : State) : List FineHold :=
  (talRod s rod).hold.filter (fun h => (page s h.page).scout != 1 && (page s h.page).scout != 2)

/-- The rod's store keeps the parts whose page's run is due or running. -/
def holdKept (rod : Nat) (s : State) : State :=
  setTalRod s rod { talRod s rod with
    hold := (talRod s rod).hold.filter (fun h => (page s h.page).scout == 1 || (page s h.page).scout == 2) }

theorem fineReplay_eq (rod : Nat) (s : State) :
    fineReplay rod s = (replayDue rod s).foldl (fun s h => finePart h.page h.delta s) (holdKept rod s) := by
  have hd : replayDue rod s = (talRod s rod).hold.filter (fun h => (page s h.page).scout ≠ 1 && (page s h.page).scout ≠ 2) :=
    List.filter_congr (fun h _ => by simp only [bne, ne_eq, decide_not]; rfl)
  rw [hd]
  rfl

theorem fineReplay_filled (rod : Nat) (s : State) :
    Filled rod 0 noBin (replayCount s (replayDue rod s)) [] (holdKept rod s) (fineReplay rod s) := by
  rw [fineReplay_eq]
  exact fineParts_filled rod (replayDue rod s) (holdKept rod s)

theorem coarse_markSat (k j : Nat) (s : State) : (page (markSat k s) j).coarse = (page s j).coarse := by
  unfold markSat
  dsimp only
  split
  · rfl
  · rw [(wrapEv_logOnly ..).page, page_setTalRod]
    by_cases h : j = k <;> simp [h]

/-- A fine part leaves the coarse bins alone. -/
theorem coarse_finePart (k delta j : Nat) (s : State) : (page (finePart k delta s) j).coarse = (page s j).coarse := by
  unfold finePart
  dsimp only
  split
  · rfl
  · next i _ =>
    have hset : (page (setPage s k { page s k with fine := (raise 16383 (page s k).fine i).1 }) j).coarse = (page s j).coarse := by
      by_cases h : j = k <;> simp [h]
    split
    · exact (coarse_markSat ..).trans hset
    · exact hset

theorem coarse_fineReplay (rod j : Nat) (s : State) : (page (fineReplay rod s) j).coarse = (page s j).coarse := by
  rw [fineReplay_eq]
  exact foldl_keeps (fun u => (page u j).coarse) (fun u (h : FineHold) => coarse_finePart h.page h.delta j u) _ _

/-- A replay changes a page in its fine bins and its saturation mark alone. -/
theorem page_fineReplay (rod k : Nat) (s : State) : page (fineReplay rod s) k
    = { page s k with fine := (page (fineReplay rod s) k).fine, d.sat := (page (fineReplay rod s) k).d.sat } := by
  have h := (fineReplay_filled rod s).pages k
  rw [coarse_fineReplay] at h
  exact h

theorem hold_fineReplay (rod : Nat) (s : State) : (talRod (fineReplay rod s) rod).hold
    = (talRod s rod).hold.filter (fun h => (page s h.page).scout == 1 || (page s h.page).scout == 2) := by
  rw [(fineReplay_filled rod s).hold, List.append_nil]
  exact congrArg TalRod.hold ((talRod_setTalRod ..).trans (if_pos rfl))

end Sys2Proof.Machine
end

section
/-! SUPPORT. The assembler takes a deck's records (R18, R335, R337, R359, R361, R414, R415). -/

namespace Sys2Proof.Machine

/-- `u` differs from `s` in time, the event log, the stream, the segments with it and the count of late keys alone. -/
def AssemblyOnly (s u : State) : Prop := LogOnly { s with nk.segs := u.nk.segs, str := u.str, twn.lateC := u.twn.lateC } u

theorem AssemblyOnly.trans {s u v : State} (h : AssemblyOnly s u) (g : AssemblyOnly u v) : AssemblyOnly s v := by
  unfold AssemblyOnly LogOnly at h g ⊢
  rw [h] at g
  exact g

theorem AssemblyOnly.tal {s u : State} (h : AssemblyOnly s u) : u.tal = s.tal :=
  LogOnly.tal (s := { s with nk.segs := u.nk.segs, str := u.str, twn.lateC := u.twn.lateC }) h

theorem StreamOnly.assemblyOnly {s u : State} (h : StreamOnly s u) : AssemblyOnly s u := by
  unfold StreamOnly LogOnly at h
  unfold AssemblyOnly LogOnly
  rw [h]
  rfl

theorem LogOnly.assemblyOnly {s u : State} (h : LogOnly s u) : AssemblyOnly s u := h.streamOnly.assemblyOnly

theorem assemblyOnly_foldl {α : Type} {f : State → α → State} (h : ∀ s a, AssemblyOnly s (f s a)) (l : List α) (s : State) :
    AssemblyOnly s (l.foldl f s) :=
  foldl_holds (AssemblyOnly s) (fun u a hu => hu.trans (h u a)) l s rfl

/-! ### Frames are closed and discarded (R335, R358, R359) -/

theorem setPath_assemblyOnly (s : State) (q : Nat) (v : Path) : AssemblyOnly s (setPath s q v) := rfl
theorem setQueue_assemblyOnly (s : State) (q cls : Nat) (v : Queue) : AssemblyOnly s (setQueue s q cls v) := rfl

theorem segBack_assemblyOnly (newest : Bool) (f : BFrame) (s : State) : AssemblyOnly s (segBack newest f s) := by
  rw [segBack_segs]
  rfl

theorem shedFrame_assemblyOnly (q : Nat) (f : BFrame) (s : State) : AssemblyOnly s (shedFrame q f s) := by
  refine AssemblyOnly.trans ?_ (assemblyOnly_foldl (fun s k => (setPath_assemblyOnly ..).trans (wrapEv_logOnly ..).assemblyOnly) _ _)
  exact (setQueue_assemblyOnly ..).trans ((segBack_assemblyOnly ..).trans (setPath_assemblyOnly ..))

theorem enqueueFrame_assemblyOnly (q : Nat) (f : BFrame) (s : State) : AssemblyOnly s (enqueueFrame q f s) := by
  unfold enqueueFrame
  refine (setPath_assemblyOnly s q { path s q with offered := (path s q).offered + f.charged }).trans ?_
  generalize setPath s q { path s q with offered := (path s q).offered + f.charged } = u
  dsimp only
  split
  · exact shedFrame_assemblyOnly ..
  · split
    · exact (setQueue_assemblyOnly ..).trans (shedFrame_assemblyOnly ..)
    · exact setQueue_assemblyOnly ..

theorem closeFrame_assemblyOnly (o : OpenF) (s : State) : AssemblyOnly s (closeFrame o s) := by
  unfold closeFrame
  exact AssemblyOnly.trans (u := { s with str.opens := s.str.opens.filter (fun x => x ≠ o) }) rfl (enqueueFrame_assemblyOnly ..)

theorem closeAll_assemblyOnly (p : OpenF → Bool) (s : State) : AssemblyOnly s (closeAll p s) :=
  assemblyOnly_foldl (fun s o => closeFrame_assemblyOnly o s) _ s

/-! ### Records enter open frames (R335, R361, R414, R415) -/

theorem opens_assemblyOnly (l : List OpenF) (s : State) : AssemblyOnly s { s with str.opens := l } := rfl

theorem addOwn_assemblyOnly (r : Rec) (s : State) : AssemblyOnly s (addOwn r s) := by
  unfold addOwn
  dsimp only
  split
  · exact (closeAll_assemblyOnly ..).trans (opens_assemblyOnly ..)
  · exact (closeAll_assemblyOnly ..).trans (opens_assemblyOnly ..)

theorem lateKey_assemblyOnly (r : Rec) (s : State) : AssemblyOnly s (lateKey r s) := by
  unfold lateKey
  exact AssemblyOnly.trans (u := { s with str.lateEp := _, str.lateFr := _, twn.lateC := _ }) rfl (wrapEv_logOnly ..).assemblyOnly

theorem addKeyed_assemblyOnly (r : Rec) (s : State) : AssemblyOnly s (addKeyed r s) := by
  unfold addKeyed
  dsimp only
  split
  · exact lateKey_assemblyOnly r s
  · split
    · exact lateKey_assemblyOnly r s
    · split <;> exact opens_assemblyOnly ..

theorem closeCeil_assemblyOnly (s : State) : AssemblyOnly s (closeCeil s) := by
  unfold closeCeil
  split
  · rfl
  · exact AssemblyOnly.trans (u := { s with str.ceilEp := none }) rfl (gap_streamOnly ..).assemblyOnly

theorem ceilShed_assemblyOnly (s : State) : AssemblyOnly s (ceilShed s) := by
  refine AssemblyOnly.trans ?_ (assemblyOnly_foldl (fun s k => (setPath_assemblyOnly ..).trans (wrapEv_logOnly ..).assemblyOnly) _ _)
  rfl

theorem addRec_assemblyOnly (r : Rec) (s : State) : AssemblyOnly s (addRec r s) := by
  unfold addRec
  split
  · exact addKeyed_assemblyOnly r s
  · exact addOwn_assemblyOnly r s

/-- A formed record of class 1 or 2 is on its way to the logbook (R481, R498). -/
def logHanded (r : Rec) (s : State) : State :=
  if r.cls = 1 then { s with str.logDue := s.str.logDue ++ [(r.chan / 128, r.bytes)] }
  else if r.cls = 2 then { s with str.logDue := s.str.logDue ++ [(8, r.bytes)] }
  else s

theorem formed_eq (r : Rec) (s : State) : ∃ m, formed r s = { logHanded r s with str.forms := m } := by
  unfold formed
  dsimp only
  split
  · exact ⟨_, rfl⟩
  · exact ⟨(logHanded r s).str.forms, rfl⟩

theorem formed_streamOnly (r : Rec) (s : State) : StreamOnly s (formed r s) := by
  obtain ⟨m, h⟩ := formed_eq r s
  rw [h]
  refine StreamOnly.trans (u := logHanded r s) ?_ rfl
  unfold logHanded
  split
  · rfl
  · split <;> rfl

theorem admitRec_assemblyOnly (r : Rec) (s : State) : AssemblyOnly s (admitRec r s) := by
  unfold admitRec
  split
  · refine AssemblyOnly.trans (u := accrue s) rfl ?_
    dsimp only
    split
    · exact ceilShed_assemblyOnly _
    · exact AssemblyOnly.trans (u := { accrue s with str.tokens := (accrue s).str.tokens - 1 }) rfl
        ((closeCeil_assemblyOnly _).trans (addRec_assemblyOnly r _))
  · exact addRec_assemblyOnly r s

/-! ### The decks' turns (R18) -/

theorem serveTurn_assemblyOnly {cls : Nat} {s u : State} (h : serveTurn cls s = some u) : AssemblyOnly s u := by
  unfold serveTurn at h
  split at h
  · exact absurd h (by simp)
  · split at h
    · exact absurd h (by simp)
    · next p _ =>
      obtain rfl := Option.some.inj h
      exact AssemblyOnly.trans (u := { s with str.inq := _, str.wrr := _ }) rfl (admitRec_assemblyOnly p.2 _)

theorem serveTurns_assemblyOnly (n : Nat) (s : State) : AssemblyOnly s (serveTurns n s) := by
  induction n generalizing s with
  | zero => rfl
  | succ n ih =>
    unfold serveTurns
    split
    · next h => exact (serveTurn_assemblyOnly h).trans (ih _)
    · split
      · next h => exact (serveTurn_assemblyOnly h).trans (ih _)
      · split
        · next h => exact (serveTurn_assemblyOnly h).trans (ih _)
        · rfl

theorem assemble_assemblyOnly (s : State) : AssemblyOnly s (assemble s) := by
  unfold assemble
  split
  · rfl
  · exact AssemblyOnly.trans (u := { s with dev := s.str.inAt }) rfl ((serveTurns_assemblyOnly ..).trans rfl)

/-- A record handed over is the last of those that wait. -/
theorem deckRec_waits (d : Nat) (r : Rec) (s : State) : ∃ v, AssemblyOnly s v
    ∧ deckRec d r s = { v with str.inq := v.str.inq ++ [(d, r)], str.inAt := v.dev } := by
  refine ⟨formed r (if s.str.inAt < s.dev then assemble s else s), AssemblyOnly.trans ?_ (formed_streamOnly ..).assemblyOnly, rfl⟩
  split
  · exact assemble_assemblyOnly s
  · rfl

theorem deckRec_assemblyOnly (d : Nat) (r : Rec) (s : State) : AssemblyOnly s (deckRec d r s) := by
  obtain ⟨v, hv, h⟩ := deckRec_waits d r s
  rw [h]
  exact hv.trans rfl

theorem deckRec_last (d : Nat) (r : Rec) (s : State) : (deckRec d r s).str.inq.getLast? = some (d, r) := by
  obtain ⟨v, -, h⟩ := deckRec_waits d r s
  rw [h]
  exact List.getLast?_concat ..

end Sys2Proof.Machine
end

section
/-! SUPPORT. The stacking read (R132, R133, R136), and O29. -/

namespace Sys2Proof.Machine

/-! ### Stacked counts (R132) -/

/-- A key below those of a canonical table reads the default. -/
theorem tget_of_twf {α : Type} [DecidableEq α] {d : α} {lo k : Nat} {m : Tab α} (h : twf d (some lo) m = true) (hk : k ≤ lo) :
    tget d m k = d := by
  induction m generalizing lo with
  | nil => rfl
  | cons p m ih =>
    simp only [twf, Bool.and_eq_true, decide_eq_true_eq] at h
    rw [tget, if_neg (by omega), ih h.2 (by omega)]

/-- Stacked count `i` of a page is its coarse bin `start + i`. -/
def stackedBin (start : Nat) (m : Tab Nat) (i : Nat) : Nat := if i < 512 then tget 0 m (start + i) else 0

/-- The part of a table of coarse bins that is stacked. -/
def stackedPart (start : Nat) (m : Tab Nat) : Tab Nat :=
  (m.filter (fun p => decide (start ≤ p.1) && decide (p.1 < start + 512))).map (fun p => (p.1 - start, p.2))

theorem addCounts_cons (a : Tab Nat) (p : Nat × Nat) (b : Tab Nat) : addCounts a (p :: b) = addCounts (tmod 0 a p.1 (· + p.2)) b := rfl

theorem stackedPart_cons (start k v : Nat) (m : Tab Nat) :
    stackedPart start ((k, v) :: m) = if start ≤ k ∧ k < start + 512 then (k - start, v) :: stackedPart start m else stackedPart start m := by
  unfold stackedPart
  rw [List.filter_cons]
  by_cases h : start ≤ k ∧ k < start + 512
  · rw [if_pos h, if_pos (by simpa using h), List.map_cons]
  · rw [if_neg h, if_neg (by simpa using h)]

/-- The bin of a table's first key, and all bins of the rest. -/
theorem stackedBin_cons (start k v i : Nat) {m : Tab Nat} (h : twf 0 (some k) m = true) :
    stackedBin start ((k, v) :: m) i = (if start ≤ k ∧ k < start + 512 ∧ i = k - start then v else 0) + stackedBin start m i := by
  unfold stackedBin
  by_cases hi : i < 512
  · simp only [hi, if_true, tget]
    by_cases hk : start + i = k
    · rw [if_pos hk, if_pos (by omega), hk, tget_of_twf h (Nat.le_refl k)]
      rfl
    · rw [if_neg hk, if_neg (by omega), Nat.zero_add]
  · rw [if_neg hi, if_neg hi, if_neg (by omega)]

theorem tget_addCounts_stackedPart (start i : Nat) {m : Tab Nat} (h : twf 0 none m = true) (a : Tab Nat) :
    tget 0 (addCounts a (stackedPart start m)) i = tget 0 a i + stackedBin start m i := by
  induction m generalizing a with
  | nil => simp [stackedPart, addCounts, stackedBin]
  | cons p m ih =>
    obtain ⟨k, v⟩ := p
    obtain ⟨-, hm⟩ := twf_none.1 h
    rw [stackedPart_cons, stackedBin_cons start k v i hm]
    split
    · next hk =>
      rw [addCounts_cons, ih (twf_none_of_some hm), tget_tmod]
      by_cases hi : i = k - start
      · rw [if_pos hi, if_pos ⟨hk.1, hk.2, hi⟩, ← hi, Nat.add_assoc]
      · rw [if_neg hi, if_neg (fun g => hi g.2.2), Nat.zero_add]
    · next hk =>
      rw [ih (twf_none_of_some hm), if_neg (fun g => hk ⟨g.1, g.2.1⟩), Nat.zero_add]

theorem stackCounts_eq (start : Nat) (g : Page) : stackCounts start g = stackedPart start g.coarse := rfl

/-- Counts that a page's are added to rise by its stacked bins (R132). -/
theorem tget_addCounts_stackCounts (start i : Nat) {g : Page} (h : twf 0 none g.coarse = true) (a : Tab Nat) :
    tget 0 (addCounts a (stackCounts start g)) i = tget 0 a i + stackedBin start g.coarse i := by
  rw [stackCounts_eq, tget_addCounts_stackedPart start i h a]

/-! ### The read's parts -/

/-- The page's read is done, and its deck's source may rise (R472). -/
def readTaken (c k : Nat) (s : State) : State :=
  irqOpen (97 + c / 128) (setPage s k { page s k with stackDue := false, newEnt := false })

/-- A page's contribution as a stack's only one (R132). -/
def freshEnt (c : Nat) (s : State) (g : Page) : StackEnt :=
  let f := g.d.frame
  { chan := c, line := g.d.line, point := g.d.point, first := f - f % gPar s g.d.gen pTallyStackDepth 0, frames := 1, shots := g.d.shots
    b := g.d.b, o := g.d.o, counts := stackCounts (gPar s g.d.gen pTallyStackStart 0) g }

/-- An entry with a page's contribution added (R132). -/
def addedEnt (s : State) (g : Page) (e : StackEnt) : StackEnt :=
  { e with frames := e.frames + 1, shots := e.shots + g.d.shots
           counts := addCounts e.counts (stackCounts (gPar s g.d.gen pTallyStackStart 0) g) }

/-- Whether a page's frame starts a stack. -/
def leads (s : State) (g : Page) : Bool := decide (g.d.frame % gPar s g.d.gen pTallyStackDepth 0 = 0)

/-- Whether an entry's bins differ from a page's (R136). -/
def binsDiffer (g : Page) : Option StackEnt → Bool
  | some e => decide (e.b ≠ g.d.b ∨ e.o ≠ g.d.o)
  | none => false

/-- The entry that a page's contribution leaves. -/
def nextEnt (c : Nat) (s : State) (g : Page) : StackEnt :=
  match stackEntry s c g.d with
  | some e => if leads s g || binsDiffer g (stackEntry s c g.d) then freshEnt c s g else addedEnt s g e
  | none => freshEnt c s g

/-- The stack whose bins the page's differ from starts anew (R136). -/
def binsRestarted (c : Nat) (g : Page) (s : State) : State :=
  if !leads s g && binsDiffer g (stackEntry s c g.d) then stackRestart (c / 128) 3 1 g.d.frame s else s

/-- The store without the entry of a page's point. -/
def stackRest (c : Nat) (g : Page) (s : State) : List StackEnt := s.tal.stack.filter (fun e => !stackKey c g.d e)

/-- An entry leaves the store as a record, its deck's exports counted (R133, R140). -/
def exportEnt (c : Nat) (g : Page) (ent : StackEnt) (s : State) : State :=
  stackedRecord ent g.d.gen g.d.frame { setTalDeck s (c / 128) { talDeck s (c / 128) with exported := (talDeck s (c / 128)).exported + 1 } with
    tal.stack := stackRest c g s }

/-- An entry is stored, or exported after the last frame of a stack of depth `dd`. -/
def storeEnt (c dd : Nat) (g : Page) (ent : StackEnt) (s : State) : State :=
  if (g.d.frame + 1) % dd = 0 then exportEnt c g ent s else { s with tal.stack := stackRest c g s ++ [ent] }

/-- Whether a page's contribution has nothing to act on. -/
def readIdle (c : Nat) (g : Page) (s : State) : Prop :=
  par s pTallyStackMask c ≠ 1 ∨ stackWaits s g.d.frame = true ∨ (leads s g = false ∧ stackEntry s c g.d = none)

theorem stackRead_idle {s : State} {c k : Nat} (h : stackPage s c = some k) (hi : readIdle c (page s k) (readTaken c k s)) :
    stackRead c s = readTaken c k s := by
  unfold stackRead
  rw [h]
  exact if_pos hi

theorem stackRead_adds {s : State} {c k : Nat} (h : stackPage s c = some k) (hi : ¬readIdle c (page s k) (readTaken c k s)) :
    stackRead c s = storeEnt c (gPar (readTaken c k s) (page s k).d.gen pTallyStackDepth 0) (page s k) (nextEnt c (readTaken c k s) (page s k))
      (binsRestarted c (page s k) (readTaken c k s)) := by
  unfold stackRead
  rw [h]
  exact if_neg hi

/-! ### What the read leaves as it was -/

/-- `u` differs from `s` in time, the event log, the interrupt controller, the segments with the stream, the stream, the twins' counts and the tally
engine alone. -/
def StackingOnly (s u : State) : Prop := LogOnly { s with ic := u.ic, nk.segs := u.nk.segs, str := u.str, tal := u.tal, twn := u.twn } u

theorem StackingOnly.trans {s u v : State} (h : StackingOnly s u) (g : StackingOnly u v) : StackingOnly s v := by
  unfold StackingOnly LogOnly at h g ⊢
  rw [h] at g
  exact g

theorem TalOnly.stackingOnly {s u : State} (h : TalOnly s u) : StackingOnly s u := by
  unfold TalOnly LogOnly at h
  unfold StackingOnly LogOnly
  rw [h]
  rfl

theorem AssemblyOnly.stackingOnly {s u : State} (h : AssemblyOnly s u) : StackingOnly s u := by
  unfold AssemblyOnly LogOnly at h
  unfold StackingOnly LogOnly
  rw [h]
  rfl

theorem readTaken_eq (c k : Nat) (s : State) : ∃ i f, readTaken c k s
    = { setPage s k { page s k with stackDue := false, newEnt := false } with ic := i, free := f } :=
  ⟨_, _, irqOpen_ic ..⟩

theorem readTaken_stackingOnly (c k : Nat) (s : State) : StackingOnly s (readTaken c k s) := by
  obtain ⟨i, f, h⟩ := readTaken_eq c k s
  rw [h]
  rfl

theorem page_readTaken (c k j : Nat) (s : State) :
    page (readTaken c k s) j = if j = k then { page s k with stackDue := false, newEnt := false } else page s j := by
  obtain ⟨i, f, h⟩ := readTaken_eq c k s
  rw [h]
  exact page_setPage ..

theorem stackRestart_logOnly (d reason n first : Nat) (s : State) :
    LogOnly (setTalDeck s d { talDeck s d with restarts := (talDeck s d).restarts.add n }) (stackRestart d reason n first s) :=
  (wrapEv_logOnly ..).trans (logEv_logOnly ..)

theorem binsRestarted_talOnly (c : Nat) (g : Page) (s : State) : TalOnly s (binsRestarted c g s) := by
  unfold binsRestarted
  split
  · exact TalOnly.trans (u := setTalDeck s (c / 128) _) rfl (stackRestart_logOnly ..).talOnly
  · rfl

theorem page_binsRestarted (c j : Nat) (g : Page) (s : State) : page (binsRestarted c g s) j = page s j := by
  unfold binsRestarted
  split
  · exact (stackRestart_logOnly ..).page j
  · rfl

theorem exportEnt_tal (c : Nat) (g : Page) (ent : StackEnt) (s : State) : (exportEnt c g ent s).tal
    = { (setTalDeck s (c / 128) { talDeck s (c / 128) with exported := (talDeck s (c / 128)).exported + 1 }).tal with stack := stackRest c g s } :=
  (deckRec_assemblyOnly ..).tal

theorem exportEnt_stackingOnly (c : Nat) (g : Page) (ent : StackEnt) (s : State) : StackingOnly s (exportEnt c g ent s) :=
  StackingOnly.trans (u := { setTalDeck s (c / 128) { talDeck s (c / 128) with exported := (talDeck s (c / 128)).exported + 1 } with
    tal.stack := stackRest c g s }) rfl (deckRec_assemblyOnly ..).stackingOnly

theorem storeEnt_stackingOnly (c dd : Nat) (g : Page) (ent : StackEnt) (s : State) : StackingOnly s (storeEnt c dd g ent s) := by
  unfold storeEnt
  split
  · exact exportEnt_stackingOnly c g ent s
  · rfl

theorem page_storeEnt (c dd j : Nat) (g : Page) (ent : StackEnt) (s : State) : page (storeEnt c dd g ent s) j = page s j := by
  unfold storeEnt
  split
  · rw [page, exportEnt_tal]
    rfl
  · rfl

theorem stackRead_keeps {s : State} {c k : Nat} (h : stackPage s c = some k) :
    StackingOnly s (stackRead c s) ∧ ∀ j, page (stackRead c s) j = page (readTaken c k s) j := by
  by_cases hi : readIdle c (page s k) (readTaken c k s)
  · rw [stackRead_idle h hi]
    exact ⟨readTaken_stackingOnly c k s, fun _ => rfl⟩
  · rw [stackRead_adds h hi]
    refine ⟨(readTaken_stackingOnly c k s).trans ((binsRestarted_talOnly ..).stackingOnly.trans (storeEnt_stackingOnly ..)), fun j => ?_⟩
    rw [page_storeEnt, page_binsRestarted]

theorem stackPage_closed {s : State} {c k : Nat} (h : stackPage s c = some k) : (page s k).st = 3 := by
  have hk := List.find?_some h
  simp only [Bool.and_eq_true, beq_iff_eq] at hk
  exact hk.1.1

/-! ### A contribution enters the store (R132, R133) -/

section
variable (c k : Nat) (s : State)

theorem gPar_readTaken (g id i : Nat) : gPar (readTaken c k s) g id i = gPar s g id i := by
  obtain ⟨i, f, h⟩ := readTaken_eq c k s
  rw [h]
  rfl

theorem par_readTaken (id i : Nat) : par (readTaken c k s) id i = par s id i := by
  obtain ⟨i, f, h⟩ := readTaken_eq c k s
  rw [h]
  rfl

theorem stackWaits_readTaken (f : Nat) : stackWaits (readTaken c k s) f = stackWaits s f := by
  obtain ⟨i, f, h⟩ := readTaken_eq c k s
  rw [h]
  rfl

theorem stackEntry_readTaken (c' : Nat) (d : Desc) : stackEntry (readTaken c k s) c' d = stackEntry s c' d := by
  obtain ⟨i, f, h⟩ := readTaken_eq c k s
  rw [h]
  rfl

theorem leads_readTaken (g : Page) : leads (readTaken c k s) g = leads s g := by
  rw [leads, leads, gPar_readTaken]

theorem freshEnt_readTaken (c' : Nat) (g : Page) : freshEnt c' (readTaken c k s) g = freshEnt c' s g := by
  simp only [freshEnt, gPar_readTaken]

theorem addedEnt_readTaken (g : Page) (e : StackEnt) : addedEnt (readTaken c k s) g e = addedEnt s g e := by
  simp only [addedEnt, gPar_readTaken]

theorem stackRest_readTaken (c' : Nat) (g : Page) : stackRest c' g (readTaken c k s) = stackRest c' g s := by
  obtain ⟨i, f, h⟩ := readTaken_eq c k s
  rw [h]
  rfl

theorem talDeck_readTaken (d : Nat) : talDeck (readTaken c k s) d = talDeck s d := by
  obtain ⟨i, f, h⟩ := readTaken_eq c k s
  rw [h]
  rfl

end

section
variable {s : State} {c k : Nat} (h : stackPage s c = some k) (hm : par s pTallyStackMask c = 1)
  (hw : stackWaits s (page s k).d.frame = false)
include h hm hw

/-- A start frame's contribution stands in place of any entry of its point. -/
theorem stackRead_leads (hl : leads s (page s k) = true) :
    stackRead c s = storeEnt c (gPar s (page s k).d.gen pTallyStackDepth 0) (page s k) (freshEnt c s (page s k)) (readTaken c k s) := by
  have hi : ¬readIdle c (page s k) (readTaken c k s) := by
    simp [readIdle, par_readTaken, stackWaits_readTaken, leads_readTaken, hm, hw, hl]
  have hn : nextEnt c (readTaken c k s) (page s k) = freshEnt c s (page s k) := by
    unfold nextEnt
    rw [leads_readTaken, hl, freshEnt_readTaken]
    split <;> rfl
  have hr : binsRestarted c (page s k) (readTaken c k s) = readTaken c k s := by
    simp [binsRestarted, leads_readTaken, hl]
  rw [stackRead_adds h hi, gPar_readTaken, hn, hr]

/-- A later frame's contribution of the same bins is added to the entry of its point. -/
theorem stackRead_sums {e : StackEnt} (hl : leads s (page s k) = false) (he : stackEntry s c (page s k).d = some e)
    (hb : e.b = (page s k).d.b) (ho : e.o = (page s k).d.o) :
    stackRead c s = storeEnt c (gPar s (page s k).d.gen pTallyStackDepth 0) (page s k) (addedEnt s (page s k) e) (readTaken c k s) := by
  have hd : binsDiffer (page s k) (some e) = false := by simp [binsDiffer, hb, ho]
  have hi : ¬readIdle c (page s k) (readTaken c k s) := by
    simp [readIdle, par_readTaken, stackWaits_readTaken, stackEntry_readTaken, hm, hw, he]
  have hn : nextEnt c (readTaken c k s) (page s k) = addedEnt s (page s k) e := by
    simp [nextEnt, stackEntry_readTaken, he, leads_readTaken, hl, hd, addedEnt_readTaken]
  have hr : binsRestarted c (page s k) (readTaken c k s) = readTaken c k s := by
    simp [binsRestarted, stackEntry_readTaken, he, hd]
  rw [stackRead_adds h hi, gPar_readTaken, hn, hr]

end

/-- After a frame that is not a stack's last the entry is stored. -/
theorem storeEnt_stores {c dd k : Nat} {g : Page} (ent : StackEnt) {s : State} (hf : (g.d.frame + 1) % dd ≠ 0) :
    (storeEnt c dd g ent (readTaken c k s)).tal.stack = stackRest c g s ++ [ent] := by
  rw [storeEnt, if_neg hf, stackRest_readTaken]

/-- After a stack's last frame its entry is a record, and stands in the store no more. -/
theorem storeEnt_exports {c dd k : Nat} {g : Page} (ent : StackEnt) {s : State} (hf : (g.d.frame + 1) % dd = 0) :
    storeEnt c dd g ent (readTaken c k s) = exportEnt c g ent (readTaken c k s)
      ∧ (storeEnt c dd g ent (readTaken c k s)).tal.stack = stackRest c g s
      ∧ (talDeck (storeEnt c dd g ent (readTaken c k s)) (c / 128)).exported = (talDeck s (c / 128)).exported + 1 := by
  rw [storeEnt, if_pos hf]
  refine ⟨rfl, ?_, ?_⟩
  · rw [exportEnt_tal]
    exact stackRest_readTaken ..
  · rw [talDeck, exportEnt_tal, ← talDeck_readTaken c k s]
    exact congrArg TalDeck.exported ((talDeck_setTalDeck ..).trans (if_pos rfl))

/-- The exported record is the last that waits at the assembler (R344). -/
theorem exportEnt_last (c : Nat) (g : Page) (ent : StackEnt) (s : State) :
    ∃ r, (exportEnt c g ent s).str.inq.getLast? = some (ent.chan / 128, r) ∧ r.cls = 4 ∧ r.chan = ent.chan ∧ r.frame = g.d.frame
      ∧ r.bytes = le 1 0x12 ++ le 1 ent.frames ++ le 2 1040 ++ le 2 (ent.chan + (ent.b - 5) * 2048) ++ le 2 ent.point ++ le 4 ent.first
          ++ le 4 (ent.shots % 4096 + ent.line % 64 * 4096 + ent.o * 2 ^ 18) ++ (List.range 512).flatMap (fun i => le 2 (tget 0 ent.counts i)) :=
  ⟨_, deckRec_last .., rfl, rfl, rfl, rfl⟩

theorem chan_of_stackEntry {s : State} {c : Nat} {d : Desc} {e : StackEnt} (h : stackEntry s c d = some e) : e.chan = c := by
  have hk := List.find?_some (Option.filter_eq_some_iff.1 h).1
  simp only [stackKey, Bool.and_eq_true, beq_iff_eq] at hk
  exact hk.1.1

/-- Settles O29: each clause by the lemma of its operation. -/
theorem scoutAndStackRun : Obligations.ScoutAndStackRun := by
  unfold Obligations.ScoutAndStackRun
  refine ⟨?_, ?_, ?_, ?_⟩
  · intro t rod k s ha hr hk
    exact congrArg Host.Outcome.next ((live_awake ha).trans (scoutStart_starts (s := advance t s) hr hk))
  · intro t rod k b s ha hr hb
    refine runs_live rfl ha ?_
    have h := scoutEnd_ends (s := advance t s) hr hb
    have hp := fun j => (h.page j).trans (page_scouted ..)
    rw [h.talRod, talRod_scouted, hp k, if_pos rfl]
    exact ⟨rfl, rfl, length_foundWindows .., rfl, fun j hj => (hp j).trans (if_neg hj), fun hwin => if_pos hwin,
      (scouted_talOnly ..).trans h.talOnly⟩
  · intro t rod s ha
    refine runs_live rfl ha ?_
    have h := fineReplay_filled rod (advance t s)
    exact ⟨hold_fineReplay rod (advance t s), h.fine, fun k => page_fineReplay rod k (advance t s), (setTalRod_talOnly ..).trans h.only⟩
  · intro t c k s ha hk g dd
    have hk : stackPage (advance t s) c = some k := hk
    refine runs_live rfl ha ?_
    obtain ⟨honly, hp⟩ := stackRead_keeps hk
    have hp := fun j => (hp j).trans (page_readTaken ..)
    have hself := (hp k).trans (if_pos rfl)
    refine ⟨congrArg Page.stackDue hself, congrArg Page.newEnt hself, (congrArg Page.st hself).trans (stackPage_closed hk),
      fun j hj => (hp j).trans (if_neg hj), honly, fun hm hw hl hn => ?_, fun e hm hw hl he hb ho hwf => ?_⟩
    · have hl' : leads (advance t s) g = true := decide_eq_true hl
      have hfirst : g.d.frame - g.d.frame % dd = g.d.frame := by rw [hl]; rfl
      rw [stackRead_leads hk hm hw hl']
      refine (storeEnt_stores _ hn).trans ?_
      exact congrArg (fun f => stackRest c g s ++ [{ freshEnt c s g with first := f }]) hfirst
    · have hl' : leads (advance t s) g = false := decide_eq_false hl
      rw [stackRead_sums hk hm hw hl' he hb ho]
      refine ⟨addCounts e.counts (stackCounts (gPar s g.d.gen pTallyStackStart 0) g), fun i => tget_addCounts_stackCounts _ i hwf e.counts,
        fun hn => storeEnt_stores _ hn, fun hn => ?_⟩
      obtain ⟨hx, hstack, hexp⟩ := storeEnt_exports (c := c) (k := k) (addedEnt (advance t s) g e) (s := advance t s) hn
      obtain rfl := chan_of_stackEntry he
      obtain ⟨r, hr⟩ := exportEnt_last e.chan g (addedEnt (advance t s) g e) (readTaken e.chan k (advance t s))
      exact ⟨hstack, hexp, r, hx ▸ hr⟩

end Sys2Proof.Machine
end

section
/-! SUPPORT. The extractors (R142, R143, R154, R155, R156, R160, R165, R166), and O30. -/

namespace Sys2Proof.Machine

/-! ### Sorting -/

theorem insertBy_perm {α : Type} (f : α → Nat) (a : α) (l : List α) : (insertBy f a l).Perm (a :: l) := by
  induction l with
  | nil => exact List.Perm.refl _
  | cons b l ih =>
    unfold insertBy
    split
    · exact List.Perm.refl _
    · exact (ih.cons b).trans (List.Perm.swap a b l)

theorem sortBy_perm {α : Type} (f : α → Nat) (l : List α) : (sortBy f l).Perm l := by
  induction l using List.reverseRecOn with
  | nil => exact List.Perm.refl _
  | append_singleton l a ih =>
    rw [sortBy, List.foldl_concat]
    exact ((insertBy_perm f a _).trans (ih.cons a)).trans (List.perm_append_singleton a l).symm

/-! ### Candidates (R154 to R156) -/

/-- Whether bin `i` is a candidate under CFAR factor `kq` (R154). -/
def Chain.isCand (q : Chain) (kq i : Nat) : Bool :=
  decide (i < q.nb) && decide (16 * (q.mu : Int) + kq * q.sig < 16 * q.yAt i) && decide (q.yAt (i - 1) < q.yAt i) && decide (q.yAt (i + 1) ≤ q.yAt i)

theorem Chain.mem_cands (q : Chain) (kq i : Nat) : i ∈ q.cands kq ↔ q.isCand kq i = true := by
  simp only [cands, isCand, List.mem_filter, List.mem_range, Bool.and_eq_true, decide_eq_true_eq, and_assoc]

/-- The scan meets one more candidate (R155). -/
def Chain.scanned (q : Chain) (sep : Nat) (acc : List Nat) (i : Nat) : List Nat :=
  match acc with
  | j :: r => if i < j + sep then (if q.yAt j < q.yAt i then i :: r else acc) else i :: acc
  | [] => [i]

theorem Chain.separate_eq (q : Chain) (sep : Nat) (l : List Nat) : q.separate sep l = (l.foldl (q.scanned sep) []).reverse := rfl

theorem Chain.scanned_subset (q : Chain) (sep i : Nat) (acc : List Nat) : q.scanned sep acc i ⊆ i :: acc := by
  unfold scanned
  split
  · split
    · split
      · exact List.cons_subset_cons i (List.subset_cons_self ..)
      · exact List.subset_cons_self ..
    · exact List.Subset.refl _
  · exact List.Subset.refl _

theorem Chain.scanned_ne_nil (q : Chain) (sep i : Nat) (acc : List Nat) : q.scanned sep acc i ≠ [] := by
  unfold scanned
  split
  · split
    · split <;> exact List.cons_ne_nil _ _
    · exact List.cons_ne_nil _ _
  · exact List.cons_ne_nil _ _

theorem Chain.separate_subset (q : Chain) (sep : Nat) (l : List Nat) : q.separate sep l ⊆ l := by
  rw [separate_eq, List.reverse_subset]
  refine List.foldlRecOn (motive := (· ⊆ l)) l (q.scanned sep) (List.nil_subset l) fun acc hacc i hi => ?_
  exact List.Subset.trans (q.scanned_subset sep i acc) (List.cons_subset.2 ⟨hi, hacc⟩)

theorem Chain.separate_ne_nil (q : Chain) (sep : Nat) {l : List Nat} (h : l ≠ []) : q.separate sep l ≠ [] := by
  rw [separate_eq, ← List.dropLast_append_getLast h, List.foldl_concat]
  exact List.reverse_ne_nil_iff.2 (q.scanned_ne_nil _ _ _)

/-- Every policy ranks the candidates that stand, all of them (R156). -/
theorem Chain.mem_rank (q : Chain) (policy i : Nat) (l : List Nat) : i ∈ q.rank policy l ↔ i ∈ l := by
  unfold rank
  dsimp only
  split
  · exact Iff.rfl
  · split
    · split
      · next z hz =>
        rw [List.mem_cons, (sortBy_perm ..).mem_iff, List.mem_filter, decide_eq_true_eq]
        by_cases h : i = z
        · exact iff_of_true (.inl h) (h ▸ List.mem_of_getLast? hz)
        · simp [h]
      · next hn => rw [List.getLast?_eq_none_iff.1 hn]
    · exact (sortBy_perm ..).mem_iff

/-- Windows are given to the candidates in their order, to some none (R157). -/
theorem map_fst_assignWins (d : Desc) (l taken : List Nat) : (assignWins d l taken).map (·.1) = l := by
  induction l generalizing taken with
  | nil => rfl
  | cons i l ih =>
    unfold assignWins
    dsimp only
    split
    · exact congrArg (i :: ·) (ih _)
    · exact congrArg (i :: ·) (ih _)

/-! ### A return's bin and range (R160) -/

theorem clamp_eq {lo hi : Int} (h : lo ≤ hi) (v : Int) : clamp lo hi v = max lo (min hi v) := by
  unfold clamp
  split
  · omega
  · split <;> omega

/-- The range code of a time in 1/256 tick on channel `c` under the set that `g` names (R160). -/
def rangeCode (s : State) (g c tq : Nat) : Int :=
  max 0 (min 0xFFFFFF (((tq * gPar s g pExtRangeScale 0 + 2 ^ 27) / 2 ^ 28 : Nat) - sgn 64 (gPar s g pExtRangeOffset c)))

theorem makeRet_bin (s : State) (k : Nat) (q : Chain) (i : Nat) (win : Option Nat) : (makeRet s k q i win).bin = i := rfl

theorem makeRet_range (s : State) (k : Nat) (q : Chain) (i : Nat) (win : Option Nat) :
    ((makeRet s k q i win).range : Int) = rangeCode s (page s k).d.gen (k / 2) (makeRet s k q i win).tq := by
  rw [rangeCode, ← clamp_eq (by decide)]
  exact Int.toNat_of_nonneg (by rw [clamp_eq (by decide)]; exact le_max_left ..)

/-! ### The returns of a page (R155, R156, R165) -/

/-- The returns of a page's kept candidates, in rank order (R155 to R164). -/
def keptRets (s : State) (k fv : Nat) : List Ret :=
  let g := page s k
  let q := chain s k fv
  let cs := q.separate (gPar s g.d.gen pExtMinSep (k / 32)) (q.cands (gPar s g.d.gen pExtCfarK (k / 32)))
  (assignWins g.d ((q.rank (gPar s g.d.gen pExtPolicy (k / 32)) cs).take 8) []).map (fun p => makeRet s k q p.1 p.2)

/-- The reported returns in rank order (R165). -/
def chosenRets (s : State) (k : Nat) (rets : List Ret) : List Ret :=
  let m := gPar s (page s k).d.gen pExtMaxReturns (k / 32)
  if gPar s (page s k).d.gen pExtDiffuseAction 0 = 1 then rets.take m else (rets.filter (fun r => !r.diffuse)).take m

/-- The suppressed returns (R165). -/
def suppressedRets (s : State) (k : Nat) (rets : List Ret) : List Ret :=
  if gPar s (page s k).d.gen pExtDiffuseAction 0 = 1 then [] else rets.filter (·.diffuse)

section
variable (s : State) (k fv : Nat)

theorem extract_reported : (extract s k fv).1 = sortBy (fun r => r.range * 4096 + r.bin) (chosenRets s k (keptRets s k fv)) := rfl
theorem extract_suppressed : (extract s k fv).2.1 = suppressedRets s k (keptRets s k fv) := rfl

theorem length_keptRets_le : (keptRets s k fv).length ≤ 8 := by
  unfold keptRets
  dsimp only
  rw [List.length_map, ← List.length_map (·.1), map_fst_assignWins]
  exact List.length_take_le ..

/-- Every kept return is a candidate's. -/
theorem isCand_of_mem_keptRets {r : Ret} (h : r ∈ keptRets s k fv) :
    (chain s k fv).isCand (gPar s (page s k).d.gen pExtCfarK (k / 32)) r.bin = true := by
  obtain ⟨p, hp, rfl⟩ := List.mem_map.1 h
  have hi := List.mem_map_of_mem (f := (·.1)) hp
  rw [map_fst_assignWins] at hi
  have hstands := (Chain.mem_rank ..).1 (List.mem_of_mem_take hi)
  exact (Chain.mem_cands ..).1 (Chain.separate_subset _ _ _ hstands)

/-- Where there is a candidate, a return is kept. -/
theorem keptRets_ne_nil {i : Nat} (h : (chain s k fv).isCand (gPar s (page s k).d.gen pExtCfarK (k / 32)) i = true) : keptRets s k fv ≠ [] := by
  have hsep := (chain s k fv).separate_ne_nil (gPar s (page s k).d.gen pExtMinSep (k / 32)) (List.ne_nil_of_mem ((Chain.mem_cands ..).2 h))
  obtain ⟨j, hj⟩ := List.exists_mem_of_ne_nil _ hsep
  have hrank := List.ne_nil_of_mem (((chain s k fv).mem_rank (gPar s (page s k).d.gen pExtPolicy (k / 32)) j _).2 hj)
  intro hnil
  have hkept := congrArg (List.map (·.1)) (List.map_eq_nil_iff.1 hnil)
  rw [map_fst_assignWins] at hkept
  exact hrank ((List.take_eq_nil_iff.1 hkept).resolve_left (by decide))

theorem range_of_mem_keptRets {r : Ret} (h : r ∈ keptRets s k fv) : (r.range : Int) = rangeCode s (page s k).d.gen (k / 2) r.tq := by
  obtain ⟨p, -, rfl⟩ := List.mem_map.1 h
  exact makeRet_range ..

end

section
variable (s : State) (k : Nat) (l : List Ret)

theorem chosenRets_subset : chosenRets s k l ⊆ l := by
  unfold chosenRets
  dsimp only
  split
  · exact List.take_subset ..
  · exact List.Subset.trans (List.take_subset ..) (List.filter_subset_self _)

theorem suppressedRets_subset : suppressedRets s k l ⊆ l := by
  unfold suppressedRets
  split
  · exact List.nil_subset l
  · exact List.filter_subset_self _

theorem length_chosenRets_le : (chosenRets s k l).length ≤ min l.length (gPar s (page s k).d.gen pExtMaxReturns (k / 32)) := by
  unfold chosenRets
  dsimp only
  split
  · rw [List.length_take, min_comm]
  · rw [List.length_take, min_comm]
    exact min_le_min_right _ (List.length_filter_le ..)

/-- A kept return is reported or suppressed, unless none may be reported. -/
theorem chosen_or_suppressed {l : List Ret} (hl : l ≠ []) (hm : 1 ≤ gPar s (page s k).d.gen pExtMaxReturns (k / 32))
    (hc : chosenRets s k l = []) : suppressedRets s k l ≠ [] := by
  have hm0 := Nat.one_le_iff_ne_zero.1 hm
  unfold chosenRets at hc
  unfold suppressedRets
  dsimp only at hc
  split at hc
  · exact absurd ((List.take_eq_nil_iff.1 hc).resolve_left hm0) hl
  · next ha =>
    rw [if_neg ha]
    obtain ⟨r, hr⟩ := List.exists_mem_of_ne_nil l hl
    have hd := List.filter_eq_nil_iff.1 ((List.take_eq_nil_iff.1 hc).resolve_left hm0) r hr
    exact List.ne_nil_of_mem (List.mem_filter.2 ⟨hr, by simpa using hd⟩)

end

section
variable (s : State) (k fv : Nat)

theorem mem_keptRets_of_reported {r : Ret} (h : r ∈ (extract s k fv).1) : r ∈ keptRets s k fv :=
  chosenRets_subset s k _ ((sortBy_perm ..).mem_iff.1 (extract_reported s k fv ▸ h))

theorem mem_keptRets_of_extract {r : Ret} (h : r ∈ (extract s k fv).1 ++ (extract s k fv).2.1) : r ∈ keptRets s k fv :=
  (List.mem_append.1 h).elim (mem_keptRets_of_reported s k fv) (fun hs => suppressedRets_subset s k _ hs)

theorem length_reported_le : (extract s k fv).1.length ≤ min 8 (gPar s (page s k).d.gen pExtMaxReturns (k / 32)) := by
  rw [extract_reported, (sortBy_perm ..).length_eq]
  exact (length_chosenRets_le ..).trans (min_le_min_right _ (length_keptRets_le ..))

/-- Where there is a candidate and a return may be reported, there is a return (R154, R165). -/
theorem extract_ne_nil {i : Nat} (h : (chain s k fv).isCand (gPar s (page s k).d.gen pExtCfarK (k / 32)) i = true)
    (hm : 1 ≤ gPar s (page s k).d.gen pExtMaxReturns (k / 32)) : (extract s k fv).1 ++ (extract s k fv).2.1 ≠ [] := by
  intro hnil
  obtain ⟨hrep, hsup⟩ := List.append_eq_nil_iff.1 hnil
  rw [extract_reported] at hrep
  exact chosen_or_suppressed s k (keptRets_ne_nil s k fv h) hm (hrep ▸ sortBy_perm ..).symm.eq_nil hsup

end

/-! ### The records of a page (R166) -/

section
variable (s : State) (k : Nat) (rep : List Ret)

/-- The windows that a page exports are of class 3 (R341). -/
theorem rawKeyRecs_cls {r : Rec} (h : r ∈ rawKeyRecs s k rep) : r.cls = 3 := by
  unfold rawKeyRecs at h
  dsimp only at h
  split at h
  · exact absurd h List.not_mem_nil
  · rw [List.mem_singleton.1 h]
    rfl

/-- A page with no reported return produces no point unless empty ones are asked for. -/
theorem pointRecs_no_point (h : gPar s (page s k).d.gen pExtEmptyPoints 0 = 0) {r : Rec} (hr : r ∈ pointRecs s k []) : r.cls ≠ 1 := by
  unfold pointRecs at hr
  dsimp only at hr
  rw [if_pos ⟨rfl, h⟩, List.nil_append, List.mem_append] at hr
  rcases hr with hr | hr
  · split at hr
    · rw [rawKeyRecs_cls _ _ _ hr]
      decide
    · exact absurd hr List.not_mem_nil
  · split at hr
    · rw [List.mem_singleton.1 hr]
      exact (by decide : (4 : Nat) ≠ 1)
    · exact absurd hr List.not_mem_nil

/-- A page with a reported return, or any page when empty points are asked for, produces its point. -/
theorem pointRec_mem_pointRecs (h : ¬(rep = [] ∧ gPar s (page s k).d.gen pExtEmptyPoints 0 = 0)) :
    pointRec s k (azimuthAt s (page s k).d.gen (pageMid s k)) rep ∈ pointRecs s k rep := by
  unfold pointRecs
  dsimp only
  rw [if_neg h, List.append_assoc]
  exact List.mem_cons_self

/-- The channel and the return count of a point (R338). -/
theorem pointRec_channel (az : Nat) : fld (pointRec s k az rep).bytes 4 2 = (k / 2 + rep.length * 2048) % 65536 := by
  simp only [pointRec, pageRec, List.append_assoc]
  rw [← List.append_assoc, ← List.append_assoc, fld_append (by simp) (length_le ..), unle_le]
  rfl

/-- The return count that a point's record carries (R338). -/
theorem pointRec_count (az : Nat) (hk : k < 2048) (hrep : rep.length ≤ 8) : fld (pointRec s k az rep).bytes 4 2 / 2048 = rep.length := by
  rw [pointRec_channel]
  omega

/-- A page with a reported return, or any page when empty points are asked for, produces its point with the count of the returns (R166). -/
theorem pointRecs_point (hk : k < 2048) (hrep : rep.length ≤ 8) (h : ¬(rep = [] ∧ gPar s (page s k).d.gen pExtEmptyPoints 0 = 0)) :
    ∃ r ∈ pointRecs s k rep, r.cls = 1 ∧ fld r.bytes 4 2 / 2048 = rep.length :=
  ⟨_, pointRec_mem_pointRecs s k rep h, rfl, pointRec_count s k rep _ hk hrep⟩

end

/-! ### A service slot (R142, R143) -/

theorem LogOnly.ext {s u : State} (h : LogOnly s u) : u.ext = s.ext := (congrArg State.ext (show u = logOf s u from h) : u.ext = (logOf s u).ext)

theorem LogOnly.extDeck {s u : State} (h : LogOnly s u) (d : Nat) : extDeck u d = Machine.extDeck s d := by
  rw [Machine.extDeck, h.ext]
  rfl

theorem LogOnly.closingOnly {s u : State} (h : LogOnly s u) : ClosingOnly s u := h.talOnly.closingOnly

/-- A slot's end is kept with the page that it serves. -/
def slotTaken (s : State) (k fin : Nat) : State := setPage s k { page s k with slotEnd := some (fin / 5) }

theorem page_slotTaken (s : State) (k fin j : Nat) :
    page (slotTaken s k fin) j = if j = k then { page s k with slotEnd := some (fin / 5) } else page s j := page_setPage ..

theorem slotTaken_freeVal_logOnly (s : State) (n k fin d : Nat) (e : ExtDeck) :
    LogOnly (setExtDeck (slotTaken s k fin) d e) (setExtDeck (slotTaken (freeVal n s).2 k fin) d e) := rfl

/-- A slot takes the first page of the group served next: its deck's extractor is busy for the slot, and the service it enters has the page's
returns and records. -/
theorem extractorService_serves {s : State} {d k : Nat} {gr : Group} {rest : List Nat} (hd : d ≤ 7)
    (hb : (extDeck s d).busyUntil ≤ 5 * s.dev + 4) (hg : nextGroup (extDeck s d).queue = some gr) (hp : gr.pages = k :: rest) :
    ∃ e v fv, LogOnly (setExtDeck (slotTaken s k (slotStart s (extDeck s d) + 79872)) d e) (extractorService d s)
      ∧ e.busyUntil = slotStart s (extDeck s d) + 79872 ∧ e.served = (extDeck s d).served + 1 ∧ e.services = (extDeck s d).services ++ [v]
      ∧ v.page = k ∧ v.rep = (extract (freeVal 0 s).2 k fv).1 ∧ v.sup = (extract (freeVal 0 s).2 k fv).2.1
      ∧ v.recs = pointRecs (freeVal 0 s).2 k v.rep := by
  unfold extractorService
  dsimp only
  rw [if_neg (by omega), hg]
  dsimp only
  rw [hp]
  exact ⟨_, _, (freeVal 0 s).1,
    (slotTaken_freeVal_logOnly ..).trans ((wrapEv_logOnly ..).trans ((wrapEv_logOnly ..).trans (wrapEv_logOnly ..))),
    rfl, rfl, rfl, rfl, rfl, rfl, rfl⟩

/-! ### A completed extraction (R143) -/

theorem planCount_eq (v : Service) (s : State) : ∃ m, planCount v s = { s with sch.planStat := m } := by
  unfold planCount
  dsimp only
  split
  · exact ⟨_, rfl⟩
  · exact ⟨_, rfl⟩

theorem offsetCount_eq (v : Service) (s : State) : ∃ m, offsetCount v s = { s with cal.meas := m } := by
  unfold offsetCount
  split
  · exact ⟨_, rfl⟩
  · split
    · exact ⟨_, rfl⟩
    · exact ⟨_, rfl⟩

/-- A service's returns as its channel keeps them (R143): reported and suppressed, their times in whole ticks. -/
def handedBack (v : Service) (dev : Nat) : LastPt :=
  { frame := v.frame, line := v.line, done := dev, rep := v.rep.map (fun r => r.tq / 256), sup := v.sup.map (fun r => r.tq / 256) }

/-- The oldest service of a deck is over: its channel keeps the returns, and its deck's count of points rises. -/
def serviceOver (d : Nat) (v : Service) (rest : List Service) (s : State) : State :=
  let u := setExtDeck s d { extDeck s d with services := rest }
  setTalDeck { u with ext.last := tput [] u.ext.last v.chan ((handedBack v s.dev :: tget [] u.ext.last v.chan).take 3) } d
    { talDeck s d with points := (talDeck s d).points + 1 }

theorem extDeck_serviceOver (d : Nat) (v : Service) (rest : List Service) (s : State) :
    extDeck (serviceOver d v rest s) d = { extDeck s d with services := rest } := (extDeck_setExtDeck ..).trans (if_pos rfl)

theorem talDeck_serviceOver (d : Nat) (v : Service) (rest : List Service) (s : State) :
    talDeck (serviceOver d v rest s) d = { talDeck s d with points := (talDeck s d).points + 1 } := (talDeck_setTalDeck ..).trans (if_pos rfl)

theorem last_serviceOver (d : Nat) (v : Service) (rest : List Service) (s : State) :
    (tget [] (serviceOver d v rest s).ext.last v.chan).head? = some (handedBack v s.dev) := by
  have hlast : (serviceOver d v rest s).ext.last = tput [] s.ext.last v.chan ((handedBack v s.dev :: tget [] s.ext.last v.chan).take 3) := rfl
  rw [hlast, tget_tput, if_pos rfl]
  rfl

/-- `u` differs from `s` in time, the event log, the offsets measurement, the interrupt controller, the segments with the stream, the planner's
figures, the stream and the twins' counts alone. -/
def CountsOnly (s u : State) : Prop :=
  LogOnly { s with cal.meas := u.cal.meas, ic := u.ic, nk.segs := u.nk.segs, sch.planStat := u.sch.planStat, str := u.str, twn := u.twn } u

theorem CountsOnly.trans {s u v : State} (h : CountsOnly s u) (g : CountsOnly u v) : CountsOnly s v := by
  unfold CountsOnly LogOnly at h g ⊢
  rw [h] at g
  exact g

theorem CountsOnly.ext {s u : State} (h : CountsOnly s u) : u.ext = s.ext := LogOnly.ext (s :=
  { s with cal.meas := u.cal.meas, ic := u.ic, nk.segs := u.nk.segs, sch.planStat := u.sch.planStat, str := u.str, twn := u.twn }) h

theorem CountsOnly.tal {s u : State} (h : CountsOnly s u) : u.tal = s.tal := LogOnly.tal (s :=
  { s with cal.meas := u.cal.meas, ic := u.ic, nk.segs := u.nk.segs, sch.planStat := u.sch.planStat, str := u.str, twn := u.twn }) h

theorem CountsOnly.extDeck {s u : State} (h : CountsOnly s u) (d : Nat) : extDeck u d = Machine.extDeck s d := by
  rw [Machine.extDeck, h.ext]
  rfl

theorem CountsOnly.talDeck {s u : State} (h : CountsOnly s u) (d : Nat) : talDeck u d = Machine.talDeck s d := by
  rw [Machine.talDeck, h.tal]
  rfl

theorem AssemblyOnly.countsOnly {s u : State} (h : AssemblyOnly s u) : CountsOnly s u := by
  unfold AssemblyOnly LogOnly at h
  unfold CountsOnly LogOnly
  rw [h]
  rfl

theorem planCount_countsOnly (v : Service) (s : State) : CountsOnly s (planCount v s) := by
  obtain ⟨m, h⟩ := planCount_eq v s
  rw [h]
  rfl

theorem offsetCount_countsOnly (v : Service) (s : State) : CountsOnly s (offsetCount v s) := by
  obtain ⟨m, h⟩ := offsetCount_eq v s
  rw [h]
  rfl

theorem irqOpen_countsOnly (n : Nat) (s : State) : CountsOnly s (irqOpen n s) := by
  rw [irqOpen_ic]
  rfl

/-- The oldest service of a deck is over, and its returns and records are counted and handed on. -/
theorem extractionComplete_serviceOver {s : State} {d : Nat} {v : Service} {rest : List Service} (h : (extDeck s d).services = v :: rest) :
    CountsOnly (serviceOver d v rest s) (extractionComplete d s) := by
  unfold extractionComplete
  dsimp only
  rw [h]
  have hcounts : ∀ u, CountsOnly u (planCount v (offsetCount v u)) := fun u => (offsetCount_countsOnly ..).trans (planCount_countsOnly ..)
  have hrecs : ∀ u, CountsOnly u (v.recs.foldl (fun s r => deckRec (v.chan / 128) r s) u) := fun u =>
    (assemblyOnly_foldl (fun s r => deckRec_assemblyOnly (v.chan / 128) r s) _ u).countsOnly
  exact ((hcounts (serviceOver d v rest s)).trans (hrecs _)).trans (irqOpen_countsOnly ..)

/-- Settles O30: the slot by what the extractor takes and finds in a page, the completion by what is handed back. -/
theorem extractorsRun : Obligations.ExtractorsRun := by
  unfold Obligations.ExtractorsRun
  refine ⟨?_, ?_⟩
  · intro t d k gr rest s ha hd hb hg hp hk fin gp cand
    obtain ⟨e, v, fv, honly, hbusy, hserved, hservices, hpage, hrep, hsup, hrecs⟩ := extractorService_serves (s := advance t s) hd hb hg hp
    refine runs_live rfl ha ?_
    let u := (freeVal 0 (advance t s)).2
    have he := fun j => (honly.extDeck j).trans (extDeck_setExtDeck ..)
    have hpg := fun j => (honly.page j).trans (page_slotTaken (advance t s) k fin j)
    have hself := (he d).trans (if_pos rfl)
    have hpk := (hpg k).trans (if_pos rfl)
    have hlen : v.rep.length ≤ min 8 (gp pExtMaxReturns (k / 32)) := hrep ▸ length_reported_le u k fv
    refine ⟨(congrArg ExtDeck.busyUntil hself).trans hbusy, (congrArg ExtDeck.served hself).trans hserved, congrArg Page.slotEnd hpk,
      (congrArg Page.st hpk).trans rfl, fun j hj => (hpg j).trans (if_neg hj),
      ⟨v, (congrArg ExtDeck.services hself).trans hservices, hpage, hlen, ?_, ?_, ?_, ?_⟩, fun j hj => (he j).trans (if_neg hj), ?_⟩
    · rw [hrep, hsup]
      exact ⟨fv, fun r hr => isCand_of_mem_keptRets u k fv (mem_keptRets_of_extract u k fv hr), fun i hi hm => extract_ne_nil u k fv hi hm⟩
    · rw [hrep]
      exact fun r hr => range_of_mem_keptRets u k fv (mem_keptRets_of_reported u k fv hr)
    · intro hnil hempty r hr
      rw [hrecs, hnil] at hr
      exact pointRecs_no_point u k hempty hr
    · intro hany
      rw [hrecs]
      exact pointRecs_point u k v.rep hk (hlen.trans (min_le_left ..)) (fun h => hany.elim (absurd h.2) (absurd h.1))
    · exact ClosingOnly.trans (u := setExtDeck (slotTaken (advance t s) k fin) d e) rfl honly.closingOnly
  · intro t d v rest s ha hs lp
    refine runs_live rfl ha ?_
    have honly := extractionComplete_serviceOver (s := advance t s) hs
    refine ⟨congrArg ExtDeck.services ((honly.extDeck d).trans (extDeck_serviceOver ..)),
      congrArg TalDeck.points ((honly.talDeck d).trans (talDeck_serviceOver ..)), ?_, ?_⟩
    · rw [honly.ext]
      exact last_serviceOver ..
    · unfold CountsOnly LogOnly at honly
      unfold LogOnly
      rw [honly]
      rfl

end Sys2Proof.Machine
end

section
/-! SUPPORT. The itinerary, curve, region and counter commands (R201, R206 to R210, R555), and O31. -/

namespace Sys2Proof.Machine

/-! ### Effects on the scheduler beside an open request -/

theorem DeskOnly.withSch {k : Nat} {s u : State} (h : DeskOnly k s u) (x : Sched) :
    DeskOnly k { s with sch := x } { u with sch := x } := by
  obtain ⟨hu, hm⟩ := h
  refine ⟨?_, hm⟩
  rw [hu]
  rfl

section
variable (t : Nat) (r : Req) (s : State)

theorem exec_itinWrite : exec (.itinWrite t r) s =
    .next (command { op := 0x0510 } (fun p => decide (8 ≤ p.length) && p.length == 8 + fld p 2 2) itinWriteBody t r s) := rfl
theorem exec_itinRead : exec (.itinRead t r) s = .next (command { op := 0x0511 } (lenEq 8) itinReadBody t r s) := rfl
theorem exec_itinValidate : exec (.itinValidate t r) s = .next (command { op := 0x0512 } (lenEq 4) itinValidateBody t r s) := rfl
theorem exec_curveWrite : exec (.curveWrite t r) s =
    .next (command { op := 0x0513 } (fun p => decide (8 ≤ p.length) && p.length == 8 + (if fld p 1 1 = 0 then 2 * fld p 5 1 else 0))
      curveWriteBody t r s) := rfl
theorem exec_planRoiSet : exec (.planRoiSet t r) s =
    .next (command { op := 0x0514 } (fun p => decide (4 ≤ p.length) && p.length == 4 + 8 * fld p 0 1) planRoiBody t r s) := rfl
theorem exec_emitCountersRead : exec (.emitCountersRead t r) s =
    .next (command { op := 0x0515 } (lenEq 4) emitCountersBody t r s) := rfl

end

/-! ### ITIN_WRITE (R201, R206) -/

/-- What ITIN_WRITE answers of bytes it took: their offset and number. -/
def itinWritten (r : Req) : List Byte := le 4 (fld r.payload 4 4) ++ le 2 (fld r.payload 2 2) ++ le 2 0

/-- The base with a request's bytes in it, disarmed. -/
def baseWritten (r : Req) (x : Sched) : Sched :=
  { x with base := cputs 0 x.base (fld r.payload 4 4) (r.payload.drop 8), baseArmed := false, planFrom := none }

/-- The shadow with a request's bytes in its image. -/
def shadowWritten (r : Req) (x : Par) : Par :=
  { x with shadow := { x.shadow with itin := cputs 0 x.shadow.itin (fld r.payload 4 4) (r.payload.drop 8), itinHas := true } }

section
variable {t : Nat} {r : Req} {s : State} (h : Ready r s) (hlen : r.payload.length = 8 + fld r.payload 2 2) (hz : fld r.payload 1 1 = 0)
  (h1 : 1 ≤ fld r.payload 2 2) (h240 : fld r.payload 2 2 ≤ 240) (ho : fld r.payload 4 4 + fld r.payload 2 2 ≤ 131072)
include hz h1 h240 ho

theorem itinWriteBody_base (op : Nat) (htg : fld r.payload 0 1 = 1) :
    itinWriteBody op r s = .done rOK (itinWritten r) { s with sch := baseWritten r s.sch } := by
  unfold itinWriteBody
  dsimp only
  rw [if_neg (by omega), if_neg (by omega), if_neg (by omega)]
  rfl

theorem itinWriteBody_shadow (op : Nat) (htg : fld r.payload 0 1 = 0) (hp : par0 s pPlanMode ≠ 0) (hc : s.sch.copyBack ≤ s.dev) :
    itinWriteBody op r s = .done rOK (itinWritten r) { s with par := shadowWritten r s.par } := by
  unfold itinWriteBody
  dsimp only
  rw [if_neg (fun g => hp g.2), if_neg (by omega), if_pos htg, if_neg (by omega)]
  rfl

include h hlen

theorem itinWrite_base_completes (htg : fld r.payload 0 1 = 1) :
    CompletesOk (.itinWrite t r) r 0x0510 s { advance t s with sch := baseWritten r s.sch } (fun p => p = itinWritten r) := by
  have hb := itinWriteBody_base (s := started 0x0510 t r s) hz h1 h240 ho 0x0510 htg
  rw [started_sch] at hb
  exact completesOk_of_effect (exec_of_body h (exec_itinWrite t r s) (by omega) (by simp [hlen]) hb) (started_origin ..)
    ((started_deskOnly 0x0510 t r s h.2.2.2.2.2).withSch _) rfl (by simp [itinWritten])

theorem itinWrite_shadow_completes (htg : fld r.payload 0 1 = 0) (hp : par0 s pPlanMode ≠ 0) (hc : s.sch.copyBack ≤ (advance t s).dev) :
    CompletesOk (.itinWrite t r) r 0x0510 s { advance t s with par := shadowWritten r s.par } (fun p => p = itinWritten r) := by
  have hb := itinWriteBody_shadow (s := started 0x0510 t r s) hz h1 h240 ho 0x0510 htg (by rw [started_eq]; exact hp)
    (by rw [started_sch, started_dev]; exact hc)
  rw [started_par] at hb
  exact completesOk_of_effect (exec_of_body h (exec_itinWrite t r s) (by omega) (by simp [hlen]) hb) (started_origin ..)
    ((started_deskOnly 0x0510 t r s h.2.2.2.2.2).withPar _) rfl (by simp [itinWritten])

end

/-! ### ITIN_READ (R206) -/

@[simp] theorem itinTarget_started (op t : Nat) (r : Req) (s : State) (tg : Nat) : itinTarget (started op t r s) tg = itinTarget s tg := by
  unfold itinTarget
  rw [started_par, started_sch]

/-- The bytes of an image that a request asks for, behind their offset and number. -/
def itinBytes (r : Req) (s : State) : List Byte :=
  itinWritten r ++ cgets 0 (itinTarget s (fld r.payload 0 1)) (fld r.payload 4 4) (fld r.payload 2 2)

theorem itinRead_completes {t : Nat} {r : Req} {s : State} (h : Ready r s) (hlen : r.payload.length = 8) (htg : fld r.payload 0 1 ≤ 2)
    (hz : fld r.payload 1 1 = 0) (h1 : 1 ≤ fld r.payload 2 2) (h236 : fld r.payload 2 2 ≤ 236)
    (ho : fld r.payload 4 4 + fld r.payload 2 2 ≤ 131072) :
    CompletesOk (.itinRead t r) r 0x0511 s (advance t s) (fun p => p = itinBytes r s) := by
  have hb : itinReadBody 0x0511 r (started 0x0511 t r s) = .done rOK (itinBytes r s) (started 0x0511 t r s) := by
    unfold itinReadBody
    dsimp only
    rw [if_neg (by omega), itinTarget_started]
    rfl
  refine completesOk_of_done h (exec_of_body h (exec_itinRead t r s) (by omega) (by simp [lenEq, hlen]) hb) rfl ?_
  simp [itinBytes, itinWritten]
  omega

/-! ### ITIN_VALIDATE (R207, R555) -/

/-- The image that a request names, judged against the shadow. -/
def itinVerdict (r : Req) (s : State) : Verdict := validate s s.par.shadow (itinTarget s (fld r.payload 0 1))

theorem itinVerdict_started (op t : Nat) (r : Req) (s : State) : itinVerdict r (started op t r s) = itinVerdict r (advance t s) := by
  unfold itinVerdict
  rw [itinTarget_started, started_eq]
  rfl

/-- The base is armed where a validation that passes asks for it. -/
def armedOn (r : Req) (x : Sched) : Sched := if fld r.payload 1 1 = 1 then { x with baseArmed := true, planFrom := none } else x

/-- What a validation answers before the frame length. -/
def verdictBytes (r : Req) (s : State) : List Byte :=
  le 1 0 ++ le 1 (itinVerdict r s).line ++ le 2 (itinVerdict r s).cell ++ le 4 (imId (itinTarget s (fld r.payload 0 1)))

theorem itinValidateBody_done (op : Nat) {r : Req} {s : State} (htg : fld r.payload 0 1 ≤ 1) (ha : fld r.payload 1 1 ≤ fld r.payload 0 1)
    (hz : fld r.payload 2 2 = 0) (hv : (itinVerdict r s).reason = 0) :
    ∃ len, itinValidateBody op r s = .done rOK (verdictBytes r s ++ le 4 len) { s with sch := armedOn r s.sch } := by
  have hv' : (validate s s.par.shadow (itinTarget s (fld r.payload 0 1))).reason = 0 := hv
  refine ⟨frameLength (pvShadow s) (itinTarget s (fld r.payload 0 1)), ?_⟩
  unfold itinValidateBody armedOn
  dsimp only
  rw [if_neg (by omega), if_pos hv', if_pos hv', hv']
  by_cases harm : fld r.payload 1 1 = 1
  · rw [if_pos ⟨harm, rfl⟩, if_pos harm]
    rfl
  · rw [if_neg (fun g => harm g.1), if_neg harm]
    rfl

theorem itinValidate_completes {t : Nat} {r : Req} {s : State} (h : Ready r s) (hlen : r.payload.length = 4) (htg : fld r.payload 0 1 ≤ 1)
    (ha : fld r.payload 1 1 ≤ fld r.payload 0 1) (hz : fld r.payload 2 2 = 0) (hv : (itinVerdict r (advance t s)).reason = 0) :
    CompletesOk (.itinValidate t r) r 0x0512 s { advance t s with sch := armedOn r s.sch }
      (fun p => p.length = 12 ∧ p.take 8 = verdictBytes r (advance t s)) := by
  obtain ⟨len, hb⟩ := itinValidateBody_done 0x0512 (s := started 0x0512 t r s) htg ha hz ((itinVerdict_started ..).symm ▸ hv)
  have hbytes : verdictBytes r (started 0x0512 t r s) = verdictBytes r (advance t s) := by
    unfold verdictBytes
    rw [itinVerdict_started, itinTarget_started]
    rfl
  have hl : (verdictBytes r (advance t s)).length = 8 := by simp [verdictBytes]
  rw [hbytes, started_sch] at hb
  refine completesOk_of_effect (exec_of_body h (exec_itinValidate t r s) (by omega) (by simp [lenEq, hlen]) hb) (started_origin ..)
    ((started_deskOnly 0x0512 t r s h.2.2.2.2.2).withSch _) ⟨?_, List.take_left' hl⟩ ?_
  · simp [hl]
  · simp [hl]

/-! ### CURVE_WRITE (R208) -/

/-- The override entries that a request carries. -/
def curveEntries (r : Req) : List Nat := (List.range (fld r.payload 5 1)).map (fun i => fld r.payload (8 + 2 * i) 2)

/-- The curve that a request makes of the shadow's. -/
def curveWritten (r : Req) (x : Par) : Curve :=
  writeCurve (fld r.payload 1 1) (fld r.payload 2 2) (fld r.payload 4 1) (curveEntries r) (setCurve x.shadow (fld r.payload 0 1))

/-- The ends of the curve written. -/
def curveAnswer (r : Req) (x : Par) : List Byte := le 2 (curveVal (curveWritten r x) 0) ++ le 2 (curveVal (curveWritten r x) 255)

/-- The shadow with the curve in its slot. -/
def curveStored (r : Req) (x : Par) : Par :=
  { x with shadow := { x.shadow with curves := tput {} x.shadow.curves (fld r.payload 0 1) (curveWritten r x) } }

/-- A request's curve type with the fields that R208 lets it have. -/
def CurveFits (r : Req) : Prop :=
  fld r.payload 1 1 = 0 ∧ fld r.payload 2 2 = 0 ∧ 1 ≤ fld r.payload 5 1 ∧ fld r.payload 5 1 ≤ 112 ∧ fld r.payload 4 1 + fld r.payload 5 1 ≤ 256
      ∧ (∀ e ∈ curveEntries r, e ≤ 4095)
    ∨ fld r.payload 1 1 = 1 ∧ fld r.payload 4 1 = 0 ∧ fld r.payload 5 1 = 0 ∧ 10 ≤ fld r.payload 2 2 ∧ fld r.payload 2 2 ≤ 600
    ∨ fld r.payload 1 1 = 2 ∧ fld r.payload 4 1 = 0 ∧ fld r.payload 5 1 = 0 ∧ 0x400 ≤ fld r.payload 2 2 ∧ fld r.payload 2 2 ≤ 0x4000

theorem curveWriteBody_done (op : Nat) {r : Req} {s : State} (hk : fld r.payload 0 1 ≤ 3) (hz : fld r.payload 6 2 = 0) (hf : CurveFits r) :
    curveWriteBody op r s = .done rOK (curveAnswer r s.par) { s with par := curveStored r s.par } := by
  unfold curveWriteBody
  dsimp only
  refine if_neg ?_
  rcases hf with ⟨hty, hsh, h1, h112, hn, he⟩ | ⟨hty, hfi, hn, hlo, hhi⟩ | ⟨hty, hfi, hn, hlo, hhi⟩
  · have hany : (curveEntries r).any (fun e => decide (4095 < e)) = false := by simpa using he
    unfold curveEntries at hany
    simp [hk, hz, hty, hsh, hany]
    omega
  · simp [hk, hz, hty, hfi, hn]
    omega
  · simp [hk, hz, hty, hfi, hn]
    omega

theorem curveWrite_completes {t : Nat} {r : Req} {s : State} (h : Ready r s) (hlen : r.payload.length = 8 + 2 * fld r.payload 5 1)
    (hk : fld r.payload 0 1 ≤ 3) (hz : fld r.payload 6 2 = 0) (hf : CurveFits r) :
    CompletesOk (.curveWrite t r) r 0x0513 s { advance t s with par := curveStored r s.par } (fun p => p = curveAnswer r s.par) := by
  have hb := curveWriteBody_done 0x0513 (s := started 0x0513 t r s) hk hz hf
  rw [started_par] at hb
  have hn : fld r.payload 5 1 ≤ 112 ∧ (fld r.payload 1 1 ≠ 0 → fld r.payload 5 1 = 0) := by
    unfold CurveFits at hf
    omega
  have hok : 2 * fld r.payload 5 1 = if fld r.payload 1 1 = 0 then 2 * fld r.payload 5 1 else 0 := by
    split <;> omega
  exact completesOk_of_effect (exec_of_body h (exec_curveWrite t r s) (by omega) (by simp [hlen, ← hok]) hb) (started_origin ..)
    ((started_deskOnly 0x0513 t r s h.2.2.2.2.2).withPar _) rfl (by simp [curveAnswer])

/-! ### PLAN_ROI_SET (R209) -/

/-- The regions of interest that a request carries. -/
def reqRois (r : Req) : List Roi := (List.range (fld r.payload 0 1)).map (fun i =>
  { azLo := fld r.payload (4 + 8 * i) 2, azHi := fld r.payload (6 + 8 * i) 2
    rowLo := fld r.payload (8 + 8 * i) 2, rowHi := fld r.payload (10 + 8 * i) 2 })

theorem planRoiBody_done (op : Nat) {r : Req} {s : State} (h4 : fld r.payload 0 1 ≤ 4) (hz : allZero ((r.payload.drop 1).take 3) = true)
    (hq : ∀ q ∈ reqRois r, q.azLo ≤ q.azHi ∧ q.rowLo ≤ q.rowHi ∧ q.rowHi ≤ 1023) :
    planRoiBody op r s = .done rOK (le 1 (fld r.payload 0 1) ++ zeros 3) { s with sch := { s.sch with rois := reqRois r } } := by
  have hany : (reqRois r).any (fun q => decide (q.azHi < q.azLo) || decide (q.rowHi < q.rowLo) || decide (1023 < q.rowHi)) = false := by
    rw [List.any_eq_false]
    intro q hm
    obtain ⟨haz, hrow, hlast⟩ := hq q hm
    simp [haz, hrow, hlast]
  unfold planRoiBody
  dsimp only
  refine if_neg ?_
  unfold reqRois at hany
  simp only [hany, hz]
  simpa using h4

theorem planRoiSet_completes {t : Nat} {r : Req} {s : State} (h : Ready r s) (hlen : r.payload.length = 4 + 8 * fld r.payload 0 1)
    (h4 : fld r.payload 0 1 ≤ 4) (hz : allZero ((r.payload.drop 1).take 3) = true)
    (hq : ∀ q ∈ reqRois r, q.azLo ≤ q.azHi ∧ q.rowLo ≤ q.rowHi ∧ q.rowHi ≤ 1023) :
    CompletesOk (.planRoiSet t r) r 0x0514 s { advance t s with sch := { s.sch with rois := reqRois r } }
      (fun p => p = le 1 (fld r.payload 0 1) ++ zeros 3) := by
  have hb := planRoiBody_done 0x0514 (s := started 0x0514 t r s) h4 hz hq
  rw [started_sch] at hb
  exact completesOk_of_effect (exec_of_body h (exec_planRoiSet t r s) (by omega) (by simp [hlen]) hb) (started_origin ..)
    ((started_deskOnly 0x0514 t r s h.2.2.2.2.2).withSch _) rfl (by simp)

/-! ### EMIT_COUNTERS_READ (R210) -/

/-- The scheduler's counters and wrap bits cleared as bits 0 and 1 of a request ask. -/
def Sched.cleared (r : Req) (x : Sched) : Sched :=
  let a := (fld r.payload 0 1).testBit 0
  let b := (fld r.payload 0 1).testBit 1
  { x with
    fired := if a then 0 else x.fired, shifts := if a then 0 else x.shifts, capped := if a then 0 else x.capped
    rateSkip := if a then 0 else x.rateSkip, gap := x.gap.clear a b, overrun := x.overrun.clear a b, facetW := x.facetW.clear a b }

/-- The counts of shots in the order of R210's table. -/
def Sched.shotCounts (x : Sched) : List Byte := le 8 x.fired ++ le 8 x.shifts ++ le 8 x.capped ++ le 8 x.rateSkip

theorem Sched.length_shotCounts (x : Sched) : x.shotCounts.length = 32 := by
  simp [Sched.shotCounts]

/-- The answer: flags, the counts of shots, and 32 bytes of other counters, levels and limits. -/
theorem emitCountersBody_done (op : Nat) {r : Req} {s : State} (hc : fld r.payload 0 1 < 4) (hz : allZero (r.payload.drop 1) = true) :
    ∃ flags rest : List Byte, flags.length = 4 ∧ rest.length = 32 ∧
      emitCountersBody op r s = .done rOK (flags ++ (s.sch.shotCounts ++ rest)) { s with sch := s.sch.cleared r } := by
  refine ⟨le 2 (b2n s.sch.gap.wrap + 2 * b2n s.sch.overrun.wrap + 4 * b2n s.sch.facetW.wrap) ++ le 2 0,
    le 4 s.sch.gap.val.toNat ++ le 4 s.sch.overrun.val.toNat ++ le 4 s.sch.facetW.val.toNat
      ++ (List.range 16).flatMap (fun i => le 1 (strng s i).lvl) ++ le 2 s.sch.ceil ++ le 1 s.sch.rdiv ++ le 1 s.sch.chgEn,
    by simp, by simp, ?_⟩
  unfold emitCountersBody
  dsimp only
  rw [if_neg (not_or.2 ⟨by simp [clearOk, hc], by rw [hz]; decide⟩)]
  unfold Sched.cleared Sched.shotCounts
  simp only [List.append_assoc]
  cases (fld r.payload 0 1).testBit 0 <;> rfl

theorem emitCountersRead_completes {t : Nat} {r : Req} {s : State} (h : Ready r s) (hlen : r.payload.length = 4) (hc : fld r.payload 0 1 < 4)
    (hz : allZero (r.payload.drop 1) = true) :
    CompletesOk (.emitCountersRead t r) r 0x0515 s { advance t s with sch := s.sch.cleared r }
      (fun p => p.length = 68 ∧ (p.drop 4).take 32 = s.sch.shotCounts) := by
  obtain ⟨flags, rest, hf, hrest, hb⟩ := emitCountersBody_done 0x0515 (s := started 0x0515 t r s) hc hz
  rw [started_sch] at hb
  have hcounts := s.sch.length_shotCounts
  refine completesOk_of_effect (exec_of_body h (exec_emitCountersRead t r s) (by omega) (by simp [lenEq, hlen]) hb) (started_origin ..)
    ((started_deskOnly 0x0515 t r s h.2.2.2.2.2).withSch _) ⟨?_, ?_⟩ ?_
  · simp [hf, hrest, hcounts]
  · rw [List.drop_left' hf, List.take_left' hcounts]
  · simp [hf, hrest, hcounts]

/-! ### O31 -/

/-- Settles O31: a clause per command. -/
theorem emissionCommandsComplete : Obligations.EmissionCommandsComplete := by
  unfold Obligations.EmissionCommandsComplete
  refine ⟨fun t r s h hlen hz h1 h240 ho => ⟨fun htg => itinWrite_base_completes h hlen hz h1 h240 ho htg,
      fun htg hp hc => itinWrite_shadow_completes h hlen hz h1 h240 ho htg hp hc⟩,
    fun t r s h hlen htg hz h1 h236 ho => itinRead_completes h hlen htg hz h1 h236 ho, ?_,
    fun t r s h hlen hk hz hf => curveWrite_completes h hlen hk hz hf,
    fun t r s h hlen h4 hz hq => planRoiSet_completes h hlen h4 hz hq,
    fun t r s h hlen hc hz => emitCountersRead_completes h hlen hc hz⟩
  intro t r s h hlen htg ha hz img v hv
  have hend : (if fld r.payload 1 1 = 1 then { advance t s with sch.baseArmed := true, sch.planFrom := none } else advance t s)
      = { advance t s with sch := armedOn r s.sch } := by
    unfold armedOn
    split <;> rfl
  rw [hend]
  exact itinValidate_completes h hlen htg ha hz hv

end Sys2Proof.Machine
end

section
/-! SUPPORT. The fire edge of a string that is no longer this device's (R406, R408), and O23. -/

namespace Sys2Proof.Machine

/-- A shot whose string has been let go since its set instant is taken back and not fired (R406). -/
theorem fireEdge_letGo {i : Nat} {p : Placed} {l : LineRun} {s : State} (hp : (strng s i).placed = some p) (hd : p.drive = true)
    (he : p.edge ≤ s.dev) (hl : s.sch.line = some l) (hg : drivesString s i = false) :
    fireEdge i s = setStrng s i { strng s i with placed := none } := by
  have hdue : ¬(s.dev < p.edge ∨ p.drive = false ∨ s.sch.line = none) := by simp [hd, he, hl]
  unfold fireEdge
  rw [hp]
  dsimp only
  rw [if_neg hdue, if_pos hg]

/-- An image of one line, at byte 40, with one cell of one cycle. -/
def oneCycleImage : List Host.Cell := cputs 0 (cputs 0 (cputs 0 [] 32 (le 4 40)) 44 (le 2 1)) 56 (le 2 1 ++ le 1 0 ++ le 1 1)

/-- Its line, running. -/
def oneCycleLine : LineRun := { line := 0, tls := 0, facet := 0, p := 1000, slots := 8 }

/-- A shot that this device was to drive, its edge due now. -/
def dueShot : Placed :=
  { slot := 0, em := 0, edge := 0, launch := 0, iset := 0, drive := true, shift := false, capped := false }

/-- A twin in RUN with the shot placed on string 0, which a claim round has since given to its partner: it owns no string. -/
def claimLost : State := { State.reset with
  desk.st := 4, par.boBoot := [(pKey pTwinEnable 0, some 1)], par.inForce.itin := oneCycleImage
  sch.line := some oneCycleLine, sch.strs := [(0, { placed := some dueShot })] }

theorem drivesString_claimLost : drivesString (advance 0 claimLost) 0 = false := by decide

/-- Refutes O23: where a twin has lost the string between a shot's set instant and its edge, the edge raises no FIRE, which the clause
of the fire edge does not exclude. -/
theorem not_shotsFire : ¬ Obligations.ShotsFire := by
  unfold Obligations.ShotsFire
  rintro ⟨hfire, -⟩
  have ha : Awake claimLost := ⟨by decide, by decide⟩
  obtain ⟨u, hu, hup, -⟩ := hfire 0 0 dueShot oneCycleLine claimLost ha rfl rfl (Nat.zero_le _) rfl (by decide)
  have hx : exec (.fireEdge 0 0) claimLost = .next (live 0 (fireEdge 0) claimLost) := rfl
  rw [live_awake ha, fireEdge_letGo (s := advance 0 claimLost) rfl rfl (Nat.zero_le _) rfl drivesString_claimLost] at hx
  obtain rfl := Host.Outcome.next.inj (hu.symm.trans hx)
  rw [strng_setStrng, if_pos rfl] at hup
  exact absurd hup (by decide)

end Sys2Proof.Machine
end

section
/-! SUPPORT. The end of a line (R182, R185, R349): what it leaves as it was, and the shed counts that start again. -/

namespace Sys2Proof.Machine

/-! ### Device time stands -/

@[simp] theorem logEv_dev (code : Nat) (data : List Byte) (s : State) : (logEv code data s).dev = s.dev := (logEv_time ..).2.1
@[simp] theorem wrapEv_dev (old : CntW) (k code : Nat) (data : List Byte) (s : State) : (wrapEv old k code data s).dev = s.dev :=
  (wrapEv_time ..).2.1

@[simp] theorem mbDone_dev (k op result tag : Nat) (p : List Byte) (s : State) : (mbDone k op result tag p s).dev = s.dev := by
  unfold mbDone
  dsimp only
  split
  · exact (attnSet_time ..).2.1.trans (wrapEv_dev ..)
  · exact wrapEv_dev ..

theorem judgeHost_dev (late : Bool) (first : Nat) (a : Awaiting) (h : Sealed) (s : State) : (judgeHost late first a h s).dev = s.dev := by
  cases hk : a.mb <;> cases late <;> simp [judgeHost, hk]

theorem judgeSvc_dev (late : Bool) (first : Nat) (v : SvcSealed) (s : State) : (judgeSvc late first v s).dev = s.dev := by
  cases late <;> simp [judgeSvc]

theorem judgeOne_dev (late : Bool) (a : Awaiting) (s : State) : (judgeOne late a s).dev = s.dev := by
  unfold judgeOne
  cases a.host <;> cases a.svc <;> simp [judgeHost_dev, judgeSvc_dev]

theorem judgeSeals_dev (s : State) : (judgeSeals s).dev = s.dev := by
  unfold judgeSeals
  split
  · rfl
  · exact foldl_keeps State.dev (fun u a => judgeOne_dev _ a u) _ _

theorem pushLoss_dev (l : Loss) (s : State) : (pushLoss l s).dev = s.dev := by
  unfold pushLoss
  dsimp only
  split
  · rfl
  · split
    · rfl
    · rw [logEv_dev]
      exact foldl_keeps State.dev (fun u k => wrapEv_dev _ _ _ _ (setPath u k _)) _ _

/-! ### What a line's end leaves -/

/-- From `s` to `u` a line may have ended: beside channels, scheduler, servos, stream, twin, the log and judged seals nothing moves, nor do
device time, the polygon's service and the line that runs next. -/
structure LineOver (s u : State) : Prop where
  dev      : u.dev = s.dev
  poly     : u.srv.poly = s.srv.poly
  nextLine : u.sch.nextLine = s.sch.nextLine
  only     : SealsJudged { s with ch := u.ch, sch := u.sch, srv := u.srv, str := u.str, twn := u.twn } u

theorem LineOver.refl (s : State) : LineOver s s := ⟨rfl, rfl, rfl, rfl⟩

theorem LineOver.trans {s u v : State} (h : LineOver s u) (g : LineOver u v) : LineOver s v := by
  refine ⟨g.dev.trans h.dev, g.poly.trans h.poly, g.nextLine.trans h.nextLine, ?_⟩
  have ho := h.only
  have go := g.only
  unfold SealsJudged at ho go ⊢
  rw [ho] at go
  exact go

theorem SealsJudged.lineOver {s u : State} (h : SealsJudged s u) (hd : u.dev = s.dev) : LineOver s u := by
  unfold SealsJudged at h
  refine ⟨hd, ?_, ?_, ?_⟩
  · rw [h]
    rfl
  · rw [h]
    rfl
  · unfold SealsJudged
    rw [h]
    rfl

theorem LineOver.twinMode {s u : State} (h : LineOver s u) : twinMode u = Machine.twinMode s := by
  have ho := h.only
  unfold SealsJudged at ho
  rw [ho]
  rfl

theorem LineOver.standby {s u : State} (h : LineOver s u) (ht : Machine.twinMode s = false) : standby u = false := by
  simp [Machine.standby, h.twinMode, ht]

/-! ### Elevation and shed counts (R182, R349) -/

/-- From `s` to `u` nothing moves but channels, servos, the stream and the log; device time stands, and the polygon's service. -/
structure ShedSent (s u : State) : Prop where
  dev  : u.dev = s.dev
  poly : u.srv.poly = s.srv.poly
  only : LogOnly { s with ch := u.ch, srv := u.srv, str := u.str } u

theorem ShedSent.refl (s : State) : ShedSent s s := ⟨rfl, rfl, rfl⟩

theorem ShedSent.trans {s u v : State} (h : ShedSent s u) (g : ShedSent u v) : ShedSent s v := by
  refine ⟨g.dev.trans h.dev, g.poly.trans h.poly, ?_⟩
  have ho := h.only
  have go := g.only
  unfold LogOnly at ho go ⊢
  rw [ho] at go
  exact go

theorem shedSent_foldl {α : Type} {f : State → α → State} (h : ∀ s a, ShedSent s (f s a)) (l : List α) (s : State) :
    ShedSent s (l.foldl f s) :=
  foldl_holds (ShedSent s) (fun u a hu => hu.trans (h u a)) l s (.refl s)

theorem ShedSent.sch {s u : State} (h : ShedSent s u) : u.sch = s.sch :=
  h.only.sealsJudged.sch

theorem ShedSent.twn {s u : State} (h : ShedSent s u) : u.twn = s.twn := by
  have ho := h.only
  unfold LogOnly at ho
  rw [ho]
  rfl

theorem ShedSent.lineOver {s u : State} (h : ShedSent s u) : LineOver s u := by
  refine ⟨h.dev, h.poly, by rw [h.sch], ?_⟩
  rw [h.sch, h.twn]
  exact h.only.sealsJudged

theorem handElev_shedSent (l : Nat) (s : State) : ShedSent s (handElev l s) := by
  unfold handElev
  dsimp only
  split
  · exact ⟨rfl, rfl, rfl⟩
  · exact .refl s

theorem pushLoss_shedSent (l : Loss) (s : State) : ShedSent s (pushLoss l s) := by
  have h := pushLoss_streamOnly l s
  unfold StreamOnly LogOnly at h
  refine ⟨pushLoss_dev l s, ?_, ?_⟩
  · rw [h]
    rfl
  · unfold LogOnly
    rw [h]
    rfl

/-- The line counts of a channel stand at 0 (R349). -/
def LineCleared (s : State) (c : Nat) : Prop := (ch s c).lnQueued = 0 ∧ (ch s c).lnShed = 0

/-- A channel's line counts start again. -/
def restartCounts (s : State) (c : Nat) : State :=
  if (ch s c).lnQueued = 0 ∧ (ch s c).lnShed = 0 then s else setCh s c { ch s c with lnQueued := 0, lnShed := 0 }

theorem restartCounts_shedSent (s : State) (c : Nat) : ShedSent s (restartCounts s c) := by
  unfold restartCounts
  split
  · exact .refl s
  · exact ⟨rfl, rfl, rfl⟩

theorem restartCounts_clears (s : State) (c : Nat) : LineCleared (restartCounts s c) c := by
  unfold restartCounts
  split
  · next h => exact h
  · simp [LineCleared]

theorem restartCounts_keeps {k : Nat} (s : State) (c : Nat) (h : LineCleared s k) : LineCleared (restartCounts s c) k := by
  by_cases hk : k = c
  · exact hk ▸ restartCounts_clears s c
  · unfold restartCounts
    split
    · exact h
    · simpa [LineCleared, hk] using h

/-- The channels of a rod. -/
def rodChans (r : Nat) : List Nat := (List.range 16).map (fun i => 16 * r + i)

/-- The rod's SHED record has been sent where a channel of it shed. -/
theorem shedLine_eq (line r : Nat) (s : State) : ∃ u, ShedSent s u ∧ u.ch = s.ch ∧ shedLine line r s = (rodChans r).foldl restartCounts u := by
  unfold shedLine
  dsimp only
  split
  · exact ⟨_, pushLoss_shedSent .., (pushLoss_streamOnly ..).ch, rfl⟩
  · exact ⟨s, .refl s, rfl, rfl⟩

theorem shedLine_shedSent (line r : Nat) (s : State) : ShedSent s (shedLine line r s) := by
  obtain ⟨u, hu, -, h⟩ := shedLine_eq line r s
  rw [h]
  exact hu.trans (shedSent_foldl restartCounts_shedSent _ u)

theorem shedLine_clears (line : Nat) {r c : Nat} (s : State) (hc : c / 16 = r) : LineCleared (shedLine line r s) c := by
  obtain ⟨u, -, -, h⟩ := shedLine_eq line r s
  rw [h]
  refine foldl_reaches restartCounts_clears (fun s c k hk => restartCounts_keeps s c hk) (List.mem_map.2 ⟨c % 16, ?_, ?_⟩) u
  · exact List.mem_range.2 (Nat.mod_lt _ (by decide))
  · omega

theorem shedLine_keeps (line r : Nat) {k : Nat} (s : State) (hk : LineCleared s k) : LineCleared (shedLine line r s) k := by
  obtain ⟨u, -, hch, h⟩ := shedLine_eq line r s
  rw [h]
  refine foldl_holds (LineCleared · k) (fun s c => restartCounts_keeps s c) _ u ?_
  unfold LineCleared ch
  rw [hch]
  exact hk

/-- The next line's elevation has been handed and the line's shed counts sent. -/
def lineShed (l : LineRun) (s : State) : State :=
  (List.range 64).foldl (fun s r => shedLine l.line r s) (if s.sch.nextLine = 0 then s else handElev s.sch.nextLine s)

theorem lineShed_shedSent (l : LineRun) (s : State) : ShedSent s (lineShed l s) := by
  unfold lineShed
  refine ShedSent.trans ?_ (shedSent_foldl (fun s r => shedLine_shedSent l.line r s) _ _)
  split
  · exact .refl s
  · exact handElev_shedSent ..

theorem lineShed_clears (l : LineRun) (s : State) {c : Nat} (hc : c < 1024) : LineCleared (lineShed l s) c :=
  foldl_reaches (m := fun s r => ∀ c, c / 16 = r → LineCleared s c) (fun s _ _ hc => shedLine_clears l.line s hc)
    (fun s r _ h c hc => shedLine_keeps l.line r s (h c hc)) (List.mem_range.2 (by omega)) _ c rfl

/-! ### After the last slot (R182, R183, R411) -/

/-- The line's end has been dealt with. -/
def endMarked (s : State) : State := { s with sch := { s.sch with elevSent := true } }

/-- The owner of a twin head sends its line copy (R411). -/
def copySent (s : State) : State := if twinMode s && s.twn.owner then { s with twn.sent := lineCopyBytes s } else s

theorem copySent_lineOver (s : State) : LineOver s (copySent s) := by
  unfold copySent
  split
  · exact ⟨rfl, rfl, rfl, rfl⟩
  · exact .refl s

theorem copySent_ch (s : State) : (copySent s).ch = s.ch := by
  unfold copySent
  split <;> rfl

theorem copySent_sch (s : State) : (copySent s).sch = s.sch := by
  unfold copySent
  split <;> rfl

theorem copySent_only (s : State) : LogOnly { s with twn := (copySent s).twn } (copySent s) := by
  unfold copySent
  split <;> rfl

theorem copySent_alone {s : State} (ht : twinMode s = false) : copySent s = s :=
  if_neg (by simp [ht])

/-- Of a line's end, once its counts are sent, only the twin's copy is left to send. -/
theorem ShedSent.thenSent {s u v : State} (h : ShedSent (endMarked s) u) (g : LogOnly { u with twn := v.twn } v) :
    LogOnly { s with ch := v.ch, sch := v.sch, srv := v.srv, str := v.str, twn := v.twn } v := by
  have ho := h.only
  unfold LogOnly at ho g ⊢
  rw [ho] at g
  rw [g]
  rfl

theorem lineEndWork_idle {s : State} (h : s.sch.line = none ∨ s.sch.elevSent = true) : lineEndWork s = s := by
  unfold lineEndWork
  rcases h with h | h
  · rw [h]
  · split
    · rfl
    · exact if_pos h

section
variable {l : LineRun} {s : State} (hl : s.sch.line = some l) (he : s.sch.elevSent = false)
include hl he

theorem lineEndWork_eq : lineEndWork s = copySent (lineShed l (endMarked s)) := by
  unfold lineEndWork
  rw [hl]
  dsimp only
  rw [if_neg (by simp [he])]
  unfold lineShed endMarked
  generalize List.range 64 = rods
  rfl

theorem lineEndWork_sch : (lineEndWork s).sch = { s.sch with elevSent := true } := by
  rw [lineEndWork_eq hl he, copySent_sch, (lineShed_shedSent l (endMarked s)).sch]
  rfl

theorem lineEndWork_clears {c : Nat} (hc : c < 1024) : LineCleared (lineEndWork s) c := by
  have h := lineShed_clears l (endMarked s) hc
  unfold LineCleared ch at h ⊢
  rw [lineEndWork_eq hl he, copySent_ch]
  exact h

theorem lineEndWork_alone (ht : twinMode s = false) : (lineEndWork s).twn = s.twn := by
  have h := lineShed_shedSent l (endMarked s)
  rw [lineEndWork_eq hl he, copySent_alone (h.lineOver.twinMode.trans ht)]
  exact h.twn

theorem lineEndWork_only : LogOnly { s with
    ch := (lineEndWork s).ch, sch := (lineEndWork s).sch, srv := (lineEndWork s).srv, str := (lineEndWork s).str, twn := (lineEndWork s).twn }
    (lineEndWork s) := by
  rw [lineEndWork_eq hl he]
  exact (lineShed_shedSent l (endMarked s)).thenSent (copySent_only _)

theorem lineEndWork_ends : LineOver s (lineEndWork s) := by
  rw [lineEndWork_eq hl he]
  exact LineOver.trans (u := endMarked s) ⟨rfl, rfl, rfl, rfl⟩ ((lineShed_shedSent l _).lineOver.trans (copySent_lineOver _))

end

theorem lineEndWork_lineOver (s : State) : LineOver s (lineEndWork s) := by
  cases hl : s.sch.line with
  | none =>
    rw [lineEndWork_idle (.inl hl)]
    exact .refl s
  | some l =>
    cases he : s.sch.elevSent with
    | true =>
      rw [lineEndWork_idle (.inr he)]
      exact .refl s
    | false => exact lineEndWork_ends hl he

theorem lineEndWork_overrun (s : State) : (lineEndWork s).sch.overrun = s.sch.overrun := by
  cases hl : s.sch.line with
  | none => rw [lineEndWork_idle (.inl hl)]
  | some l =>
    cases he : s.sch.elevSent with
    | true => rw [lineEndWork_idle (.inr he)]
    | false => rw [lineEndWork_sch hl he]

end Sys2Proof.Machine
end

section
/-! SUPPORT. A line begins at a line-start event (R182, R183, R227, R345, R354, R355). -/

namespace Sys2Proof.Machine

/-! ### The records of a line start -/

/-- `u` differs from `s` in time, the log, the motion frames, the stream, the segments with it and the count of late keys alone. -/
def RecordsOnly (s u : State) : Prop := LogOnly { s with mot := u.mot, nk.segs := u.nk.segs, str := u.str, twn.lateC := u.twn.lateC } u

theorem RecordsOnly.trans {s u v : State} (h : RecordsOnly s u) (g : RecordsOnly u v) : RecordsOnly s v := by
  unfold RecordsOnly LogOnly at h g ⊢
  rw [h] at g
  exact g

theorem AssemblyOnly.recordsOnly {s u : State} (h : AssemblyOnly s u) : RecordsOnly s u := by
  unfold AssemblyOnly LogOnly at h
  unfold RecordsOnly LogOnly
  rw [h]
  rfl

theorem ownRec_recordsOnly (typ cls flags : Nat) (body : List Byte) (s : State) : RecordsOnly s (ownRec typ cls flags body s) :=
  ((formed_streamOnly ..).assemblyOnly.trans (admitRec_assemblyOnly ..)).recordsOnly

theorem freeRound_logOnly (num : Int) (den : Nat) (s : State) : LogOnly s (freeRound num den s).2 := by
  unfold freeRound
  split <;> rfl

theorem axes3_logOnly (g : MotFr) (tick : Nat) (as ws : List Int) (s : State) : LogOnly s (axes3 g tick as ws s).2 := by
  induction as generalizing ws s with
  | nil => rfl
  | cons a as ih =>
    cases ws with
    | nil => rfl
    | cons w ws => exact (freeRound_logOnly ..).trans (ih ws _)

theorem motionRecord_recordsOnly (line tls : Nat) (s : State) : RecordsOnly s (motionRecord line tls s) := by
  unfold motionRecord
  split
  · rfl
  · exact ((axes3_logOnly ..).trans (axes3_logOnly ..)).assemblyOnly.recordsOnly.trans (ownRec_recordsOnly ..)

theorem timeRecord_recordsOnly (s : State) : RecordsOnly s (timeRecord s) :=
  RecordsOnly.trans (u := (freeVal (2 ^ 32) s).2) rfl (ownRec_recordsOnly ..)

theorem lineRecords_recordsOnly (l : LineRun) (s : State) : RecordsOnly s (lineRecords l s) := by
  unfold lineRecords
  refine RecordsOnly.trans ?_ ((ownRec_recordsOnly ..).trans (motionRecord_recordsOnly ..))
  split
  · have hstart : ∀ l, RecordsOnly s (motionFrameStart { s with str.starts := l }) := fun _ => rfl
    exact (hstart _).trans ((ownRec_recordsOnly ..).trans (timeRecord_recordsOnly _))
  · rfl

/-! ### The next line runs -/

/-- The line that runs next, started now (R182, R183). -/
def nextRun (facet : Nat) (s : State) : LineRun :=
  { line := s.sch.nextLine, tls := coarse s, facet := facet, p := linePeriod s.par.inForce.itin s.sch.nextLine
    slots := lineSlots (pvForce s) s.par.inForce.itin s.sch.nextLine }

/-- Line 0 starts the frame (R24). -/
def frameBegun (s : State) : State := { s with
  sch.frameStart := coarse s * 64, sch.linesRun := 0
  sch.strs := s.sch.strs.map (fun p => (p.1, { p.2 with emPt := [] }))
  ch := s.ch.map (fun p => (p.1, { p.2 with frStamped := false })) }

/-- The strings at the first slot of a line. -/
def firstSlots (m : Tab Strng) : Tab Strng :=
  (List.range 16).foldl (fun m i => tmod {} m i (fun x => { x with nextSlot := 0, perm := [], placed := none })) m

/-- The scheduler on a line of a frame that has begun. -/
def lineTaken (run : LineRun) (s : State) : State := { s with
  sch.line := some run, sch.lineClose := 0, sch.lastTls := coarse s * 64, sch.linesRun := s.sch.linesRun + 1
  sch.lastLine := run.line, sch.strs := firstSlots s.sch.strs, sch.nextLine := lineAfter s run.line, sch.elevSent := false
  twn.notice := none, twn.ownInst := none, amb.nextIdx := 0 }

/-- The scheduler on the next line. -/
def lineBegun (facet : Nat) (s : State) : State := lineTaken (nextRun facet s) (if s.sch.nextLine = 0 then frameBegun s else s)

theorem firstSlots_first (m : Tab Strng) {i : Nat} (hi : i < 16) : (tget {} (firstSlots m) i).nextSlot = 0 := by
  refine foldl_reaches (m := fun m i => (tget ({} : Strng) m i).nextSlot = 0) (fun m i => ?_) (fun m i k hk => ?_) (List.mem_range.2 hi) m
  · rw [tget_tmod, if_pos rfl]
  · rw [tget_tmod]
    split
    · rfl
    · exact hk

theorem lineTaken_sch (run : LineRun) (s : State) : (lineTaken run s).sch.line = some run ∧ (lineTaken run s).sch.nextLine = lineAfter s run.line
    ∧ (lineTaken run s).sch.overrun = s.sch.overrun := ⟨rfl, rfl, rfl⟩

theorem strng_lineTaken (run : LineRun) (s : State) (i : Nat) : strng (lineTaken run s) i = tget {} (firstSlots s.sch.strs) i := by
  unfold strng lineTaken
  dsimp only

theorem lineTaken_first (run : LineRun) (s : State) {i : Nat} (hi : i < 16) : (strng (lineTaken run s) i).nextSlot = 0 := by
  rw [strng_lineTaken]
  exact firstSlots_first _ hi

theorem lineAfter_frameBegun (s : State) (l : Nat) : lineAfter (frameBegun s) l = lineAfter s l := rfl

/-- What has begun with the line's start. -/
theorem lineBegun_sch (facet : Nat) (s : State) :
    (lineBegun facet s).sch.line = some (nextRun facet s) ∧ (lineBegun facet s).sch.nextLine = lineAfter s s.sch.nextLine
      ∧ (lineBegun facet s).sch.overrun = s.sch.overrun ∧ ∀ i, i < 16 → (strng (lineBegun facet s) i).nextSlot = 0 := by
  unfold lineBegun
  split
  · obtain ⟨hline, hnext, hover⟩ := lineTaken_sch (nextRun facet s) (frameBegun s)
    rw [lineAfter_frameBegun] at hnext
    exact ⟨hline, hnext, hover, fun i hi => lineTaken_first _ _ hi⟩
  · obtain ⟨hline, hnext, hover⟩ := lineTaken_sch (nextRun facet s) s
    exact ⟨hline, hnext, hover, fun i hi => lineTaken_first _ _ hi⟩

/-- A line's start touches the scheduler with what hangs on it, the log, and judged seals: nothing else moves. -/
def LineOnly (s u : State) : Prop := SealsJudged { s with
  amb := u.amb, ch := u.ch, ic := u.ic, mot := u.mot, nk := u.nk, sch := u.sch, srv := u.srv, str := u.str, twn := u.twn } u

theorem LineOnly.trans {s u v : State} (h : LineOnly s u) (g : LineOnly u v) : LineOnly s v := by
  unfold LineOnly SealsJudged at h g ⊢
  rw [h] at g
  exact g

theorem LineOver.lineOnly {s u : State} (h : LineOver s u) : LineOnly s u := by
  have ho := h.only
  unfold SealsJudged at ho
  unfold LineOnly SealsJudged
  rw [ho]
  rfl

theorem RecordsOnly.lineOnly {s u : State} (h : RecordsOnly s u) : LineOnly s u := by
  unfold RecordsOnly LogOnly at h
  unfold LineOnly SealsJudged
  rw [h]
  rfl

theorem RecordsOnly.sch {s u : State} (h : RecordsOnly s u) : u.sch = s.sch := by
  unfold RecordsOnly LogOnly at h
  rw [h]
  rfl

theorem RecordsOnly.srv {s u : State} (h : RecordsOnly s u) : u.srv = s.srv := by
  unfold RecordsOnly LogOnly at h
  rw [h]
  rfl

theorem lineBegun_lineOnly (facet : Nat) (s : State) : LineOnly s (lineBegun facet s) := by
  unfold lineBegun
  split <;> rfl

theorem beginLine_eq (facet : Nat) (moved : Bool) {s : State} (ht : twinMode s = false) :
    beginLine facet moved s = irq 18 (giveAngle (lineAngle s.par.inForce.itin (lineBegun facet s).sch.nextLine)
      (lineRecords (nextRun facet s) (lineBegun facet s))) := by
  have htw : twinMode (lineBegun facet s) = false := by
    unfold lineBegun
    split <;> exact ht
  have hif : (if twinMode (lineBegun facet s) then pushLineKey (nextRun facet s) moved (lineBegun facet s) else lineBegun facet s)
      = lineBegun facet s := if_neg (by simp [htw])
  exact congrArg (fun u : State => irq 18 (giveAngle (lineAngle s.par.inForce.itin u.sch.nextLine) (lineRecords (nextRun facet s) u))) hif

theorem irq_lineOnly (n : Nat) (s : State) : LineOnly s (irq n s) := by
  rw [irq_ic]
  rfl

theorem giveAngle_lineOnly (a : Nat) (s : State) : LineOnly s (giveAngle a s) := rfl
theorem giveAngle_sch (a : Nat) (s : State) : (giveAngle a s).sch = s.sch := rfl
theorem giveAngle_lastLs (a : Nat) (s : State) : (giveAngle a s).srv.poly.lastLs = s.srv.poly.lastLs := rfl

theorem lineBegun_srv (facet : Nat) (s : State) : (lineBegun facet s).srv = s.srv := by
  unfold lineBegun
  split <;> rfl

section
variable (facet : Nat) (moved : Bool) {s : State} (ht : twinMode s = false)
include ht

theorem beginLine_sch : (beginLine facet moved s).sch = (lineBegun facet s).sch := by
  rw [beginLine_eq facet moved ht, irq_ic]
  dsimp only
  rw [giveAngle_sch, (lineRecords_recordsOnly ..).sch]

theorem beginLine_lastLs : (beginLine facet moved s).srv.poly.lastLs = s.srv.poly.lastLs := by
  rw [beginLine_eq facet moved ht, irq_ic]
  dsimp only
  rw [giveAngle_lastLs, (lineRecords_recordsOnly ..).srv, lineBegun_srv]

theorem beginLine_lineOnly : LineOnly s (beginLine facet moved s) := by
  rw [beginLine_eq facet moved ht]
  exact (((lineBegun_lineOnly facet s).trans (lineRecords_recordsOnly ..).lineOnly).trans (giveAngle_lineOnly ..)).trans (irq_lineOnly ..)

end

end Sys2Proof.Machine
end

section
/-! SUPPORT. Line-start events outside twin mode (R182, R185, R186, R424), and O21. -/

namespace Sys2Proof.Machine

/-! ### A line ends early (R185, R24) -/

/-- The strings once the slots left in the line have drawn what they draw (R185). -/
def slotsDrawn (l : LineRun) (s : State) : State := { s with
  sch.strs := (List.range 16).foldl (fun m i => tmod {} m i (fun x =>
    let y := drawRest s (l.slots - x.nextSlot) x
    { y with nextSlot := l.slots, placed := none, shunt := if x.placed.isSome then 0 else x.shunt })) s.sch.strs }

/-- No line runs, and the overruns count `c`; an edge placed and not fired is no previous edge (R188). -/
def lineDropped (c : CntW) (s : State) : State := { s with sch.overrun := c, sch.line := none, sch.lastEdge := s.sch.firedEdge }

/-- The line has ended with its slots left counted. -/
def slotsCounted (l : LineRun) (s : State) : State := lineDropped (s.sch.overrun.add (slotsLeft s l)) (lineEndWork (slotsDrawn l s))

theorem strs_lineOver (m : Tab Strng) (s : State) : LineOver s { s with sch.strs := m } := ⟨rfl, rfl, rfl, rfl⟩
theorem fbeAt_lineOver (n : Option Nat) (s : State) : LineOver s { s with sch.fbeAt := n } := ⟨rfl, rfl, rfl, rfl⟩
theorem lineDropped_lineOver (c : CntW) (s : State) : LineOver s (lineDropped c s) := ⟨rfl, rfl, rfl, rfl⟩

theorem slotsCounted_lineOver (l : LineRun) (s : State) : LineOver s (slotsCounted l s) :=
  (strs_lineOver _ s).trans ((lineEndWork_lineOver (slotsDrawn l s)).trans (lineDropped_lineOver ..))

theorem slotsCounted_sch (l : LineRun) (s : State) :
    (slotsCounted l s).sch.line = none ∧ (slotsCounted l s).sch.overrun = s.sch.overrun.add (slotsLeft s l) := by
  unfold slotsCounted
  generalize lineEndWork (slotsDrawn l s) = u
  exact ⟨rfl, rfl⟩

theorem overrunLine_logged (l : LineRun) (s : State) :
    ∃ c d c' d' k, overrunLine l s = logEv c d (wrapEv s.sch.overrun k c' d' (slotsCounted l s)) :=
  ⟨_, _, _, _, _, rfl⟩

theorem overrunLine_lineOver (l : LineRun) (s : State) : LineOver s (overrunLine l s) := by
  obtain ⟨c, d, c', d', k, h⟩ := overrunLine_logged l s
  rw [h]
  refine (slotsCounted_lineOver l s).trans (SealsJudged.lineOver ?_ (by simp))
  exact ((wrapEv_logOnly ..).trans (logEv_logOnly ..)).sealsJudged

theorem overrunLine_sch (l : LineRun) (s : State) :
    (overrunLine l s).sch.line = none ∧ (overrunLine l s).sch.overrun = s.sch.overrun.add (slotsLeft s l) := by
  obtain ⟨c, d, c', d', k, h⟩ := overrunLine_logged l s
  have hsch : (overrunLine l s).sch = (slotsCounted l s).sch := by
    rw [h]
    exact ((wrapEv_logOnly ..).trans (logEv_logOnly ..)).sealsJudged.sch
  rw [hsch]
  exact slotsCounted_sch l s

/-- The FBE's time is fixed, and nothing else of the scheduler moves. -/
theorem fixFbe_sch (l : LineRun) (close : Nat) (s : State) : ∃ n, (fixFbe l close s).sch = { s.sch with fbeAt := some n } :=
  ⟨_, (judgeSeals_sealsJudged _).sch⟩

theorem fixFbe_lineOver (l : LineRun) (close : Nat) (s : State) : LineOver s (fixFbe l close s) := by
  unfold fixFbe
  exact (fbeAt_lineOver _ s).trans ((judgeSeals_sealsJudged _).lineOver (judgeSeals_dev _))

theorem fixIfLast_cases (l : LineRun) (s : State) : fixIfLast l s = s ∨ ∃ close, fixIfLast l s = fixFbe l close s := by
  unfold fixIfLast
  split
  · exact .inl rfl
  · split
    · exact .inl rfl
    · exact .inr ⟨_, rfl⟩

theorem fixIfLast_lineOver (l : LineRun) (s : State) : LineOver s (fixIfLast l s) := by
  rcases fixIfLast_cases l s with h | ⟨close, h⟩ <;> rw [h]
  · exact .refl s
  · exact fixFbe_lineOver ..

theorem fixIfLast_overrun (l : LineRun) (s : State) : (fixIfLast l s).sch.overrun = s.sch.overrun := by
  rcases fixIfLast_cases l s with h | ⟨close, h⟩ <;> rw [h]
  obtain ⟨n, hn⟩ := fixFbe_sch l close s
  rw [hn]

theorem lineOverrun_lineOver (l : LineRun) (s : State) : LineOver s (lineOverrun l s) :=
  (overrunLine_lineOver l s).trans ((fbeAt_lineOver none _).trans (fixIfLast_lineOver ..))

theorem lineOverrun_overrun (l : LineRun) (s : State) : (lineOverrun l s).sch.overrun = s.sch.overrun.add (slotsLeft s l) :=
  (fixIfLast_overrun ..).trans (overrunLine_sch l s).2

theorem lastOverrun_lineOver (l : LineRun) (s : State) : LineOver s (lastOverrun l s) :=
  (overrunLine_lineOver l s).trans (fixFbe_lineOver ..)

theorem lastOverrun_sch (l : LineRun) (s : State) : (lastOverrun l s).sch.line = none
    ∧ (lastOverrun l s).sch.overrun = s.sch.overrun.add (slotsLeft s l) ∧ (lastOverrun l s).sch.fbeAt.isSome = true := by
  obtain ⟨n, hn⟩ := fixFbe_sch l 0 (overrunLine l s)
  obtain ⟨hline, hcount⟩ := overrunLine_sch l s
  unfold lastOverrun
  rw [hn]
  exact ⟨hline, hcount, rfl⟩

/-! ### A line runs after the one before -/

theorem nextRun_lineOver {s u : State} (h : LineOver s u) (facet : Nat) : nextRun facet u = nextRun facet s := by
  have ho := h.only
  unfold nextRun coarse
  rw [h.dev, h.nextLine]
  unfold SealsJudged at ho
  rw [ho]
  rfl

theorem lineAfter_lineOver {s u : State} (h : LineOver s u) (l : Nat) : lineAfter u l = lineAfter s l := by
  have ho := h.only
  unfold SealsJudged at ho
  rw [ho]
  rfl

/-- A line that begins once the one before is over is the line that was to run next. -/
theorem beginLine_after {s u : State} (h : LineOver s u) (ht : twinMode s = false) (facet : Nat) (moved : Bool) :
    (beginLine facet moved u).sch.line = some (nextRun facet s)
      ∧ (beginLine facet moved u).sch.nextLine = lineAfter s s.sch.nextLine ∧ (beginLine facet moved u).sch.overrun = u.sch.overrun
      ∧ ∀ i, i < 16 → (strng (beginLine facet moved u) i).nextSlot = 0 := by
  have hsch := beginLine_sch facet moved (h.twinMode.trans ht)
  obtain ⟨hline, hnext, hover, hslots⟩ := lineBegun_sch facet u
  rw [nextRun_lineOver h] at hline
  rw [lineAfter_lineOver h, h.nextLine] at hnext
  unfold strng at hslots ⊢
  rw [hsch]
  exact ⟨hline, hnext, hover, hslots⟩

/-! ### Events that are passed (R182, R424) -/

theorem facetWait_logOnly (s : State) : LogOnly { s with sch.facetW := s.sch.facetW.add 1 } (facetWait s) := wrapEv_logOnly ..
theorem turnPass_logOnly (s : State) : LogOnly { s with twn.turnC := s.twn.turnC.add 1 } (turnPass s) := wrapEv_logOnly ..

theorem facetWait_lineOver (s : State) : LineOver s (facetWait s) :=
  LineOver.trans (u := { s with sch.facetW := s.sch.facetW.add 1 }) ⟨rfl, rfl, rfl, rfl⟩ ((facetWait_logOnly s).sealsJudged.lineOver (wrapEv_dev ..))

/-! ### The scheduler at a line-start event -/

/-- A line-start event finds a line to start or to end: no line has started and the FBE is open, or the running line has slots left or is
not the frame's last. -/
def LineWanted (s : State) : Prop :=
  s.sch.line = none ∧ s.sch.fbeAt = none ∨ ∃ l, s.sch.line = some l ∧ (lineOpen s l = true ∨ l.line + 1 ≠ lineCount s)

theorem rehandElev_idle {s : State} (hr : s.sch.rehand = false) : rehandElev s = s := if_neg (by simp [hr])

theorem lineEvent_idle {facet : Nat} {s : State} (hr : s.sch.rehand = false) (h : lineReady s = false ∨ s.sch.truncated = true) :
    lineEvent facet s = s := by
  unfold lineEvent
  rw [rehandElev_idle hr]
  exact if_pos h

section
variable {facet : Nat} {s : State} (ht : twinMode s = false) (hr : s.sch.rehand = false)
  (hready : lineReady s = true) (htr : s.sch.truncated = false)
include ht hr hready htr

theorem lineEvent_none (hl : s.sch.line = none) :
    lineEvent facet s = if s.sch.fbeAt.isSome then s else lineEvent.start facet (false, s) s := by
  have hsb : standby s = false := (LineOver.refl s).standby ht
  unfold lineEvent
  rw [rehandElev_idle hr]
  dsimp only
  rw [if_neg (by simp [hready, htr]), if_neg (by simp [hsb]), hl]

theorem lineEvent_some {l : LineRun} (hl : s.sch.line = some l) : lineEvent facet s =
    if lineOpen s l then
      (if facetOk facet s = false then facetWait s
       else if turnOk s = false then turnPass s
       else if l.line + 1 = lineCount s then lastOverrun l s
       else beginLine facet false (lineOverrun l s))
    else if l.line + 1 = lineCount s then s
    else lineEvent.start facet (false, s) s := by
  have hsb : standby s = false := (LineOver.refl s).standby ht
  have hown : (if standby (lineOverrun l s) then copyAtLineStart (lineOverrun l s) else (false, lineOverrun l s)) = (false, lineOverrun l s) :=
    if_neg (by simp [(lineOverrun_lineOver l s).standby ht])
  unfold lineEvent
  rw [rehandElev_idle hr]
  dsimp only
  rw [if_neg (by simp [hready, htr]), if_neg (by simp [hsb]), hl]
  dsimp only
  rw [hown]

theorem lineEvent_facetWait (hw : LineWanted s) (hf : facetOk facet s = false) : lineEvent facet s = facetWait s := by
  have hstart : lineEvent.start facet (false, s) s = facetWait s := if_pos hf
  rcases hw with ⟨hl, hfbe⟩ | ⟨l, hl, hopen⟩
  · simp [lineEvent_none ht hr hready htr hl, hfbe, hstart]
  · rcases hopen with ho | hn
    · simp [lineEvent_some ht hr hready htr hl, ho, hf]
    · simp [lineEvent_some ht hr hready htr hl, hn, hf, hstart]

theorem lineEvent_turnPass (hw : LineWanted s) (hf : facetOk facet s = true) (hturn : turnOk s = false) : lineEvent facet s = turnPass s := by
  have hstart : lineEvent.start facet (false, s) s = turnPass s := (if_neg (by simp [hf])).trans (if_pos hturn)
  rcases hw with ⟨hl, hfbe⟩ | ⟨l, hl, hopen⟩
  · simp [lineEvent_none ht hr hready htr hl, hfbe, hstart]
  · rcases hopen with ho | hn
    · simp [lineEvent_some ht hr hready htr hl, ho, hf, hturn]
    · simp [lineEvent_some ht hr hready htr hl, hn, hf, hturn, hstart]

theorem lineEvent_lastOver {l : LineRun} (hl : s.sch.line = some l) (ho : lineOpen s l = false) (hn : l.line + 1 = lineCount s) :
    lineEvent facet s = s := by
  rw [lineEvent_some ht hr hready htr hl]
  simp [ho, hn]

variable (hturn : turnOk s = true)
include hturn

theorem lineEvent_starts (hf : facetOk facet s = true)
    (h : s.sch.line = none ∧ s.sch.fbeAt = none ∨ ∃ l, s.sch.line = some l ∧ lineOpen s l = false ∧ l.line + 1 ≠ lineCount s) :
    lineEvent facet s = beginLine facet false (lineEndWork s) := by
  have hstart : lineEvent.start facet (false, s) s = beginLine facet false (lineEndWork s) :=
    (if_neg (by simp [hf])).trans (if_neg (by simp [hturn]))
  rcases h with ⟨hl, hfbe⟩ | ⟨l, hl, ho, hn⟩
  · simp [lineEvent_none ht hr hready htr hl, hfbe, hstart]
  · simp [lineEvent_some ht hr hready htr hl, ho, hn, hstart]

theorem lineEvent_overruns (hf : facetOk facet s = true) {l : LineRun} (hl : s.sch.line = some l) (ho : lineOpen s l = true)
    (hn : l.line + 1 ≠ lineCount s) : lineEvent facet s = beginLine facet false (lineOverrun l s) := by
  rw [lineEvent_some ht hr hready htr hl]
  simp [ho, hf, hturn, hn]

theorem lineEvent_lastOverruns (hf : facetOk facet s = true) {l : LineRun} (hl : s.sch.line = some l) (ho : lineOpen s l = true)
    (hn : l.line + 1 = lineCount s) : lineEvent facet s = lastOverrun l s := by
  rw [lineEvent_some ht hr hready htr hl]
  simp [ho, hf, hturn, hn]

/-- Whatever becomes of the event, the passage that raised it stays used and nothing beside the scheduler's own moves. -/
theorem lineEvent_kept : (lineEvent facet s).srv.poly.lastLs = s.srv.poly.lastLs ∧ LineOnly s (lineEvent facet s) := by
  have hover : ∀ u, LineOver s u → u.srv.poly.lastLs = s.srv.poly.lastLs ∧ LineOnly s u :=
    fun u h => ⟨congrArg Poly.lastLs h.poly, h.lineOnly⟩
  have hbegin : ∀ u, LineOver s u → (beginLine facet false u).srv.poly.lastLs = s.srv.poly.lastLs ∧ LineOnly s (beginLine facet false u) :=
    fun u h => ⟨(beginLine_lastLs facet false (h.twinMode.trans ht)).trans (hover u h).1,
      h.lineOnly.trans (beginLine_lineOnly facet false (h.twinMode.trans ht))⟩
  by_cases hw : LineWanted s
  · cases hf : facetOk facet s with
    | false =>
      rw [lineEvent_facetWait ht hr hready htr hw hf]
      exact hover _ (facetWait_lineOver s)
    | true =>
      rcases hw with hnone | ⟨l, hl, hopen⟩
      · rw [lineEvent_starts ht hr hready htr hturn hf (.inl hnone)]
        exact hbegin _ (lineEndWork_lineOver s)
      · cases ho : lineOpen s l with
        | false =>
          rw [lineEvent_starts ht hr hready htr hturn hf (.inr ⟨l, hl, ho, hopen.resolve_left (by simp [ho])⟩)]
          exact hbegin _ (lineEndWork_lineOver s)
        | true =>
          by_cases hn : l.line + 1 = lineCount s
          · rw [lineEvent_lastOverruns ht hr hready htr hturn hf hl ho hn]
            exact hover _ (lastOverrun_lineOver l s)
          · rw [lineEvent_overruns ht hr hready htr hturn hf hl ho hn]
            exact hbegin _ (lineOverrun_lineOver l s)
  · have hid : lineEvent facet s = s := by
      unfold LineWanted at hw
      cases hl : s.sch.line with
      | none =>
        rw [lineEvent_none ht hr hready htr hl]
        exact if_pos (by simpa [hl, Option.isSome_iff_ne_none] using hw)
      | some l =>
        simp only [hl, not_or, not_exists, not_and, Option.some.injEq] at hw
        obtain ⟨ho, hn⟩ := hw.2 l rfl
        exact lineEvent_lastOver ht hr hready htr hl (by simpa using ho) (not_not.1 hn)
    rw [hid]
    exact hover s (.refl s)

end

/-! ### The servo raises the event (R227, R229) -/

section
variable {facet : Nat} {s : State} (ht : twinMode s = false) (hrun : servosRun s = true) (hi : s.par.inForce.itinHas = true)
  (hh : lineHanded s facet = true)
include ht hrun hi hh

theorem lineStart_eq : lineStart facet s = if elevSettled (rehandElev (passUsed facet s)) = false then settleLate (rehandElev (passUsed facet s))
    else lineEvent facet (rehandElev (passUsed facet s)) := by
  have hsb : standby s = false := (LineOver.refl s).standby ht
  have hover : LineOver (passUsed facet s) (rehandElev (passUsed facet s)) := by
    unfold rehandElev
    split
    · exact LineOver.trans (u := { passUsed facet s with sch.rehand := false }) ⟨rfl, rfl, rfl, rfl⟩ (handElev_shedSent ..).lineOver
    · exact .refl _
  have hsend : sendNotice facet (rehandElev (passUsed facet s)) = rehandElev (passUsed facet s) :=
    if_neg (by simp [hover.twinMode.trans ht])
  unfold lineStart
  rw [if_neg (by simp [hrun, hi]), if_neg (by simp [hsb]), if_neg (by simp [hh]), hsend]

/-- With no elevation to hand again and the servo settled, the event reaches the scheduler. -/
theorem lineStart_event (hr : s.sch.rehand = false) (he : elevSettled s = true) : lineStart facet s = lineEvent facet (passUsed facet s) := by
  have hre : rehandElev (passUsed facet s) = passUsed facet s := if_neg (by simp [passUsed, hr])
  have hset : elevSettled (passUsed facet s) = true := he
  rw [lineStart_eq ht hrun hi hh, hre, if_neg (by simp [hset])]

end

theorem passUsed_lastLs {facet : Nat} {s : State} (hh : lineHanded s facet = true) :
    (passUsed facet s).srv.poly.lastLs = (handedPass s facet).map (fun q => (facet, q)) := by
  obtain ⟨q, hq⟩ := Option.isSome_iff_exists.1 hh
  unfold passUsed
  rw [hq]
  rfl

theorem awake_of_servosRun {s : State} (h : servosRun s = true) : Awake s := by
  simp only [servosRun, Bool.not_eq_true', Bool.or_eq_false_iff, beq_eq_false_iff_ne] at h
  exact ⟨h.1.1, h.2⟩

/-! ### Line 0's elevation after a truncated FBE (R182) -/

/-- Line 0's elevation has been handed again. -/
def rehanded (s : State) : State :=
  handTarget (par0 s pEmitGalvoServo) (sgn 16 (lineElev s.par.inForce.itin 0)) { s with sch := { s.sch with rehand := false } }

theorem rehanded_due (s : State) : (servo (rehanded s) (par0 s pEmitGalvoServo)).due = some (sgn 16 (lineElev s.par.inForce.itin 0)) := by
  unfold rehanded handTarget
  rw [servo_setServo, if_pos rfl]

theorem settleLate_logged (s : State) : (∀ n, servo (settleLate s) n = servo s n) ∧ (settleLate s).sch = s.sch
    ∧ LogOnly { s with srv := (settleLate s).srv } (settleLate s) := by
  have h : ∀ c d, LogOnly { s with srv.poly.lateLog := true } (logEv c d { s with srv.poly.lateLog := true }) := fun _ _ => logEv_logOnly ..
  unfold settleLate
  split
  · exact ⟨fun _ => rfl, rfl, rfl⟩
  · dsimp only
    generalize hu : logEv _ _ _ = u
    have hlog : LogOnly { s with srv.poly.lateLog := true } u := hu ▸ h _ _
    unfold LogOnly at hlog ⊢
    rw [hlog]
    exact ⟨fun _ => rfl, rfl, rfl⟩

/-- An elevation just handed has not settled: the event is passed. -/
theorem lineStart_rehands {facet : Nat} {s : State} (ht : twinMode s = false) (hrun : servosRun s = true) (hi : s.par.inForce.itinHas = true)
    (hh : lineHanded s facet = true) (hr : s.sch.rehand = true) (hem : emitting s = true) (hg : par0 s pEmitGalvoServo < 4)
    (hv : lineElev s.par.inForce.itin 0 ≠ 0x8000) : lineStart facet s = settleLate (rehanded (passUsed facet s)) := by
  have hem' : emitting (passUsed facet s) = true := hem
  have hre : rehandElev (passUsed facet s) = rehanded (passUsed facet s) :=
    (if_pos (by rw [hem']; simp [passUsed, hr])).trans (if_pos ⟨hg, hv⟩)
  have hset : elevSettled (rehanded (passUsed facet s)) = false := by
    have hg' : par0 (rehanded (passUsed facet s)) pEmitGalvoServo = par0 s pEmitGalvoServo := rfl
    have hdue : (servo (rehanded (passUsed facet s)) (par0 s pEmitGalvoServo)).due.isNone = false :=
      congrArg Option.isNone (rehanded_due (passUsed facet s))
    unfold elevSettled
    dsimp only
    rw [hg', hdue]
    simpa using hg
  rw [lineStart_eq ht hrun hi hh, hre, if_pos hset]

/-! ### O21 -/

theorem lineEnd_over {l : LineRun} {s : State} (hl : s.sch.line = some l) (h : l.tls + l.slots * l.p ≤ coarse s) : lineEnd s = lineEndWork s := by
  unfold lineEnd
  rw [hl]
  exact if_pos h

/-- Settles O21: each clause by what the scheduler makes of the event. -/
theorem linesRun : Obligations.LinesRun := by
  unfold Obligations.LinesRun
  refine ⟨?_, ?_, ?_⟩
  · intro t facet s a run ht hrun hi hh hr he
    have hls := passUsed_lastLs hh
    have hx : ∀ P : State → Prop, P (lineEvent facet (passUsed facet a)) → Runs (.lineStart t facet) s P := fun P hP => by
      refine runs_live rfl (awake_of_servosRun hrun) ?_
      rw [lineStart_event (s := a) ht hrun hi hh hr he]
      exact hP
    have hbegins : ∀ {u}, LineOver (passUsed facet a) u → _ := fun h => beginLine_after h ht facet false
    refine ⟨fun hno => hx _ ?_, fun hready htr hf hturn hw => hx _ ?_, fun l hready htr hl ho hn => hx _ ?_, fun hready htr hturn => hx _ ?_⟩
    · rw [lineEvent_idle (s := passUsed facet a) hr hno]
      exact ⟨hls, rfl⟩
    · rw [lineEvent_turnPass (s := passUsed facet a) ht hr hready htr hw hf hturn]
      have h := turnPass_logOnly (passUsed facet a)
      unfold LogOnly at h ⊢
      rw [h]
      exact ⟨rfl, rfl⟩
    · rw [lineEvent_lastOver (s := passUsed facet a) ht hr hready htr hl ho hn]
      rfl
    · obtain ⟨hkept, honly⟩ := lineEvent_kept (facet := facet) (s := passUsed facet a) ht hr hready htr hturn
      refine ⟨hkept.trans hls, LineOnly.trans (u := passUsed facet a) rfl honly, fun hf hfbe hl => ?_, fun l hf hfbe hl ho hn => ?_,
        fun l hf hl ho hn => ?_, fun l hf hl ho hn => ?_, fun hf hw => ?_⟩
      · rw [lineEvent_starts (s := passUsed facet a) ht hr hready htr hturn hf (.inl ⟨hl, hfbe⟩)]
        obtain ⟨hline, hnext, hover, hslots⟩ := hbegins (lineEndWork_lineOver (passUsed facet a))
        exact ⟨hline, hnext, hover.trans (lineEndWork_overrun _), hslots⟩
      · rw [lineEvent_overruns (s := passUsed facet a) ht hr hready htr hturn hf hl ho hn]
        obtain ⟨hline, -, hover, hslots⟩ := hbegins (lineOverrun_lineOver l (passUsed facet a))
        exact ⟨hline, hover.trans (lineOverrun_overrun ..), hslots⟩
      · rw [lineEvent_starts (s := passUsed facet a) ht hr hready htr hturn hf (.inr ⟨l, hl, ho, hn⟩)]
        obtain ⟨hline, hnext, hover, hslots⟩ := hbegins (lineEndWork_lineOver (passUsed facet a))
        exact ⟨hline, hnext, hover.trans (lineEndWork_overrun _), hslots⟩
      · rw [lineEvent_lastOverruns (s := passUsed facet a) ht hr hready htr hturn hf hl ho hn]
        exact lastOverrun_sch l (passUsed facet a)
      · rw [lineEvent_facetWait (s := passUsed facet a) ht hr hready htr hw hf]
        have h := (facetWait_logOnly (passUsed facet a)).sealsJudged.sch
        rw [h]
        exact ⟨rfl, rfl⟩
  · intro t facet s a g ht hrun hi hh hr hem hg hv
    refine runs_live rfl (awake_of_servosRun hrun) ?_
    rw [lineStart_rehands (s := a) ht hrun hi hh hr hem hg hv]
    obtain ⟨hservo, hsch, honly⟩ := settleLate_logged (rehanded (passUsed facet a))
    refine ⟨?_, hsch, ?_⟩
    · rw [hservo]
      exact rehanded_due (passUsed facet a)
    · rw [hsch]
      exact honly
  · intro t l s ha hl hend he
    have hl' : (advance t s).sch.line = some l := hl
    have he' : (advance t s).sch.elevSent = false := he
    refine runs_live rfl ha ?_
    rw [lineEnd_over hl' hend]
    exact ⟨lineEndWork_sch hl' he', fun c hc => lineEndWork_clears hl' he' hc, lineEndWork_alone hl' he', lineEndWork_only hl' he'⟩

end Sys2Proof.Machine
end

section
/-! SUPPORT. Servos, timing ports and Nerrak's marks under logging, interrupts, the stream and Nerrak's reactions (R28, R38, R287, R288): none
of these moves them. One equation per operation, as for `steady`, in the order of the model's files. -/

namespace Sys2Proof.Machine

/-- The servos with the polygon, the timing ports, and Nerrak's marks. -/
def scanParts (s : State) : Srv × Marks := (s.srv, s.nk.marks)

@[simp] theorem scanParts_mk {wall dev free pins nv desk par ch capture amb tal ext sch srv sns nk cal str tim mot lan twn rng ic dma mem lgb hlt
    rst tap pending} :
    scanParts ⟨wall, dev, free, pins, nv, desk, par, ch, capture, amb, tal, ext, sch, srv, sns, nk, cal, str, tim, mot, lan, twn, rng, ic, dma, mem,
      lgb, hlt, rst, tap, pending⟩ = (srv, nk.marks) := (rfl)

@[simp] theorem scanParts_fold (s : State) : (s.srv, s.nk.marks) = scanParts s := (rfl)

@[simp] theorem scanParts_ite (c : Prop) [Decidable c] (s u : State) : scanParts (if c then s else u) = if c then scanParts s else scanParts u :=
  apply_ite scanParts c s u
@[simp] theorem scanParts_snd_ite {α : Type} (c : Prop) [Decidable c] (a b : α × State) :
    scanParts (if c then a else b).2 = if c then scanParts a.2 else scanParts b.2 :=
  apply_ite (fun q => scanParts q.2) c a b

theorem srv_of_scanParts {s u : State} (h : scanParts u = scanParts s) : u.srv = s.srv := congrArg Prod.fst h
theorem marks_of_scanParts {s u : State} (h : scanParts u = scanParts s) : u.nk.marks = s.nk.marks := congrArg Prod.snd h

theorem LogOnly.scanParts {s u : State} (h : LogOnly s u) : scanParts u = Machine.scanParts s := by
  unfold LogOnly at h
  rw [h]
  rfl

theorem SealsJudged.scanParts {s u : State} (h : SealsJudged s u) : scanParts u = Machine.scanParts s := by
  unfold SealsJudged at h
  rw [h]
  rfl

theorem RecordsOnly.scanParts {s u : State} (h : RecordsOnly s u) : scanParts u = Machine.scanParts s := by
  unfold RecordsOnly LogOnly at h
  rw [h]
  rfl

/-! ### Ops.lean -/

@[simp] theorem scanParts_freeVal (n s) : scanParts (freeVal n s).2 = scanParts s := by simp [freeVal]
@[simp] theorem scanParts_attnRaise (bits s) : scanParts (attnRaise bits s) = scanParts s := (attnRaise_logOnly bits s).scanParts
@[simp] theorem scanParts_logNow (code data s) : scanParts (logNow code data s) = scanParts s := (logNow_logOnly code data s).scanParts
@[simp] theorem scanParts_logEv (code data s) : scanParts (logEv code data s) = scanParts s := (logEv_logOnly code data s).scanParts
@[simp] theorem scanParts_wrapEv (old k code data s) : scanParts (wrapEv old k code data s) = scanParts s :=
  (wrapEv_logOnly old k code data s).scanParts

@[simp] theorem scanParts_irq (n s) : scanParts (irq n s) = scanParts s := by
  rw [irq_ic]
  rfl

@[simp] theorem scanParts_irqOpen (n s) : scanParts (irqOpen n s) = scanParts s := by
  rw [irqOpen_ic]
  rfl

/-! ### Score.lean -/

@[simp] theorem scanParts_updScore (s) : scanParts (updScore s) = scanParts s := by simp [updScore]
@[simp] theorem scanParts_healthRecord (s) : scanParts (healthRecord s) = scanParts s := (ownRec_recordsOnly ..).scanParts

/-! ### Guard.lean -/

@[simp] theorem scanParts_updCaps (s) : scanParts (updCaps s) = scanParts s := by simp [updCaps]
@[simp] theorem scanParts_updCharge (s) : scanParts (updCharge s) = scanParts s := by simp [updCharge]
@[simp] theorem scanParts_judgeSeals (s) : scanParts (judgeSeals s) = scanParts s := (judgeSeals_sealsJudged s).scanParts
@[simp] theorem scanParts_stopEmission (s) : scanParts (stopEmission s) = scanParts s := by simp [stopEmission]
@[simp] theorem scanParts_dropLsr (s) : scanParts (dropLsr s) = scanParts s := by simp [dropLsr]
@[simp] theorem scanParts_driveCut (s) : scanParts (driveCut s) = scanParts s := by simp [driveCut]

@[simp] theorem scanParts_degClock (s) : scanParts (degClock s) = scanParts s := by
  unfold degClock
  split <;> simp

@[simp] theorem scanParts_nkUpdate (s) : scanParts (nkUpdate s) = scanParts s := by simp [nkUpdate]
@[simp] theorem scanParts_topCell (s st) : scanParts (topCell s st).2 = scanParts s := by simp [topCell]
@[simp] theorem scanParts_noteFills (st s) : scanParts (noteFills st s) = scanParts s := by simp [noteFills]

@[simp] theorem scanParts_capEval (s) : scanParts (capEval s) = scanParts s := by
  unfold capEval
  split <;> simp

@[simp] theorem scanParts_incident (kind s) : scanParts (incident kind s) = scanParts s := by simp [incident]
@[simp] theorem scanParts_nkFaultEv (bitNo str em val s) : scanParts (nkFaultEv bitNo str em val s) = scanParts s := by simp [nkFaultEv]
@[simp] theorem scanParts_latchFault (bitNo s) : scanParts (latchFault bitNo s) = scanParts s := by simp [latchFault]
@[simp] theorem scanParts_unlatch (bitNo s) : scanParts (unlatch bitNo s) = scanParts s := by simp [unlatch]
@[simp] theorem scanParts_setChgHeld (held s) : scanParts (setChgHeld held s) = scanParts s := by simp [setChgHeld]
@[simp] theorem scanParts_relatch (s) : scanParts (relatch s) = scanParts s := by simp [relatch]
@[simp] theorem scanParts_setSt (new cause s) : scanParts (setSt new cause s) = scanParts s := by simp [setSt]
@[simp] theorem scanParts_dropPend (s) : scanParts (dropPend s) = scanParts s := by simp [dropPend]
@[simp] theorem scanParts_stNow (new cause s) : scanParts (stNow new cause s) = scanParts s := by simp [stNow]
@[simp] theorem scanParts_raiseFault (bitNo str em val s) : scanParts (raiseFault bitNo str em val s) = scanParts s := by simp [raiseFault]

/-! ### NkLedger.lean -/

/-- A comparison of the phases moves no servo (R286). -/
theorem nkCompare_scanParts (theta : Nat) (s : State) : scanParts (nkCompare theta s) = scanParts s := by simp [nkCompare]

theorem nkCompare_steady (theta : Nat) (s : State) :
    (steady (nkCompare theta s)).kept = (steady s).kept ∧ (steady (nkCompare theta s)).units = (steady s).units := by simp [nkCompare]

/-- A mark at Nerrak moves no servo and no port (R282). -/
theorem nkMark_srv (stamp : Nat) (s : State) : (nkMark stamp s).srv = s.srv := by
  unfold nkMark
  split
  · rfl
  · next m _ =>
    dsimp only
    have hm : ({ s with nk.marks := m } : State).srv = s.srv := rfl
    split
    · exact (srv_of_scanParts (by simp [apply_ite])).trans hm
    · exact hm

/-- A mark that Nerrak accepts is its latest (R282). -/
theorem nkMark_marks {stamp : Nat} {s : State} {m : Marks} (h : markAccept s.nk.marks (wallOf s stamp) = some m) :
    (nkMark stamp s).nk.marks = m := by
  unfold nkMark
  rw [h]
  dsimp only
  split
  · exact marks_of_scanParts (u := nkUpdate _) (s := { s with nk.marks := m }) (by simp)
  · rfl

theorem nkMark_steady (stamp : Nat) (s : State) :
    (steady (nkMark stamp s)).kept = (steady s).kept ∧ (steady (nkMark stamp s)).units = (steady s).units := by
  unfold nkMark
  split
  · exact ⟨rfl, rfl⟩
  · dsimp only
    split <;> simp

end Sys2Proof.Machine
end

section
/-! SUPPORT. The servo and timing-port commands (R218, R237 to R240), and O18. -/

namespace Sys2Proof.Machine

/-! ### Effects on servos and ports beside an open request -/

theorem DeskOnly.withSrv {k : Nat} {s u : State} (h : DeskOnly k s u) (x : Srv) :
    DeskOnly k { s with srv := x } { u with srv := x } := by
  obtain ⟨hu, hm⟩ := h
  refine ⟨?_, hm⟩
  rw [hu]
  rfl

theorem DeskOnly.srv {k : Nat} {s u : State} (h : DeskOnly k s u) : u.srv = s.srv := by
  rw [h.1]
  rfl

@[simp] theorem started_srv (op t : Nat) (r : Req) (s : State) : (started op t r s).srv = s.srv := by rw [started_eq]
@[simp] theorem started_servo (op t : Nat) (r : Req) (s : State) (n : Nat) : servo (started op t r s) n = servo s n := by
  simp [servo]
@[simp] theorem started_tport (op t : Nat) (r : Req) (s : State) (p : Nat) : tport (started op t r s) p = tport s p := by
  simp [tport]

section
variable (t : Nat) (r : Req) (s : State)

theorem exec_servoLawWrite : exec (.servoLawWrite t r) s = .next (command { op := 0x0610 } (lenEq 20) lawWriteBody t r s) := rfl
theorem exec_servoTableWrite : exec (.servoTableWrite t r) s =
    .next (command { op := 0x0611 } (fun p => decide (8 ≤ p.length) && p.length == 8 + 2 * fld p 6 2) tableWriteBody t r s) := rfl
theorem exec_servoStatusRead : exec (.servoStatusRead t r) s = .next (command { op := 0x0612 } (lenEq 4) servoStatusBody t r s) := rfl
theorem exec_tpRead : exec (.tpRead t r) s = .next (command { op := 0x0613 } (lenEq 4) tpReadBody t r s) := rfl

end

/-! ### SERVO_LAW_WRITE (R237) -/

/-- The law that a request carries. -/
def reqLaw (r : Req) : Law :=
  { order := fld r.payload 2 1, b := (List.range 4).map (fun i => fldI r.payload (4 + 2 * i) 2)
    a := (List.range 3).map (fun i => fldI r.payload (12 + 2 * i) 2), shift := fld r.payload 3 1 }

/-- A servo with a request's law waiting for the next sample. -/
def Servo.lawWaits (v : Servo) (r : Req) : Servo := { v with lawDue := tput none v.lawDue (fld r.payload 1 1) (some (reqLaw r)) }

/-- What SERVO_LAW_WRITE answers: the servo and the mode. -/
def lawAnswer (r : Req) : List Byte := le 1 (fld r.payload 0 1) ++ le 1 (fld r.payload 1 1) ++ le 2 0

/-- A law that SERVO_LAW_WRITE takes: of order 3, or of order 2 with its last coefficients 0 (R237). -/
def LawOk (l : Law) : Prop := l.order = 3 ∨ l.order = 2 ∧ l.b.getD 3 0 = 0 ∧ l.a.getD 2 0 = 0

theorem lawWriteBody_done (op : Nat) {r : Req} {s : State} (hn : fld r.payload 0 1 < 4) (h1 : 1 ≤ fld r.payload 1 1)
    (h3 : fld r.payload 1 1 ≤ 3) (ho : LawOk (reqLaw r)) (hsh : fld r.payload 3 1 ≤ 8) (hz : fld r.payload 18 2 = 0) :
    lawWriteBody op r s = .done rOK (lawAnswer r) (setServo s (fld r.payload 0 1) ((servo s (fld r.payload 0 1)).lawWaits r)) := by
  refine if_neg ?_
  have hord : fld r.payload 2 1 = 3 ∨ fld r.payload 2 1 = 2 := ho.imp id And.left
  rintro (g | g | g | g | g | g | g | ⟨g2, g⟩)
  · omega
  · omega
  · omega
  · omega
  · omega
  · omega
  · exact g hz
  · rcases ho with h | ⟨-, hb, ha⟩
    · exact absurd (h.symm.trans g2) (by decide)
    · exact g.elim (fun g => g hb) (fun g => g ha)

theorem servoLawWrite_completes {t : Nat} {r : Req} {s : State} (h : Ready r s) (hlen : r.payload.length = 20)
    (hn : fld r.payload 0 1 < 4) (h1 : 1 ≤ fld r.payload 1 1) (h3 : fld r.payload 1 1 ≤ 3) (ho : LawOk (reqLaw r))
    (hsh : fld r.payload 3 1 ≤ 8) (hz : fld r.payload 18 2 = 0) :
    CompletesOk (.servoLawWrite t r) r 0x0610 s
      (setServo (advance t s) (fld r.payload 0 1) ((servo s (fld r.payload 0 1)).lawWaits r)) (fun p => p = lawAnswer r) := by
  have hb := lawWriteBody_done 0x0610 (s := started 0x0610 t r s) hn h1 h3 ho hsh hz
  simp only [setServo, started_srv, started_servo] at hb
  exact completesOk_of_effect (exec_of_body h (exec_servoLawWrite t r s) (by omega) (by simp [lenEq, hlen]) hb) (started_origin ..)
    ((started_deskOnly 0x0610 t r s h.2.2.2.2.2).withSrv _) rfl (by simp [lawAnswer])

/-! ### SERVO_TABLE_WRITE (R218, R238) -/

/-- A run of entries written from a place on. -/
def tfill (first : Nat) (es : List Int) (m : Tab Int) : Tab Int := es.zipIdx.foldl (fun m p => tput 0 m (first + p.2) p.1) m

theorem tget_run {x : Int} (first : Nat) {es : List Int} {i : Nat} (h : es[i]? = some x) (k : Nat) (m : Tab Int) :
    tget 0 ((es.zipIdx k).foldl (fun m p => tput 0 m (first + p.2) p.1) m) (first + (k + i)) = x := by
  induction es generalizing i k m with
  | nil => simp at h
  | cons e es ih =>
    rw [List.zipIdx_cons, List.foldl_cons]
    cases i with
    | zero =>
      refine List.foldlRecOn (motive := fun m => tget 0 m (first + (k + 0)) = x) _ _ ?_ (fun m hm p hp => ?_)
      · simpa using h
      · have hk := List.le_snd_of_mem_zipIdx hp
        rw [tget_tput, if_neg (by omega), hm]
    | succ i => exact Nat.add_right_comm k 1 i ▸ ih h (k + 1) _

/-- The entries that a request carries. -/
def reqEntries (r : Req) : List Int := (List.range (fld r.payload 6 2)).map (fun i => fldI r.payload (8 + 2 * i) 2)

/-- A servo with a request's entries in the shadow of the table it names, committed where the request asks for it. -/
def Servo.tableWritten (v : Servo) (r : Req) : Servo :=
  if fld r.payload 1 1 = 0 then
    { v with cogSh := tfill (fld r.payload 4 2) (reqEntries r) v.cogSh, cogDue := v.cogDue || fld r.payload 2 1 == 1 }
  else { v with friSh := tfill (fld r.payload 4 2) (reqEntries r) v.friSh, friDue := v.friDue || fld r.payload 2 1 == 1 }

theorem Servo.tableWritten_shadow (v : Servo) (r : Req) {i : Nat} (hi : i < fld r.payload 6 2) :
    tget 0 (if fld r.payload 1 1 = 0 then (v.tableWritten r).cogSh else (v.tableWritten r).friSh) (fld r.payload 4 2 + i)
      = fldI r.payload (8 + 2 * i) 2 := by
  have he : (reqEntries r)[i]? = some (fldI r.payload (8 + 2 * i) 2) := by simp [reqEntries, hi]
  have hrun : ∀ m, tget 0 (tfill (fld r.payload 4 2) (reqEntries r) m) (fld r.payload 4 2 + i) = _ := fun m =>
    Nat.zero_add i ▸ tget_run (fld r.payload 4 2) he 0 m
  unfold Servo.tableWritten
  split
  · exact hrun _
  · exact hrun _

theorem Servo.tableWritten_inForce (v : Servo) (r : Req) : (v.tableWritten r).cog = v.cog ∧ (v.tableWritten r).fri = v.fri := by
  unfold Servo.tableWritten
  split <;> exact ⟨rfl, rfl⟩

theorem Servo.tableWritten_due (v : Servo) {r : Req} (h : fld r.payload 2 1 = 1) :
    (if fld r.payload 1 1 = 0 then (v.tableWritten r).cogDue else (v.tableWritten r).friDue) = true := by
  unfold Servo.tableWritten
  split <;> simp [h]

/-- What SERVO_TABLE_WRITE answers: the servo, the table and the number of entries. -/
def tableAnswer (r : Req) : List Byte := le 1 (fld r.payload 0 1) ++ le 1 (fld r.payload 1 1) ++ le 2 (fld r.payload 6 2)

section
variable {t : Nat} {r : Req} {s : State} (hn : fld r.payload 0 1 < 4) (htb : fld r.payload 1 1 ≤ 1) (hcm : fld r.payload 2 1 ≤ 1)
  (hz : fld r.payload 3 1 = 0) (hcnt : fld r.payload 6 2 ≤ 112) (hfirst : fld r.payload 4 2 ≤ 1023)
  (hend : fld r.payload 4 2 + fld r.payload 6 2 ≤ 1024) (hfri : fld r.payload 1 1 = 1 → ∀ x ∈ reqEntries r, 0 ≤ x)
include hn htb hcm hz hcnt hfirst hend hfri

theorem tableWriteBody_done (op : Nat) : tableWriteBody op r s = .done rOK (tableAnswer r)
    (setServo s (fld r.payload 0 1) ((servo s (fld r.payload 0 1)).tableWritten r)) := by
  refine if_neg ?_
  rintro (g | g | g | g | g | g | g | ⟨g1, g⟩)
  · omega
  · omega
  · omega
  · exact g hz
  · omega
  · omega
  · omega
  · obtain ⟨x, hx, hneg⟩ := List.any_eq_true.1 g
    exact absurd (hfri g1 x hx) (not_le.2 (of_decide_eq_true hneg))

theorem servoTableWrite_completes (h : Ready r s) (hlen : r.payload.length = 8 + 2 * fld r.payload 6 2) :
    CompletesOk (.servoTableWrite t r) r 0x0611 s
      (setServo (advance t s) (fld r.payload 0 1) ((servo s (fld r.payload 0 1)).tableWritten r)) (fun p => p = tableAnswer r) := by
  have hb := tableWriteBody_done (s := started 0x0611 t r s) hn htb hcm hz hcnt hfirst hend hfri 0x0611
  simp only [setServo, started_srv, started_servo] at hb
  exact completesOk_of_effect (exec_of_body h (exec_servoTableWrite t r s) (by omega) (by simp [hlen]) hb) (started_origin ..)
    ((started_deskOnly 0x0611 t r s h.2.2.2.2.2).withSrv _) rfl (by simp [tableAnswer])

end

/-! ### SERVO_STATUS_READ (R239) -/

theorem freeVal_logOnly (n : Nat) (s : State) : LogOnly s (freeVal n s).2 := rfl

theorem servoStatusBody_done (op : Nat) {r : Req} {s : State} (hn : fld r.payload 0 1 ≤ 3) (hz : allZero (r.payload.drop 1) = true) :
    ∃ b : List Byte, b.length = 34 ∧ servoStatusBody op r s = .done rOK
      ((le 1 (fld r.payload 0 1) ++ le 1 (servo s (fld r.payload 0 1)).mode) ++ b) (freeVal (2 ^ 64) (freeVal 65536 s).2).2 := by
  unfold servoStatusBody
  dsimp only
  rw [if_neg (not_or.2 ⟨Nat.not_lt.2 hn, by rw [hz]; decide⟩)]
  simp only [List.append_assoc, List.append_cancel_left_eq, CmdOut.done.injEq, true_and, and_true]
  exact ⟨_, by simp [leI], rfl⟩

theorem servoStatusRead_completes {t : Nat} {r : Req} {s : State} (h : Ready r s) (hlen : r.payload.length = 4)
    (hn : fld r.payload 0 1 ≤ 3) (hz : allZero (r.payload.drop 1) = true) :
    CompletesOk (.servoStatusRead t r) r 0x0612 s (advance t s)
      (fun p => p.length = 36 ∧ p.take 2 = le 1 (fld r.payload 0 1) ++ le 1 (servo s (fld r.payload 0 1)).mode) := by
  obtain ⟨b, hl, hb⟩ := servoStatusBody_done 0x0612 (s := started 0x0612 t r s) hn hz
  rw [started_servo] at hb
  have hfree := (freeVal_logOnly 65536 (started 0x0612 t r s)).trans (freeVal_logOnly (2 ^ 64) _)
  refine completesOk_of_effect (exec_of_body h (exec_servoStatusRead t r s) (by omega) (by simp [lenEq, hlen]) hb) (started_origin ..)
    ((started_deskOnly 0x0612 t r s h.2.2.2.2.2).trans (hfree.deskOnly _)) ⟨?_, ?_⟩ ?_
  · simp [hl]
  · exact List.take_left' (by simp)
  · simp [hl]

/-! ### TP_READ (R233, R240) -/

/-- A stamp and its edge as TP_READ returns them. -/
def stampBytes (e : Nat × Bool) : List Byte := le 8 (e.1 % 2 ^ 63 + b2n e.2 * 2 ^ 63)

theorem length_flatMap_stampBytes (l : List (Nat × Bool)) : (l.flatMap stampBytes).length = 8 * l.length := by
  simp [List.length_flatMap, stampBytes, Nat.mul_comm]

/-- A port without the stamps that a request takes. -/
def TPort.read (x : TPort) (r : Req) : TPort := { x with queue := x.queue.drop (fld r.payload 1 1) }

/-- A port's flags, gate and counters as TP_READ returns them; the bytes `f` stand where no gate has a result. -/
def TPort.figures (x : TPort) (r : Req) (f : List Byte) : List Byte :=
  le 2 (b2n x.valid + 2 * b2n x.full + 4 * b2n x.dropped.wrap) ++ le 8 (x.gateEnd / 64)
    ++ (if x.valid then le 8 x.period ++ le 4 x.used ++ le 4 x.resid else f) ++ le 4 x.dropped.val.toNat
    ++ le 4 (x.queue.length - (x.queue.take (fld r.payload 1 1)).length)

theorem TPort.length_figures (x : TPort) (r : Req) {f : List Byte} (hf : f.length = 16) : (x.figures r f).length = 34 := by
  have hg : (if x.valid then le 8 x.period ++ le 4 x.used ++ le 4 x.resid else f).length = 16 := by
    split
    · simp
    · exact hf
  simp only [TPort.figures, List.length_append, length_le, hg]

/-- What TP_READ answers of a port. -/
def TPort.answer (x : TPort) (r : Req) (f : List Byte) : List Byte :=
  (le 1 (fld r.payload 0 1) ++ le 1 (x.queue.take (fld r.payload 1 1)).length) ++ (x.figures r f
    ++ (x.queue.take (fld r.payload 1 1)).flatMap stampBytes)

theorem tpReadBody_done (op : Nat) {r : Req} {s : State} (hp : fld r.payload 0 1 ≤ 15) (hm : fld r.payload 1 1 ≤ 26)
    (hz : fld r.payload 2 2 = 0) :
    tpReadBody op r s = .done rOK ((tport s (fld r.payload 0 1)).answer r (freeBytes 16 s).1)
      (setTport (freeBytes 16 s).2 (fld r.payload 0 1) ((tport s (fld r.payload 0 1)).read r)) := by
  unfold tpReadBody TPort.answer TPort.figures
  dsimp only
  rw [if_neg (by omega)]
  simp only [List.append_assoc]
  rfl

theorem tpRead_completes {t : Nat} {r : Req} {s : State} (h : Ready r s) (hlen : r.payload.length = 4) (hp : fld r.payload 0 1 ≤ 15)
    (hm : fld r.payload 1 1 ≤ 26) (hz : fld r.payload 2 2 = 0) :
    CompletesOk (.tpRead t r) r 0x0613 s (setTport (advance t s) (fld r.payload 0 1) ((tport s (fld r.payload 0 1)).read r))
      (fun b => b.take 2 = le 1 (fld r.payload 0 1) ++ le 1 ((tport s (fld r.payload 0 1)).queue.take (fld r.payload 1 1)).length
        ∧ b.drop 36 = ((tport s (fld r.payload 0 1)).queue.take (fld r.payload 1 1)).flatMap stampBytes) := by
  have hb := tpReadBody_done 0x0613 (s := started 0x0613 t r s) hp hm hz
  rw [freeBytes_free] at hb
  simp only [setTport, started_srv, started_tport] at hb
  have hfig := (tport s (fld r.payload 0 1)).length_figures r (length_freeBytes 16 (started 0x0613 t r s))
  have hfree : LogOnly (started 0x0613 t r s)
    { started 0x0613 t r s with free := (freeBytes 16 (started 0x0613 t r s)).2.free } := rfl
  refine completesOk_of_effect (exec_of_body h (exec_tpRead t r s) (by omega) (by simp [lenEq, hlen]) hb) (started_origin ..)
    (((started_deskOnly 0x0613 t r s h.2.2.2.2.2).trans (hfree.deskOnly _)).withSrv _) ⟨?_, ?_⟩ ?_
  · exact List.take_left' (by simp)
  · unfold TPort.answer
    rw [← List.append_assoc]
    exact List.drop_left' (by simp [hfig])
  · have htake := List.length_take_le (fld r.payload 1 1) (tport s (fld r.payload 0 1)).queue
    simp only [TPort.answer, List.length_append, length_le, hfig, length_flatMap_stampBytes]
    omega

/-- Settles O18: a clause per command. -/
theorem servoCommandsComplete : Obligations.ServoCommandsComplete := by
  unfold Obligations.ServoCommandsComplete
  refine ⟨fun t r s h hlen hn h1 h3 ho hsh hz => servoLawWrite_completes h hlen hn h1 h3 ho hsh hz, ?_,
    fun t r s h hlen hn hz => servoStatusRead_completes h hlen hn hz,
    fun t r s h hlen hp hm hz => tpRead_completes h hlen hp hm hz⟩
  intro t r s h n tb first cnt e hlen hn htb hcm hz hcnt hfirst hend hfri
  have hpos : tb = 1 → ∀ x ∈ reqEntries r, 0 ≤ x := fun h1 x hx => by
    obtain ⟨i, hi, rfl⟩ := List.mem_map.1 hx
    exact hfri h1 i (List.mem_range.1 hi)
  obtain ⟨u, hu, p, rfl, hans, hdesk⟩ := servoTableWrite_completes (t := t) hn htb hcm hz hcnt hfirst hend hpos h hlen
  have hsrv : u.srv = (setServo (advance t s) n ((servo s n).tableWritten r)).srv := hdesk.srv
  have hservo : ∀ k, servo u k = servo (setServo (advance t s) n ((servo s n).tableWritten r)) k := fun k => by rw [servo, hsrv]; rfl
  have hn' : servo u n = (servo s n).tableWritten r := by rw [hservo, servo_setServo, if_pos rfl]
  obtain ⟨hcog, hfri'⟩ := (servo s n).tableWritten_inForce r
  refine ⟨u, hu, hans, ?_, fun k hk => by rw [hservo, servo_setServo, if_neg hk, servo_advance], ?_⟩
  · rw [hsrv]
    exact hdesk
  · rw [hn']
    exact ⟨hcog, hfri', fun i hi => (servo s n).tableWritten_shadow r hi, fun hc => (servo s n).tableWritten_due hc⟩

end Sys2Proof.Machine
end

section
/-! SUPPORT. Marks at the servos and edges at the timing ports (R222, R232 to R234): what each turn of their loops leaves and reaches. -/

namespace Sys2Proof.Machine

/-! ### Loops that reach an element once -/

/-- A loop over distinct elements: up to an element's own turn the other turns keep `I`, that turn makes `Q` of it, and the others keep `Q`. -/
theorem foldl_once {α β : Type} {f : β → α → β} {I Q : β → Prop} {a : α} (hself : ∀ b, I b → Q (f b a))
    (hI : ∀ b c, c ≠ a → I b → I (f b c)) (hQ : ∀ b c, c ≠ a → Q b → Q (f b c)) {l : List α} (hl : l.Nodup) (ha : a ∈ l) {b : β}
    (hb : I b) : Q (l.foldl f b) := by
  induction l generalizing b with
  | nil => exact absurd ha List.not_mem_nil
  | cons c l ih =>
    obtain ⟨hc, hl⟩ := List.nodup_cons.1 hl
    by_cases h : c = a
    · subst h
      exact List.foldlRecOn (motive := Q) l f (hself b hb) fun b hb d hd => hQ b d (fun e => hc (e ▸ hd)) hb
    · exact ih hl ((List.mem_cons.1 ha).resolve_left (Ne.symm h)) (hI b c h hb)

/-! ### Changes of servos and ports -/

/-- From `s` to `u` nothing moves but servos, ports, the interrupt controller and the log. -/
structure ScanActs (s u : State) : Prop where
  dev  : u.dev = s.dev
  wall : u.wall = s.wall
  only : LogOnly { s with ic := u.ic, srv := u.srv } u

theorem ScanActs.refl (s : State) : ScanActs s s := ⟨rfl, rfl, rfl⟩

theorem ScanActs.trans {s u v : State} (h : ScanActs s u) (g : ScanActs u v) : ScanActs s v := by
  refine ⟨g.dev.trans h.dev, g.wall.trans h.wall, ?_⟩
  have ho := h.only
  have go := g.only
  unfold LogOnly at ho go ⊢
  rw [ho] at go
  exact go

theorem ScanActs.par {s u : State} (h : ScanActs s u) (id i : Nat) : par u id i = Machine.par s id i := by
  have ho := h.only
  unfold LogOnly at ho
  rw [ho]
  rfl

theorem ScanActs.fields {s u : State} (h : ScanActs s u) : u.nv = s.nv ∧ u.sns = s.sns ∧ u.nk = s.nk := by
  have ho := h.only
  unfold LogOnly at ho
  rw [ho]
  exact ⟨rfl, rfl, rfl⟩

theorem scanActs_foldl {α : Type} {f : State → α → State} (h : ∀ s a, ScanActs s (f s a)) (l : List α) (s : State) :
    ScanActs s (l.foldl f s) :=
  foldl_holds (ScanActs s) (fun u a hu => hu.trans (h u a)) l s (.refl s)

theorem scanActs_ite {c : Prop} [Decidable c] {s a b : State} (ha : ScanActs s a) (hb : ScanActs s b) : ScanActs s (if c then a else b) :=
  iteInduction (motive := ScanActs s) (fun _ => ha) fun _ => hb

theorem logOnly_ite {c : Prop} [Decidable c] {s a b : State} (ha : LogOnly s a) (hb : LogOnly s b) : LogOnly s (if c then a else b) :=
  iteInduction (motive := LogOnly s) (fun _ => ha) fun _ => hb

theorem LogOnly.srv {s u : State} (h : LogOnly s u) : u.srv = s.srv := srv_of_scanParts h.scanParts

theorem LogOnly.scanActs {s u : State} (h : LogOnly s u) (hd : u.dev = s.dev) (hw : u.wall = s.wall) : ScanActs s u := by
  refine ⟨hd, hw, ?_⟩
  unfold LogOnly at h ⊢
  rw [h]
  rfl

theorem logEv_scanActs (code : Nat) (data : List Byte) (s : State) : ScanActs s (logEv code data s) :=
  (logEv_logOnly ..).scanActs (logEv_time ..).2.1 (logEv_time ..).1

theorem wrapEv_scanActs (old : CntW) (k code : Nat) (data : List Byte) (s : State) : ScanActs s (wrapEv old k code data s) :=
  (wrapEv_logOnly ..).scanActs (wrapEv_time ..).2.1 (wrapEv_time ..).1

theorem irqOpen_scanActs (n : Nat) (s : State) : ScanActs s (irqOpen n s) := by
  rw [irqOpen_ic]
  exact ⟨rfl, rfl, rfl⟩

theorem setServo_scanActs (s : State) (n : Nat) (v : Servo) : ScanActs s (setServo s n v) := ⟨rfl, rfl, rfl⟩
theorem setTport_scanActs (s : State) (p : Nat) (v : TPort) : ScanActs s (setTport s p v) := ⟨rfl, rfl, rfl⟩
theorem polyChange_scanActs (s : State) : ScanActs s (polyChange s) := ⟨rfl, rfl, rfl⟩

theorem servo_of_srv {s u : State} (h : u.srv = s.srv) (n : Nat) : servo u n = servo s n := by rw [servo, h]; rfl
theorem tport_of_srv {s u : State} (h : u.srv = s.srv) (p : Nat) : tport u p = tport s p := by rw [tport, h]; rfl

theorem irqOpen_srv (n : Nat) (s : State) : (irqOpen n s).srv = s.srv := srv_of_scanParts (scanParts_irqOpen n s)
theorem logEv_srv (code : Nat) (data : List Byte) (s : State) : (logEv code data s).srv = s.srv := (logEv_logOnly ..).srv

/-! ### A mark reaches a servo (R222, R225) -/

theorem servoMark_early {n stamp : Nat} {s : State} (h : markAccept (servo s n).marks stamp = none) :
    servoMark n stamp s = if n = polyNo s then logEv 0x0606 (le 1 n ++ le 1 2) s else s := by
  unfold servoMark
  simp only [h]

theorem servoMark_taken {n stamp : Nat} {s : State} {m : Marks} (h : markAccept (servo s n).marks stamp = some m) :
    ∃ e, servoMark n stamp s = setServo (if n = polyNo s then polyChange s else s) n { servo s n with marks := m, ePhase := e } := by
  unfold servoMark
  simp only [h]
  exact ⟨_, rfl⟩

/-- A mark changes the log, or one servo, before which the polygon may have noted its handed instants. -/
theorem servoMark_cases (n stamp : Nat) (s : State) :
    servoMark n stamp s = s ∨ (∃ d, servoMark n stamp s = logEv 0x0606 d s)
      ∨ ∃ v, servoMark n stamp s = setServo s n v ∨ servoMark n stamp s = setServo (polyChange s) n v := by
  cases h : markAccept (servo s n).marks stamp with
  | none =>
    rw [servoMark_early h]
    split
    · exact .inr (.inl ⟨_, rfl⟩)
    · exact .inl rfl
  | some m =>
    obtain ⟨e, he⟩ := servoMark_taken h
    rw [he]
    split
    · exact .inr (.inr ⟨_, .inr rfl⟩)
    · exact .inr (.inr ⟨_, .inl rfl⟩)

theorem servoMark_scanActs (n stamp : Nat) (s : State) : ScanActs s (servoMark n stamp s) := by
  rcases servoMark_cases n stamp s with h | ⟨d, h⟩ | ⟨v, h | h⟩ <;> rw [h]
  · exact .refl s
  · exact logEv_scanActs ..
  · exact setServo_scanActs ..
  · exact (polyChange_scanActs s).trans (setServo_scanActs ..)

theorem servoMark_tport (n stamp : Nat) (s : State) (p : Nat) : tport (servoMark n stamp s) p = tport s p := by
  rcases servoMark_cases n stamp s with h | ⟨d, h⟩ | ⟨v, h | h⟩ <;> rw [h]
  · exact tport_of_srv (logEv_srv ..) p
  · rfl
  · rfl

theorem servoMark_other {n k : Nat} (hk : k ≠ n) (stamp : Nat) (s : State) : servo (servoMark n stamp s) k = servo s k := by
  rcases servoMark_cases n stamp s with h | ⟨d, h⟩ | ⟨v, h | h⟩ <;> rw [h]
  · exact servo_of_srv (logEv_srv ..) k
  · rw [servo_setServo, if_neg hk]
  · rw [servo_setServo, if_neg hk]
    rfl

theorem servoMark_marks {n stamp : Nat} {s : State} {m : Marks} (h : markAccept (servo s n).marks stamp = some m) :
    (servo (servoMark n stamp s) n).marks = m ∧ (servo (servoMark n stamp s) n).port = (servo s n).port := by
  obtain ⟨e, he⟩ := servoMark_taken h
  rw [he, servo_setServo, if_pos rfl]
  exact ⟨rfl, rfl⟩

theorem marksOf_scanActs (port stamp : Nat) (s : State) : ScanActs s (marksOf port stamp s) :=
  scanActs_foldl (fun s n => servoMark_scanActs n stamp s) _ s

theorem marksOf_tport (port stamp : Nat) (s : State) (p : Nat) : tport (marksOf port stamp s) p = tport s p :=
  foldl_keeps (fun u => tport u p) (fun u n => servoMark_tport n stamp u p) _ s

/-- A servo whose mark port is another has no mark. -/
theorem marksOf_other {port n : Nat} {s : State} (h : (servo s n).port ≠ port) (stamp : Nat) : servo (marksOf port stamp s) n = servo s n := by
  refine List.foldlRecOn (motive := fun u => servo u n = servo s n) _ _ rfl fun u hu k hk => ?_
  have hkn : n ≠ k := by
    rintro rfl
    exact h (by simpa using (List.mem_filter.1 hk).2)
  exact (servoMark_other hkn stamp u).trans hu

/-- Every servo of the port takes the mark. -/
theorem marksOf_marks {n stamp : Nat} {s : State} {m : Marks} (hn : n < 4) (h : markAccept (servo s n).marks stamp = some m) :
    (servo (marksOf (servo s n).port stamp s) n).marks = m ∧ (servo (marksOf (servo s n).port stamp s) n).port = (servo s n).port := by
  unfold marksOf
  refine foldl_once (I := fun u => servo u n = servo s n) (a := n)
    (Q := fun u => (servo u n).marks = m ∧ (servo u n).port = (servo s n).port) (fun u hu => ?_) (fun u k hk hu => ?_) (fun u k hk hu => ?_)
    (List.nodup_range.filter _) (List.mem_filter.2 ⟨List.mem_range.2 hn, ?_⟩) rfl
  · obtain ⟨hm, hp⟩ := servoMark_marks (s := u) (by rw [hu]; exact h)
    exact ⟨hm, hp.trans (by rw [hu])⟩
  · exact (servoMark_other (Ne.symm hk) stamp u).trans hu
  · rw [servoMark_other (Ne.symm hk)]
    exact hu
  · exact beq_self_eq_true _

/-! ### An edge reaches a port (R232 to R234) -/

/-- A queue with a stamp behind the others while it holds fewer than 64 (R234). -/
def queued (l : List (Nat × Bool)) (e : Nat × Bool) : List (Nat × Bool) := if l.length < 64 then l ++ [e] else l

theorem tpQueue_port (p stamp : Nat) (rising : Bool) (s : State) :
    ∃ v, (tpQueue p stamp rising s).srv = (setTport s p v).srv ∧ ScanActs s (tpQueue p stamp rising s)
      ∧ v.hold = (tport s p).hold ∧ v.queue = queued (tport s p).queue (stamp, rising) := by
  unfold tpQueue queued
  dsimp only
  split
  · exact ⟨_, rfl, setTport_scanActs .., rfl, rfl⟩
  · exact ⟨_, LogOnly.srv (LogOnly.trans (wrapEv_logOnly ..) (logOnly_ite (logEv_logOnly ..) (.refl _))),
      ScanActs.trans (setTport_scanActs ..) (ScanActs.trans (wrapEv_scanActs ..) (scanActs_ite (logEv_scanActs ..) (.refl _))), rfl, rfl⟩

theorem tpQueue_servo (p stamp : Nat) (rising : Bool) (s : State) (n : Nat) : servo (tpQueue p stamp rising s) n = servo s n := by
  obtain ⟨v, hv, -⟩ := tpQueue_port p stamp rising s
  rw [servo_of_srv hv, servo_setTport]

/-- A port with a stamp of which the hold-off starts, for the regression where the gate has room (R233, R235). -/
def TPort.stamped (x : TPort) (stamp off : Nat) : TPort :=
  let full := decide (4096 ≤ x.stamps.length)
  { x with
    hold := some (stamp + off)
    stamps := if full then x.stamps else x.stamps ++ [stamp], unused := if full then x.unused + 1 else x.unused }

section
variable {p raw : Nat} {rising : Bool} {s : State}

/-- An edge inside the hold-off is counted alone (R233). -/
theorem portEdge_held (hsel : (par s pTpEdge p).testBit (if rising then 0 else 1) = true) {e : Nat} (hh : (tport s p).hold = some e)
    (he : s.dev < e) : portEdge p raw rising s = setTport s p { tport s p with heldOff := (tport s p).heldOff + 1 } := by
  unfold portEdge
  simp [hsel, hh, he]

/-- An edge outside the hold-off is stamped, marks the port's servos and is queued (R222, R233, R234). -/
theorem portEdge_taken (hsel : (par s pTpEdge p).testBit (if rising then 0 else 1) = true) (hh : ∀ e, (tport s p).hold = some e → e ≤ s.dev) :
    portEdge p raw rising s = tpQueue p (coarse s * 64 + raw % 64) rising (marksOf p (coarse s * 64 + raw % 64)
      (setTport s p ((tport s p).stamped (coarse s * 64 + raw % 64) (par s pTpHoldoff p * 64)))) := by
  have hno : ¬(match (tport s p).hold with | some e => decide (s.dev < e) | none => false) = true := by
    cases h : (tport s p).hold with
    | none => simp
    | some e => simpa using hh e h
  unfold portEdge
  rw [if_neg (by simp [hsel])]
  exact if_neg hno

end

/-- An edge that the port does not select, one inside its hold-off, or one that it stamps. -/
theorem portEdge_cases (p raw : Nat) (rising : Bool) (s : State) : portEdge p raw rising s = s ∨ (∃ v, portEdge p raw rising s = setTport s p v)
    ∨ ∃ v stamp, portEdge p raw rising s = tpQueue p stamp rising (marksOf p stamp (setTport s p v)) := by
  by_cases hsel : (par s pTpEdge p).testBit (if rising then 0 else 1) = true
  · by_cases hh : ∀ e, (tport s p).hold = some e → e ≤ s.dev
    · exact .inr (.inr ⟨_, _, portEdge_taken hsel hh⟩)
    · push Not at hh
      obtain ⟨e, hh, he⟩ := hh
      exact .inr (.inl ⟨_, portEdge_held hsel hh he⟩)
  · exact .inl (if_pos (by simpa using hsel))

theorem portEdge_scanActs (p raw : Nat) (rising : Bool) (s : State) : ScanActs s (portEdge p raw rising s) := by
  rcases portEdge_cases p raw rising s with h | ⟨v, h⟩ | ⟨v, stamp, h⟩ <;> rw [h]
  · exact .refl s
  · exact setTport_scanActs ..
  · obtain ⟨-, -, hq, -⟩ := tpQueue_port p stamp rising (marksOf p stamp (setTport s p v))
    exact (setTport_scanActs s p v).trans ((marksOf_scanActs ..).trans hq)

theorem portEdge_otherPort {p k : Nat} (hk : k ≠ p) (raw : Nat) (rising : Bool) (s : State) : tport (portEdge p raw rising s) k = tport s k := by
  rcases portEdge_cases p raw rising s with h | ⟨v, h⟩ | ⟨v, stamp, h⟩ <;> rw [h]
  · rw [tport_setTport, if_neg hk]
  · obtain ⟨w, hw, -⟩ := tpQueue_port p stamp rising (marksOf p stamp (setTport s p v))
    rw [tport_of_srv hw, tport_setTport, if_neg hk, marksOf_tport, tport_setTport, if_neg hk]

theorem portEdge_otherServo {p n : Nat} {s : State} (hn : (servo s n).port ≠ p) (raw : Nat) (rising : Bool) :
    servo (portEdge p raw rising s) n = servo s n := by
  rcases portEdge_cases p raw rising s with h | ⟨v, h⟩ | ⟨v, stamp, h⟩ <;> rw [h]
  · rfl
  · exact (tpQueue_servo ..).trans (marksOf_other (s := setTport s p v) hn stamp)

/-- The stamp's hold-off, and the queue behind it. -/
theorem portEdge_port {p raw : Nat} {rising : Bool} {s : State} (hsel : (par s pTpEdge p).testBit (if rising then 0 else 1) = true)
    (hh : ∀ e, (tport s p).hold = some e → e ≤ s.dev) :
    (tport (portEdge p raw rising s) p).hold = some (coarse s * 64 + raw % 64 + par s pTpHoldoff p * 64)
      ∧ (tport (portEdge p raw rising s) p).queue = queued (tport s p).queue (coarse s * 64 + raw % 64, rising) := by
  rw [portEdge_taken hsel hh]
  generalize hu : marksOf p _ _ = u
  obtain ⟨w, hw, -, hhold, hqueue⟩ := tpQueue_port p (coarse s * 64 + raw % 64) rising u
  have hp : tport u p = (tport s p).stamped (coarse s * 64 + raw % 64) (par s pTpHoldoff p * 64) := by
    rw [← hu, marksOf_tport, tport_setTport, if_pos rfl]
  rw [tport_of_srv hw, tport_setTport, if_pos rfl, hhold, hqueue, hp]
  exact ⟨rfl, rfl⟩

/-- The mark that the port's servo takes. -/
theorem portEdge_marks {n raw : Nat} {rising : Bool} {s : State} {m : Marks} (hn : n < 4)
    (hsel : (par s pTpEdge (servo s n).port).testBit (if rising then 0 else 1) = true)
    (hh : ∀ e, (tport s (servo s n).port).hold = some e → e ≤ s.dev)
    (hm : markAccept (servo s n).marks (coarse s * 64 + raw % 64) = some m) :
    (servo (portEdge (servo s n).port raw rising s) n).marks = m
      ∧ (servo (portEdge (servo s n).port raw rising s) n).port = (servo s n).port := by
  rw [portEdge_taken hsel hh, tpQueue_servo]
  exact marksOf_marks (s := setTport s _ _) hn hm

end Sys2Proof.Machine
end

section
/-! SUPPORT. Edges of a source over its ports, hold-offs, gates and regressions (R232 to R235), and O20. -/

namespace Sys2Proof.Machine

/-! ### A source's edge over its ports (R232) -/

/-- The turn of one port in an edge of its source. -/
def portTurn (raw : Nat) (rising : Bool) (s : State) (q : Nat) : State := irqOpen (173 + q) (portEdge q raw rising s)

theorem sourceEdge_turns {k p raw : Nat} {rising : Bool} {s : State} (h : servosRun s = true) :
    sourceEdge k p raw rising s = (portsOf s k p).foldl (portTurn raw rising) s := if_neg (by simp [h])

section
variable {raw : Nat} {rising : Bool} {s : State} {p k q n : Nat}

theorem portTurn_scanActs : ScanActs s (portTurn raw rising s q) := (portEdge_scanActs ..).trans (irqOpen_scanActs ..)

theorem portTurn_tport (p : Nat) : tport (portTurn raw rising s q) p = tport (portEdge q raw rising s) p := tport_of_srv (irqOpen_srv ..) p

theorem portTurn_servo (n : Nat) : servo (portTurn raw rising s q) n = servo (portEdge q raw rising s) n := servo_of_srv (irqOpen_srv ..) n

theorem sourceEdge_scanActs (hrun : servosRun s = true) : ScanActs s (sourceEdge k p raw rising s) := by
  rw [sourceEdge_turns hrun]
  exact scanActs_foldl (fun _ _ => portTurn_scanActs) _ s

theorem nodup_portsOf (s : State) (k p : Nat) : (portsOf s k p).Nodup := by
  unfold portsOf
  split
  · split
    · exact List.nodup_singleton p
    · exact List.nodup_nil
  · exact List.nodup_range.filter _

theorem mem_portsOf_self (hp : p < 16) : p ∈ portsOf s (par s pTpSource p) p := by
  unfold portsOf
  split
  · simp_all
  · simp [hp]

theorem mem_portsOf_ball (h : q ∈ portsOf s 0 p) : q = p := by
  simp only [portsOf, if_true] at h
  split at h
  · exact List.mem_singleton.1 h
  · exact absurd h List.not_mem_nil

theorem mem_portsOf_source (hk : k ≠ 0) : q ∈ portsOf s k p ↔ q < 16 ∧ par s pTpSource q = k := by
  simp [portsOf, hk]

/-- Of a source that the ports share, which port asks does not matter. -/
theorem portsOf_shared (hk : k ≠ 0) (p q : Nat) : portsOf s k p = portsOf s k q := by
  simp [portsOf, hk]

/-- A port that does not take the source stays as it is. -/
theorem sourceEdge_otherPort (hrun : servosRun s = true) (h : n ∉ portsOf s k p) : tport (sourceEdge k p raw rising s) n = tport s n := by
  rw [sourceEdge_turns hrun]
  refine List.foldlRecOn (motive := fun u => tport u n = tport s n) _ _ rfl fun u hu q hq => ?_
  rw [portTurn_tport, portEdge_otherPort (fun e => h (by rw [e]; exact hq)), hu]

/-- A servo whose mark port does not take the source stays as it is. -/
theorem sourceEdge_otherServo (hrun : servosRun s = true) (h : (servo s n).port ∉ portsOf s k p) :
    servo (sourceEdge k p raw rising s) n = servo s n := by
  rw [sourceEdge_turns hrun]
  refine List.foldlRecOn (motive := fun u => servo u n = servo s n) _ _ rfl fun u hu q hq => ?_
  rw [portTurn_servo, portEdge_otherServo, hu]
  rintro rfl
  exact h (hu ▸ hq)

/-- Each port that takes the source has one turn, which finds it as it was. -/
theorem sourceEdge_reaches {Q : TPort → Prop} (hrun : servosRun s = true) (hq : q ∈ portsOf s k p)
    (h : ∀ u, ScanActs s u → tport u q = tport s q → Q (tport (portEdge q raw rising u) q)) : Q (tport (sourceEdge k p raw rising s) q) := by
  rw [sourceEdge_turns hrun]
  refine foldl_once (I := fun u => ScanActs s u ∧ tport u q = tport s q) (Q := fun u => Q (tport u q)) (fun u hu => ?_) (fun u r hr hu => ?_)
    (fun u r hr hu => ?_) (nodup_portsOf ..) hq ⟨.refl s, rfl⟩
  · rw [portTurn_tport]
    exact h u hu.1 hu.2
  · rw [portTurn_tport, portEdge_otherPort (Ne.symm hr)]
    exact ⟨hu.1.trans portTurn_scanActs, hu.2⟩
  · rw [portTurn_tport, portEdge_otherPort (Ne.symm hr)]
    exact hu

end

/-! ### The ports of an edge (R233, R234) -/

section
variable {p k q raw : Nat} {rising : Bool} {s : State} (hrun : servosRun s = true) (hq : q ∈ portsOf s k p)
  (hsel : (par s pTpEdge q).testBit (if rising then 0 else 1) = true)
include hrun hq hsel

theorem sourceEdge_stamped (hraw : raw < 64) (hh : ∀ e, (tport s q).hold = some e → e ≤ s.dev) :
    (tport (sourceEdge k p raw rising s) q).hold = some (coarse s * 64 + raw + par s pTpHoldoff q * 64)
      ∧ (tport (sourceEdge k p raw rising s) q).queue = queued (tport s q).queue (coarse s * 64 + raw, rising) := by
  refine sourceEdge_reaches (Q := fun x => x.hold = _ ∧ x.queue = _) hrun hq fun u hu ht => ?_
  obtain ⟨hhold, hqueue⟩ := portEdge_port (raw := raw) (s := u) (by rw [hu.par]; exact hsel) (by rw [ht, hu.dev]; exact hh)
  rw [hu.par, coarse, hu.dev, Nat.mod_eq_of_lt hraw] at hhold
  rw [ht, coarse, hu.dev, Nat.mod_eq_of_lt hraw] at hqueue
  exact ⟨hhold, hqueue⟩

theorem sourceEdge_held {e : Nat} (hh : (tport s q).hold = some e) (he : s.dev < e) :
    tport (sourceEdge k p raw rising s) q = { tport s q with heldOff := (tport s q).heldOff + 1 } := by
  refine sourceEdge_reaches (Q := fun x => x = _) hrun hq fun u hu ht => ?_
  rw [portEdge_held (by rw [hu.par]; exact hsel) (by rw [ht]; exact hh) (by rw [hu.dev]; exact he), tport_setTport, if_pos rfl, ht]

end

/-- A servo takes the mark of its port's source. -/
theorem sourceEdge_marks {k p raw n : Nat} {rising : Bool} {s : State} {m : Marks} (hrun : servosRun s = true)
    (hq : (servo s n).port ∈ portsOf s k p) (hsel : (par s pTpEdge (servo s n).port).testBit (if rising then 0 else 1) = true)
    (hraw : raw < 64) (hh : ∀ e, (tport s (servo s n).port).hold = some e → e ≤ s.dev) (hn : n < 4)
    (hm : markAccept (servo s n).marks (coarse s * 64 + raw) = some m) : (servo (sourceEdge k p raw rising s) n).marks = m := by
  rw [sourceEdge_turns hrun]
  refine (foldl_once (I := fun u => ScanActs s u ∧ tport u (servo s n).port = tport s (servo s n).port ∧ servo u n = servo s n)
    (Q := fun u => (servo u n).marks = m ∧ (servo u n).port = (servo s n).port) (fun u hu => ?_) (fun u r hr hu => ?_) (fun u r hr hu => ?_)
    (nodup_portsOf ..) hq ⟨.refl s, rfl, rfl⟩).1
  · obtain ⟨hu, ht, hs⟩ := hu
    have hgoal := portEdge_marks (raw := raw) (rising := rising) (s := u) (m := m) hn (by rw [hs, hu.par]; exact hsel)
      (by rw [hs, ht, hu.dev]; exact hh) (by rw [hs, coarse, hu.dev, Nat.mod_eq_of_lt hraw]; exact hm)
    rw [portTurn_servo]
    rw [hs] at hgoal
    exact hgoal
  · obtain ⟨hu, ht, hs⟩ := hu
    rw [portTurn_tport, portTurn_servo, portEdge_otherPort (Ne.symm hr), portEdge_otherServo (by rw [hs]; exact Ne.symm hr)]
    exact ⟨hu.trans portTurn_scanActs, ht, hs⟩
  · rw [portTurn_servo, portEdge_otherServo (by rw [hu.2]; exact Ne.symm hr)]
    exact hu

/-! ### An edge at a port's source -/

/-- The polygon's mark reaches Nerrak too, which moves no servo and no port (R282). -/
theorem polyEdge_srv (raw : Nat) (rising : Bool) (s : State) : (polyEdge raw rising s).srv = (sourceEdge 2 0 raw rising s).srv := by
  unfold polyEdge
  dsimp only
  split
  · exact nkMark_srv ..
  · rfl

section
variable {p raw : Nat} {rising : Bool} {s : State}

theorem tpEdge_source (hp : p < 16) (h7 : par s pTpSource p ≠ 7) (h2 : par s pTpSource p ≠ 2) :
    tpEdge p raw rising s = sourceEdge (par s pTpSource p) p raw rising s := by
  unfold tpEdge
  dsimp only
  rw [if_neg (by omega), if_neg h2]

theorem tpEdge_poly (hp : p < 16) (h2 : par s pTpSource p = 2) : tpEdge p raw rising s = polyEdge raw rising s := by
  unfold tpEdge
  dsimp only
  rw [if_neg (by omega), if_pos h2]

/-- For the ports an edge of source 2 is one as of any other source. -/
theorem tpEdge_srv (hp : p < 16) (h7 : par s pTpSource p ≠ 7) :
    (tpEdge p raw rising s).srv = (sourceEdge (par s pTpSource p) p raw rising s).srv := by
  by_cases h2 : par s pTpSource p = 2
  · rw [tpEdge_poly hp h2, polyEdge_srv, h2, sourceEdge, sourceEdge, portsOf_shared (by decide) 0 p]
  · rw [tpEdge_source hp h7 h2]

theorem not_mem_portsOf {k : Nat} (hk : k ≠ p) (h : par s pTpSource p = 0 ∨ par s pTpSource k ≠ par s pTpSource p) :
    k ∉ portsOf s (par s pTpSource p) p := by
  intro hm
  by_cases h0 : par s pTpSource p = 0
  · rw [h0] at hm
    exact hk (mem_portsOf_ball hm)
  · exact h.elim h0 fun g => g ((mem_portsOf_source h0).1 hm).2

/-- The edge at a port's own ball has one turn. -/
theorem tpEdge_ball (hp : p < 16) (hrun : servosRun s = true) (h0 : par s pTpSource p = 0) : tpEdge p raw rising s = portTurn raw rising s p := by
  rw [tpEdge_source hp (by omega) (by omega), sourceEdge_turns hrun, h0, portsOf, if_pos rfl, if_pos h0]
  rfl

end

/-! ### Gates (R235) -/

theorem tpGateEnd_ends {p : Nat} {s : State} (hp : p < 16) (hrun : servosRun s = true)
    (hstop : (tport s p).gate + par s pTpGate p * tUs ≤ s.dev) :
    ∃ v, LogOnly (setTport s p v) (tpGateEnd p s) ∧ v.gate = (tport s p).gate + par s pTpGate p * tUs ∧ v.stamps = []
      ∧ v.queue = (tport s p).queue ∧ v.fitting = if (tport s p).stamps.length < 2 then none
          else some ((tport s p).gate + par s pTpGate p * tUs, (tport s p).stamps, (tport s p).unused) := by
  unfold tpGateEnd
  dsimp only
  rw [if_neg (by simp [hrun]; omega)]
  exact ⟨_, LogOnly.trans (logOnly_ite (logEv_logOnly ..) (.refl _)) (logOnly_ite (logEv_logOnly ..) (.refl _)), rfl, rfl, rfl, rfl⟩

/-! ### O20 -/

/-- Settles O20: an edge by its source's turns over the ports, the others by the event's one case. -/
theorem timingPortsRun : Obligations.TimingPortsRun := by
  unfold Obligations.TimingPortsRun
  refine ⟨?_, ?_, ?_, ?_, ?_, ?_⟩
  · intro t p raw rising s hp hraw hrun h7 hsel hh stamp q
    refine runs_live rfl (awake_of_servosRun hrun) ?_
    have hsrv := tpEdge_srv (raw := raw) (rising := rising) (s := advance t s) hp h7
    obtain ⟨hhold, hqueue⟩ := sourceEdge_stamped (s := advance t s) hrun (mem_portsOf_self hp) hsel hraw hh
    refine ⟨fun h2 => ?_, ?_, ?_, fun k hk hother => ?_⟩
    · rw [tpEdge_source (s := advance t s) hp h7 h2]
      exact (sourceEdge_scanActs (s := advance t s) hrun).only
    · rw [tport_of_srv hsrv]
      exact hhold
    · rw [tport_of_srv hsrv]
      exact hqueue
    · rw [tport_of_srv hsrv, sourceEdge_otherPort (s := advance t s) hrun (not_mem_portsOf hk hother), tport_advance]
  · intro t p raw e rising s hp hrun h7 hsel hh he
    refine runs_live rfl (awake_of_servosRun hrun) ⟨?_, fun h0 => ?_⟩
    · rw [tport_of_srv (tpEdge_srv (s := advance t s) hp h7)]
      exact sourceEdge_held (s := advance t s) hrun (mem_portsOf_self hp) hsel hh he
    · rw [tpEdge_ball (s := advance t s) hp hrun h0, portTurn, portEdge_held (s := advance t s) hsel hh he]
      exact irqOpen_ic ..
  · intro t p raw rising s h7
    have hoff : tpEdge p raw rising (advance t s) = advance t s := if_pos (.inr h7)
    refine congrArg Host.Outcome.next ?_
    unfold live
    dsimp only
    rw [hoff, ite_self]
  · intro t p e s hp ha hh he
    refine congrArg Host.Outcome.next ((live_awake ha).trans ?_)
    unfold tpHoldEnd
    simp only [tport_advance, hh]
    rw [if_neg (by omega)]
  · intro t p s hp hrun x stop hstop
    refine runs_live rfl (awake_of_servosRun hrun) ?_
    obtain ⟨v, hlog, hv⟩ := tpGateEnd_ends (s := advance t s) hp hrun hstop
    rw [tport_of_srv hlog.srv, tport_setTport, if_pos rfl, hlog.srv]
    exact ⟨hlog, hv⟩
  · intro t p stop k ts s hp ha hf
    refine congrArg Host.Outcome.next ((live_awake ha).trans ?_)
    unfold tpGateResult
    simp only [tport_advance, hf]
    rw [if_neg (by omega)]

end Sys2Proof.Machine
end

section
/-! SUPPORT. The servo sample (R214 to R221, R226, R229, R230), and O19. -/

namespace Sys2Proof.Machine

/-! ### What a sample's parts leave as it was -/

@[simp] theorem steady_restartMarks (n s) : steady (restartMarks n s) = steady s := by
  unfold restartMarks
  dsimp only
  split <;> split <;> simp

@[simp] theorem steady_takePort (n s) : steady (takePort n s) = steady s := by simp [takePort]
@[simp] theorem steady_freeRound (num den s) : steady (freeRound num den s).2 = steady s := by simp [freeRound]

@[simp] theorem steady_speedError (n tm s) : steady (speedError n tm s).2 = steady s := by
  unfold speedError
  split <;> simp

@[simp] theorem steady_servoMeasure (n x v s) : steady (servoMeasure n x v s).2 = steady s := by simp [servoMeasure]
@[simp] theorem steady_servoOutput (n oldMode x v hand s) : steady (servoOutput n oldMode x v hand s) = steady s := by simp [servoOutput]
@[simp] theorem steady_polyLock (s) : steady (polyLock s) = steady s := by simp [polyLock]

@[simp] theorem steady_irqOpen (n s) : steady (irqOpen n s) = steady s := by
  rw [irqOpen_ic]
  rfl

theorem servoSample_steady (n : Nat) (x : Int) (s : State) :
    (steady (servoSample n x s)).kept = (steady s).kept ∧ (steady (servoSample n x s)).units = (steady s).units := by
  simp [servoSample, nkCompare_steady]

/-! ### Codes of 16 bits (R216, R219, R220) -/

/-- A code that 16 bits hold. -/
def Fits16 (v : Int) : Prop := -32768 ≤ v ∧ v ≤ 32767

theorem fits16_ite {c : Prop} [Decidable c] {a b : Int} (ha : Fits16 a) (hb : Fits16 b) : Fits16 (if c then a else b) :=
  iteInduction (motive := Fits16) (fun _ => ha) fun _ => hb

theorem sat16_fits (v : Int) : Fits16 (sat16 v) := by
  unfold Fits16 sat16 clamp
  omega

/-- A step toward a goal stays between the value and the goal (R220). -/
theorem stepTo_fits {v goal : Int} (d : Nat) (hv : Fits16 v) (hg : Fits16 goal) : Fits16 (stepTo d v goal) := by
  unfold Fits16 at *
  unfold stepTo
  split
  · exact hg
  · split <;> omega

theorem servoLaw_fits {n : Nat} {v : Servo} {over_ : Bool} {ff : Int} (s : State) (h : Fits16 v.u) : Fits16 (servoLaw s n v over_ ff).2 := by
  unfold servoLaw
  split
  · exact sat16_fits _
  · split
    · exact h
    · exact sat16_fits _

/-! ### The port, the tables and the errors of a sample (R215, R216) -/

theorem restartMarks_servo (n : Nat) (s : State) :
    ∃ m, ∀ k, servo (restartMarks n s) k = if k = n then { servo s n with marks := m } else servo s k := by
  refine ⟨{ hist := ((s.dev, 0) :: (servo s n).marks.hist).take 16 }, fun k => ?_⟩
  unfold restartMarks
  dsimp only
  split <;> split <;> exact servo_setServo ..

theorem restartMarks_scanActs (n : Nat) (s : State) : ScanActs s (restartMarks n s) := by
  unfold restartMarks
  dsimp only
  split <;> split <;> exact ⟨rfl, rfl, rfl⟩

theorem takePort_servo (n : Nat) (s : State) :
    ∃ p m, ∀ k, servo (takePort n s) k = if k = n then { servo s n with port := p, marks := m } else servo s k := by
  unfold takePort
  dsimp only
  split
  · refine ⟨(servo s n).port, (servo s n).marks, fun k => ?_⟩
    split
    · next h => rw [h]
    · rfl
  · obtain ⟨m, hm⟩ := restartMarks_servo n (setServo s n { servo s n with port := par s pServoFbPort n })
    refine ⟨par s pServoFbPort n, m, fun k => ?_⟩
    rw [hm, servo_setServo, servo_setServo, if_pos rfl]
    split <;> rfl

theorem takePort_scanActs (n : Nat) (s : State) : ScanActs s (takePort n s) := by
  unfold takePort
  exact scanActs_ite (.refl s) ((setServo_scanActs ..).trans (restartMarks_scanActs ..))

theorem takeAdopted_u (v : Servo) (p : Nat) (m : Marks) : (takeAdopted { v with port := p, marks := m }).u = (takeAdopted v).u := by
  unfold takeAdopted
  dsimp only
  split <;> rfl

theorem takeTarget_eq (v : Servo) : ∃ t d b c, takeTarget v = { v with target := t, due := d, settled := b, settleCnt := c } := by
  unfold takeTarget
  split <;> exact ⟨_, _, _, _, rfl⟩

/-- What a sample keeps of a servo until its output: the instant, the code driven and the last output. -/
theorem servoApply_keeps (s : State) (n : Nat) (v : Servo) :
    (servoApply s n v).1.mode = par s pServoMode n ∧ (servoApply s n v).1.at_ = v.at_ ∧ (servoApply s n v).1.drv = v.drv
      ∧ (servoApply s n v).1.u = v.u := by
  unfold servoApply
  dsimp only
  obtain ⟨t, d, b, c, h⟩ := takeTarget_eq _
  rw [h]
  exact ⟨rfl, rfl, rfl, rfl⟩

theorem speedError_logOnly (n : Nat) (tm : Option Nat) (s : State) : LogOnly s (speedError n tm s).2 := by
  unfold speedError
  split
  · rfl
  · exact freeRound_logOnly ..

theorem servoMeasure_logOnly (n : Nat) (x : Int) (v : Servo) (s : State) : LogOnly s (servoMeasure n x v s).2 := speedError_logOnly ..

/-! ### The output (R217, R219, R220) -/

theorem servoOutput_logged (n oldMode : Nat) (x : Int) (v : Servo) (hand : Bool) (s : State) :
    ∃ w u b, servoOutput n oldMode x v hand s = setServo u n { servo u n with fltS := b } ∧ LogOnly (setServo s n w) u
      ∧ w.x = x ∧ w.at_ = v.at_ ∧ w.mode = v.mode ∧ w.drv = v.drv ∧ (Fits16 v.u → Fits16 w.u) := by
  unfold servoOutput
  dsimp only
  refine ⟨_, _, _, rfl, LogOnly.trans (LogOnly.trans
    (logOnly_ite (LogOnly.trans (wrapEv_logOnly ..) (logEv_logOnly ..)) (.refl _))
    (logOnly_ite (logEv_logOnly ..) (.refl _))) (logOnly_ite (logEv_logOnly ..) (.refl _)), rfl, rfl, rfl, rfl, fun h => ?_⟩
  have hgoal := fun ff => servoLaw_fits (n := n) (v := v) (over_ := hand) (ff := ff) s h
  exact fits16_ite h (fits16_ite (stepTo_fits _ h (hgoal _)) (hgoal _))

/-- The sampled servo holds the sample and its output; no other servo moves. -/
theorem servoOutput_servo (n oldMode : Nat) (x : Int) (v : Servo) (hand : Bool) (s : State) :
    ∃ w, (∀ k, servo (servoOutput n oldMode x v hand s) k = if k = n then w else servo s k)
      ∧ w.x = x ∧ w.at_ = v.at_ ∧ w.mode = v.mode ∧ w.drv = v.drv ∧ (Fits16 v.u → Fits16 w.u) := by
  obtain ⟨w, u, b, he, hlog, hw⟩ := servoOutput_logged n oldMode x v hand s
  refine ⟨{ w with fltS := b }, fun k => ?_, hw⟩
  rw [he, servo_setServo, servo_of_srv hlog.srv, servo_of_srv hlog.srv, servo_setServo, servo_setServo, if_pos rfl]
  split <;> rfl

/-! ### The polygon's lock and Nerrak's comparison (R226, R286) -/

theorem logEv_servos {code : Nat} {data : List Byte} {s u : State} (h : u.srv.ch = s.srv.ch) : (logEv code data u).srv.ch = s.srv.ch := by
  rw [logEv_srv, h]

theorem servos_ite {c : Prop} [Decidable c] {s a b : State} (ha : a.srv.ch = s.srv.ch) (hb : b.srv.ch = s.srv.ch) :
    (if c then a else b).srv.ch = s.srv.ch :=
  iteInduction (motive := fun u : State => u.srv.ch = s.srv.ch) (fun _ => ha) fun _ => hb

/-- Lock and its loss move the polygon's service alone (R226). -/
theorem polyLock_servos (s : State) : (polyLock s).srv.ch = s.srv.ch := by
  unfold polyLock
  dsimp only
  exact servos_ite (servos_ite (logEv_servos rfl) (servos_ite (logEv_servos rfl) (servos_ite (logEv_servos rfl) rfl)))
    (servos_ite (logEv_servos rfl) rfl)

theorem polyLock_servo (s : State) (k : Nat) : servo (polyLock s) k = servo s k := by
  rw [servo, polyLock_servos]
  rfl

theorem sampled_servo (n : Nat) (s : State) (k : Nat) :
    servo (irqOpen (169 + n) (if n = polyNo s then nkCompare (servo s n).thS (polyLock s) else s)) k = servo s k := by
  rw [servo_of_srv (irqOpen_srv ..)]
  split
  · rw [servo_of_srv (srv_of_scanParts (nkCompare_scanParts ..)), polyLock_servo]
  · rfl

/-! ### The sample -/

/-- A sample's output, of a servo with its port and the line copy's entry taken. -/
def sampleOutput (n : Nat) (x : Int) (v : Servo) (s : State) : State :=
  let a := servoApply s n { v with drv := v.u, at_ := some s.dev, rate := par s pServoRate n }
  let m := servoMeasure n x a.1 s
  servoOutput n v.mode x m.1 a.2 m.2

/-- Whether this device drives the servo is noted for its twin. -/
def ownNoted (n : Nat) (s : State) : State :=
  { s with twn.srvOwn := if s.twn.owner then s.twn.srvOwn ||| 2 ^ n else s.twn.srvOwn &&& (15 - 2 ^ n) }

theorem ownNoted_par (n : Nat) (s : State) (id i : Nat) : par (ownNoted n s) id i = par s id i := rfl

theorem sampleOutput_servo (n : Nat) (x : Int) (v : Servo) (s : State) :
    ∃ w, (∀ k, servo (sampleOutput n x v s) k = if k = n then w else servo s k)
      ∧ w.x = x ∧ w.at_ = some s.dev ∧ w.mode = par s pServoMode n ∧ w.drv = v.u ∧ (Fits16 v.u → Fits16 w.u) := by
  unfold sampleOutput
  dsimp only
  obtain ⟨hmode, hat, hdrv, hu⟩ := servoApply_keeps s n { v with drv := v.u, at_ := some s.dev, rate := par s pServoRate n }
  generalize servoApply s n _ = a at hmode hat hdrv hu ⊢
  obtain ⟨w, hw, hx, wat, wmode, wdrv, wu⟩ := servoOutput_servo n v.mode x (servoMeasure n x a.1 s).1 a.2 (servoMeasure n x a.1 s).2
  refine ⟨w, fun k => ?_, hx, wat.trans hat, wmode.trans hmode, wdrv.trans hdrv, fun h => wu (hu.symm ▸ h)⟩
  rw [hw, servo_of_srv (servoMeasure_logOnly ..).srv]

theorem servoSample_eq {n : Nat} {x : Int} {s : State} (hn : n < 4) (hrun : servosRun s = true) (hlo : -32768 ≤ x) (hhi : x ≤ 32767)
    (hdue : sampleDue s n = true) :
    let u := sampleOutput n x (takeAdopted (servo (takePort n s) n)) (ownNoted n (takePort n s))
    servoSample n x s = irqOpen (169 + n) (if n = polyNo u then nkCompare (servo u n).thS (polyLock u) else u) :=
  if_neg (by simp [hrun, hdue]; omega)

theorem servoSample_servo {n : Nat} {x : Int} {s : State} (hn : n < 4) (hrun : servosRun s = true) (hlo : -32768 ≤ x) (hhi : x ≤ 32767)
    (hdue : sampleDue s n = true) :
    ∃ w, (∀ k, servo (servoSample n x s) k = if k = n then w else servo s k) ∧ w.x = x ∧ w.at_ = some s.dev
      ∧ w.mode = par s pServoMode n ∧ w.drv = (takeAdopted (servo s n)).u ∧ (Fits16 (takeAdopted (servo s n)).u → Fits16 w.u) := by
  obtain ⟨p, m, hport⟩ := takePort_servo n s
  have hact := takePort_scanActs n s
  have hu : (takeAdopted (servo (takePort n s) n)).u = (takeAdopted (servo s n)).u := by
    rw [hport, if_pos rfl, takeAdopted_u]
  obtain ⟨w, hw, hx, hat, hmode, hdrv, hfits⟩ :=
    sampleOutput_servo n x (takeAdopted (servo (takePort n s) n)) (ownNoted n (takePort n s))
  rw [hu] at hdrv hfits
  refine ⟨w, fun k => ?_, hx, hat.trans (congrArg some hact.dev), hmode.trans ((ownNoted_par ..).trans (hact.par ..)), hdrv, hfits⟩
  rw [servoSample_eq hn hrun hlo hhi hdue, sampled_servo, hw]
  split
  · rfl
  · next hk => exact (hport k).trans (if_neg hk)

/-! ### The polygon's marks (R222, R282) -/

/-- A rising edge of the polygon's index reaches the ports of source 2, then Nerrak. -/
theorem polyEdge_rising {raw : Nat} (h : raw < 64) (s : State) :
    polyEdge raw true s = nkMark (coarse s * 64 + raw) (sourceEdge 2 0 raw true s) := by
  unfold polyEdge
  dsimp only
  rw [if_pos rfl, Nat.mod_eq_of_lt h]

theorem markMissing_overdue {a p : Nat} {s : State} (hrun : servosRun s = true) (ha : (servo s (polyNo s)).marks.ta = some a)
    (hp : (servo s (polyNo s)).marks.tm = some p) (hm : (servo s (polyNo s)).marks.missing = false) (hd : 3 * p ≤ 2 * (s.dev - a)) :
    LogOnly { setServo s (polyNo s) { servo s (polyNo s) with marks.missing := true } with srv.poly.fault := true } (markMissing s) := by
  unfold markMissing
  simp only [ha, hp]
  rw [if_neg (by simp [hm, hrun]; omega)]
  exact logEv_logOnly ..

/-! ### O19 -/

/-- Settles O19: the sample by its parts, a mark by its turns over the ports of source 2. -/
theorem servoEventsComplete : Obligations.ServoEventsComplete := by
  unfold Obligations.ServoEventsComplete
  refine ⟨?_, ?_, ?_⟩
  · intro t n x s hn hrun hlo hhi hdue
    refine runs_live rfl (awake_of_servosRun hrun) ?_
    obtain ⟨w, hw, hx, hat, hmode, hdrv, hfits⟩ := servoSample_servo (s := advance t s) hn hrun hlo hhi hdue
    obtain ⟨hkept, hunits⟩ := servoSample_steady n x (advance t s)
    obtain ⟨-, -, hnv, -⟩ := kept_fields hkept
    obtain ⟨-, hsns, hcal, -⟩ := units_fields hunits
    have hself := (hw n).trans (if_pos rfl)
    rw [hself]
    exact ⟨hx, hat, hmode, hdrv, fun k hk => (hw k).trans (if_neg hk), fun h1 h2 => hfits ⟨h1, h2⟩, hnv, hsns, hcal⟩
  · intro t raw s hraw hrun stamp
    refine ⟨_, rfl, ?_⟩
    rw [polyEdge_rising hraw]
    have hacts := sourceEdge_scanActs (k := 2) (p := 0) (raw := raw) (rising := true) (s := advance t s) hrun
    obtain ⟨hnv, hsns, hnk⟩ := hacts.fields
    obtain ⟨hkept, hunits⟩ := nkMark_steady stamp (sourceEdge 2 0 raw true (advance t s))
    have hservo := servo_of_srv (nkMark_srv stamp (sourceEdge 2 0 raw true (advance t s)))
    refine ⟨(kept_fields hkept).2.2.1.trans hnv, (units_fields hunits).2.1.trans hsns, fun m hm => ?_, ?_, fun n hn h2 => ?_⟩
    · refine nkMark_marks ?_
      rw [hnk, wallOf, hacts.wall, hacts.dev]
      exact hm
    · rintro q n m hq h2 hsel hh hn rfl hm
      refine (congrArg Servo.marks (hservo n)).trans ?_
      exact sourceEdge_marks (s := advance t s) hrun ((mem_portsOf_source (by decide)).2 ⟨hq, h2⟩) hsel hraw hh hn hm
    · refine (hservo n).trans (sourceEdge_otherServo (s := advance t s) hrun fun hq => h2 ?_)
      exact ((mem_portsOf_source (by decide)).1 hq).2
  · intro t a p s hrun v ha hp hm hd
    refine runs_live rfl (awake_of_servosRun hrun) ?_
    exact markMissing_overdue (s := advance t s) hrun ha hp hm hd

end Sys2Proof.Machine
end

section
/-! SUPPORT. The sense commands (R261 to R264), and O8. -/

namespace Sys2Proof.Machine

/-! ### Effects on sense channels beside an open request -/

theorem DeskOnly.withSns {k : Nat} {s u : State} (h : DeskOnly k s u) (x : Tab Sense) :
    DeskOnly k { s with sns := x } { u with sns := x } := by
  obtain ⟨hu, hm⟩ := h
  refine ⟨?_, hm⟩
  rw [hu]
  rfl

/-- A parameter's value is read from the sets and from non-volatile memory alone. -/
theorem par_of_sets {s u : State} (hp : u.par = s.par) (hn : u.nv = s.nv) (id i : Nat) : par u id i = par s id i := by
  simp only [par, valOr, pDefault, hp, hn]

@[simp] theorem started_sense (op t : Nat) (r : Req) (s : State) (n : Nat) : sense (started op t r s) n = sense s n := by
  simp [sense]
@[simp] theorem started_snsCfg (op t : Nat) (r : Req) (s : State) (n : Nat) : snsCfg (started op t r s) n = snsCfg s n := by
  simp [snsCfg, snsCfgNow, par_of_sets (started_par op t r s) (started_nv op t r s)]
@[simp] theorem started_snsShown (op t : Nat) (r : Req) (s : State) (n : Nat) : snsShown (started op t r s) n = snsShown s n := by
  simp [snsShown, snsFigures, settling]

theorem started_settleNow (op t : Nat) (r : Req) (s : State) (c : List Nat) (x : Sense) :
    settleNow (started op t r s) c x = settleNow (advance t s) c x := by
  simp [settleNow]

section
variable (t : Nat) (r : Req) (s : State)

theorem exec_senseRead : exec (.senseRead t r) s = .next (command { op := 0x0710 } (lenEq 4) senseReadBody t r s) := rfl
theorem exec_senseFirWrite : exec (.senseFirWrite t r) s = .next (command { op := 0x0711 } (lenEq 132) firWriteBody t r s) := rfl
theorem exec_senseLeadMeasure : exec (.senseLeadMeasure t r) s = .next (command { op := 0x0712 } (lenEq 4) leadMeasureBody t r s) := rfl
theorem exec_senseStatusRead : exec (.senseStatusRead t r) s = .next (command { op := 0x0713 } (lenEq 4) senseStatusBody t r s) := rfl

end

/-! ### SENSE_READ (R261) -/

/-- A channel without the entries that a request takes. -/
def Sense.read (x : Sense) (r : Req) : Sense := { x with queue := x.queue.drop (fld r.payload 1 1) }

/-- What SENSE_READ answers of a channel. -/
def Sense.answer (x : Sense) (r : Req) : List Byte :=
  le 1 (fld r.payload 0 1) ++ le 1 (x.queue.take (fld r.payload 1 1)).length ++ le 2 (b2n x.dropped.wrap) ++ le 4 x.dropped.val.toNat
    ++ le 4 (x.queue.drop (fld r.payload 1 1)).length ++ (x.queue.take (fld r.payload 1 1)).flatMap smpBytes

theorem length_flatMap_smpBytes (l : List Smp) : (l.flatMap smpBytes).length = 16 * l.length := by
  simp [List.length_flatMap, smpBytes, leI, Nat.mul_comm]

theorem Sense.length_answer (x : Sense) {r : Req} (hm : fld r.payload 1 1 ≤ 14) : (x.answer r).length ≤ 244 := by
  have htake := List.length_take_le (fld r.payload 1 1) x.queue
  simp only [Sense.answer, List.length_append, length_le, length_flatMap_smpBytes]
  omega

theorem senseReadBody_done (op : Nat) {r : Req} {s : State} (hn : fld r.payload 0 1 ≤ 7) (hm : fld r.payload 1 1 ≤ 14)
    (hz : fld r.payload 2 2 = 0) :
    senseReadBody op r s = .done rOK ((sense s (fld r.payload 0 1)).answer r)
      (setSense s (fld r.payload 0 1) ((sense s (fld r.payload 0 1)).read r)) :=
  if_neg (by omega)

theorem senseRead_completes {t : Nat} {r : Req} {s : State} (h : Ready r s) (hlen : r.payload.length = 4) (hn : fld r.payload 0 1 ≤ 7)
    (hm : fld r.payload 1 1 ≤ 14) (hz : fld r.payload 2 2 = 0) :
    CompletesOk (.senseRead t r) r 0x0710 s (setSense (advance t s) (fld r.payload 0 1) ((sense s (fld r.payload 0 1)).read r))
      (fun p => p = (sense s (fld r.payload 0 1)).answer r) := by
  have hb := senseReadBody_done 0x0710 (s := started 0x0710 t r s) hn hm hz
  simp only [setSense, started_sns, started_sense] at hb
  exact completesOk_of_effect (exec_of_body h (exec_senseRead t r s) (by omega) (by simp [lenEq, hlen]) hb) (started_origin ..)
    ((started_deskOnly 0x0710 t r s h.2.2.2.2.2).withSns _) rfl (Sense.length_answer _ hm)

/-! ### SENSE_FIR_WRITE (R262) -/

theorem kfs256_logOnly (k : Nat × Nat) (s : State) : LogOnly s (kfs256 k s).2 := freeRound_logOnly ..

theorem kfs256_sns (k : Nat × Nat) (s : State) : (kfs256 k s).2.sns = s.sns :=
  (units_fields (by simp [kfs256])).2.1

/-- The coefficients that a request carries. -/
def reqFir (r : Req) : List Int := (List.range 32).map (fun i => fldI r.payload (4 + 4 * i) 4)

/-- A channel with a request's set stored; one that runs with it clears its chain and settles. -/
def firStored (r : Req) (c : List Nat) (x : Sense) (s : State) : Sense :=
  if x.on && c.getD 10 0 == 1 then settleNow s c (chainClear c { x with fir := reqFir r }) else { x with fir := reqFir r }

section
variable {r : Req} {s : State} (hn : fld r.payload 0 1 ≤ 7) (hz : allZero ((r.payload.drop 1).take 3) = true)
  (hr : ∀ h ∈ reqFir r, -131072 ≤ h ∧ h ≤ 131071) (hs : 0 < sumI (reqFir r))
include hn hz hr hs

theorem firWriteBody_done (op : Nat) :
    let k := kfs256 (kfs (snsCfg s (fld r.payload 0 1)) (2 * sumI (reqFir r)).toNat) s
    firWriteBody op r s = .done rOK (leI 4 (2 * sumI (reqFir r)) ++ le 4 k.1)
      (setSense k.2 (fld r.payload 0 1) (firStored r (snsCfg s (fld r.payload 0 1)) (sense s (fld r.payload 0 1)) s)) := by
  refine if_neg ?_
  rintro (g | g | g | g)
  · omega
  · exact absurd (hz.symm.trans g) (by decide)
  · obtain ⟨x, hx, hout⟩ := List.any_eq_true.1 g
    have hin := hr x hx
    simp only [Bool.or_eq_true, decide_eq_true_eq] at hout
    omega
  · exact absurd g (by change ¬2 * sumI (reqFir r) ≤ 0; omega)

theorem senseFirWrite_completes {t : Nat} (h : Ready r s) (hlen : r.payload.length = 132) :
    CompletesOk (.senseFirWrite t r) r 0x0711 s (setSense (advance t s) (fld r.payload 0 1)
        (firStored r (snsCfg s (fld r.payload 0 1)) (sense s (fld r.payload 0 1)) (advance t s)))
      (fun p => p.length = 8 ∧ p.take 4 = leI 4 (2 * sumI (reqFir r))) := by
  have hb := firWriteBody_done (s := started 0x0711 t r s) hn hz hr hs 0x0711
  simp only [setSense, started_sense, started_snsCfg, kfs256_sns, started_sns] at hb
  have hk := kfs256_logOnly (kfs (snsCfg s (fld r.payload 0 1)) (2 * sumI (reqFir r)).toNat) (started 0x0711 t r s)
  have hsettle : ∀ c x, firStored r c x (started 0x0711 t r s) = firStored r c x (advance t s) := fun c x => by
    simp only [firStored, started_settleNow]
  rw [hsettle] at hb
  refine completesOk_of_effect (exec_of_body h (exec_senseFirWrite t r s) (by omega) (by simp [lenEq, hlen]) hb) ?_
    (((started_deskOnly 0x0711 t r s h.2.2.2.2.2).trans (hk.deskOnly _)).withSns _) ⟨?_, ?_⟩ ?_
  · exact (hk.mb r.mb ▸ started_origin 0x0711 t r s : (mb (kfs256 _ _).2 r.mb).origin = none)
  · simp [leI]
  · exact List.take_left' (by simp [leI])
  · simp [leI]

end

/-! ### SENSE_LEAD_MEASURE and SENSE_STATUS_READ (R263, R264) -/

/-- A channel whose lead phase starts now, a settling event. -/
def leadBegun (s : State) (x : Sense) : Sense := settleNow s x.cfg { x with lead := some { step := 1, n := 0, sum := (0, 1), cur := 0 } }

/-- What SENSE_STATUS_READ answers of a channel's figures, K_FS given. -/
def SnsStat.answer (f : SnsStat) (r : Req) (k : Nat) : List Byte :=
  le 1 (fld r.payload 0 1) ++ le 1 f.st ++ le 1 f.g ++ le 1 (b2n f.compl + 2 * b2n f.wraps.1 + 4 * b2n f.wraps.2) ++ le 4 f.cur
    ++ le 4 f.term ++ le 4 f.rl ++ le 4 k ++ le 4 (40250 * f.r) ++ le 4 (104250 * f.r) ++ le 4 (1000 * f.r * f.df)
    ++ le 4 f.opens ++ le 4 f.ranges

section
variable {r : Req} {s : State} (hn : fld r.payload 0 1 ≤ 7) (hz : allZero (r.payload.drop 1) = true)
include hn hz

theorem leadMeasureBody_done (op : Nat) {x : Sense} (hx : sense s (fld r.payload 0 1) = x) (hon : x.on = true) (hw : x.cfg.getD 5 2 ≠ 0)
    (he : x.cfg.getD 2 0 ≠ 0) (ho : x.openAt = none) (hl : x.lead = none) :
    leadMeasureBody op r s = .done rOK [] (setSense s (fld r.payload 0 1) (leadBegun s x)) := by
  unfold leadMeasureBody
  dsimp only
  rw [hx, if_neg (not_or.2 ⟨Nat.not_lt.2 hn, by rw [hz]; decide⟩), if_neg, if_neg, leadStart, if_neg hw]
  · rfl
  · rw [ho, hl]
    decide
  · rw [hon]
    exact not_or.2 ⟨by decide, not_or.2 ⟨hw, he⟩⟩

theorem senseLeadMeasure_completes {t : Nat} (h : Ready r s) (hlen : r.payload.length = 4) {x : Sense}
    (hx : sense s (fld r.payload 0 1) = x) (hon : x.on = true) (hw : x.cfg.getD 5 2 ≠ 0) (he : x.cfg.getD 2 0 ≠ 0)
    (ho : x.openAt = none) (hl : x.lead = none) :
    CompletesOk (.senseLeadMeasure t r) r 0x0712 s (setSense (advance t s) (fld r.payload 0 1) (leadBegun (advance t s) x))
      (fun p => p = []) := by
  have hb := leadMeasureBody_done (s := started 0x0712 t r s) hn hz 0x0712 ((started_sense ..).trans hx) hon hw he ho hl
  rw [show leadBegun (started 0x0712 t r s) x = leadBegun (advance t s) x from started_settleNow ..] at hb
  simp only [setSense, started_sns] at hb
  exact completesOk_of_effect (exec_of_body h (exec_senseLeadMeasure t r s) (by omega) (by simp [lenEq, hlen]) hb) (started_origin ..)
    ((started_deskOnly 0x0712 t r s h.2.2.2.2.2).withSns _) rfl (by simp)

theorem senseStatusBody_done (op : Nat) :
    senseStatusBody op r s = .done rOK ((snsShown s (fld r.payload 0 1)).answer r (kfs256 (snsShown s (fld r.payload 0 1)).kfs s).1)
      (kfs256 (snsShown s (fld r.payload 0 1)).kfs s).2 :=
  if_neg (not_or.2 ⟨Nat.not_lt.2 hn, by rw [hz]; decide⟩)

theorem senseStatusRead_completes {t : Nat} (h : Ready r s) (hlen : r.payload.length = 4) :
    CompletesOk (.senseStatusRead t r) r 0x0713 s (advance t s) (fun p => ∃ k, p = (snsShown s (fld r.payload 0 1)).answer r k) := by
  have hb := senseStatusBody_done (s := started 0x0713 t r s) hn hz 0x0713
  rw [started_snsShown] at hb
  have hk := kfs256_logOnly (snsShown s (fld r.payload 0 1)).kfs (started 0x0713 t r s)
  exact completesOk_of_effect (exec_of_body h (exec_senseStatusRead t r s) (by omega) (by simp [lenEq, hlen]) hb)
    (hk.mb r.mb ▸ started_origin 0x0713 t r s) ((started_deskOnly 0x0713 t r s h.2.2.2.2.2).trans (hk.deskOnly _)) ⟨_, rfl⟩
    (by simp [SnsStat.answer])

end

/-- Settles O8: a clause per command. -/
theorem senseCommandsComplete : Obligations.SenseCommandsComplete := by
  unfold Obligations.SenseCommandsComplete
  refine ⟨fun t r s h hlen hn hm hz => senseRead_completes h hlen hn hm hz, ?_, ?_,
    fun t r s h hlen hn hz => senseStatusRead_completes hn hz h hlen⟩
  · intro t r s h hlen hn hz hs hr hpos
    have hc := senseFirWrite_completes (t := t) hn hz hr hpos h hlen
    simp only [firStored, Bool.and_eq_true, beq_iff_eq] at hc
    exact hc
  · intro t r s h hlen hn hz n x hon hw he ho hl
    exact senseLeadMeasure_completes hn hz h hlen rfl hon hw he ho hl

end Sys2Proof.Machine
end

section
/-! SUPPORT. What Nerrak's reactions to a fault leave as it was (R28, R38, R193, R199, R287, R288, R500): one lemma per operation that a
D fault's change reaches, in the order of the model's files. -/

namespace Sys2Proof.Machine

theorem GuardActs.refl (s : State) : GuardActs s s := rfl

theorem GuardActs.trans {s u v : State} (h : GuardActs s u) (g : GuardActs u v) : GuardActs s v := by
  unfold GuardActs at h g ⊢
  rw [h] at g
  exact g

theorem guardActs_ite {c : Prop} [Decidable c] {s a b : State} (ha : GuardActs s a) (hb : GuardActs s b) :
    GuardActs s (if c then a else b) :=
  iteInduction (motive := GuardActs s) (fun _ => ha) fun _ => hb

theorem guardActs_foldl {α : Type} {f : State → α → State} (h : ∀ s a, GuardActs s (f s a)) (l : List α) (s : State) :
    GuardActs s (l.foldl f s) :=
  foldl_holds (GuardActs s) (fun u a hu => hu.trans (h u a)) l s (.refl s)

theorem GuardActs.dev {s u : State} (h : GuardActs s u) : u.dev = s.dev := (congrArg State.dev (show u = _ from h) :)
theorem GuardActs.sns {s u : State} (h : GuardActs s u) : u.sns = s.sns := (congrArg State.sns (show u = _ from h) :)

/-! ### Ops.lean -/

/-- An event logged while time stands. -/
theorem LogOnly.guardActs {s u : State} (h : LogOnly s u) (hw : u.wall = s.wall) (hd : u.dev = s.dev) : GuardActs s u := by
  unfold LogOnly at h
  unfold GuardActs
  rw [h, logOf, hw, hd]
  rfl

theorem SealsJudged.guardActs {s u : State} (h : SealsJudged s u) (hw : u.wall = s.wall) (hd : u.dev = s.dev) : GuardActs s u := by
  unfold SealsJudged at h
  unfold GuardActs
  rw [h, logOf, hw, hd]
  rfl

theorem wall_of_standing {s u : State} (h : standing u = standing s) : u.wall = s.wall := congrArg (fun x => x.2.1) h

theorem freeVal_guardActs (n : Nat) (s : State) : GuardActs s (freeVal n s).2 := rfl

theorem attnRaise_guardActs (b : Word) (s : State) : GuardActs s (attnRaise b s) :=
  (attnRaise_logOnly b s).guardActs (attnRaise_time b s).1 (attnRaise_time b s).2.1

theorem logNow_guardActs (c : Nat) (d : List Byte) (s : State) : GuardActs s (logNow c d s) :=
  (logNow_logOnly c d s).guardActs (logNow_time c d s).1 (logNow_time c d s).2.1

theorem logEv_guardActs (c : Nat) (d : List Byte) (s : State) : GuardActs s (logEv c d s) :=
  (logEv_logOnly c d s).guardActs (logEv_time c d s).1 (logEv_dev c d s)

theorem wrapEv_guardActs (o : CntW) (k c : Nat) (d : List Byte) (s : State) : GuardActs s (wrapEv o k c d s) :=
  (wrapEv_logOnly o k c d s).guardActs (wrapEv_time o k c d s).1 (wrapEv_dev o k c d s)

theorem irq_guardActs (n : Nat) (s : State) : GuardActs s (irq n s) := by
  rw [irq_ic]
  rfl

theorem irqOpen_guardActs (n : Nat) (s : State) : GuardActs s (irqOpen n s) := by
  rw [irqOpen_ic]
  rfl

/-! ### Stream.lean: records that no key orders -/

theorem shedFrame_guardActs (q : Nat) (f : BFrame) (s : State) : GuardActs s (shedFrame q f s) := by
  delta shedFrame
  extract_lets _ _ back _ shed
  have hback : GuardActs s back := by
    rw [show back = _ from segBack_segs ..]
    rfl
  have hshed : GuardActs back shed := rfl
  have hpath : ∀ u k p, GuardActs u (setPath u k p) := fun _ _ _ => rfl
  exact hback.trans (hshed.trans (guardActs_foldl (fun u k => (hpath u k _).trans (wrapEv_guardActs ..)) _ _))

theorem enqueueFrame_guardActs (q : Nat) (f : BFrame) (s : State) : GuardActs s (enqueueFrame q f s) := by
  unfold enqueueFrame
  refine GuardActs.trans (u := setPath s q { path s q with offered := (path s q).offered + f.charged }) rfl ?_
  generalize setPath s q _ = u
  have hqueue : ∀ x, GuardActs u (setQueue u q f.cls x) := fun _ => rfl
  exact guardActs_ite (shedFrame_guardActs ..) (guardActs_ite ((hqueue _).trans (shedFrame_guardActs ..)) (hqueue _))

theorem closeAll_guardActs (p : OpenF → Bool) (s : State) : GuardActs s (closeAll p s) :=
  guardActs_foldl (fun s o => GuardActs.trans (u := { s with str.opens := s.str.opens.filter (fun x => x ≠ o) }) rfl
    (enqueueFrame_guardActs ..)) _ s

theorem addOwn_guardActs (r : Rec) (s : State) : GuardActs s (addOwn r s) := by
  have hopens : ∀ u l, GuardActs u { u with str.opens := l } := fun _ _ => rfl
  unfold addOwn
  dsimp only
  split
  · exact (closeAll_guardActs ..).trans (hopens ..)
  · exact (closeAll_guardActs ..).trans (hopens ..)

theorem formed_guardActs (r : Rec) (s : State) : GuardActs s (formed r s) := by
  obtain ⟨m, h⟩ := formed_eq r s
  rw [h]
  unfold logHanded
  split
  · rfl
  · split <;> rfl

theorem healthRecord_guardActs (s : State) : GuardActs s (healthRecord s) := by
  unfold healthRecord ownRec pushRec admitRec addRec
  rw [if_neg (by dsimp only; decide), if_neg (by simp)]
  exact (formed_guardActs ..).trans (addOwn_guardActs ..)

/-! ### Score.lean and Guard.lean -/

theorem updScore_guardActs (s : State) : GuardActs s (updScore s) := guardActs_ite (.refl s) rfl

theorem updCaps_guardActs (s : State) : GuardActs s (updCaps s) :=
  have hcaps : ∀ c d, GuardActs s { s with sch.ceil := c, sch.rdiv := d } := fun _ _ => rfl
  guardActs_ite (.refl s) ((hcaps _ _).trans (logEv_guardActs ..))

theorem updCharge_guardActs (s : State) : GuardActs s (updCharge s) := by
  delta updCharge
  extract_lets _ _ _ _ _ _ _ driven
  have hdriven : GuardActs s driven := rfl
  exact guardActs_ite hdriven (hdriven.trans (logEv_guardActs ..))

theorem judgeSeals_guardActs (s : State) : GuardActs s (judgeSeals s) :=
  (judgeSeals_sealsJudged s).guardActs (wall_of_standing (standing_judgeSeals s)) (judgeSeals_dev s)

theorem stopEmission_guardActs (s : State) : GuardActs s (stopEmission s) := by
  unfold stopEmission
  exact guardActs_ite (GuardActs.trans (u := { s with
    sch.strs := _, sch.line := _, sch.nextLine := _, sch.lastEdge := _, sch.truncated := _, sch.fbeAt := _ }) rfl (judgeSeals_guardActs _))
    (guardActs_ite rfl rfl)

theorem dropLsr_guardActs (s : State) : GuardActs s (dropLsr s) :=
  guardActs_ite (GuardActs.trans (u := { s with pins.lsrA := false, pins.lsrB := false, nk.lsrFell := s.wall }) rfl
    (guardActs_ite (stopEmission_guardActs _) (.refl _))) (.refl s)

theorem driveCut_guardActs (s : State) : GuardActs s (driveCut s) :=
  guardActs_ite (guardActs_ite rfl (guardActs_ite rfl rfl)) (guardActs_ite rfl rfl)

theorem degClock_guardActs (s : State) : GuardActs s (degClock s) := by
  unfold degClock
  dsimp only
  split <;> exact guardActs_ite rfl rfl

theorem nkUpdate_guardActs (s : State) : GuardActs s (nkUpdate s) := by
  unfold nkUpdate
  refine GuardActs.trans (u := if s.pins.lsrA && !permOk s then dropLsr s else s) (guardActs_ite (dropLsr_guardActs s) (.refl s)) ?_
  exact (driveCut_guardActs _).trans ((degClock_guardActs _).trans (updCaps_guardActs _))

theorem topCell_guardActs (s : State) (st : List Host.Cell) : GuardActs s (topCell s st).2 := by
  unfold topCell
  dsimp only
  split <;> rfl

theorem noteFills_guardActs (st : List Host.Cell) (s : State) : GuardActs s (noteFills st s) := rfl

theorem capEval_guardActs (s : State) : GuardActs s (capEval s) := by
  have hcap : ∀ (u : State) (on : Bool), GuardActs u { u with nk.cap := on } := fun _ _ => rfl
  have hgo : ∀ (u : State) (st : List Host.Cell) (on : Bool) (d : List Byte),
      GuardActs u (updCaps (logEv 0x0C04 d { (topCell u st).2 with nk.cap := on })) := fun u st on d =>
    ((topCell_guardActs u st).trans (hcap _ on)).trans ((logEv_guardActs ..).trans (updCaps_guardActs _))
  delta capEval
  split
  · exact .refl s
  · next st _ =>
    extract_lets noted _ go
    exact (noteFills_guardActs st s).trans (guardActs_ite (hgo noted st true _) (guardActs_ite (hgo noted st false _) (.refl noted)))

theorem incident_guardActs (kind : Nat) (s : State) : GuardActs s (incident kind s) :=
  have hignored : ∀ c, GuardActs s { s with lgb.ignored := c } := fun _ => rfl
  guardActs_ite (.refl s) (guardActs_ite ((hignored _).trans (wrapEv_guardActs ..)) rfl)

theorem nkFaultEv_guardActs (bitNo str em val : Nat) (s : State) : GuardActs s (nkFaultEv bitNo str em val s) := by
  have h := (logEv_guardActs 0x0C01 (le 1 bitNo ++ le 1 str ++ le 1 em ++ le 4 (min val (2 ^ 32 - 1))) s).trans
    (irq_guardActs (if bitNo < 16 then 201 + bitNo else 197 + bitNo) _)
  exact guardActs_ite (h.trans (incident_guardActs ..)) h

theorem faults_guardActs (f : Word) (s : State) : GuardActs s { s with nk.faults := f } := rfl

theorem latchFault_guardActs (bitNo : Nat) (s : State) : GuardActs s (latchFault bitNo s) :=
  guardActs_ite (.refl s) ((freeVal_guardActs (2 ^ 32) s).trans ((faults_guardActs ..).trans (nkFaultEv_guardActs ..)))

theorem unlatch_guardActs (bitNo : Nat) (s : State) : GuardActs s (unlatch bitNo s) :=
  guardActs_ite ((faults_guardActs ..).trans (logEv_guardActs ..)) (.refl s)

theorem setChgHeld_guardActs (held : Bool) (s : State) : GuardActs s (setChgHeld held s) :=
  guardActs_ite (.refl s) (GuardActs.trans (u := { s with nk.chgHeld := held }) rfl
    (GuardActs.trans (guardActs_ite (logEv_guardActs ..) (.refl _)) (updCharge_guardActs _)))

theorem relatch_guardActs (s : State) : GuardActs s (relatch s) := by
  unfold relatch
  refine GuardActs.trans (u := if headOpen s then latchFault 7 s else s) (guardActs_ite (latchFault_guardActs 7 s) (.refl s)) ?_
  generalize (if headOpen s then latchFault 7 s else s) = u
  refine GuardActs.trans (u := if senseFault u then latchFault 17 u else unlatch 17 u)
    (guardActs_ite (latchFault_guardActs 17 u) (unlatch_guardActs 17 u)) ?_
  exact (capEval_guardActs _).trans (setChgHeld_guardActs ..)

theorem setSt_guardActs (new cause : Nat) (s : State) : GuardActs s (setSt new cause s) := by
  delta setSt
  extract_lets _ _ st _ idle _ cand judged told done
  have hst : GuardActs s st := rfl
  have hidle : GuardActs st idle := guardActs_ite (.refl st) rfl
  have hcand : GuardActs idle cand := guardActs_ite rfl (.refl idle)
  have hjudged : GuardActs cand judged := guardActs_ite (relatch_guardActs cand) (.refl cand)
  have htold : GuardActs judged told :=
    (updScore_guardActs judged).trans ((attnRaise_guardActs 0x400#32 _).trans (logNow_guardActs ..))
  have hdone : GuardActs told done := (updCharge_guardActs told).trans ((nkUpdate_guardActs _).trans (healthRecord_guardActs _))
  exact hst.trans (hidle.trans (hcand.trans (hjudged.trans (htold.trans (hdone.trans
    (guardActs_ite (incident_guardActs ..) (guardActs_ite (incident_guardActs ..) (.refl _))))))))

theorem stNow_guardActs (new cause : Nat) (s : State) : GuardActs s (stNow new cause s) := by
  unfold stNow
  refine GuardActs.trans (u := dropPend s) rfl (GuardActs.trans ?_ (setSt_guardActs ..))
  exact guardActs_ite (.refl _) (stopEmission_guardActs _)

theorem raiseFault_guardActs (bitNo str em val : Nat) (s : State) : GuardActs s (raiseFault bitNo str em val s) := by
  delta raiseFault
  extract_lets _ u _
  have hu : GuardActs s u := (faults_guardActs _ s).trans (nkFaultEv_guardActs ..)
  have hpend : GuardActs u { u with desk.pendRun := false } := rfl
  refine guardActs_ite (.refl s) (hu.trans ?_)
  exact guardActs_ite (guardActs_ite (stNow_guardActs ..) (nkUpdate_guardActs u)) (guardActs_ite (stNow_guardActs ..)
    (hpend.trans (nkUpdate_guardActs _)))

theorem raiseFree_guardActs (bitNo str em : Nat) (s : State) : GuardActs s (raiseFree bitNo str em s) :=
  guardActs_ite (.refl s) ((freeVal_guardActs _ s).trans (raiseFault_guardActs ..))

theorem clearFault_guardActs (bitNo : Nat) (s : State) : GuardActs s (clearFault bitNo s) := by
  unfold clearFault
  refine guardActs_ite (.refl s) ((unlatch_guardActs bitNo s).trans (GuardActs.trans ?_ (nkUpdate_guardActs _)))
  exact guardActs_ite rfl (.refl _)

/-- A D fault that follows its condition leaves the units as they were (R287, R290). -/
theorem levelFault_guardActs (bitNo : Nat) (on : Bool) (s : State) : GuardActs s (levelFault bitNo on s) :=
  guardActs_ite (raiseFree_guardActs ..) (clearFault_guardActs ..)

end Sys2Proof.Machine
end

section
/-! SUPPORT. Blocks, samples, intervals and the laser interlock of the sense channels (R246, R252, R256, R259, R293), and O9. -/

namespace Sys2Proof.Machine

/-! ### One channel acts -/

theorem GuardActs.sense {s u : State} (h : GuardActs s u) (k : Nat) : sense u k = Machine.sense s k := by
  rw [Machine.sense, h.sns]
  rfl

theorem GuardActs.par {s u : State} (h : GuardActs s u) (id i : Nat) : par u id i = Machine.par s id i :=
  (congrArg (fun v => Machine.par v id i) (show u = _ from h) :)

/-- From `s` to `u` channel `n` may have moved, and what Nerrak's reactions may touch; no other channel has. -/
structure ChannelActs (n : Nat) (s u : State) : Prop where
  only   : GuardActs { s with sns := u.sns } u
  others : ∀ k, k ≠ n → sense u k = sense s k

/-- Channel `n` acts and keeps what `f` reads of it. -/
structure ChannelKeeps {α : Type} (f : Sense → α) (n : Nat) (s u : State) : Prop where
  acts : ChannelActs n s u
  same : f (sense u n) = f (sense s n)

section
variable {α : Type} {f : Sense → α} {n : Nat} {s u v : State}

theorem ChannelActs.trans (h : ChannelActs n s u) (g : ChannelActs n u v) : ChannelActs n s v := by
  refine ⟨?_, fun k hk => (g.others k hk).trans (h.others k hk)⟩
  have ho := h.only
  have go := g.only
  unfold GuardActs at ho go ⊢
  rw [ho] at go
  exact go

theorem ChannelActs.dev (h : ChannelActs n s u) : u.dev = s.dev := h.only.dev

theorem GuardActs.channelActs (h : GuardActs s u) : ChannelActs n s u := by
  refine ⟨?_, fun k _ => h.sense k⟩
  rw [h.sns]
  exact h

theorem setSense_channelActs (n : Nat) (x : Sense) (s : State) : ChannelActs n s (setSense s n x) :=
  ⟨.refl _, fun k hk => by rw [sense_setSense, if_neg hk]⟩

theorem ChannelKeeps.trans (h : ChannelKeeps f n s u) (g : ChannelKeeps f n u v) : ChannelKeeps f n s v :=
  ⟨h.acts.trans g.acts, g.same.trans h.same⟩

theorem GuardActs.channelKeeps (h : GuardActs s u) : ChannelKeeps f n s u := ⟨h.channelActs, by rw [h.sense]⟩

theorem channelKeeps_ite {c : Prop} [Decidable c] (hu : ChannelKeeps f n s u) (hv : ChannelKeeps f n s v) :
    ChannelKeeps f n s (if c then u else v) :=
  iteInduction (motive := ChannelKeeps f n s) (fun _ => hu) fun _ => hv

theorem setSense_channelKeeps {x : Sense} (h : f x = f (sense s n)) : ChannelKeeps f n s (setSense s n x) :=
  ⟨setSense_channelActs n x s, by rw [sense_setSense, if_pos rfl, h]⟩

end

/-! ### A block's reading (R244, R246) -/

/-- What a block's measurement leaves of a channel to the block's end: whether it runs, its current and terminal voltage, the compliance
limit. -/
def Sense.reading (x : Sense) : Bool × Nat × Nat × Bool := (x.on, x.cur, x.term, x.compl)

theorem sense_ite {α : Type} (f : Sense → α) {c : Prop} [Decidable c] {x y : Sense} {a : α} (hx : f x = a) (hy : f y = a) :
    f (if c then x else y) = a :=
  iteInduction (motive := fun w : Sense => f w = a) (fun _ => hx) fun _ => hy

theorem leadStart_reading (s : State) (c : List Nat) (x : Sense) : (leadStart s c x).reading = x.reading :=
  sense_ite Sense.reading rfl rfl

theorem leadStart_chain (s : State) (c : List Nat) (x : Sense) : (leadStart s c x).chain = x.chain := sense_ite Sense.chain rfl rfl

theorem snsTake_reading (s : State) (n : Nat) (x : Sense) : (snsTake s n x).reading = x.reading := by
  delta snsTake
  extract_lets _ _ c _ _ _ taken cleared restarted settled _
  have hcleared : cleared.reading = taken.reading := sense_ite Sense.reading rfl rfl
  have hrestarted : restarted.reading = cleared.reading := sense_ite Sense.reading rfl rfl
  have hsettled : settled.reading = restarted.reading := sense_ite Sense.reading rfl rfl
  refine Eq.trans ?_ (hsettled.trans (hrestarted.trans hcleared))
  split
  · rfl
  · exact sense_ite Sense.reading (leadStart_reading ..) rfl

theorem declareOpen_keeps (n cond : Nat) (s : State) : ChannelKeeps Sense.reading n s (declareOpen n cond s) := by
  delta declareOpen
  extract_lets _ _ _ declared logged led
  have hdeclared : ChannelKeeps Sense.reading n s declared := setSense_channelKeeps rfl
  have hled : GuardActs declared led := (logEv_guardActs ..).trans (guardActs_ite (logEv_guardActs ..) (.refl logged))
  exact hdeclared.trans (hled.trans ((wrapEv_guardActs ..).trans (levelFault_guardActs ..))).channelKeeps

theorem restoreOpen_keeps (n t0 : Nat) (s : State) : ChannelKeeps Sense.reading n s (restoreOpen n t0 s) := by
  delta restoreOpen
  extract_lets _ _ x restored
  have hx : x.reading = (sense s n).reading := rfl
  have hrestored : ChannelKeeps Sense.reading n s restored := setSense_channelKeeps ((snsTake_reading s n x).trans hx)
  exact hrestored.trans ((logEv_guardActs ..).trans (levelFault_guardActs ..)).channelKeeps

theorem snsJudge_keeps (n conds : Nat) (s : State) : ChannelKeeps Sense.reading n s (snsJudge n conds s) := by
  unfold snsJudge
  dsimp only
  split
  · exact channelKeeps_ite (restoreOpen_keeps ..) (GuardActs.refl s).channelKeeps
  · split
    · exact declareOpen_keeps ..
    · exact (GuardActs.refl s).channelKeeps

/-! ### A block (R246, R257, R260) -/

theorem sense_runs {n : Nat} {s : State} (hn : n < 8) (hrun : sensesRun s = true) : ¬(7 < n ∨ sensesRun s = false) :=
  not_or.2 ⟨by omega, by simp [hrun]⟩

/-- A block's figures are noted, and its interrupt source may be raised. -/
def figured (n : Nat) (s : State) : State :=
  irqOpen (189 + n) (setSense s n { sense s n with stat := some (snsFigures s (sense s n)) })

/-- A running channel measured at the end of a block, and a current out of tolerance told. -/
def measured (n cur term : Nat) (clip : Bool) (bits : List Bool) (s : State) : State :=
  let m := snsMeasure s cur term clip bits (sense s n)
  if m.2 then logEv 0x0705 (le 1 n ++ le 4 cur) (setSense s n m.1) else setSense s n m.1

/-- The parameters written since the last block are taken, and SENSE_CHANNEL follows its condition. -/
def parsTaken (n : Nat) (s : State) : State :=
  let u := setSense s n (snsTake s n (sense s n))
  levelFault 17 (senseFault u) u

theorem figured_acts (n : Nat) (s : State) : ChannelActs n s (figured n s) :=
  (setSense_channelActs ..).trans (irqOpen_guardActs ..).channelActs

theorem figured_sense (n : Nat) (s : State) :
    sense (figured n s) n = { sense s n with stat := some (snsFigures s (sense s n)) } := by
  rw [figured, (irqOpen_guardActs ..).sense, sense_setSense, if_pos rfl]

theorem figured_keeps (n : Nat) (s : State) : ChannelKeeps Sense.reading n s (figured n s) :=
  ⟨figured_acts n s, by rw [figured_sense]; rfl⟩

theorem parsTaken_acts (n : Nat) (s : State) : ChannelActs n s (parsTaken n s) :=
  (setSense_channelActs ..).trans (levelFault_guardActs ..).channelActs

theorem parsTaken_sense (n : Nat) (s : State) : sense (parsTaken n s) n = snsTake s n (sense s n) := by
  unfold parsTaken
  rw [(levelFault_guardActs ..).sense, sense_setSense, if_pos rfl]

theorem parsTaken_keeps (n : Nat) (s : State) : ChannelKeeps Sense.reading n s (parsTaken n s) :=
  ⟨parsTaken_acts n s, by rw [parsTaken_sense, snsTake_reading]⟩

section
variable {n cur term : Nat} {clip : Bool} {bits : List Bool} {s : State}

theorem measured_guardActs :
    GuardActs (setSense s n (snsMeasure s cur term clip bits (sense s n)).1) (measured n cur term clip bits s) :=
  guardActs_ite (logEv_guardActs ..) (.refl _)

theorem measured_acts : ChannelActs n s (measured n cur term clip bits s) :=
  (setSense_channelActs ..).trans measured_guardActs.channelActs

theorem measured_sense : sense (measured n cur term clip bits s) n = (snsMeasure s cur term clip bits (sense s n)).1 := by
  rw [measured_guardActs.sense, sense_setSense, if_pos rfl]

theorem measured_reading : (sense (measured n cur term clip bits s) n).reading = ((sense s n).on, cur, term, atCompliance term) := by
  rw [measured_sense]
  rfl

theorem decimationBlock_starts (hn : n < 8) (hrun : sensesRun s = true) (he : par s pSenseEnable n ≠ 0) (hon : (sense s n).on = false) :
    decimationBlock n cur term clip bits s
      = figured n (setSense s n (snsStart s n { sense s n with cur := cur, term := term, compl := atCompliance term })) := by
  unfold decimationBlock
  rw [if_neg (sense_runs hn hrun), if_neg he]
  exact if_pos hon

theorem decimationBlock_passes (hn : n < 8) (hrun : sensesRun s = true) (he : par s pSenseEnable n ≠ 0) (hon : (sense s n).on = true)
    (hlen : bits.length = cfgR (sense s n).cfg) :
    decimationBlock n cur term clip bits s
      = figured n (parsTaken n (snsJudge n (sense s n).conds (measured n cur term clip bits s))) := by
  unfold decimationBlock
  rw [if_neg (sense_runs hn hrun), if_neg he]
  exact (if_neg (by simp [hon])).trans (if_neg (by simp [hlen]))

theorem snsStart_reading (s : State) (n : Nat) (x : Sense) : (snsStart s n x).reading = (true, x.cur, x.term, x.compl) :=
  leadStart_reading ..

/-- A block starts an enabled channel or measures a running one; its reading is the block's (R244 to R246). -/
theorem decimationBlock_reads (hn : n < 8) (hrun : sensesRun s = true) (he : par s pSenseEnable n ≠ 0)
    (hlen : (sense s n).on = true → bits.length = cfgR (sense s n).cfg) :
    ChannelActs n s (decimationBlock n cur term clip bits s)
      ∧ (sense (decimationBlock n cur term clip bits s) n).reading = (true, cur, term, atCompliance term) := by
  cases hon : (sense s n).on with
  | false =>
    rw [decimationBlock_starts hn hrun he hon]
    refine ⟨(setSense_channelActs ..).trans (figured_acts ..), ?_⟩
    rw [(figured_keeps ..).same, sense_setSense, if_pos rfl, snsStart_reading]
  | true =>
    rw [decimationBlock_passes hn hrun he hon (hlen hon)]
    have hkeeps := (snsJudge_keeps n (sense s n).conds (measured n cur term clip bits s)).trans
      ((parsTaken_keeps ..).trans (figured_keeps ..))
    exact ⟨measured_acts.trans hkeeps.acts, hkeeps.same.trans (by rw [measured_reading, hon])⟩

/-! ### A block's bits reach the chain (R246) -/

/-- With none of R257's conditions in a block no wire is declared open. -/
theorem snsJudge_quiet {conds : Nat} (ho : (sense s n).openAt = none) (hc : (sense s n).conds = 0) : snsJudge n conds s = s := by
  unfold snsJudge
  dsimp only
  rw [ho, hc]
  simp

theorem openConds_none {x : Sense} {c : List Nat} (hterm : term < 3000000) (hcur : 1000 ≤ cur) : openConds x c cur term false = 0 := by
  simp [openConds, atCompliance, b2n, Nat.not_le.2 hterm, Nat.not_lt.2 hcur]

theorem snsCfgTaken_now {x : Sense} (ho : x.openAt = none) : snsCfgTaken s n x = snsCfgNow s n := by
  refine List.map_congr_left fun i hi => ?_
  have hget : (snsCfgNow s n).getD i 0 = par s (0x0701 + i) n := by
    rw [snsCfgNow, List.getD_eq_getElem?_getD, List.getElem?_map, List.getElem?_range (List.mem_range.1 hi)]
    rfl
  rw [ho]
  exact hget

/-- Parameters that did not change leave the chain running. -/
theorem snsTake_chain {x : Sense} (ho : x.openAt = none) (hw : x.chainWr = false) (hc : x.cfg = snsCfgNow s n) :
    (snsTake s n x).chain = x.chain := by
  have hsame : x.cfg = snsCfgTaken s n x := hc.trans (snsCfgTaken_now ho).symm
  delta snsTake
  extract_lets _ isOpen c same _ wr taken cleared restarted settled _
  have hstand : ∀ i, same i = true := fun i => beq_iff_eq.2 (congrArg (fun l => l.getD i 0) hsame)
  have hcleared : cleared = taken := if_neg (by simp [wr, hw])
  have hrestarted : restarted = taken := (if_pos (by simp [hstand])).trans hcleared
  have hsettled : settled.chain = restarted.chain := sense_ite Sense.chain rfl rfl
  have htaken : taken.chain = x.chain := rfl
  have hchain : settled.chain = x.chain := hsettled.trans ((congrArg Sense.chain hrestarted).trans htaken)
  rw [if_neg (by simp [isOpen, ho])]
  exact sense_ite Sense.chain ((leadStart_chain ..).trans hchain) hchain

theorem decimationBlock_chain (hn : n < 8) (hrun : sensesRun s = true) (he : par s pSenseEnable n ≠ 0) (hon : (sense s n).on = true)
    (hlen : bits.length = cfgR (sense s n).cfg) (ho : (sense s n).openAt = none) (hterm : term < 3000000) (hcur : 1000 ≤ cur)
    (hw : (sense s n).chainWr = false) (hc : (sense s n).cfg = snsCfgNow s n) :
    (sense (decimationBlock n cur term false bits s) n).chain = decimStep (sense s n).cfg (sense s n).chain bits := by
  have hpar : snsCfgNow (measured n cur term false bits s) n = snsCfgNow s n :=
    List.map_congr_left fun i _ => measured_guardActs.par _ n
  have hm := measured_sense (n := n) (cur := cur) (term := term) (clip := false) (bits := bits) (s := s)
  have hopen : (sense (measured n cur term false bits s) n).openAt = none := by rw [hm]; exact ho
  rw [decimationBlock_passes hn hrun he hon hlen, snsJudge_quiet hopen (by rw [hm]; exact openConds_none hterm hcur), figured_sense]
  change (sense (parsTaken n _) n).chain = _
  rw [parsTaken_sense, snsTake_chain hopen (by rw [hm]; exact hw) (by rw [hpar, hm]; exact hc), hm]
  simp [snsMeasure, ho]

end

/-! ### What follows a queued sample (R252 to R254, R293) -/

/-- What a sample leaves a channel to be read by: its queue and its chain. -/
def Sense.output (x : Sense) : List Smp × Decim := (x.queue, x.chain)

theorem laserSample_guardActs (n : Nat) (v : Int) (s : State) : GuardActs s (laserSample n v s) := by
  unfold laserSample
  dsimp only
  split
  · exact .refl s
  · have hlaser : ∀ m, GuardActs s { s with nk.laser := m, nk.laserAt := some s.wall, nk.laserOut := false } := fun _ => rfl
    exact guardActs_ite (.refl s) ((hlaser _).trans (setChgHeld_guardActs ..))

theorem rangeTo_keeps (n g : Nat) (s : State) : ChannelKeeps Sense.output n s (rangeTo n g s) := by
  delta rangeTo
  extract_lets _ _ ranged wrapped
  have hranged : ChannelKeeps Sense.output n s ranged := setSense_channelKeeps rfl
  exact hranged.trans ((wrapEv_guardActs ..).trans (guardActs_ite (logEv_guardActs ..) (.refl wrapped))).channelKeeps

theorem autorange_keeps (n : Nat) (v : Int) (clip : Bool) (s : State) : ChannelKeeps Sense.output n s (autorange n v clip s) :=
  channelKeeps_ite (GuardActs.refl s).channelKeeps (channelKeeps_ite (rangeTo_keeps ..) (channelKeeps_ite
    (channelKeeps_ite (rangeTo_keeps ..) (setSense_channelKeeps rfl)) (setSense_channelKeeps rfl)))

theorem freeRound_guardActs (num : Int) (den : Nat) (s : State) : GuardActs s (freeRound num den s).2 := by
  unfold freeRound
  split <;> rfl

theorem leadResult_keeps (n : Nat) (l : Lead) (s : State) : ChannelKeeps Sense.output n s (leadResult n l s) := by
  delta leadResult
  extract_lets _ _ r _
  have hr : GuardActs s r.2 :=
    iteInduction (motive := fun p : Nat × State => GuardActs s p.2) (fun _ => rfl) fun _ => freeRound_guardActs ..
  exact hr.channelKeeps.trans (setSense_channelKeeps rfl)

theorem leadSample_keeps (n : Nat) (v : Int) (s : State) : ChannelKeeps Sense.output n s (leadSample n v s) := by
  unfold leadSample
  dsimp only
  split
  · exact (GuardActs.refl s).channelKeeps
  · exact channelKeeps_ite (GuardActs.refl s).channelKeeps (channelKeeps_ite (setSense_channelKeeps rfl) (leadResult_keeps ..))

/-! ### A sample enters the queue (R246, R259) -/

/-- The entry of a sample that a channel gives now. -/
def sampleEntry (s : State) (x : Sense) (v : Int) (fl : Nat) : Smp :=
  { time := (s.dev - snsTau x.cfg) / 64, value := v, gain := x.g, flags := fl, seq := x.seq }

/-- A queue of 256 loses its oldest entry to a new one. -/
def smpQueued (q : List Smp) (e : Smp) : List Smp := (if 256 ≤ q.length then q.tail else q) ++ [e]

theorem pushSample_queues (n : Nat) (v : Int) (fl : Nat) (s : State) :
    ∃ w, GuardActs (setSense s n w) (pushSample n v fl s)
      ∧ w.output = (smpQueued (sense s n).queue (sampleEntry s (sense s n) v fl), (sense s n).chain) := by
  delta pushSample
  extract_lets x e full x' _ _ wrapped
  have hout : x'.output = (smpQueued x.queue e, x.chain) := by
    simp only [Sense.output, smpQueued, x', full, decide_eq_true_eq]
  split
  · exact ⟨x', .refl _, hout⟩
  · exact ⟨_, (wrapEv_guardActs ..).trans (guardActs_ite (logEv_guardActs ..) (.refl wrapped)), hout⟩

/-! ### The sample (R246 to R259) -/

theorem leadL_guardActs (n : Nat) (s : State) : GuardActs s (leadL n s).2 := by
  unfold leadL
  dsimp only
  split
  · exact .refl s
  · split <;> rfl

/-- In a channel without current excitation no lead is corrected for (R253). -/
theorem leadL_none {n : Nat} {s : State} (h : (sense s n).cfg.getD 2 0 ≠ 1) : leadL n s = (0, s) := if_pos (.inl h)

/-- A sample of the chain's output, its offset and gain trimmed (R316). -/
def trimmed (s : State) (n : Nat) (x : Sense) : Int :=
  rnd ((decimOut x x.cfg - tget 0 s.cal.senseO (8 * n + x.g)) * tget (2 ^ 30) s.cal.senseM (8 * n + x.g)) (2 ^ 30)

/-- A channel whose sample is taken: none is due, and the DC blocker's estimate may have moved. -/
structure SampleTaken (n : Nat) (s u : State) : Prop where
  acts  : ChannelActs n s u
  sense : ∃ d, sense u n = { Machine.sense s n with chain.due := false, d := d }

/-- What a due sample's value is where R259 and R253 leave nothing to a lead or a DC blocker. -/
structure SampleValue (n : Nat) (s : State) (v : Int) : Prop where
  wireOpen : (sense s n).openAt ≠ none → v = 0
  plain    : (sense s n).openAt = none → (sense s n).cfg.getD 13 0 = 0 → (sense s n).cfg.getD 2 0 ≠ 1 →
    v = sat24 (trimmed s n (sense s n))

theorem senseSample_pushes {n : Nat} {s : State} (hn : n < 8) (hrun : sensesRun s = true) (hon : (sense s n).on = true)
    (hdue : (sense s n).chain.due = true) :
    ∃ v fl u, SampleTaken n s u ∧ SampleValue n s v ∧ ChannelKeeps Sense.output n (pushSample n v fl u) (senseSample n s) := by
  have hacts : ¬(7 < n ∨ sensesRun s = false ∨ (sense s n).on = false ∨ (sense s n).chain.due = false) :=
    not_or.2 ⟨by omega, by simp [hrun, hon, hdue]⟩
  delta senseSample
  extract_lets x _ due _ _ _ _ lead unled code dcb y v _ fl x' blocked _
  have hdueActs : ChannelActs n s due := setSense_channelActs ..
  have hdueSense : sense due n = { x with chain.due := false } := by rw [sense_setSense, if_pos rfl]
  split
  · next h => exact absurd h hacts
  · split
    · next ho =>
      refine ⟨_, _, due, ⟨hdueActs, x.d, hdueSense⟩, ⟨fun _ => rfl, fun h => ?_⟩, (GuardActs.refl _).channelKeeps⟩
      have hsome : x.openAt.isSome = true := ho
      simp [x, h] at hsome
    · next ho =>
      have hnone : (sense s n).openAt = none := by simpa [x] using ho
      have hlead : GuardActs due unled := leadL_guardActs n due
      have hkeeps := leadSample_keeps n v (pushSample n v fl blocked)
      refine ⟨v, fl, blocked, ⟨?_, ?_⟩, ⟨fun h => absurd hnone h, fun _ hblock hexc => ?_⟩, ?_⟩
      · exact hdueActs.trans (hlead.channelActs.trans (setSense_channelActs ..))
      · refine ⟨if dcb = 1 then x.d + asr (code - x.d) (x.cfg.getD 14 10) else x.d, ?_⟩
        have hx' : x' = { x with chain.due := false } := (hlead.sense n).trans hdueSense
        rw [sense_setSense, if_pos rfl, hx']
      · have hz : lead.1 = 0 := congrArg Prod.fst (leadL_none (by rw [hdueSense]; exact hexc))
        have hy : y = code := if_pos hblock
        have hcode : code = trimmed s n x - lead.1 := rfl
        change sat24 y = _
        rw [hy, hcode, hz, Int.sub_zero]
      · exact hkeeps.trans (channelKeeps_ite (GuardActs.refl _).channelKeeps
          ((laserSample_guardActs ..).channelKeeps.trans (autorange_keeps ..)))

/-- A due sample is the queue's newest entry: its time, gain and sequence are the channel's as it falls due. -/
theorem senseSample_queues {n : Nat} {s : State} (hn : n < 8) (hrun : sensesRun s = true) (hon : (sense s n).on = true)
    (hdue : (sense s n).chain.due = true) :
    ∃ v fl, SampleValue n s v ∧ ChannelActs n s (senseSample n s)
      ∧ (sense (senseSample n s) n).queue = smpQueued (sense s n).queue (sampleEntry s (sense s n) v fl)
      ∧ (sense (senseSample n s) n).chain.due = false := by
  obtain ⟨v, fl, u, ⟨hacts, d, hu⟩, hv, hkeeps⟩ := senseSample_pushes hn hrun hon hdue
  obtain ⟨w, hw, hout⟩ := pushSample_queues n v fl u
  have hsense : sense (pushSample n v fl u) n = w := by rw [hw.sense, sense_setSense, if_pos rfl]
  have hentry : sampleEntry u (sense u n) v fl = sampleEntry s (sense s n) v fl := by
    rw [hu, sampleEntry, hacts.dev]
    rfl
  have hend := hkeeps.same.trans ((congrArg Sense.output hsense).trans hout)
  rw [hentry, hu] at hend
  obtain ⟨hqueue, hchain⟩ := Prod.mk.inj hend
  exact ⟨v, fl, hv, hacts.trans (((setSense_channelActs ..).trans hw.channelActs).trans hkeeps.acts), hqueue, by rw [hchain]⟩

/-! ### Intervals and the laser interlock (R252, R256, R293) -/

theorem settlingEnd_ends {n e : Nat} {s : State} (hn : n < 8) (he : (sense s n).settle = some e) (hd : e ≤ s.dev) :
    settlingEnd n s = setSense s n { sense s n with settle := none } := by
  unfold settlingEnd
  dsimp only
  rw [if_neg (by omega), he]
  exact if_pos hd

theorem leadDone_ends {n : Nat} {l : Lead} {s : State} (hn : n < 8) (hl : (sense s n).lead = some l) (h3 : l.step = 3)
    (hs : settling s (sense s n) = false) :
    LogOnly (setSense s n { sense s n with lead := none, settle := none }) (leadDone n s) := by
  unfold leadDone
  dsimp only
  rw [hl]
  dsimp only
  rw [if_neg (not_or.2 ⟨by omega, by simp [h3, hs]⟩)]
  exact logEv_logOnly ..

/-- Beside the log, charging moves the scheduler's own part alone (R199). -/
theorem updCharge_logOnly (s : State) : LogOnly { s with sch := (updCharge s).sch } (updCharge s) := by
  delta updCharge
  extract_lets _ _ _ _ new _ _ driven
  have hlog := logEv_logOnly 0x0506 (le 1 new) driven
  unfold LogOnly at hlog ⊢
  split
  · rfl
  · rw [hlog]
    rfl

theorem setChgHeld_logOnly (held : Bool) (s : State) :
    LogOnly { s with nk.chgHeld := held, sch := (setChgHeld held s).sch } (setChgHeld held s) := by
  delta setChgHeld
  extract_lets _ holding
  split
  · next h =>
    subst h
    rfl
  · have htold : LogOnly holding (if held then logEv 0x0C08 (le 1 1) holding else holding) :=
      logOnly_ite (logEv_logOnly ..) (.refl _)
    have hcharge := updCharge_logOnly (if held then logEv 0x0C08 (le 1 1) holding else holding)
    unfold LogOnly at htold hcharge ⊢
    rw [htold] at hcharge
    rw [htold, hcharge]
    rfl

/-- With no valid sample for 100 ms charging is held (R293). -/
theorem laserTimeout_holds {s : State} (h : ∀ a, s.nk.laserAt = some a → a + 100 * tMs ≤ s.wall) :
    laserTimeout s = setChgHeld true { s with nk.laserOut := true } := by
  have hout : (match s.nk.laserAt with | some t => decide (t + 100 * tMs ≤ s.wall) | none => true) = true := by
    split
    · next a ha => exact decide_eq_true (h a ha)
    · rfl
  exact if_pos hout

theorem awake_of_sensesRun {s : State} (h : sensesRun s = true) : Awake s := by
  simp only [sensesRun, Bool.not_eq_true', Bool.or_eq_false_iff, beq_eq_false_iff_ne] at h
  exact ⟨h.1.1, h.2⟩

/-- The three bits of a channel's number in an instruction. -/
theorem channelBits : ∀ n, n < 8 → 4 * b2n (n.testBit 2) + 2 * b2n (n.testBit 1) + b2n (n.testBit 0) = n := by decide

/-- Settles O9: a clause per event. -/
theorem senseEventsComplete : Obligations.SenseEventsComplete := by
  unfold Obligations.SenseEventsComplete
  refine ⟨?_, ?_, ?_, ?_, ?_⟩
  · intro t n cur term clip bits s hn hrun he x hlen
    refine runs_live rfl (awake_of_sensesRun hrun) ?_
    obtain ⟨hacts, hread⟩ := decimationBlock_reads (s := advance t s) (cur := cur) (term := term) (clip := clip) hn hrun he hlen
    simp only [Sense.reading, Prod.mk.injEq] at hread
    obtain ⟨hon, hcur, hterm, hcompl⟩ := hread
    refine ⟨hon, hcur, hterm, hcompl, ?_, hacts.only, hacts.others⟩
    rintro hx ho hlow rfl hlarge hw hc
    exact decimationBlock_chain (s := advance t s) hn hrun he hx (hlen hx) ho hlow hlarge hw hc
  · intro t n s hn hrun hon hdue x
    refine runs_live rfl (awake_of_sensesRun hrun) ?_
    rw [channelBits n hn]
    obtain ⟨v, fl, hv, hacts, hqueue, hdone⟩ := senseSample_queues (s := advance t s) hn hrun hon hdue
    exact ⟨⟨_, hqueue, rfl, rfl, rfl, hv.wireOpen, hv.plain⟩, hdone, hacts.only, hacts.others⟩
  · intro t n e s hn ha he hd
    exact exec_live rfl ha (settlingEnd_ends (s := advance t s) hn he hd)
  · intro t n l s hn ha hl h3 hs
    exact runs_live rfl ha (leadDone_ends (s := advance t s) hn hl h3 hs)
  · intro t s h
    refine ⟨_, congrArg Host.Outcome.next (laserTimeout_holds (s := advance t s) h), ?_⟩
    have hlog := setChgHeld_logOnly true { advance t s with nk.laserOut := true }
    unfold LogOnly at hlog
    rw [hlog]
    exact ⟨rfl, rfl, rfl, rfl, rfl, rfl⟩

end Sys2Proof.Machine
end

section
/-! SUPPORT. The invariant at reset (O3), and a fire record before Nerrak's checks run (O15). -/

namespace Sys2Proof.Machine

/-- Settles O3: at reset the enables are low, the queue is empty and no memory lists a byte. -/
theorem invariantAtReset : Obligations.InvariantAtReset := by
  unfold Obligations.InvariantAtReset
  exact ⟨rfl, fun h => absurd h (by decide), fun h => absurd rfl h, by decide, by decide, rfl, rfl, rfl⟩

/-- The state after reset, its start self-test still running (R268), with one fire record on its way. -/
def recordInSelfTest : State := { State.reset with nk.links := [⟨0, 0, 0, 0, 0⟩] }

/-- Of a record that one link loses while Nerrak's checks do not run yet, no fault is raised (R269). -/
theorem fireRecord_inSelfTest : (fireRecord .asSent .lost (advance 0 recordInSelfTest)).nk.faults.getLsbD 3 = false := by decide

/-- Refutes O15: the copies of a fire record that differ raise FIRE_LOG only once Nerrak's continuous checks run (R269), and the clause
does not ask for them; before the start self-test has ended (`recordInSelfTest`) no fault follows. -/
theorem not_pulseMonitorsRun : ¬ Obligations.PulseMonitorsRun := by
  unfold Obligations.PulseMonitorsRun
  rintro ⟨-, hdiffer, -⟩
  obtain ⟨u, hu, -, hraised, -⟩ := hdiffer 0 .asSent .lost _ [] recordInSelfTest rfl (by decide)
  obtain rfl := Host.Outcome.next.inj hu
  exact Bool.false_ne_true (fireRecord_inSelfTest.symm.trans hraised)

end Sys2Proof.Machine
end

section
/-! SUPPORT. What Nerrak sees of the state (R266 to R272, R287), and what its reactions to a fault (R287 to R290) do to it: `sight` is kept by the
log, the interrupts, the stream and the seals; `NkDrives` is what Nerrak's update, its fills and its charge hold leave of its own registers,
`NkReacts` what raising and clearing a fault leave of them. -/

namespace Sys2Proof.Machine

/-! ### What Nerrak sees -/

/-- Nerrak with its segments' stream marks apart, the pins but ATTN_N, the device's state, and the time. -/
def sight (s : State) : Nk × Pins × Nat × Nat × Nat := ({ s.nk with segs := [] }, { s.pins with attnN := false }, s.desk.st, s.wall, s.dev)

@[simp] theorem sight_ite (c : Prop) [Decidable c] (s u : State) : sight (if c then s else u) = if c then sight s else sight u :=
  apply_ite sight c s u

theorem LogOnly.sight {s u : State} (h : LogOnly s u) (hw : u.wall = s.wall) (hd : u.dev = s.dev) : sight u = Machine.sight s := by
  unfold LogOnly at h
  rw [h, logOf, hw, hd]
  rfl

theorem SealsJudged.sight {s u : State} (h : SealsJudged s u) (hw : u.wall = s.wall) (hd : u.dev = s.dev) : sight u = Machine.sight s := by
  unfold SealsJudged at h
  rw [h, logOf, hw, hd]
  rfl

theorem RecordsOnly.sight {s u : State} (h : RecordsOnly s u) (hw : u.wall = s.wall) (hd : u.dev = s.dev) : sight u = Machine.sight s := by
  unfold RecordsOnly LogOnly at h
  rw [h, logOf, hw, hd]
  rfl

section
variable {s u : State} (h : sight u = sight s)
include h

theorem sight_fields : ({ u.nk with segs := [] } : Nk) = { s.nk with segs := [] } ∧ ({ u.pins with attnN := false } : Pins) = { s.pins with attnN := false }
    ∧ u.desk.st = s.desk.st ∧ u.wall = s.wall ∧ u.dev = s.dev := by
  simpa only [sight, Prod.mk.injEq] using h

theorem nk_of_sight : u.nk = { s.nk with segs := u.nk.segs } := by
  have hn := (sight_fields h).1
  calc u.nk = { ({ u.nk with segs := [] } : Nk) with segs := u.nk.segs } := rfl
    _ = _ := by rw [hn]

theorem pins_of_sight : u.pins = { s.pins with attnN := u.pins.attnN } := by
  have hp := (sight_fields h).2.1
  calc u.pins = { ({ u.pins with attnN := false } : Pins) with attnN := u.pins.attnN } := rfl
    _ = _ := by rw [hp]

theorem st_of_sight : u.desk.st = s.desk.st := (sight_fields h).2.2.1

theorem wantCut_of_sight : wantCut u = wantCut s := by
  unfold wantCut oFaults nkAlive
  rw [st_of_sight h, nk_of_sight h, pins_of_sight h]

end

section
variable (s : State)

@[simp] theorem sight_freeVal (n : Nat) : sight (freeVal n s).2 = sight s := rfl
@[simp] theorem sight_attnRaise (b : Word) : sight (attnRaise b s) = sight s :=
  (attnRaise_logOnly b s).sight (attnRaise_time b s).1 (attnRaise_time b s).2.1
@[simp] theorem sight_logNow (c : Nat) (d : List Byte) : sight (logNow c d s) = sight s :=
  (logNow_logOnly c d s).sight (logNow_time c d s).1 (logNow_time c d s).2.1
@[simp] theorem sight_logEv (c : Nat) (d : List Byte) : sight (logEv c d s) = sight s :=
  (logEv_logOnly c d s).sight (logEv_time c d s).1 (logEv_time c d s).2.1
@[simp] theorem sight_wrapEv (o : CntW) (k c : Nat) (d : List Byte) : sight (wrapEv o k c d s) = sight s :=
  (wrapEv_logOnly o k c d s).sight (wrapEv_time o k c d s).1 (wrapEv_time o k c d s).2.1

@[simp] theorem sight_irq (n : Nat) : sight (irq n s) = sight s := by
  rw [irq_ic]
  rfl

@[simp] theorem sight_irqOpen (n : Nat) : sight (irqOpen n s) = sight s := by
  rw [irqOpen_ic]
  rfl

@[simp] theorem sight_updScore : sight (updScore s) = sight s := by
  unfold updScore
  split <;> rfl

@[simp] theorem sight_healthRecord : sight (healthRecord s) = sight s :=
  (ownRec_recordsOnly ..).sight (wall_of_standing (standing_ownRec ..)) (healthRecord_guardActs s).dev

@[simp] theorem sight_updCaps : sight (updCaps s) = sight s := by
  unfold updCaps
  dsimp only
  split
  · rfl
  · exact sight_logEv ..

@[simp] theorem sight_updCharge : sight (updCharge s) = sight s := by
  delta updCharge
  extract_lets _ _ _ _ _ _ _ driven
  split
  · rfl
  · exact sight_logEv ..

@[simp] theorem sight_judgeSeals : sight (judgeSeals s) = sight s :=
  (judgeSeals_sealsJudged s).sight (wall_of_standing (standing_judgeSeals s)) (judgeSeals_dev s)

@[simp] theorem sight_stopEmission : sight (stopEmission s) = sight s := by
  unfold stopEmission
  split
  · exact sight_judgeSeals _
  · split <;> rfl

@[simp] theorem sight_incident (kind : Nat) : sight (incident kind s) = sight s := by
  unfold incident
  split
  · rfl
  · split
    · exact sight_wrapEv ..
    · rfl

@[simp] theorem sight_nkFaultEv (bitNo str em val : Nat) : sight (nkFaultEv bitNo str em val s) = sight s := by
  simp [nkFaultEv]

@[simp] theorem sight_topCell (st : List Host.Cell) : sight (topCell s st).2 = sight s := by
  unfold topCell
  dsimp only
  split <;> rfl

end

/-! ### The registers that Nerrak's update and its reactions move -/

/-- From `s` to `u` Nerrak's enables, contactor, degraded clock, fills, cap and charge hold may have moved, and nothing else of its own. -/
def NkDrives (s u : State) : Prop :=
  u.nk = { s.nk with
    lsrFell := u.nk.lsrFell, cutDue := u.nk.cutDue, cutFrom := u.nk.cutFrom, cutAt := u.nk.cutAt, uncutAt := u.nk.uncutAt
    degAcc := u.nk.degAcc, degOn := u.nk.degOn, cleanAt := u.nk.cleanAt, fillMax := u.nk.fillMax, cap := u.nk.cap
    chgHeld := u.nk.chgHeld, segs := u.nk.segs }

/-- From `s` to `u` beside these the latches and the candidate set may have moved. -/
def NkReacts (s u : State) : Prop :=
  u.nk = { s.nk with
    lsrFell := u.nk.lsrFell, cutDue := u.nk.cutDue, cutFrom := u.nk.cutFrom, cutAt := u.nk.cutAt, uncutAt := u.nk.uncutAt
    degAcc := u.nk.degAcc, degOn := u.nk.degOn, cleanAt := u.nk.cleanAt, fillMax := u.nk.fillMax, cap := u.nk.cap
    chgHeld := u.nk.chgHeld, segs := u.nk.segs
    faults := u.nk.faults, cand := u.nk.cand, candOk := u.nk.candOk, nonce := u.nk.nonce }

section
variable {s u v : State}

theorem NkDrives.trans (h : NkDrives s u) (g : NkDrives u v) : NkDrives s v := by
  unfold NkDrives at h g ⊢
  rw [h] at g
  exact g

theorem NkReacts.trans (h : NkReacts s u) (g : NkReacts u v) : NkReacts s v := by
  unfold NkReacts at h g ⊢
  rw [h] at g
  exact g

theorem NkDrives.reacts (h : NkDrives s u) : NkReacts s u := by
  unfold NkDrives at h
  unfold NkReacts
  rw [h]

theorem nkDrives_of_sight (h : sight u = sight s) : NkDrives s u := by
  unfold NkDrives
  rw [nk_of_sight h]

theorem nkReacts_of_sight (h : sight u = sight s) : NkReacts s u := (nkDrives_of_sight h).reacts

theorem nkDrives_ite {c : Prop} [Decidable c] (hu : c → NkDrives s u) (hv : ¬c → NkDrives s v) : NkDrives s (if c then u else v) :=
  iteInduction hu hv

theorem nkReacts_ite {c : Prop} [Decidable c] (hu : c → NkReacts s u) (hv : ¬c → NkReacts s v) : NkReacts s (if c then u else v) :=
  iteInduction hu hv

end

theorem NkDrives.refl (s : State) : NkDrives s s := rfl
theorem NkReacts.refl (s : State) : NkReacts s s := rfl

section
variable {s u : State}

theorem NkDrives.faults (h : NkDrives s u) : u.nk.faults = s.nk.faults := by rw [show u.nk = _ from h]

end

section
variable (s : State)

theorem dropLsr_nkDrives : NkDrives s (dropLsr s) := by
  unfold dropLsr
  refine nkDrives_ite (fun _ => ?_) fun _ => .refl s
  exact NkDrives.trans (u := { s with pins.lsrA := false, pins.lsrB := false, nk.lsrFell := s.wall }) rfl
    (nkDrives_ite (fun _ => nkDrives_of_sight (sight_stopEmission _)) fun _ => .refl _)

theorem driveCut_nkDrives : NkDrives s (driveCut s) :=
  nkDrives_ite (fun _ => nkDrives_ite (fun _ => rfl) fun _ => nkDrives_ite (fun _ => rfl) fun _ => rfl)
    fun _ => nkDrives_ite (fun _ => rfl) fun _ => rfl

theorem degClock_nkDrives : NkDrives s (degClock s) := by
  unfold degClock
  dsimp only
  split <;> exact nkDrives_ite (fun _ => rfl) fun _ => rfl

theorem nkUpdate_nkDrives : NkDrives s (nkUpdate s) := by
  unfold nkUpdate
  refine NkDrives.trans (u := if s.pins.lsrA && !permOk s then dropLsr s else s)
    (nkDrives_ite (fun _ => dropLsr_nkDrives s) fun _ => .refl s) ?_
  exact (driveCut_nkDrives _).trans ((degClock_nkDrives _).trans (nkDrives_of_sight (sight_updCaps _)))

theorem capEval_nkDrives : NkDrives s (capEval s) := by
  have hgo : ∀ (u : State) (st : List Host.Cell) (on : Bool) (d : List Byte),
      NkDrives u (updCaps (logEv 0x0C04 d { (topCell u st).2 with nk.cap := on })) := fun u st on d =>
    (nkDrives_of_sight (sight_topCell u st)).trans (NkDrives.trans (u := { (topCell u st).2 with nk.cap := on }) rfl
      (nkDrives_of_sight ((sight_updCaps _).trans (sight_logEv ..))))
  delta capEval
  split
  · exact .refl s
  · next st _ =>
    extract_lets noted _ go
    exact NkDrives.trans (u := noted) rfl
      (nkDrives_ite (fun _ => hgo noted st true _) fun _ => nkDrives_ite (fun _ => hgo noted st false _) fun _ => .refl noted)

theorem setChgHeld_nkDrives (held : Bool) : NkDrives s (setChgHeld held s) :=
  nkDrives_ite (fun _ => .refl s) fun _ => NkDrives.trans (u := { s with nk.chgHeld := held }) rfl
    (nkDrives_of_sight ((sight_updCharge _).trans (by split <;> simp)))

theorem latchFault_nkReacts (bitNo : Nat) : NkReacts s (latchFault bitNo s) :=
  nkReacts_ite (fun _ => .refl s) fun _ => NkReacts.trans (u := (freeVal (2 ^ 32) s).2) rfl
    (NkReacts.trans (u := { (freeVal (2 ^ 32) s).2 with nk.faults := s.nk.faults ||| BitVec.ofNat 32 (2 ^ bitNo) }) rfl
      (nkReacts_of_sight (sight_nkFaultEv ..)))

theorem unlatch_nkReacts (bitNo : Nat) : NkReacts s (unlatch bitNo s) :=
  nkReacts_ite (fun _ => NkReacts.trans (u := { s with nk.faults := s.nk.faults &&& ~~~ (BitVec.ofNat 32 (2 ^ bitNo)) }) rfl
    (nkReacts_of_sight (sight_logEv ..))) fun _ => .refl s

theorem relatch_nkReacts : NkReacts s (relatch s) := by
  unfold relatch
  refine NkReacts.trans (u := if headOpen s then latchFault 7 s else s) (nkReacts_ite (fun _ => latchFault_nkReacts s 7) fun _ => .refl s) ?_
  generalize (if headOpen s then latchFault 7 s else s) = u
  refine NkReacts.trans (u := if senseFault u then latchFault 17 u else unlatch 17 u)
    (nkReacts_ite (fun _ => latchFault_nkReacts u 17) fun _ => unlatch_nkReacts u 17) ?_
  exact ((capEval_nkDrives _).trans (setChgHeld_nkDrives ..)).reacts

end

section
variable (s : State)

theorem setSt_nkReacts (new cause : Nat) : NkReacts s (setSt new cause s) := by
  delta setSt
  extract_lets _ _ st _ idle _ cand judged told done
  have hidle : NkReacts s idle := NkReacts.trans (u := st) rfl (nkReacts_ite (fun _ => .refl st) fun _ => rfl)
  have hcand : NkReacts idle cand := nkReacts_ite (fun _ => rfl) fun _ => .refl idle
  have hjudged : NkReacts cand judged := nkReacts_ite (fun _ => relatch_nkReacts cand) fun _ => .refl cand
  have htold : NkReacts judged told := nkReacts_of_sight (by simp [told])
  have hdone : NkReacts told done := NkReacts.trans (nkReacts_of_sight (sight_updCharge told))
    ((nkUpdate_nkDrives _).reacts.trans (nkReacts_of_sight (sight_healthRecord _)))
  exact hidle.trans (hcand.trans (hjudged.trans (htold.trans (hdone.trans (nkReacts_of_sight (by simp))))))

theorem stNow_nkReacts (new cause : Nat) : NkReacts s (stNow new cause s) := by
  unfold stNow
  refine NkReacts.trans (u := dropPend s) rfl (NkReacts.trans ?_ (setSt_nkReacts ..))
  exact nkReacts_ite (fun _ => .refl _) fun _ => nkReacts_of_sight (sight_stopEmission _)

theorem raiseFault_nkReacts (bitNo str em val : Nat) : NkReacts s (raiseFault bitNo str em val s) := by
  delta raiseFault
  extract_lets _ u _
  have hu : NkReacts s u := NkReacts.trans (u := { s with nk.faults := s.nk.faults ||| BitVec.ofNat 32 (2 ^ bitNo) }) rfl
    (nkReacts_of_sight (sight_nkFaultEv ..))
  refine nkReacts_ite (fun _ => .refl s) fun _ => hu.trans ?_
  exact nkReacts_ite (fun _ => nkReacts_ite (fun _ => stNow_nkReacts ..) fun _ => (nkUpdate_nkDrives u).reacts)
    fun _ => nkReacts_ite (fun _ => stNow_nkReacts ..)
      fun _ => NkReacts.trans (u := { u with desk.pendRun := false }) rfl (nkUpdate_nkDrives _).reacts

theorem raiseFree_nkReacts (bitNo str em : Nat) : NkReacts s (raiseFree bitNo str em s) :=
  nkReacts_ite (fun _ => .refl s) fun _ => NkReacts.trans (u := (freeVal (2 ^ 32) s).2) rfl (raiseFault_nkReacts ..)

end

end Sys2Proof.Machine
end

section
/-! SUPPORT. A fault that is raised is latched (R287), and an overexposure fault in an emitting state ends emission: SAFE_STOP, the enables low, the
contactor cut or its cut due (R271, R272, R288, R289). -/

namespace Sys2Proof.Machine

/-! ### Latches -/

theorem getLsbD_latched (f : Word) {b : Nat} (hb : b < 32) : (f ||| BitVec.ofNat 32 (2 ^ b)).getLsbD b = true := by
  rw [BitVec.getLsbD_or, BitVec.getLsbD_ofNat, Nat.testBit_two_pow_self, decide_eq_true hb, Bool.and_true, Bool.or_true]

theorem getLsbD_or_of {f g : Word} {b : Nat} (h : f.getLsbD b = true) : (f ||| g).getLsbD b = true := by
  rw [BitVec.getLsbD_or, h, Bool.true_or]

theorem getLsbD_unlatched (f : Word) (b c : Nat) :
    (f &&& ~~~ (BitVec.ofNat 32 (2 ^ b))).getLsbD c = (f.getLsbD c && decide (b ≠ c)) := by
  by_cases hc : c < 32
  · rw [BitVec.getLsbD_and, BitVec.getLsbD_not, BitVec.getLsbD_ofNat, Nat.testBit_two_pow]
    simp [hc]
  · simp [BitVec.getLsbD_of_ge f c (by omega)]

theorem faults_of_sight {s u : State} (h : sight u = sight s) : u.nk.faults = s.nk.faults := (nkDrives_of_sight h).faults

/-- What a set latch leaves: it, and the others as they were. -/
theorem latchFault_faults (bitNo : Nat) (s : State) :
    (latchFault bitNo s).nk.faults = s.nk.faults ∨ (latchFault bitNo s).nk.faults = s.nk.faults ||| BitVec.ofNat 32 (2 ^ bitNo) := by
  unfold latchFault
  split
  · exact .inl rfl
  · exact .inr (faults_of_sight (s := { (freeVal (2 ^ 32) s).2 with nk.faults := _ }) (sight_nkFaultEv ..))

theorem unlatch_faults (bitNo c : Nat) (s : State) :
    (unlatch bitNo s).nk.faults.getLsbD c = (s.nk.faults.getLsbD c && decide (bitNo ≠ c)) := by
  unfold unlatch
  split
  · rw [faults_of_sight (s := { s with nk.faults := _ }) (sight_logEv ..)]
    exact getLsbD_unlatched ..
  · next h =>
    by_cases hc : bitNo = c
    · rw [← hc, Bool.eq_false_iff.2 h, Bool.false_and]
    · rw [decide_eq_true hc, Bool.and_true]

section
variable {b : Nat} {s : State} (h : s.nk.faults.getLsbD b = true)
include h

theorem latchFault_latched (bitNo : Nat) : (latchFault bitNo s).nk.faults.getLsbD b = true := by
  rcases latchFault_faults bitNo s with hf | hf
  · rw [hf, h]
  · rw [hf]
    exact getLsbD_or_of h

/-- Leaving COMMISSIONING takes back no fault but SENSE_CHANNEL (R287, R299). -/
theorem relatch_latched (hb : b ≠ 17) : (relatch s).nk.faults.getLsbD b = true := by
  unfold relatch
  have hhead : (if headOpen s then latchFault 7 s else s).nk.faults.getLsbD b = true := by
    split
    · exact latchFault_latched h 7
    · exact h
  dsimp only
  generalize (if headOpen s then latchFault 7 s else s) = u at hhead
  have hsense : (if senseFault u then latchFault 17 u else unlatch 17 u).nk.faults.getLsbD b = true := by
    split
    · exact latchFault_latched hhead 17
    · rw [unlatch_faults, hhead, decide_eq_true hb.symm, Bool.and_true]
  rw [((capEval_nkDrives _).trans (setChgHeld_nkDrives ..)).faults, hsense]

theorem setSt_latched (new cause : Nat) (hb : b ≠ 17) : (setSt new cause s).nk.faults.getLsbD b = true := by
  delta setSt
  extract_lets _ _ st _ idle _ cand judged told done
  have hidle : idle.nk = s.nk := (apply_ite State.nk ..).trans (ite_self _)
  have hcand : cand.nk.faults.getLsbD b = true := by
    have hf : cand.nk.faults = idle.nk.faults := (apply_ite (fun v : State => v.nk.faults) ..).trans (ite_self _)
    rw [hf, hidle, h]
  have hjudged : judged.nk.faults.getLsbD b = true := by
    unfold judged
    split
    · exact relatch_latched hcand hb
    · exact hcand
  have htold : sight told = sight judged := by simp [told]
  have hdone : done.nk.faults = judged.nk.faults := by
    rw [faults_of_sight (sight_healthRecord _), (nkUpdate_nkDrives _).faults, faults_of_sight (sight_updCharge _), faults_of_sight htold]
  rw [faults_of_sight (show sight _ = sight done by simp), hdone, hjudged]

theorem stNow_latched (new cause : Nat) (hb : b ≠ 17) : (stNow new cause s).nk.faults.getLsbD b = true := by
  unfold stNow
  refine setSt_latched ?_ new cause hb
  split
  · exact h
  · rw [faults_of_sight (sight_stopEmission _)]
    exact h

end

/-- The state that a fault is latched and reported in, before the device reacts. -/
def faultTold (bitNo str em val : Nat) (s : State) : State :=
  nkFaultEv bitNo str em val { s with nk.faults := s.nk.faults ||| BitVec.ofNat 32 (2 ^ bitNo) }

section
variable (bitNo str em val : Nat) (s : State)

theorem faultTold_sight : sight (faultTold bitNo str em val s) = sight { s with nk.faults := s.nk.faults ||| BitVec.ofNat 32 (2 ^ bitNo) } :=
  sight_nkFaultEv ..

/-- What raising a fault does (R287, R288, R290), said once. -/
theorem raiseFault_eq : raiseFault bitNo str em val s =
    if s.nk.faults.getLsbD bitNo then s
    else if bitNo < 16 then
      (if stEmits s then stNow 6 2 (faultTold bitNo str em val s) else nkUpdate (faultTold bitNo str em val s))
    else if s.desk.st = 4 then stNow 5 2 (faultTold bitNo str em val s)
    else nkUpdate { faultTold bitNo str em val s with desk.pendRun := false } := by
  have hst : (faultTold bitNo str em val s).desk.st = s.desk.st := (st_of_sight (faultTold_sight ..)).trans rfl
  have he : stEmits (faultTold bitNo str em val s) = stEmits s := by
    unfold stEmits
    rw [hst]
  rw [← hst, ← he]
  rfl

/-- A raised fault is latched (R287). -/
theorem raiseFault_latched (hb : bitNo < 32) (h17 : bitNo ≠ 17) : (raiseFault bitNo str em val s).nk.faults.getLsbD bitNo = true := by
  have htold : (faultTold bitNo str em val s).nk.faults.getLsbD bitNo = true := by
    rw [faults_of_sight (faultTold_sight ..)]
    exact getLsbD_latched _ hb
  rw [raiseFault_eq]
  split
  · assumption
  · split
    · split
      · exact stNow_latched htold 6 2 h17
      · rw [(nkUpdate_nkDrives _).faults, htold]
    · split
      · exact stNow_latched htold 5 2 h17
      · rw [(nkUpdate_nkDrives _).faults]
        exact htold

theorem raiseFree_latched (hb : bitNo < 32) (h17 : bitNo ≠ 17) : (raiseFree bitNo str em s).nk.faults.getLsbD bitNo = true := by
  unfold raiseFree
  split
  · assumption
  · exact raiseFault_latched _ _ _ _ _ hb h17

end

/-! ### The end of emission -/

/-- The pins apart from ATTN_N. -/
def outPins (s : State) : Pins := { s.pins with attnN := false }

theorem outPins_of_sight {s u : State} (h : sight u = sight s) : outPins u = outPins s := (sight_fields h).2.1

theorem capEval_outPins (s : State) : outPins (capEval s) = outPins s := by
  have hcap : ∀ (u : State) (on : Bool), outPins { u with nk.cap := on } = outPins u := fun _ _ => rfl
  have hgo : ∀ (u : State) (st : List Host.Cell) (on : Bool) (d : List Byte),
      outPins (updCaps (logEv 0x0C04 d { (topCell u st).2 with nk.cap := on })) = outPins u := fun u st on d =>
    (outPins_of_sight ((sight_updCaps _).trans (sight_logEv ..))).trans ((hcap _ on).trans (outPins_of_sight (sight_topCell u st)))
  delta capEval
  split
  · rfl
  · next st _ =>
    extract_lets noted _ go
    refine iteInduction (motive := fun v => outPins v = outPins s) (fun _ => hgo noted st true _) fun _ => ?_
    exact iteInduction (motive := fun v => outPins v = outPins s) (fun _ => hgo noted st false _) fun _ => rfl

theorem setChgHeld_outPins (held : Bool) (s : State) : outPins (setChgHeld held s) = outPins s := by
  unfold setChgHeld
  split
  · rfl
  · refine (outPins_of_sight (sight_updCharge _)).trans ?_
    split
    · exact (outPins_of_sight (sight_logEv ..)).trans rfl
    · rfl

theorem latchFault_outPins (bitNo : Nat) (s : State) : outPins (latchFault bitNo s) = outPins s := by
  unfold latchFault
  split
  · rfl
  · exact (outPins_of_sight (sight_nkFaultEv ..)).trans rfl

theorem unlatch_outPins (bitNo : Nat) (s : State) : outPins (unlatch bitNo s) = outPins s := by
  unfold unlatch
  split
  · exact (outPins_of_sight (sight_logEv ..)).trans rfl
  · rfl

/-- Leaving COMMISSIONING judges faults anew and drives no pin before Nerrak's update. -/
theorem relatch_outPins (s : State) : outPins (relatch s) = outPins s := by
  unfold relatch
  have hhead : outPins (if headOpen s then latchFault 7 s else s) = outPins s := by
    split
    · exact latchFault_outPins 7 s
    · rfl
  dsimp only
  generalize (if headOpen s then latchFault 7 s else s) = u at hhead
  rw [setChgHeld_outPins, capEval_outPins, ← hhead]
  split
  · exact latchFault_outPins 17 u
  · exact unlatch_outPins 17 u

/-- The enables that fell with permission (R271). -/
def enablesLow (s : State) : Prop := s.pins.lsrA = false ∧ s.pins.lsrB = false

theorem enablesLow_of_outPins {s u : State} (h : outPins u = outPins s) (hs : enablesLow s) : enablesLow u := by
  have hp : u.pins.lsrA = s.pins.lsrA ∧ u.pins.lsrB = s.pins.lsrB :=
    ⟨(congrArg Pins.lsrA h :), (congrArg Pins.lsrB h :)⟩
  exact ⟨hp.1.trans hs.1, hp.2.trans hs.2⟩

/-- Permission as Nerrak's update leaves it (R271): dropped where a condition is missing. -/
def permitted (s : State) : State := if s.pins.lsrA && !permOk s then dropLsr s else s

theorem nkUpdate_eq (s : State) : nkUpdate s = updCaps (degClock (driveCut (permitted s))) := rfl

theorem dropLsr_enablesLow {s : State} (h : s.pins.lsrA = true) : enablesLow (dropLsr s) := by
  unfold dropLsr
  rw [if_pos (by rw [h, Bool.true_or])]
  dsimp only
  split
  · exact enablesLow_of_outPins (outPins_of_sight (sight_stopEmission _)) ⟨rfl, rfl⟩
  · exact ⟨rfl, rfl⟩

theorem permitted_enablesLow {s : State} (hp : permOk s = false) (hl : s.pins.lsrA = s.pins.lsrB) : enablesLow (permitted s) := by
  unfold permitted
  rw [hp, Bool.not_false, Bool.and_true]
  split
  · next ha => exact dropLsr_enablesLow ha
  · next ha =>
    have hA : s.pins.lsrA = false := Bool.eq_false_iff.2 ha
    exact ⟨hA, hl ▸ hA⟩

/-- Where a condition is missing Nerrak's update leaves the enables low (R271). -/
theorem nkUpdate_enablesLow {s : State} (hp : permOk s = false) (hl : s.pins.lsrA = s.pins.lsrB) : enablesLow (nkUpdate s) := by
  have hcut : ∀ u : State, enablesLow u → enablesLow (driveCut u) := fun u hu => by
    unfold driveCut
    refine iteInduction (motive := enablesLow) (fun _ => ?_) fun _ => iteInduction (motive := enablesLow) (fun _ => hu) fun _ => hu
    exact iteInduction (motive := enablesLow) (fun _ => hu) fun _ => iteInduction (motive := enablesLow) (fun _ => hu) fun _ => hu
  have hdeg : ∀ u : State, outPins (degClock u) = outPins u := fun u => by
    unfold degClock
    dsimp only
    split <;> exact (apply_ite outPins ..).trans (ite_self _)
  rw [nkUpdate_eq]
  exact enablesLow_of_outPins ((outPins_of_sight (sight_updCaps _)).trans (hdeg _)) (hcut _ (permitted_enablesLow hp hl))

/-- The contactor's pin, the cut that is due, and when it was cut last. -/
def cutOf (s : State) : Bool × Bool × Nat := (s.pins.hvCut, s.nk.cutDue, s.nk.cutAt)

theorem cutOf_of_sight {s u : State} (h : sight u = sight s) : cutOf u = cutOf s := by
  unfold cutOf
  rw [nk_of_sight h, pins_of_sight h]

theorem wantCut_permitted (s : State) : wantCut (permitted s) = wantCut s := by
  unfold permitted dropLsr
  dsimp only
  split
  · split
    · split
      · exact (wantCut_of_sight (sight_stopEmission _)).trans rfl
      · rfl
    · rfl
  · rfl

theorem cutOf_permitted (s : State) : cutOf (permitted s) = cutOf s := by
  unfold permitted dropLsr
  dsimp only
  split
  · split
    · split
      · exact (cutOf_of_sight (sight_stopEmission _)).trans rfl
      · rfl
    · rfl
  · rfl

/-- Of Nerrak's update the drive of HV_CUT_N alone moves the contactor's cut (R272). -/
theorem nkUpdate_cutOf (s : State) : cutOf (nkUpdate s) = cutOf (driveCut (permitted s)) := by
  have hdeg : ∀ u : State, cutOf (degClock u) = cutOf u := fun u => by
    unfold degClock
    dsimp only
    split <;> exact (apply_ite cutOf ..).trans (ite_self _)
  rw [nkUpdate_eq, cutOf_of_sight (sight_updCaps _), hdeg]

theorem driveCut_cuts {s : State} (h : wantCut s = true) : (cutOf (driveCut s)).1 = true ∨ (cutOf (driveCut s)).2.1 = true := by
  unfold driveCut
  rw [if_pos h]
  split
  · next hcut => exact .inl hcut
  · split
    · exact .inl rfl
    · exact .inr rfl

/-- Where HV_CUT_N is to be asserted, Nerrak's update leaves it asserted or its cut due (R272, R289). -/
theorem nkUpdate_cuts {s : State} (h : wantCut s = true) : (nkUpdate s).pins.hvCut = true ∨ (nkUpdate s).nk.cutDue = true := by
  have hc := driveCut_cuts ((wantCut_permitted s).trans h)
  rwa [← nkUpdate_cutOf] at hc

/-- SAFE_STOP leaves the enables low and the contactor cut or its cut due (R38, R271, R272). -/
theorem setSt_safeStop (cause : Nat) {s : State} (hl : s.pins.lsrA = s.pins.lsrB) :
    enablesLow (setSt 6 cause s) ∧ ((setSt 6 cause s).pins.hvCut = true ∨ (setSt 6 cause s).nk.cutDue = true) := by
  delta setSt
  extract_lets _ _ st _ idle _ cand judged told done
  have hidle : outPins idle = outPins s ∧ idle.desk.st = 6 := ⟨rfl, rfl⟩
  have hcand : outPins cand = outPins idle ∧ cand.desk.st = idle.desk.st :=
    ⟨(apply_ite outPins ..).trans (ite_self _), (apply_ite (fun v : State => v.desk.st) ..).trans (ite_self _)⟩
  have hjudged : outPins judged = outPins cand ∧ judged.desk.st = cand.desk.st := by
    unfold judged
    split
    · exact ⟨relatch_outPins cand, st_of_stage (congrArg Steady.stage (steady_relatch cand))⟩
    · exact ⟨rfl, rfl⟩
  have htold : sight (updCharge told) = sight judged := by simp [told]
  have hst : (updCharge told).desk.st = 6 := by
    rw [st_of_sight htold, hjudged.2, hcand.2, hidle.2]
  have hout : outPins (updCharge told) = outPins s := by
    rw [outPins_of_sight htold, hjudged.1, hcand.1, hidle.1]
  have hlow : enablesLow (nkUpdate (updCharge told)) := by
    refine nkUpdate_enablesLow ?_ ?_
    · unfold permOk
      split
      · rfl
      · simp [hst]
    · exact (congrArg Pins.lsrA hout :).trans (hl.trans (congrArg Pins.lsrB hout :).symm)
  have hcuts := nkUpdate_cuts (s := updCharge told) (by simp [wantCut, hst])
  have hend : ∀ u : State, sight u = sight done → enablesLow u ∧ (u.pins.hvCut = true ∨ u.nk.cutDue = true) := fun u hu => by
    have hu' : sight u = sight (nkUpdate (updCharge told)) := hu.trans (sight_healthRecord _)
    refine ⟨enablesLow_of_outPins (outPins_of_sight hu') hlow, ?_⟩
    rw [nk_of_sight hu', pins_of_sight hu']
    exact hcuts
  exact hend _ (by simp)

theorem stNow_safeStop (cause : Nat) {s : State} (hl : s.pins.lsrA = s.pins.lsrB) :
    (stNow 6 cause s).desk.st = 6 ∧ enablesLow (stNow 6 cause s)
      ∧ ((stNow 6 cause s).pins.hvCut = true ∨ (stNow 6 cause s).nk.cutDue = true) := by
  refine ⟨(steady_stNow_stage 6 cause s).1, ?_⟩
  unfold stNow
  refine setSt_safeStop cause ?_
  have hout : outPins (if (6 = 4 ∨ 6 = 5) then dropPend s else stopEmission (dropPend s)) = outPins s :=
    (outPins_of_sight (sight_stopEmission _)).trans rfl
  exact (congrArg Pins.lsrA hout :).trans (hl.trans (congrArg Pins.lsrB hout :).symm)

/-- An overexposure fault that is new in an emitting state ends emission (R288, R289). -/
theorem raiseFault_stops {bitNo str em val : Nat} {s : State} (hb : bitNo < 16) (he : stEmits s = true)
    (hn : s.nk.faults.getLsbD bitNo = false) (hl : s.pins.lsrA = s.pins.lsrB) :
    let u := raiseFault bitNo str em val s
    u.desk.st = 6 ∧ enablesLow u ∧ (u.pins.hvCut = true ∨ u.nk.cutDue = true) := by
  intro u
  have hu : u = stNow 6 2 (faultTold bitNo str em val s) := by
    simp only [u, raiseFault_eq, hn, hb, he, Bool.false_eq_true, if_false, if_true]
  have hout : outPins (faultTold bitNo str em val s) = outPins s := (outPins_of_sight (faultTold_sight ..)).trans rfl
  rw [hu]
  exact stNow_safeStop 2 ((congrArg Pins.lsrA hout :).trans (hl.trans (congrArg Pins.lsrB hout :).symm))

end Sys2Proof.Machine
end

section
/-! SUPPORT. Nerrak's overexposure faults (R268, R269, R277, R287 to R289), and O12. -/

namespace Sys2Proof.Machine

/-- From `s` to `u` fault `b` has been raised: it is latched, memory and the units stand, and an emitting state that did not hold it has stopped. -/
def StruckBy (b : Nat) (s u : State) : Prop :=
  u.nk.faults.getLsbD b = true ∧ u.nv = s.nv ∧ u.cal = s.cal ∧ u.sns = s.sns ∧ u.srv = s.srv ∧ u.tim = s.tim
    ∧ (stEmits s = true → s.nk.faults.getLsbD b = false → s.pins.lsrA = s.pins.lsrB →
        u.desk.st = 6 ∧ u.pins.lsrA = false ∧ u.pins.lsrB = false ∧ (u.pins.hvCut = true ∨ u.nk.cutDue = true))

theorem GuardActs.units {s u : State} (h : GuardActs s u) :
    u.nv = s.nv ∧ u.cal = s.cal ∧ u.sns = s.sns ∧ u.srv = s.srv ∧ u.tim = s.tim := by
  unfold GuardActs at h
  rw [h]
  exact ⟨rfl, rfl, rfl, rfl, rfl⟩

theorem raiseFault_struck {b : Nat} (hb : b < 16) (str em val : Nat) (s : State) : StruckBy b s (raiseFault b str em val s) := by
  obtain ⟨hnv, hcal, hsns, hsrv, htim⟩ := (raiseFault_guardActs b str em val s).units
  refine ⟨raiseFault_latched _ _ _ _ _ (by omega) (by omega), hnv, hcal, hsns, hsrv, htim, fun he hn hl => ?_⟩
  obtain ⟨hst, ⟨hA, hB⟩, hcut⟩ := raiseFault_stops (str := str) (em := em) (val := val) hb he hn hl
  exact ⟨hst, hA, hB, hcut⟩

theorem raiseFree_struck {b : Nat} (hb : b < 16) (str em : Nat) (s : State) : StruckBy b s (raiseFree b str em s) := by
  unfold raiseFree
  split
  · next hf => exact ⟨hf, rfl, rfl, rfl, rfl, rfl, fun _ hn => absurd (hf.symm.trans hn) (by decide)⟩
  · exact raiseFault_struck hb str em _ (s := (freeVal (2 ^ 32) s).2)

/-- What is logged before the fault does not change what it strikes. -/
theorem StruckBy.logged {b : Nat} {s v u : State} (h : StruckBy b v u) (hv : LogOnly s v) : StruckBy b s u := by
  unfold LogOnly at hv
  rw [hv] at h
  exact h

theorem raiseFree_nk (b str em : Nat) (s : State) : (raiseFree b str em s).nk.clockBad = s.nk.clockBad
    ∧ (raiseFree b str em s).nk.pads = s.nk.pads ∧ (raiseFree b str em s).nk.testing = s.nk.testing
    ∧ (raiseFree b str em s).nk.passed = s.nk.passed ∧ (raiseFree b str em s).nk.gain = s.nk.gain := by
  rw [raiseFree_nkReacts s b str em]
  exact ⟨rfl, rfl, rfl, rfl, rfl⟩

theorem GuardActs.headSw {s u : State} (h : GuardActs s u) : u.pins.headSw = s.pins.headSw := by
  unfold GuardActs at h
  rw [h]

section
variable {t : Nat} {s : State}

/-- A clock comparison out of bounds (R269). -/
theorem clockCheck_bad {n : Nat} (h : n < 9500 ∨ 10500 < n) (s : State) :
    clockCheck n s = if nkChecks s then raiseFree 9 255 255 { s with nk.clockBad := true } else { s with nk.clockBad := true } := by
  have hbad : (decide (n < 9500) || decide (10500 < n)) = true := by simpa using h
  unfold clockCheck
  rw [hbad]
  rfl

theorem padDiffers_held {pin : Nat} {v : Bool} {s u : State}
    (hv : v ≠ (if pin = 0 then s.pins.lsrA else if pin = 1 then s.pins.lsrB else !s.pins.hvCut))
    (hpads : u.nk.pads = tput none s.nk.pads pin (some v)) (hpins : u.pins = s.pins) : padDiffers u pin = true := by
  unfold padDiffers
  rw [hpads, hpins]
  simp only [tget_tput, if_true, bne_iff_ne]
  exact hv

/-- A pad held against its command (R287). -/
theorem enableReadback_differs {pin : Nat} {v : Bool} {s : State} (hpin : pin < 3)
    (hv : v ≠ (if pin = 0 then s.pins.lsrA else if pin = 1 then s.pins.lsrB else !s.pins.hvCut)) :
    enableReadback pin (some v) s = if nkChecks s then raiseFree 8 255 255 { s with nk.pads := tput none s.nk.pads pin (some v) }
      else { s with nk.pads := tput none s.nk.pads pin (some v) } := by
  unfold enableReadback
  rw [if_neg (by omega)]
  have hd : padDiffers { s with nk.pads := tput none s.nk.pads pin (some v) } pin = true := padDiffers_held hv rfl rfl
  dsimp only
  rw [hd, Bool.and_true]
  rfl

/-- Item 5 of the start self-test fails at a baseline out of its window (R268). -/
theorem anyBaseOut {codes : List Nat} (h : ∃ k, k < 4 ∧ (codes.getD k 64 < 32 ∨ 96 < codes.getD k 64)) :
    (List.range 4).any (fun k => !baseIn (codes.getD k 64)) = true := by
  obtain ⟨k, hk, hc⟩ := h
  refine List.any_eq_true.2 ⟨k, List.mem_range.2 hk, ?_⟩
  simp only [baseIn, Bool.not_and, Bool.or_eq_true, Bool.not_eq_true', decide_eq_false_iff_not]
  omega

/-- The state in which the self-test has ended and its result is logged (R268). -/
def selfTested (item : Nat) (s : State) : State :=
  logEv 0x0C05 (le 1 item) { s with
    nk.testing := false, nk.passed := decide (item = 0), nk.gain := match s.nv.otpCal with | some f => f.pmon | none => [] }

theorem selfTested_nk (item : Nat) (s : State) : (selfTested item s).nk.testing = false ∧ (selfTested item s).nk.passed = decide (item = 0)
    ∧ (selfTested item s).nk.gain = match s.nv.otpCal with | some f => f.pmon | none => [] := by
  rw [show (selfTested item s).nk = _ from nk_of_sight (sight_logEv ..)]
  exact ⟨rfl, rfl, rfl⟩

theorem nkSelftest_fails {item : Nat} {codes : List Nat} {s : State} (ht : s.nk.testing = true) (hp : s.pins.porstN = true) (hi : item ≤ 4)
    (hbad : 1 ≤ item ∨ ∃ k, k < 4 ∧ (codes.getD k 64 < 32 ∨ 96 < codes.getD k 64)) :
    ∃ failed, failed ≠ 0 ∧ nkSelftest item codes s = raiseFree 11 255 255 (selfTested failed s) := by
  have hne : (if item = 0 ∧ (List.range 4).any (fun k => !baseIn (codes.getD k 64)) = true then 5 else item) ≠ 0 := by
    split
    · decide
    · next hn => exact fun h0 => hn ⟨h0, anyBaseOut (hbad.resolve_left (by omega))⟩
  refine ⟨_, hne, ?_⟩
  unfold nkSelftest
  rw [if_neg (by rw [ht, hp]; simp; omega)]
  exact if_pos hne

/-- Energy above the floor outside every gate (R277). -/
theorem strayPulse_strays {k e : Nat} {st : List Host.Cell} {s : State} (hk : k < 4) (hc : nkChecks s = true) (hg : governing s = some st)
    (hgate : inGate (pmon s k) s.dev = false) (he : sf st 52 4 < e) :
    strayPulse k e s = raiseFault 2 255 255 e (setPmon s k { pmon s k with anom := true }) := by
  unfold strayPulse
  rw [hg]
  exact if_neg (by simp [hc, hgate]; omega)

/-- The contactor closed for 20 ms under a full cut (R287, R402). -/
theorem contactorStuck_stuck {s : State} (hc : nkChecks s = true) (hfb : s.pins.hvFb = true) (hcut : s.pins.hvCut = true)
    (hpeer : s.pins.peerCut = true) (hat : max s.nk.hvAt (max s.nk.cutAt s.nk.peerAt) + 20 * tMs ≤ s.wall) :
    contactorStuck s = raiseFree 10 255 255 s := by
  unfold contactorStuck
  rw [hc, hfb, hcut, hpeer, decide_eq_true hat]
  rfl

end

/-- Settles O12: a clause per raising event. -/
theorem overexposureFaultsStopEmission : Obligations.OverexposureFaultsStopEmission := by
  unfold Obligations.OverexposureFaultsStopEmission
  intro hit
  refine ⟨?_, ?_, ?_, ?_, ?_, ?_, ?_⟩
  · intro t n s h
    refine ⟨_, congrArg Host.Outcome.next (clockCheck_bad h (advance t s)), ?_⟩
    split
    · next hc =>
      have hc : nkChecks s = true := hc
      refine ⟨(raiseFree_nk ..).1, fun _ => raiseFree_struck (by decide) .., fun hn => absurd (hc.symm.trans hn) (by decide)⟩
    · next hc =>
      have hc : ¬nkChecks s = true := hc
      exact ⟨rfl, fun hn => absurd hn hc, fun _ => rfl⟩
  · intro t s h
    refine ⟨_, congrArg Host.Outcome.next (if_pos h), (raiseFree_nk ..).1, raiseFree_struck (by decide) ..⟩
  · intro t high s h
    exact ⟨_, congrArg Host.Outcome.next (if_neg (Bool.eq_false_iff.1 h)), (raiseFree_guardActs ..).headSw, raiseFree_struck (by decide) ..⟩
  · intro t pin v s hpin hv
    refine ⟨_, congrArg Host.Outcome.next (enableReadback_differs (s := advance t s) hpin hv), ?_⟩
    split
    · next hc =>
      have hc : nkChecks s = true := hc
      refine ⟨padDiffers_held hv (raiseFree_nk ..).2.1 rfl, fun _ => raiseFree_struck (by decide) .., fun hn => ?_⟩
      exact absurd (hc.symm.trans hn) (by decide)
    · next hc =>
      have hc : ¬nkChecks s = true := hc
      exact ⟨padDiffers_held hv rfl rfl, fun hn => absurd hn hc, fun _ => rfl⟩
  · intro t s hc hfb hcut hpeer hat
    exact ⟨_, congrArg Host.Outcome.next (contactorStuck_stuck (s := advance t s) hc hfb hcut hpeer hat), raiseFree_struck (by decide) ..⟩
  · intro t k e st s hk hc hg hgate he
    exact ⟨_, congrArg Host.Outcome.next (strayPulse_strays (s := advance t s) hk hc hg hgate he), raiseFault_struck (by decide) ..⟩
  · intro t item codes s ht hp hi hbad
    obtain ⟨failed, hne, hx⟩ := nkSelftest_fails (s := advance t s) ht hp hi hbad
    obtain ⟨-, -, htest, hpass, -⟩ := raiseFree_nk 11 255 255 (selfTested failed (advance t s))
    refine ⟨_, congrArg Host.Outcome.next hx, htest.trans (selfTested_nk ..).1, hpass.trans ((selfTested_nk ..).2.1.trans (decide_eq_false hne)), ?_⟩
    have hstruck := StruckBy.logged (raiseFree_struck (b := 11) (by decide) 255 255 (selfTested failed (advance t s))) (logEv_logOnly ..)
    exact hstruck

end Sys2Proof.Machine
end

section
/-! SUPPORT. Nerrak's quiet events (R266 to R272, R286, R291, R402), and O13. -/

namespace Sys2Proof.Machine

/-! ### Clearing a fault (R287) -/

theorem clearFault_nkReacts (bitNo : Nat) (s : State) : NkReacts s (clearFault bitNo s) := by
  have hpend : ∀ u : State, NkReacts u { u with desk.pendRun := true } := fun _ => rfl
  unfold clearFault
  refine nkReacts_ite (fun _ => .refl s) fun _ => (unlatch_nkReacts s bitNo).trans (NkReacts.trans ?_ (nkUpdate_nkDrives _).reacts)
  exact nkReacts_ite (fun _ => hpend _) fun _ => .refl _

/-- A cleared fault takes its own latch back and no other (R287, R303). -/
theorem clearFault_faults (bitNo c : Nat) (s : State) :
    (clearFault bitNo s).nk.faults.getLsbD c = (s.nk.faults.getLsbD c && decide (bitNo ≠ c)) := by
  unfold clearFault
  split
  · next h =>
    by_cases hc : bitNo = c
    · rw [← hc, h, Bool.false_and]
    · rw [decide_eq_true hc, Bool.and_true]
  · dsimp only
    rw [(nkUpdate_nkDrives _).faults, ← unlatch_faults]
    exact congrArg (fun f : Word => f.getLsbD c) ((apply_ite (fun v : State => v.nk.faults) ..).trans (ite_self _))

/-! ### What Nerrak's update keeps -/

section
variable (s : State)

theorem nkUpdate_units : (nkUpdate s).nv = s.nv ∧ (nkUpdate s).sns = s.sns := by
  obtain ⟨hnv, -, hsns, -⟩ := (nkUpdate_guardActs s).units
  exact ⟨hnv, hsns⟩

theorem nkUpdate_st : (nkUpdate s).desk.st = s.desk.st := st_of_stage (steady_nkUpdate s).2.2.1

end

theorem GuardActs.inputs {s u : State} (h : GuardActs s u) :
    u.pins.hvFb = s.pins.hvFb ∧ u.pins.vddNk = s.pins.vddNk ∧ u.pins.headSw = s.pins.headSw := by
  unfold GuardActs at h
  rw [h]
  exact ⟨rfl, rfl, rfl⟩

/-! ### The contactor (R270 to R272, R289) -/

/-- HV_FB's new level, before Nerrak reacts. -/
def fbSeen (closed : Bool) (s : State) : State := { s with pins.hvFb := closed, nk.hvAt := s.wall }

/-- CONTACTOR_OPEN as a change of HV_FB leaves it (R287). -/
def fbJudged (closed : Bool) (s : State) : State := if closed then clearFault 19 (fbSeen closed s) else fbSeen closed s

theorem hvFbChange_eq {closed : Bool} {s : State} (h : s.pins.hvFb ≠ closed) : hvFbChange closed s = nkUpdate (fbJudged closed s) :=
  if_neg fun he => h he.symm

theorem fbJudged_acts (closed : Bool) (s : State) :
    GuardActs (fbSeen closed s) (nkUpdate (fbJudged closed s)) ∧ NkReacts (fbSeen closed s) (nkUpdate (fbJudged closed s)) :=
  ⟨GuardActs.trans (guardActs_ite (clearFault_guardActs ..) (.refl _)) (nkUpdate_guardActs _),
    NkReacts.trans (nkReacts_ite (fun _ => clearFault_nkReacts ..) fun _ => .refl _) (nkUpdate_nkDrives _).reacts⟩

theorem driveCut_held {s : State} (h : wantCut s = true) (hc : s.pins.hvCut = true) : cutOf (driveCut s) = (true, false, s.nk.cutAt) := by
  unfold driveCut
  rw [if_pos h, if_pos hc]
  exact congrArg (fun b => (b, false, s.nk.cutAt)) hc

/-- While HV_CUT_N is to be asserted, Nerrak's update keeps a cut (R272). -/
theorem nkUpdate_keepsCut {s : State} (h : wantCut s = true) (hc : s.pins.hvCut = true) :
    (nkUpdate s).pins.hvCut = true ∧ (nkUpdate s).nk.cutDue = false ∧ (nkUpdate s).nk.cutAt = s.nk.cutAt := by
  have hp : cutOf (permitted s) = cutOf s := cutOf_permitted s
  have hcut : cutOf (nkUpdate s) = (true, false, (permitted s).nk.cutAt) :=
    (nkUpdate_cutOf s).trans (driveCut_held ((wantCut_permitted s).trans h) ((congrArg Prod.fst hp).trans hc))
  exact ⟨congrArg Prod.fst hcut, congrArg (fun x => x.2.1) hcut, (congrArg (fun x => x.2.2) hcut).trans (congrArg (fun x => x.2.2) hp)⟩

/-- Without its supply Nerrak lets go of everything: the contactor is cut and the enables fall (R266, R271, R272). -/
theorem nkUpdate_dead {s : State} (h : nkAlive s = false) (hl : s.pins.lsrA = s.pins.lsrB) :
    (nkUpdate s).pins.hvCut = true ∧ enablesLow (nkUpdate s) := by
  have hwant : wantCut s = true := by
    unfold wantCut
    rw [h, Bool.not_false, Bool.or_true]
  have hperm : permOk s = false := by
    unfold permOk
    split
    · rfl
    · rw [h]
      simp only [Bool.and_false, Bool.false_and]
  have halive : nkAlive (permitted s) = false := by
    unfold permitted dropLsr
    dsimp only
    have hdrop : ∀ u : State, nkAlive (stopEmission u) = nkAlive u := fun u => by
      unfold nkAlive
      rw [pins_of_sight (sight_stopEmission u)]
    split
    · split
      · split
        · exact (hdrop _).trans h
        · exact h
      · exact h
    · exact h
  have hdrive : ∀ u : State, wantCut u = true → nkAlive u = false → (cutOf (driveCut u)).1 = true := fun u hu ha => by
    unfold driveCut
    rw [if_pos hu]
    split
    · next hcut => exact hcut
    · rw [if_pos (.inl ha)]
      rfl
  exact ⟨(congrArg Prod.fst (nkUpdate_cutOf s)).trans (hdrive _ ((wantCut_permitted s).trans hwant) halive), nkUpdate_enablesLow hperm hl⟩

theorem hvCutAssert_eq {s : State} (hd : s.nk.cutDue = true) (ht : max s.nk.lsrFell s.nk.cutFrom + 5 * tUs / 2 ≤ s.wall) :
    hvCutAssert s = nkUpdate { s with pins.hvCut := true, nk.cutAt := s.wall, nk.cutDue := false } := by
  unfold hvCutAssert
  rw [hd, decide_eq_true ht]
  rfl

theorem permissionGrant_eq {s : State} (hp : permOk s = true) (hl : s.pins.lsrA = false) :
    permissionGrant s = { s with pins.lsrA := true, pins.lsrB := true, nk.disagree := 0 } := by
  unfold permissionGrant
  rw [hp, hl]
  rfl

theorem hvFbOpen_eq {s : State} (hc : nkChecks s = true) (hfb : s.pins.hvFb = false) (hcut : s.pins.hvCut = false)
    (ht : max s.nk.hvAt s.nk.uncutAt + 20 * tMs ≤ s.wall) : hvFbOpen s = raiseFree 19 255 255 s := by
  unfold hvFbOpen
  rw [hc, hfb, hcut, decide_eq_true ht]
  rfl

/-! ### Clocks and the self-test (R268, R269, R291) -/

theorem clockCheck_good {n : Nat} (hlo : 9500 ≤ n) (hhi : n ≤ 10500) (s : State) : clockCheck n s = { s with nk.clockBad := false } := by
  unfold clockCheck
  rw [decide_eq_false (by omega : ¬n < 9500), decide_eq_false (by omega : ¬10500 < n)]
  rfl

theorem noBaseOut {codes : List Nat} (h : ∀ k, k < 4 → 32 ≤ codes.getD k 64 ∧ codes.getD k 64 ≤ 96) :
    (List.range 4).any (fun k => !baseIn (codes.getD k 64)) = false := by
  refine List.any_eq_false.2 fun k hk => ?_
  obtain ⟨hlo, hhi⟩ := h k (List.mem_range.1 hk)
  simp only [baseIn, decide_eq_true hlo, decide_eq_true hhi, Bool.and_self, Bool.not_true, Bool.false_eq_true, not_false_eq_true]

/-- A self-test that passes (R268): a pad held against its command is seen by the checks that follow (R269). -/
theorem nkSelftest_passes {codes : List Nat} {s : State} (ht : s.nk.testing = true) (hp : s.pins.porstN = true)
    (hgood : ∀ k, k < 4 → 32 ≤ codes.getD k 64 ∧ codes.getD k 64 ≤ 96) :
    nkSelftest 0 codes s = if (List.range 3).any (padDiffers s) then raiseFree 8 255 255 (selfTested 0 s) else nkUpdate (selfTested 0 s) := by
  have hpads : padDiffers (selfTested 0 s) = padDiffers s := by
    funext pin
    have hs : sight (selfTested 0 s) = sight { s with
      nk.testing := false, nk.passed := true, nk.gain := match s.nv.otpCal with | some f => f.pmon | none => [] } := sight_logEv ..
    unfold padDiffers
    rw [nk_of_sight hs, pins_of_sight hs]
  rw [← hpads]
  unfold nkSelftest
  rw [if_neg (by rw [ht, hp]; decide), noBaseOut hgood]
  rfl

theorem selfTested_faults (item : Nat) (s : State) : (selfTested item s).nk.faults = s.nk.faults := by
  rw [show (selfTested item s).nk = _ from nk_of_sight (sight_logEv ..)]

theorem nkUpdate_selfTest (s : State) : (nkUpdate s).nk.testing = s.nk.testing ∧ (nkUpdate s).nk.passed = s.nk.passed
    ∧ (nkUpdate s).nk.gain = s.nk.gain := by
  rw [show (nkUpdate s).nk = _ from nkUpdate_nkDrives s]
  exact ⟨rfl, rfl, rfl⟩

/-- What a passed self-test leaves, whether a pad differs or not (R268, R269). -/
theorem selfTested_followed (s : State) (differs : Bool) :
    let u := if differs then raiseFree 8 255 255 (selfTested 0 s) else nkUpdate (selfTested 0 s)
    u.nk.testing = false ∧ u.nk.passed = true ∧ (if differs then u.nk.faults.getLsbD 8 = true else u.nk.faults = s.nk.faults)
      ∧ (∀ f, s.nv.otpCal = some f → u.nk.gain = f.pmon) ∧ u.nv = s.nv := by
  obtain ⟨htest, hpass, hgain⟩ := selfTested_nk 0 s
  have hnv : (selfTested 0 s).nv = s.nv := (logEv_guardActs ..).units.1
  have hg : ∀ f, s.nv.otpCal = some f → (selfTested 0 s).nk.gain = f.pmon := fun f hf => by rw [hgain, hf]
  cases differs with
  | true =>
    obtain ⟨-, -, htest', hpass', hgain'⟩ := raiseFree_nk 8 255 255 (selfTested 0 s)
    exact ⟨htest'.trans htest, hpass'.trans hpass, raiseFree_latched _ _ _ _ (by decide) (by decide), fun f hf => hgain'.trans (hg f hf),
      (raiseFree_guardActs ..).units.1.trans hnv⟩
  | false =>
    obtain ⟨htest', hpass', hgain'⟩ := nkUpdate_selfTest (selfTested 0 s)
    simp only [Bool.false_eq_true, if_false]
    exact ⟨htest'.trans htest, hpass'.trans hpass,
      (nkUpdate_nkDrives (selfTested 0 s)).faults.trans (selfTested_faults 0 s),
      fun f hs => hgain'.trans (hg f hs), (nkUpdate_units _).1.trans hnv⟩

theorem degradedExpire_eq {s : State} (ho : s.nk.degOn.isSome = true) (ht : 5820000000 * 1280 * 100 ≤ degTicks s * 103) :
    degradedExpire s = stNow 6 3 (logEv 0x0C03 (le 4 (dFaults s).toNat) s) := by
  unfold degradedExpire
  rw [ho, decide_eq_true ht]
  rfl

theorem degradedClear_eq {w : Nat} {s : State} (hw : s.nk.cleanAt = some w) (ht : w + 60 * tSec ≤ s.wall) (hst : s.desk.st = 4) :
    degradedClear s = { s with nk.degAcc := 0 } := by
  unfold degradedClear
  rw [hw]
  exact if_pos ⟨ht, hst⟩

/-- Settles O13: a clause per event. -/
theorem nerrakEventsComplete : Obligations.NerrakEventsComplete := by
  unfold Obligations.NerrakEventsComplete
  refine ⟨?_, ?_, ?_, ?_, ?_, ?_, ?_, ?_, ?_, ?_, ?_⟩
  · intro t n s hlo hhi
    exact congrArg Host.Outcome.next (clockCheck_good hlo hhi (advance t s))
  · intro t high s h
    obtain ⟨-, -, hsw⟩ := (nkUpdate_guardActs { advance t s with pins.headSw := high }).inputs
    exact ⟨_, congrArg Host.Outcome.next (if_pos h), hsw, (nkUpdate_nkDrives _).faults, nkUpdate_st _, (nkUpdate_units _).1⟩
  · intro t closed s h
    obtain ⟨hacts, hreacts⟩ := fbJudged_acts closed (advance t s)
    refine ⟨_, congrArg Host.Outcome.next (hvFbChange_eq (s := advance t s) h), hacts.inputs.1, ?_, hacts.units.1, hacts.units.2.2.1, ?_⟩
    · rw [show (nkUpdate (fbJudged closed (advance t s))).nk = _ from hreacts]
      rfl
    · intro hclosed
      rw [(nkUpdate_nkDrives _).faults, fbJudged, if_pos hclosed, clearFault_faults]
      exact Bool.and_false _
  · intro t s hc hfb hcut ht
    obtain ⟨hnv, -, hsns, -⟩ := (raiseFree_guardActs 19 255 255 (advance t s)).units
    exact ⟨_, congrArg Host.Outcome.next (hvFbOpen_eq (s := advance t s) hc hfb hcut ht), raiseFree_latched _ _ _ _ (by decide) (by decide), hnv, hsns⟩
  · intro t high s h
    exact congrArg Host.Outcome.next (if_neg h)
  · intro t s hd ht hw
    obtain ⟨hcut, hdue, hat⟩ := nkUpdate_keepsCut (s := { advance t s with pins.hvCut := true, nk.cutAt := max s.wall t, nk.cutDue := false }) hw rfl
    exact ⟨_, congrArg Host.Outcome.next (hvCutAssert_eq (s := advance t s) hd ht), hcut, hdue, hat, (nkUpdate_units _).1⟩
  · intro t s hp hl
    exact congrArg Host.Outcome.next (permissionGrant_eq hp hl)
  · intro t mv s hl
    have hin : nkWindow mv = true ↔ 752 ≤ mv ∧ mv ≤ 848 := by simp [nkWindow]
    refine ⟨_, rfl, ?_, (nkUpdate_units _).1, fun hout => ?_⟩
    · rw [show (vddNkChange mv (advance t s)).pins.vddNk = _ from (nkUpdate_guardActs _).inputs.2.1]
      exact hin
    · have hw : nkWindow mv = false := Bool.eq_false_iff.2 fun h => by
        have := hin.1 h
        omega
      exact nkUpdate_dead (s := { advance t s with pins.vddNk := nkWindow mv }) (by unfold nkAlive; rw [hw]; rfl) hl
  · intro t codes s ht hp hgood
    refine ⟨_, congrArg Host.Outcome.next (nkSelftest_passes (s := advance t s) ht hp hgood), ?_⟩
    exact selfTested_followed (advance t s) ((List.range 3).any (padDiffers s))
  · intro t s ho ht
    obtain ⟨hnv, -, hsns, -⟩ := ((logEv_guardActs 0x0C03 (le 4 (dFaults (advance t s)).toNat) (advance t s)).trans (stNow_guardActs 6 3 _)).units
    exact ⟨_, congrArg Host.Outcome.next (degradedExpire_eq (s := advance t s) ho ht), (steady_stNow_stage ..).1, hnv, hsns⟩
  · intro t w s hw ht hst
    exact congrArg Host.Outcome.next (degradedClear_eq (s := advance t s) hw ht hst)

end Sys2Proof.Machine
end

section
/-! SUPPORT. Nerrak's stall window, the scrub of its ledger and its cap (R269, R283, R285, R286), and O14. -/

namespace Sys2Proof.Machine

/-! ### The cap -/

/-- The fills of the ledger's cells, in its order (R285). -/
def fills (s : State) (st : List Host.Cell) : List Nat := s.nk.ledger.map (fun p => fill3 s st p.1)

theorem cap_of_sight {s u : State} (h : sight u = sight s) : u.nk.cap = s.nk.cap := by rw [nk_of_sight h]

/-- NK_LEDGER_CAP is added at 240 and removed once every fill is below 224 (R285). -/
theorem capEval_cap {s : State} {st : List Host.Cell} (h : governing s = some st) :
    (capEval s).nk.cap = if !s.nk.cap && (fills s st).any (fun f => decide (240 ≤ f)) then true
      else if s.nk.cap && (fills s st).all (fun f => decide (f < 224)) then false else s.nk.cap := by
  have hgo : ∀ (u : State) (on : Bool) (d : List Byte),
      (updCaps (logEv 0x0C04 d { (topCell u st).2 with nk.cap := on })).nk.cap = on := fun u on d =>
    cap_of_sight (s := { (topCell u st).2 with nk.cap := on }) ((sight_updCaps _).trans (sight_logEv ..))
  delta capEval
  rw [h]
  exact (apply_ite (fun u : State => u.nk.cap) ..).trans
    (congrArg₂ (ite _) (hgo (noteFills st s) true _) ((apply_ite (fun u : State => u.nk.cap) ..).trans
      (congrArg₂ (ite _) (hgo (noteFills st s) false _) rfl)))

theorem NkDrives.ledger {s u : State} (h : NkDrives s u) : u.nk.ledger = s.nk.ledger := by rw [show u.nk = _ from h]

theorem subBinBoundary_eq {w : Nat} {st : List Host.Cell} {s : State} (h : governing s = some st) (hw : w < 3) (hd : s.dev % subTicks st w = 0) :
    subBinBoundary w s = capEval s := by
  unfold subBinBoundary
  rw [h]
  exact if_neg (by omega)

/-! ### The stall window -/

theorem stallOver_iff (s : State) : stallOver s = true ↔ 9700 * 1280 * 100 ≤ (s.wall - s.nk.stallAt) * 103 := decide_eq_true_iff

/-- The stall window as it begins anew (R286). -/
def stallBegun (s : State) : State :=
  { s with
    nk.stallTh := thetaN s s.wall, nk.stallAdv := (thetaN s s.wall + 2 ^ 32 - s.nk.stallTh % 2 ^ 32) % 2 ^ 32, nk.stallAt := s.wall }

/-- A stall window that is over begins the next one, and only Nerrak's reactions follow (R286). -/
theorem stallWindow_over {s : State} (h : stallOver s = true) :
    NkReacts (stallBegun s) (stallWindow s) ∧ GuardActs (stallBegun s) (stallWindow s) := by
  unfold stallWindow
  rw [if_neg (by rw [h]; decide)]
  dsimp only
  split
  · refine ⟨NkReacts.trans ?_ (nkUpdate_nkDrives _).reacts, GuardActs.trans ?_ (nkUpdate_guardActs _)⟩
    · exact nkReacts_ite (fun _ => raiseFault_nkReacts ..) fun _ => .refl _
    · exact guardActs_ite (raiseFault_guardActs ..) (.refl _)
  · exact ⟨.refl _, .refl _⟩

theorem NkReacts.stall {s u : State} (h : NkReacts s u) :
    u.nk.stallAt = s.nk.stallAt ∧ u.nk.stallTh = s.nk.stallTh ∧ u.nk.stallAdv = s.nk.stallAdv ∧ u.nk.ledger = s.nk.ledger := by
  rw [show u.nk = _ from h]
  exact ⟨rfl, rfl, rfl, rfl⟩

/-! ### The scrub of the ledger -/

/-- A rounding of n/128, times 128, is less than 128 away from n. -/
theorem freeRound_near (n : Nat) (s : State) : (((freeRound n 128 s).1.toNat * 128 : Nat) - (n : Int)).natAbs < 128 := by
  have hb : (freeVal 2 s).1 < 2 := Nat.mod_lt _ (by decide)
  unfold freeRound
  dsimp only
  split <;> omega

theorem freeRound_free (num : Int) (den : Nat) (s : State) :
    (freeRound num den s).2 = { s with free := (freeRound num den s).2.free } := by
  unfold freeRound
  dsimp only
  split <;> rfl

/-- A cell whose accounts are `v`, in the current sub-bins (R283). -/
def limitedCell (st : List Host.Cell) (s : State) (v : Nat → Nat) : NkCell :=
  { w0 := tput 0 [] (s.dev / subTicks st 0) (v 0), w1 := tput 0 [] (s.dev / subTicks st 1) (v 1), w2 := tput 0 [] (s.dev / subTicks st 2) (v 2) }

/-- An uncorrectable sub-bin sets each account of its cell to a rounding of its limit (R283). -/
theorem badCell_eq {c : Nat} (st : List Host.Cell) (s : State) (hc : c < 4096) :
    ∃ n v, badCell st s c = setNkCell { s with free := n } c (limitedCell st s v)
      ∧ ∀ w, w < 3 → ((v w * 128 : Nat) - (cellLimit s st w c : Int)).natAbs < 128 := by
  have hlimit : ∀ (num : Int) (u : State) (w : Nat), cellLimit (freeRound num 128 u).2 st w c = cellLimit u st w c := fun num u w => by
    rw [freeRound_free]
    rfl
  let r0 := freeRound (cellLimit s st 0 c : Nat) 128 s
  let r1 := freeRound (cellLimit r0.2 st 1 c : Nat) 128 r0.2
  let r2 := freeRound (cellLimit r1.2 st 2 c : Nat) 128 r1.2
  refine ⟨r2.2.free, fun w => (if w = 0 then r0.1 else if w = 1 then r1.1 else r2.1).toNat, ?_, fun w hw => ?_⟩
  · have hfree : r2.2 = { s with free := r2.2.free } := by
      have h0 : r0.2 = { s with free := r0.2.free } := freeRound_free ..
      have h1 : r1.2 = { r0.2 with free := r1.2.free } := freeRound_free ..
      have h2 : r2.2 = { r1.2 with free := r2.2.free } := freeRound_free ..
      rw [h0] at h1
      rw [h1] at h2
      exact h2
    unfold badCell
    rw [if_neg (by omega)]
    change setNkCell r2.2 c _ = _
    rw [hfree]
    rfl
  · have h1 : cellLimit r0.2 st 1 c = cellLimit s st 1 c := hlimit ..
    have h2 : cellLimit r1.2 st 2 c = cellLimit s st 2 c := (hlimit ..).trans (hlimit ..)
    match w, hw with
    | 0, _ => exact freeRound_near ..
    | 1, _ => exact h1 ▸ freeRound_near ..
    | 2, _ => exact h2 ▸ freeRound_near ..

/-- An account of one value in the current sub-bin sums to it (R283). -/
theorem account_limited {s u : State} {st : List Host.Cell} {v : Nat → Nat} {c w : Nat} (hw : w < 3)
    (hcell : nkCell u c = limitedCell st s v) (hdev : u.dev = s.dev) : account u st w c = v w := by
  have hsum : ∀ cur n : Nat, sumN (((tput 0 ([] : Tab Nat) cur n).filter (fun p => decide (cur ≤ p.1 + 8))).map (·.2)) = n := fun cur n => by
    by_cases hn : n = 0
    · simp [tput, hn, tdel, sumN]
    · simp [tput, hn, tins, sumN]
  unfold account
  rw [hcell, hdev]
  match w, hw with
  | 0, _ => exact hsum ..
  | 1, _ => exact hsum ..
  | 2, _ => exact hsum ..

theorem ledgerScrub_eq {c : Nat} {st : List Host.Cell} {s : State} (hg : governing s = some st) (hn : nkChecks s = true) :
    ledgerScrub [c] s = capEval (badCell st s c) := by
  unfold ledgerScrub
  rw [hg]
  exact if_neg (by rw [hn]; decide)

/-- Settles O14: a clause per event. -/
theorem nerrakLedgerAndScan : Obligations.NerrakLedgerAndScan := by
  unfold Obligations.NerrakLedgerAndScan
  refine ⟨?_, ?_, ?_, ?_⟩
  · intro t s h
    obtain ⟨hreacts, hacts⟩ := stallWindow_over ((stallOver_iff (advance t s)).2 h)
    obtain ⟨hat, hth, hadv, hledger⟩ := hreacts.stall
    exact ⟨_, rfl, hat, hth, hadv, hledger, hacts.units.1⟩
  · intro t s h
    have hover : stallOver (advance t s) = false := decide_eq_false (not_le.2 h)
    exact congrArg Host.Outcome.next (if_pos hover)
  · intro t c st s hn hg hc
    obtain ⟨n, v, hbad, hv⟩ := badCell_eq st (advance t s) hc
    have hcells : ∀ d, nkCell (capEval (badCell st (advance t s) c)) d = if d = c then limitedCell st (advance t s) v else nkCell s d := fun d => by
      unfold nkCell
      rw [(capEval_nkDrives _).ledger, hbad]
      exact nkCell_setNkCell ..
    have hacts := capEval_guardActs (badCell st (advance t s) c)
    have hout := capEval_outPins (badCell st (advance t s) c)
    rw [hbad] at hacts hout
    refine ⟨_, congrArg Host.Outcome.next (ledgerScrub_eq (s := advance t s) hg hn), fun w hw => ?_, fun d hd => ?_, ?_, ?_⟩
    · rw [account_limited hw ((hcells c).trans (if_pos rfl)) (by rw [hbad]; exact hacts.dev)]
      exact hv w hw
    · exact (hcells d).trans (if_neg hd)
    · rw [hbad]
      exact hacts.units.1
    · rw [hbad]
      exact (congrArg Pins.lsrA hout :)
  · intro t w st s hg hw hd
    have hcap := capEval_cap (s := advance t s) hg
    refine ⟨_, congrArg Host.Outcome.next (subBinBoundary_eq (s := advance t s) hg hw hd), (capEval_nkDrives _).ledger,
      (capEval_guardActs _).units.1, fun hoff hany => ?_, fun hon hall => ?_⟩
    · have hany' : (fills (advance t s) st).any (fun f => decide (240 ≤ f)) = true := by
        obtain ⟨f, hf, h240⟩ := hany
        exact List.any_eq_true.2 ⟨f, hf, decide_eq_true h240⟩
      rw [hcap, show (advance t s).nk.cap = false from hoff, hany']
      rfl
    · have hall' : (fills (advance t s) st).all (fun f => decide (f < 224)) = true :=
        List.all_eq_true.2 fun f hf => decide_eq_true (hall f hf)
      rw [hcap, show (advance t s).nk.cap = true from hon, hall']
      rfl

end Sys2Proof.Machine
end

section
/-! SUPPORT. Nerrak's reads (R285, R287, R301) and NK_FAULT_CLEAR (R303), and O17. -/

namespace Sys2Proof.Machine

/-! ### The reads -/

/-- The words of NK_STATUS_READ (R301) around the fault word: the pins and the locks before it, `v` the degraded clock's milliseconds after it. -/
def statusHead (s : State) : List Byte :=
  le 2 (b2n s.pins.lsrA + 2 * b2n s.pins.lsrB + 4 * b2n (!s.pins.hvCut) + 8 * b2n s.pins.hvFb + 16 * b2n (headClosed s)
    + 32 * b2n s.pins.lsrA + 64 * b2n s.nk.passed + 256 * s.sch.chgEn)
  ++ le 2 (b2n s.nk.chgHeld + 2 * b2n s.nk.wrHeld + 4 * b2n s.nk.cap + 8 * b2n (s.desk.st == 3 && s.nk.candOk))

def statusTail (v : Nat) (s : State) : List Byte :=
  le 4 v ++ (le 4 (match s.nk.conf with | some st => sf st 4 4 | none => 0) ++ (le 4 (match s.nk.conf with | some st => setCheck st | none => 0)
    ++ (le 2 s.nk.segs.length ++ (le 2 0 ++ (le 4 s.nk.unmeas.val.toNat ++ (le 4 s.nk.lows.val.toNat
    ++ (le 4 (sumN ((List.range 4).map (fun k => (pmon s k).misses.val.toNat)) % 2 ^ 32) ++ le 4 s.nk.lost.val.toNat)))))))

theorem length_statusHead (s : State) : (statusHead s).length = 4 := by simp [statusHead]
theorem length_statusTail (v : Nat) (s : State) : (statusTail v s).length = 32 := by simp [statusTail]

theorem nkStatusBody_done (op : Nat) (r : Req) (s : State) :
    ∃ n v, nkStatusBody op r s = .done rOK (statusHead s ++ (le 4 s.nk.faults.toNat ++ statusTail v s)) (freeVal n s).2 := by
  unfold nkStatusBody statusHead statusTail
  simp only [List.append_assoc]
  exact ⟨_, _, rfl⟩

/-- A read that moves the free values alone, once it has started, leaves the unit as it was. -/
theorem free_deskOnly {op t : Nat} {r : Req} {s u : State} (h : Ready r s) (hu : u = { started op t r s with free := u.free }) :
    DeskOnly r.mb (advance t s) u ∧ (mb u r.mb).origin = none := by
  have hl : LogOnly (started op t r s) u := by
    rw [hu]
    rfl
  refine ⟨(started_deskOnly op t r s h.2.2.2.2.2).trans (hl.deskOnly _), ?_⟩
  rw [hl.mb]
  exact started_origin ..

theorem exec_nkStatusRead (t : Nat) (r : Req) (s : State) :
    exec (.nkStatusRead t r) s = .next (command { op := 0x0C13 } (lenEq 0) nkStatusBody t r s) := rfl

theorem nkStatusRead_completes {t : Nat} {r : Req} {s : State} (h : Ready r s) (hp : r.payload = []) :
    CompletesOk (.nkStatusRead t r) r 0x0C13 s (advance t s) (fun p => p.length = 40 ∧ (p.drop 4).take 4 = le 4 s.nk.faults.toNat) := by
  obtain ⟨n, v, hb⟩ := nkStatusBody_done 0x0C13 r (started 0x0C13 t r s)
  obtain ⟨hdesk, ho⟩ := free_deskOnly (op := 0x0C13) (t := t) (u := (freeVal n (started 0x0C13 t r s)).2) h rfl
  have hlen : (statusHead (started 0x0C13 t r s) ++ (le 4 (started 0x0C13 t r s).nk.faults.toNat ++ statusTail v (started 0x0C13 t r s))).length = 40 := by
    simp [length_statusHead, length_statusTail]
  refine completesOk_of_effect (exec_of_body h (exec_nkStatusRead t r s) (by simp [hp]) (by simp [hp, lenEq]) hb) ho hdesk ⟨hlen, ?_⟩ (by omega)
  rw [List.drop_left' (length_statusHead _), List.take_left' (length_le ..), started_nk]

/-- NK_LEDGER_READ answers its string, its window and 46 bytes (R285). -/
theorem nkLedgerBody_done {op : Nat} {r : Req} {s : State} (hi : fld r.payload 0 1 ≤ 15) (hw : fld r.payload 1 1 ≤ 2) (hz : fld r.payload 2 2 = 0) :
    ∃ b u, nkLedgerBody op r s = .done rOK ((le 1 (fld r.payload 0 1) ++ le 1 (fld r.payload 1 1)) ++ b) u ∧ b.length = 46
      ∧ u = { s with free := u.free } := by
  unfold nkLedgerBody
  rw [if_neg (by omega)]
  dsimp only
  cases governing s with
  | none => exact ⟨_, _, rfl, length_freeBytes .., freeBytes_free ..⟩
  | some st =>
    simp only [List.append_assoc (le 1 (fld r.payload 0 1) ++ le 1 (fld r.payload 1 1))]
    exact ⟨_, _, rfl, by simp [List.length_flatMap], rfl⟩

theorem exec_nkLedgerRead (t : Nat) (r : Req) (s : State) :
    exec (.nkLedgerRead t r) s = .next (command { op := 0x0C14 } (lenEq 4) nkLedgerBody t r s) := rfl

theorem nkLedgerRead_completes {t : Nat} {r : Req} {s : State} (h : Ready r s) (hlen : r.payload.length = 4) (hi : fld r.payload 0 1 ≤ 15)
    (hw : fld r.payload 1 1 ≤ 2) (hz : fld r.payload 2 2 = 0) :
    CompletesOk (.nkLedgerRead t r) r 0x0C14 s (advance t s)
      (fun p => p.length = 48 ∧ p.take 2 = le 1 (fld r.payload 0 1) ++ le 1 (fld r.payload 1 1)) := by
  obtain ⟨b, u, hb, hb46, hu⟩ := nkLedgerBody_done (op := 0x0C14) (s := started 0x0C14 t r s) hi hw hz
  obtain ⟨hdesk, ho⟩ := free_deskOnly h hu
  refine completesOk_of_effect (exec_of_body h (exec_nkLedgerRead t r s) (by omega) (by simp [lenEq, hlen]) hb) ho hdesk ⟨?_, ?_⟩ ?_
  · simp [hb46]
  · exact List.take_left' (by simp)
  · simp [hb46]

/-! ### NK_FAULT_CLEAR -/

/-- The faults whose raising condition is absent are cleared (R303). -/
def absentCleared (s : State) : State := ((List.range 12).filter (faultAbsent s)).foldl (fun s b => clearFault b s) s

theorem foldl_clearFault_faults (bs : List Nat) (c : Nat) (s : State) :
    (bs.foldl (fun s b => clearFault b s) s).nk.faults.getLsbD c = (s.nk.faults.getLsbD c && decide (c ∉ bs)) := by
  induction bs generalizing s with
  | nil => simp
  | cons b bs ih =>
    rw [List.foldl_cons, ih, clearFault_faults, Bool.and_assoc, ← Bool.decide_and]
    simp only [List.mem_cons, not_or, ne_comm]

theorem absentCleared_faults (s : State) {c : Nat} (hc : c < 12) :
    (absentCleared s).nk.faults.getLsbD c = (s.nk.faults.getLsbD c && !faultAbsent s c) := by
  unfold absentCleared
  rw [foldl_clearFault_faults]
  simp [hc]

theorem absentCleared_steady (s : State) : (steady (absentCleared s)).kept = (steady s).kept ∧ (steady (absentCleared s)).stage = (steady s).stage :=
  foldl_holds (fun u => (steady u).kept = (steady s).kept ∧ (steady u).stage = (steady s).stage)
    (fun u b hu => ⟨(steady_clearFault b u).1.trans hu.1, (steady_clearFault b u).2.2.trans hu.2⟩) _ s ⟨rfl, rfl⟩

theorem faultAbsent_started (op t : Nat) (r : Req) (s : State) : faultAbsent (started op t r s) = faultAbsent (advance t s) := by
  rw [started_eq]
  rfl

theorem faultClearBody_done {op : Nat} {r : Req} {s : State} (h : s.desk.st = 2 ∨ s.desk.st = 6) :
    faultClearBody op r s = .done rOK (le 4 (oFaults (absentCleared s)).toNat) (absentCleared s) :=
  if_neg (by omega)

theorem exec_nkFaultClear (t : Nat) (r : Req) (s : State) :
    exec (.nkFaultClear t r) s = .next (command { op := 0x0C15, mbLo := 4, mbHi := 4 } (lenEq 0) faultClearBody t r s) := rfl

/-- Completion leaves Nerrak, memory and the device's state as they were. -/
theorem mbDone_units (k op result tag : Nat) (p : List Byte) (s : State) :
    (mbDone k op result tag p s).nk = s.nk ∧ (mbDone k op result tag p s).nv = s.nv ∧ (mbDone k op result tag p s).desk.st = s.desk.st := by
  rw [mbDone_frame]
  exact ⟨rfl, rfl, rfl⟩

/-- Settles O17: a clause per command. -/
theorem nerrakReadsAndClear : Obligations.NerrakReadsAndClear := by
  unfold Obligations.NerrakReadsAndClear
  refine ⟨fun t r s h hp => nkStatusRead_completes h hp, fun t r s h hlen hi hw hz => nkLedgerRead_completes h hlen hi hw hz, ?_⟩
  intro t r s h hm hp hst
  obtain ⟨hkept, hstage⟩ := absentCleared_steady (started 0x0C15 t r s)
  obtain ⟨hnk, hnv, hdst⟩ := mbDone_units r.mb 0x0C15 rOK r.tag (le 4 (oFaults (absentCleared (started 0x0C15 t r s))).toNat)
    (absentCleared (started 0x0C15 t r s))
  have hfaults : ∀ b, b < 12 → (absentCleared (started 0x0C15 t r s)).nk.faults.getLsbD b
      = (s.nk.faults.getLsbD b && !faultAbsent (advance t s) b) := fun b hb => by
    rw [absentCleared_faults _ hb, started_nk, faultAbsent_started]
  refine ⟨_, exec_of_safetyDone h hm (exec_nkFaultClear t r s) (by simp [hp]) (by simp [hp, lenEq])
    (faultClearBody_done (by rw [started_st]; exact hst)), ?_, ?_, ?_, fun b hb ha => ?_, fun b hb ha => ?_⟩
  · rw [show oFaults (mbDone ..) = oFaults (absentCleared _) from congrArg (fun x : Nk => x.faults &&& 0xFFF#32) hnk]
    exact mbDone_answered r 0x0C15 rOK _ _ ((origin_of_kept hkept _).trans (started_origin ..)) (.inl rfl) (by simp)
  · rw [hnv, (kept_fields hkept).2.2.1, started_nv]
  · rw [hdst, st_of_stage hstage, started_st]
  · rw [hnk, hfaults b hb, ha, Bool.not_true, Bool.and_false]
  · rw [hnk, hfaults b hb, ha, Bool.not_false, Bool.and_true]

end Sys2Proof.Machine
end

section
/-! SUPPORT. The thermal throttle (R513 to R515), die sensors (R509, R510), rails (R511) and oscillators (R512), the write interlock (R294), and O37. -/

namespace Sys2Proof.Machine

/-! ### The throttle -/

/-- `u` differs from `s` in the event log, the throttle and the caps that follow it alone. -/
def ThrottleActs (s u : State) : Prop := LogOnly { s with
  hlt := { s.hlt with
    target := u.hlt.target, steps := u.hlt.steps, applied := u.hlt.applied, riseAt := u.hlt.riseAt, coolAt := u.hlt.coolAt
    critical := u.hlt.critical, barred := u.hlt.barred }
  sch := { s.sch with ceil := u.sch.ceil, rdiv := u.sch.rdiv } } u

theorem ThrottleActs.refl (s : State) : ThrottleActs s s := rfl

theorem ThrottleActs.trans {s u v : State} (h : ThrottleActs s u) (g : ThrottleActs u v) : ThrottleActs s v := by
  unfold ThrottleActs LogOnly at h g ⊢
  rw [h] at g
  exact g

theorem LogOnly.throttleActs {s u : State} (h : LogOnly s u) : ThrottleActs s u := by
  unfold LogOnly at h
  unfold ThrottleActs LogOnly
  rw [h]
  rfl

theorem throttleActs_ite {c : Prop} [Decidable c] {s u v : State} (hu : ThrottleActs s u) (hv : ThrottleActs s v) :
    ThrottleActs s (if c then u else v) :=
  iteInduction (motive := ThrottleActs s) (fun _ => hu) fun _ => hv

theorem updCaps_throttleActs (s : State) : ThrottleActs s (updCaps s) := by
  unfold updCaps
  exact throttleActs_ite (.refl s) (ThrottleActs.trans (u := { s with sch.ceil := ceilNow s, sch.rdiv := divNow s }) rfl
    (logEv_logOnly ..).throttleActs)

theorem applyThrottle_throttleActs (s : State) : ThrottleActs s (applyThrottle s) :=
  ThrottleActs.trans (u := { s with hlt.applied := s.hlt.target }) rfl (updCaps_throttleActs _)

/-- The target step as a change writes and reports it, before the step is taken (R513). -/
def targetTold (n : Nat) (s : State) : State :=
  wrapEv s.hlt.steps 1 0x0B07 (le 1 1) (logEv 0x0B01 (le 1 n ++ le 1 (hottestAt { s with hlt.target := n, hlt.steps := s.hlt.steps.add 1 })
    ++ leI 2 (hottest { s with hlt.target := n, hlt.steps := s.hlt.steps.add 1 })) { s with hlt.target := n, hlt.steps := s.hlt.steps.add 1 })

theorem setTarget_eq (n : Nat) (s : State) : setTarget n s =
    if n = s.hlt.target then s else if (targetTold n s).sch.running then targetTold n s else applyThrottle (targetTold n s) := rfl

theorem targetTold_logOnly (n : Nat) (s : State) :
    LogOnly { s with hlt.target := n, hlt.steps := s.hlt.steps.add 1 } (targetTold n s) :=
  (logEv_logOnly ..).trans (wrapEv_logOnly ..)

theorem setTarget_throttleActs (n : Nat) (s : State) : ThrottleActs s (setTarget n s) := by
  have htold : ThrottleActs s (targetTold n s) :=
    ThrottleActs.trans (u := { s with hlt.target := n, hlt.steps := s.hlt.steps.add 1 }) rfl (targetTold_logOnly n s).throttleActs
  rw [setTarget_eq]
  exact throttleActs_ite (.refl s) (throttleActs_ite htold (htold.trans (applyThrottle_throttleActs _)))

/-- The step asked for and the two intervals. -/
def throttleTimes (s : State) : Nat × Option Nat × Option Nat := (s.hlt.target, s.hlt.riseAt, s.hlt.coolAt)

theorem LogOnly.hlt {s u : State} (h : LogOnly s u) : u.hlt = s.hlt := (congrArg State.hlt (show u = logOf s u from h) : u.hlt = (logOf s u).hlt)

theorem times_fields {s : State} {n : Nat} {a b : Option Nat} (h : throttleTimes s = (n, a, b)) :
    s.hlt.target = n ∧ s.hlt.riseAt = a ∧ s.hlt.coolAt = b := by
  simpa only [throttleTimes, Prod.mk.injEq] using h

/-- A change of the target step reaches it and leaves both intervals (R513). -/
theorem setTarget_times (n : Nat) (s : State) : throttleTimes (setTarget n s) = (n, s.hlt.riseAt, s.hlt.coolAt) := by
  have htold : throttleTimes (targetTold n s) = (n, s.hlt.riseAt, s.hlt.coolAt) := by
    rw [throttleTimes, (targetTold_logOnly n s).hlt]
  have hcaps : ∀ u : State, (updCaps u).hlt = u.hlt := fun u =>
    (apply_ite State.hlt ..).trans ((congrArg₂ (ite _) rfl (logEv_logOnly ..).hlt).trans (ite_self _))
  have happly : ∀ u : State, throttleTimes (applyThrottle u) = throttleTimes u := fun u => by
    rw [throttleTimes, applyThrottle, hcaps]
    rfl
  rw [setTarget_eq]
  split
  · next h => rw [throttleTimes, h]
  · split
    · exact htold
    · exact (happly _).trans htold

theorem criticalCheck_throttleActs (m : Nat × Int) (s : State) : ThrottleActs s (criticalCheck m s) := by
  unfold criticalCheck
  dsimp only
  refine ThrottleActs.trans (u := if decide (criticalLimit s < m.2) && !s.hlt.critical then logEv 0x0B02 (le 1 m.1 ++ leI 2 m.2) s else s)
    (throttleActs_ite (logEv_logOnly ..).throttleActs (.refl s)) ?_
  generalize (if decide (criticalLimit s < m.2) && !s.hlt.critical then logEv 0x0B02 (le 1 m.1 ++ leI 2 m.2) s else s) = u
  exact throttleActs_ite (ThrottleActs.trans (u := { u with hlt.critical := _, hlt.barred := _ }) rfl (setTarget_throttleActs ..)) rfl

theorem throttleSample_throttleActs (m : Nat × Int) (s : State) : ThrottleActs s (throttleSample m s) := by
  unfold throttleSample
  refine throttleActs_ite (throttleActs_ite (.refl s) ?_) (throttleActs_ite rfl rfl)
  exact ThrottleActs.trans (u := { s with hlt.riseAt := _, hlt.coolAt := _ }) rfl (setTarget_throttleActs ..)

theorem hostStep_throttleActs (s : State) : ThrottleActs s (hostStep s) := by
  unfold hostStep
  exact throttleActs_ite (.refl s) (ThrottleActs.trans (u := { s with hlt.riseAt := _, hlt.coolAt := _ }) rfl (setTarget_throttleActs ..))

theorem throttleEval_throttleActs (s : State) : ThrottleActs s (throttleEval s) := by
  unfold throttleEval
  split
  · rfl
  · next m _ =>
    exact (criticalCheck_throttleActs m s).trans (throttleActs_ite (throttleSample_throttleActs ..) (hostStep_throttleActs _))

/-- The frame that O37 gives a step of the throttle. -/
theorem ThrottleActs.logOnly {s u : State} (h : ThrottleActs s u) : LogOnly { s with hlt := u.hlt, sch.ceil := u.sch.ceil, sch.rdiv := u.sch.rdiv } u := by
  unfold ThrottleActs LogOnly at h
  unfold LogOnly
  rw [h]
  rfl

theorem throttleTimer_rise {b : Nat} {s : State} (hm : par0 s pHealthThermalMode = 0) (ha : s.hlt.riseAt = some b) (hb : b ≤ s.dev) :
    throttleTimer s = setTarget (min 8 (s.hlt.target + 1)) { s with hlt.riseAt := some (b + 100 * tMs) } := by
  unfold throttleTimer
  rw [if_neg (not_not.2 hm), ha]
  exact if_neg (not_lt.2 hb)

theorem throttleTimer_cool {b : Nat} {s : State} (hm : par0 s pHealthThermalMode = 0) (hr : s.hlt.riseAt = none) (ha : s.hlt.coolAt = some b)
    (hb : b ≤ s.dev) : throttleTimer s = if s.hlt.barred || substituted s then { s with hlt.coolAt := some (b + tSec) }
      else setTarget (s.hlt.target - 1) { s with hlt.coolAt := some (b + tSec) } := by
  unfold throttleTimer
  rw [if_neg (not_not.2 hm), hr, ha]
  exact if_neg (not_lt.2 hb)

/-! ### Die sensors -/

/-- `u` differs from `s` in the event log, the interrupt controller and the die sensors' fields alone. -/
def SensorActs (s u : State) : Prop := LogOnly { s with ic := u.ic, hlt.sens := u.hlt.sens } u

theorem SensorActs.refl (s : State) : SensorActs s s := rfl

theorem SensorActs.trans {s u v : State} (h : SensorActs s u) (g : SensorActs u v) : SensorActs s v := by
  unfold SensorActs LogOnly at h g ⊢
  rw [h] at g
  exact g

theorem LogOnly.sensorActs {s u : State} (h : LogOnly s u) : SensorActs s u := by
  unfold LogOnly at h
  unfold SensorActs LogOnly
  rw [h]
  rfl

theorem setDieSensor_sensorActs (s : State) (n : Nat) (v : DieSensor) : SensorActs s (setDieSensor s n v) := rfl

theorem irqOpen_sensorActs (n : Nat) (s : State) : SensorActs s (irqOpen n s) := by
  rw [irqOpen_ic]
  rfl

/-- A logged write of a sensor. -/
theorem logEv_setDieSensor (c : Nat) (d : List Byte) (s : State) (n : Nat) (v : DieSensor) : SensorActs s (logEv c d (setDieSensor s n v)) :=
  (setDieSensor_sensorActs s n v).trans (logEv_logOnly ..).sensorActs

theorem LogOnly.dieSensor {s u : State} (h : LogOnly s u) (n : Nat) : dieSensor u n = Machine.dieSensor s n := by
  unfold Machine.dieSensor
  rw [h.hlt]

/-- The reading, the conversions missed and the retirement of a sensor: what R509 and R530 show of a conversion. -/
def DieSensor.shown (x : DieSensor) : Int × Nat × Bool := (x.t, x.misses, x.retired)

theorem DieSensor.fields_of_shown {x y : DieSensor} (h : x.shown = y.shown) : x.t = y.t ∧ x.misses = y.misses ∧ x.retired = y.retired := by
  simpa only [shown, Prod.mk.injEq] using h

/-- A conversion writes its own sensor's reading, whatever status follows (R509, R510). -/
theorem sampleSensor_acts (held : Bool) (n : Nat) (r : Option Int) (s : State) :
    SensorActs s (sampleSensor held n r s) ∧ (dieSensor (sampleSensor held n r s) n).shown = ((dieSensor s n).take r).shown
      ∧ ∀ k, k ≠ n → dieSensor (sampleSensor held n r s) k = dieSensor s k := by
  have hput : ∀ v : DieSensor, v.shown = ((dieSensor s n).take r).shown → SensorActs s (setDieSensor s n v)
      ∧ (dieSensor (setDieSensor s n v) n).shown = ((dieSensor s n).take r).shown ∧ ∀ k, k ≠ n → dieSensor (setDieSensor s n v) k = dieSensor s k :=
    fun v hv => ⟨rfl, by rw [dieSensor_setDieSensor, if_pos rfl, hv], fun k hk => by rw [dieSensor_setDieSensor, if_neg hk]⟩
  have hlog : ∀ (c : Nat) (d : List Byte) (v : DieSensor), v.shown = ((dieSensor s n).take r).shown → SensorActs s (logEv c d (setDieSensor s n v))
      ∧ (dieSensor (logEv c d (setDieSensor s n v)) n).shown = ((dieSensor s n).take r).shown
      ∧ ∀ k, k ≠ n → dieSensor (logEv c d (setDieSensor s n v)) k = dieSensor s k := fun c d v hv => by
    obtain ⟨-, hself, hother⟩ := hput v hv
    exact ⟨logEv_setDieSensor c d s n v, by rw [(logEv_logOnly c d _).dieSensor, hself], fun k hk => by rw [(logEv_logOnly c d _).dieSensor, hother k hk]⟩
  unfold sampleSensor
  dsimp only
  split
  · exact hput _ rfl
  · split
    · split
      · exact hput _ rfl
      · exact hlog _ _ _ rfl
    · split
      · exact hput _ rfl
      · split
        · exact hput _ rfl
        · split
          · exact hput _ rfl
          · exact hlog _ _ _ rfl

theorem sampleSensor_retired (held : Bool) (n k : Nat) (r : Option Int) (s : State) :
    (dieSensor (sampleSensor held n r s) k).retired = (dieSensor s k).retired := by
  obtain ⟨-, hself, hother⟩ := sampleSensor_acts held n r s
  by_cases hk : k = n
  · rw [hk, (DieSensor.fields_of_shown hself).2.2]
    cases r <;> rfl
  · rw [hother k hk]

/-- One sensor's conversion with its interrupt (R509). -/
def convert (held : Option Nat) (rs : List (Option Int)) (s : State) (n : Nat) : State :=
  irqOpen (289 + n) (sampleSensor (held == some n) n (rs.getD n none) s)

theorem dieSensor_irqOpen (n k : Nat) (s : State) : dieSensor (irqOpen n s) k = dieSensor s k := by
  rw [irqOpen_ic]
  rfl

section
variable (held : Option Nat) (rs : List (Option Int))

theorem convert_shown (s : State) (n : Nat) : (dieSensor (convert held rs s n) n).shown = ((dieSensor s n).take (rs.getD n none)).shown := by
  rw [convert, dieSensor_irqOpen, (sampleSensor_acts ..).2.1]

theorem convert_other (s : State) (n k : Nat) (hk : k ≠ n) : dieSensor (convert held rs s n) k = dieSensor s k := by
  rw [convert, dieSensor_irqOpen, (sampleSensor_acts ..).2.2 k hk]

theorem foldl_convert_sensorActs (l : List Nat) (s : State) : SensorActs s (l.foldl (convert held rs) s) :=
  foldl_holds (SensorActs s) (fun _ n hu => hu.trans ((sampleSensor_acts ..).1.trans (irqOpen_sensorActs (289 + n) _))) l s (.refl s)

theorem foldl_convert_shown {l : List Nat} (hl : l.Nodup) {n : Nat} (hn : n ∈ l) (s : State) :
    (dieSensor (l.foldl (convert held rs) s) n).shown = ((dieSensor s n).take (rs.getD n none)).shown :=
  foldl_once (I := fun u => dieSensor u n = dieSensor s n) (Q := fun u => (dieSensor u n).shown = ((dieSensor s n).take (rs.getD n none)).shown)
    (fun u hu => by rw [convert_shown, hu]) (fun u k hk hu => by rw [convert_other held rs u k n hk.symm, hu])
    (fun u k hk hu => by rw [convert_other held rs u k n hk.symm, hu]) hl hn rfl

theorem foldl_convert_retired (l : List Nat) (k : Nat) (s : State) : (dieSensor (l.foldl (convert held rs) s) k).retired = (dieSensor s k).retired :=
  foldl_keeps (fun u => (dieSensor u k).retired) (fun u n => by rw [convert, dieSensor_irqOpen, sampleSensor_retired]) l s

end

/-- Substitutes are read by the manager alone: nothing shown of a sensor moves (R513). -/
theorem substitutes_acts (s : State) : SensorActs s (substitutes s) ∧ ∀ k, (dieSensor (substitutes s) k).shown = (dieSensor s k).shown := by
  unfold substitutes
  dsimp only
  refine ⟨foldl_holds (SensorActs s) (fun u n hu => hu.trans ?_) _ s (.refl s), fun k => foldl_keeps (fun u => (dieSensor u k).shown) (fun u n => ?_) _ s⟩
  · exact iteInduction (motive := SensorActs u) (fun _ => rfl) fun _ => .refl u
  · split
    · rw [dieSensor_setDieSensor]
      split
      · next hk => rw [hk]; rfl
      · rfl
    · rfl

/-! ### The write interlock -/

theorem writeHold_of_hlt {s u : State} (h : u.hlt.sens = s.hlt.sens) : writeHold u = writeHold s := by
  unfold writeHold dieSensor
  rw [h]

/-- The write interlock follows the sensors (R294). -/
theorem writeInterlock_acts (s : State) : LogOnly { s with nk.wrHeld := writeHold s } (writeInterlock s) := by
  unfold writeInterlock
  dsimp only
  split
  · have h := logEv_logOnly 0x0C08 (le 1 2) s
    unfold LogOnly at h ⊢
    rw [h]
    rfl
  · rfl

end Sys2Proof.Machine
end

section
/-! SUPPORT. A sample of the die sensors (R509, R510, R294, R513), rails and oscillators (R511, R512), the health commands (R530, R531), and O37. -/

namespace Sys2Proof.Machine

/-- `u` differs from `s` in what a sample of the sensors may touch alone; the parameters in force and in the shadow, the frame, the sensors as shown
and their sampling instant stand. -/
def ThermalActs (s u : State) : Prop :=
  LogOnly { s with
    desk := u.desk, hlt := u.hlt, ic := u.ic, lgb := u.lgb, nk := u.nk, par := u.par, pins := u.pins, sch := u.sch, str := u.str, twn := u.twn } u
  ∧ u.par.inForce = s.par.inForce ∧ u.par.shadow = s.par.shadow ∧ u.sch.frameNo = s.sch.frameNo

theorem ThermalActs.trans {s u v : State} (h : ThermalActs s u) (g : ThermalActs u v) : ThermalActs s v := by
  obtain ⟨h, hi, hs, hf⟩ := h
  obtain ⟨g, gi, gs, gf⟩ := g
  refine ⟨?_, gi.trans hi, gs.trans hs, gf.trans hf⟩
  unfold LogOnly at h g ⊢
  rw [h] at g
  exact g

theorem SensorActs.thermal {s u : State} (h : SensorActs s u) : ThermalActs s u := by
  unfold SensorActs LogOnly at h
  rw [h]
  exact ⟨rfl, rfl, rfl, rfl⟩

theorem GuardActs.thermal {s u : State} (h : GuardActs s u) : ThermalActs s u := by
  unfold GuardActs at h
  rw [h]
  exact ⟨rfl, rfl, rfl, rfl⟩

theorem ThrottleActs.thermal {s u : State} (h : ThrottleActs s u) : ThermalActs s u := by
  unfold ThrottleActs LogOnly at h
  rw [h]
  exact ⟨rfl, rfl, rfl, rfl⟩

theorem writeInterlock_thermal (s : State) : ThermalActs s (writeInterlock s) := by
  have h := writeInterlock_acts s
  unfold LogOnly at h
  rw [h]
  exact ⟨rfl, rfl, rfl, rfl⟩

/-! ### What the steps after the conversions keep of the sensors -/

/-- The sensors' fields and their sampling instant. -/
def climate (s : State) : Tab DieSensor × Option Nat := (s.hlt.sens, s.hlt.tempAt)

theorem GuardActs.climate {s u : State} (h : GuardActs s u) : climate u = Machine.climate s := by
  unfold GuardActs at h
  rw [h]
  rfl

theorem ThrottleActs.climate {s u : State} (h : ThrottleActs s u) : Machine.climate u = Machine.climate s ∧ u.nk = s.nk := by
  unfold ThrottleActs LogOnly at h
  rw [h]
  exact ⟨rfl, rfl⟩

theorem SensorActs.tempAt {s u : State} (h : SensorActs s u) : u.hlt.tempAt = s.hlt.tempAt := by
  unfold SensorActs LogOnly at h
  rw [h]
  rfl

theorem writeInterlock_holds (s : State) : climate (writeInterlock s) = climate s ∧ (writeInterlock s).nk.wrHeld = writeHold (writeInterlock s) := by
  have h := writeInterlock_acts s
  have hh : (writeInterlock s).hlt = s.hlt := h.hlt
  refine ⟨by rw [climate, hh]; rfl, ?_⟩
  rw [writeHold_of_hlt (by rw [hh])]
  unfold LogOnly at h
  rw [h]
  rfl

theorem dieSensor_of_climate {s u : State} (h : climate u = climate s) (n : Nat) : dieSensor u n = dieSensor s n := by
  unfold dieSensor
  rw [show u.hlt.sens = s.hlt.sens from congrArg Prod.fst h]

theorem tempAt_of_climate {s u : State} (h : climate u = climate s) : u.hlt.tempAt = s.hlt.tempAt := congrArg Prod.snd h

theorem writeHold_of_climate {s u : State} (h : climate u = climate s) : writeHold u = writeHold s :=
  writeHold_of_hlt (congrArg Prod.fst h)

/-! ### The sample -/

/-- The sensors read in the device's state (R509). -/
def sampledSet (s : State) : List Nat := if s.desk.st == 0 || s.desk.st == 7 then [14] else List.range 24

/-- A sample is taken at this instant. -/
def sampling (s : State) : State := { s with hlt.tempAt := some s.wall }

theorem dieSensor_sampling (s : State) (n : Nat) : dieSensor (sampling s) n = dieSensor s n := rfl
theorem sampling_thermal (s : State) : ThermalActs s (sampling s) := ⟨rfl, rfl, rfl, rfl⟩

/-- The conversions of one sample, with the substitutes that follow (R509, R513). -/
def converted (rs : List (Option Int)) (s : State) : State :=
  substitutes ((sampledSet s).foldl (convert ((reported (sampling s)).map (·.1)) rs) (sampling s))

/-- The faults and the write interlock judged on a sample (R287, R294). -/
def interlocked (s : State) : State := writeInterlock (levelFault 18 (thermalCause s) s)

theorem tempSample_over {rs : List (Option Int)} {s : State} (h : intervalOver s.hlt.tempAt (tempPeriod s) s = true) :
    tempSample rs s = if (s.desk.st == 0 || s.desk.st == 7) || (interlocked (converted rs s)).desk.st == 1 then interlocked (converted rs s)
      else throttleEval (interlocked (converted rs s)) := by
  have hread : converted rs s = substitutes ((if s.desk.st == 0 || s.desk.st == 7 then [14] else List.range 24).foldl
      (fun u n => irqOpen (289 + n) (sampleSensor ((reported { s with hlt.tempAt := some s.wall }).map (·.1) == some n) n (rs.getD n none) u))
      { s with hlt.tempAt := some s.wall }) := rfl
  unfold interlocked
  rw [hread]
  unfold tempSample
  rw [if_neg (by rw [h]; decide)]

theorem tempSample_waits {rs : List (Option Int)} {s : State} (h : intervalOver s.hlt.tempAt (tempPeriod s) s = false) : tempSample rs s = s := if_pos h

theorem nodup_sampledSet (s : State) : (sampledSet s).Nodup := by
  unfold sampledSet
  split
  · exact List.nodup_singleton 14
  · exact List.nodup_range

/-- Conversions with the substitutes that follow. -/
theorem convertedFrom_acts (held : Option Nat) (rs : List (Option Int)) {l : List Nat} (hl : l.Nodup) (s : State) :
    SensorActs s (substitutes (l.foldl (convert held rs) s))
      ∧ (∀ n ∈ l, (dieSensor (substitutes (l.foldl (convert held rs) s)) n).shown = ((dieSensor s n).take (rs.getD n none)).shown)
      ∧ ∀ n, (dieSensor (substitutes (l.foldl (convert held rs) s)) n).retired = (dieSensor s n).retired := by
  obtain ⟨hsub, hshown⟩ := substitutes_acts (l.foldl (convert held rs) s)
  refine ⟨(foldl_convert_sensorActs held rs l s).trans hsub, fun n hn => ?_, fun n => ?_⟩
  · rw [hshown n, foldl_convert_shown held rs hl hn s]
  · exact (DieSensor.fields_of_shown (hshown n)).2.2.trans (foldl_convert_retired held rs l n s)

theorem converted_acts (rs : List (Option Int)) (s : State) : ThermalActs s (converted rs s) ∧ (converted rs s).hlt.tempAt = some s.wall
    ∧ (∀ n ∈ sampledSet s, (dieSensor (converted rs s) n).shown = ((dieSensor s n).take (rs.getD n none)).shown)
    ∧ ∀ n, (dieSensor (converted rs s) n).retired = (dieSensor s n).retired := by
  obtain ⟨hacts, hread, hretired⟩ := convertedFrom_acts ((reported (sampling s)).map (·.1)) rs (nodup_sampledSet s) (sampling s)
  change SensorActs (sampling s) (converted rs s) at hacts
  change ∀ n ∈ sampledSet s, (dieSensor (converted rs s) n).shown = _ at hread
  change ∀ n, (dieSensor (converted rs s) n).retired = _ at hretired
  simp only [dieSensor_sampling] at hread hretired
  exact ⟨(sampling_thermal s).trans hacts.thermal, hacts.tempAt, hread, hretired⟩

theorem interlocked_acts (s : State) : ThermalActs s (interlocked s) ∧ climate (interlocked s) = climate s
    ∧ (interlocked s).nk.wrHeld = writeHold (interlocked s) := by
  have hlevel := levelFault_guardActs 18 (thermalCause s) s
  obtain ⟨hclimate, hheld⟩ := writeInterlock_holds (levelFault 18 (thermalCause s) s)
  exact ⟨hlevel.thermal.trans (writeInterlock_thermal _), hclimate.trans hlevel.climate, hheld⟩

/-- What follows the conversions leaves the sensors as they were read (R294, R513). -/
theorem tempSample_acts {rs : List (Option Int)} {s : State} (h : intervalOver s.hlt.tempAt (tempPeriod s) s = true) :
    ThermalActs s (tempSample rs s) ∧ climate (tempSample rs s) = climate (converted rs s)
      ∧ (tempSample rs s).nk.wrHeld = writeHold (tempSample rs s) := by
  obtain ⟨hacts, hclimate, hheld⟩ := interlocked_acts (converted rs s)
  have hsample := (converted_acts rs s).1.trans hacts
  rw [tempSample_over h]
  split
  · exact ⟨hsample, hclimate, hheld⟩
  · have hthrottle := throttleEval_throttleActs (interlocked (converted rs s))
    obtain ⟨hc, hnk⟩ := hthrottle.climate
    exact ⟨hsample.trans hthrottle.thermal, hc.trans hclimate, by rw [hnk, hheld, writeHold_of_climate hc]⟩

theorem mem_sampledSet {s : State} {n : Nat} (hn : n < 24) (h : Awake s ∨ n = 14) : n ∈ sampledSet s := by
  unfold sampledSet
  split
  · next hq =>
    rcases h with ha | rfl
    · rcases Bool.or_eq_true_iff.1 hq with h0 | h7
      · exact absurd (beq_iff_eq.1 h0) ha.1
      · exact absurd (beq_iff_eq.1 h7) ha.2
    · exact List.mem_singleton.2 rfl
  · exact List.mem_range.2 hn

theorem take_shown (x : DieSensor) (r : Option Int) :
    (x.take r).t = (match r with | some v => v | none => x.t) ∧ (x.take r).misses = (if r.isSome then 0 else x.misses + 1) := by
  cases r <;> exact ⟨rfl, rfl⟩

/-! ### Rails (R511, R522) -/

/-- `u` differs from `s` in the rails, the interrupt controller and the free values alone. -/
def RailActs (s u : State) : Prop := u = { s with hlt.rails := u.hlt.rails, ic := u.ic, free := u.free }

theorem RailActs.trans {s u v : State} (h : RailActs s u) (g : RailActs u v) : RailActs s v := by
  unfold RailActs at h g ⊢
  rw [h] at g
  exact g

/-- One rail's sample with its interrupt. -/
def railStep (mvs : List Nat) (s : State) (i : Nat) : State := irqOpen (313 + i) (sampleRail i (mvs.getD i 0) s)

theorem railStep_acts (mvs : List Nat) (s : State) (i : Nat) : RailActs s (railStep mvs s i) := by
  unfold railStep
  rw [irqOpen_ic]
  rfl

theorem railStep_mv (mvs : List Nat) (s : State) (i k : Nat) : (tget {} (railStep mvs s i).hlt.rails k).mv =
    if k = i then some (mvs.getD i 0) else (tget {} s.hlt.rails k).mv := by
  have hhlt : (railStep mvs s i).hlt = (sampleRail i (mvs.getD i 0) s).hlt := by
    rw [railStep, irqOpen_ic]
  rw [hhlt]
  unfold sampleRail
  rw [tget_tput]
  split <;> rfl

/-- The rails of a sample, each that was measured. -/
def railsSampled (mvs : List Nat) (s : State) : State :=
  (List.range (min 12 mvs.length)).foldl (railStep mvs) { s with hlt.voltAt := some s.wall }

theorem railsSampled_acts (mvs : List Nat) (s : State) : RailActs { s with hlt.voltAt := some s.wall } (railsSampled mvs s) :=
  foldl_holds (RailActs { s with hlt.voltAt := some s.wall }) (fun _ i hu => hu.trans (railStep_acts mvs _ i)) _ _ rfl

theorem railsSampled_mv (mvs : List Nat) (s : State) {i : Nat} (hi : i < 12) : (tget {} (railsSampled mvs s).hlt.rails i).mv =
    if i < mvs.length then some (mvs.getD i 0) else (tget {} s.hlt.rails i).mv := by
  have hseen : ∀ n, n ≤ mvs.length → (tget {} ((List.range n).foldl (railStep mvs) { s with hlt.voltAt := some s.wall }).hlt.rails i).mv =
      if i < n then some (mvs.getD i 0) else (tget {} s.hlt.rails i).mv := fun n => by
    induction n with
    | zero => exact fun _ => rfl
    | succ n ih =>
      intro hn
      rw [List.range_succ, List.foldl_append, List.foldl_cons, List.foldl_nil, railStep_mv, ih (by omega)]
      by_cases hin : i = n
      · simp [hin]
      · rw [if_neg hin]
        exact if_congr (by omega) rfl rfl
  rw [railsSampled, hseen _ (Nat.min_le_right ..)]
  exact if_congr (by omega) rfl rfl

/-- VDD_NK as the first rail shows it (R266). -/
def supplySeen (mvs : List Nat) (s : State) : State :=
  match mvs.head? with | some mv => if nkWindow mv = s.pins.vddNk then s else vddNkChange mv s | none => s

theorem supplySeen_acts (mvs : List Nat) (s : State) : GuardActs { s with pins.vddNk := (supplySeen mvs s).pins.vddNk } (supplySeen mvs s)
    ∧ (supplySeen mvs s).pins.vddNk = (match mvs.head? with | some mv => decide (752 ≤ mv ∧ mv ≤ 848) | none => s.pins.vddNk)
    ∧ ((supplySeen mvs s).pins.vddNk = s.pins.vddNk → supplySeen mvs s = s) := by
  unfold supplySeen
  cases mvs.head? with
  | none => exact ⟨rfl, rfl, fun _ => rfl⟩
  | some mv =>
    have hin : nkWindow mv = decide (752 ≤ mv ∧ mv ≤ 848) := (Bool.decide_and ..).symm
    dsimp only
    split
    · next h => exact ⟨rfl, h.symm.trans hin, fun _ => rfl⟩
    · next h =>
      have hacts : GuardActs { s with pins.vddNk := nkWindow mv } (vddNkChange mv s) := nkUpdate_guardActs _
      have hv : (vddNkChange mv s).pins.vddNk = nkWindow mv := hacts.inputs.2.1
      rw [hv]
      exact ⟨hacts, hin, fun he => absurd he h⟩

/-- A rail outside its fault window holds a voltage reset (R522). -/
def voltageHeld (s : State) : State :=
  if s.rst.causes.testBit 6 && s.desk.st == 0 && s.hlt.rails.any (fun p => p.2.fault.isSome) then { s with rst.cmdUntil := some (s.wall + tMs) } else s

theorem voltageHeld_eq (s : State) : voltageHeld s = { s with rst.cmdUntil := (voltageHeld s).rst.cmdUntil } := by
  unfold voltageHeld
  split <;> rfl

theorem voltageSample_over {mvs : List Nat} {s : State} (h : intervalOver s.hlt.voltAt (10 * tUs) s = true) :
    voltageSample mvs s = voltageHeld (supplySeen mvs (railsSampled mvs s)) := by
  unfold voltageSample
  rw [if_neg (by rw [h]; decide)]
  rfl

theorem voltageSample_waits {mvs : List Nat} {s : State} (h : intervalOver s.hlt.voltAt (10 * tUs) s = false) : voltageSample mvs s = s := if_pos h

/-- A sample of the rails (R511): beside them VDD_NK's window and the voltage reset's end. -/
theorem voltageSample_acts {mvs : List Nat} {s : State} (h : intervalOver s.hlt.voltAt (10 * tUs) s = true) :
    let u := voltageSample mvs s
    u.hlt.rails = (railsSampled mvs s).hlt.rails
      ∧ u.pins.vddNk = (match mvs.head? with | some mv => decide (752 ≤ mv ∧ mv ≤ 848) | none => s.pins.vddNk)
      ∧ GuardActs { s with hlt.rails := u.hlt.rails, hlt.voltAt := some s.wall, rst.cmdUntil := u.rst.cmdUntil, pins.vddNk := u.pins.vddNk } u
      ∧ (u.pins.vddNk = s.pins.vddNk →
          u = { s with hlt.rails := u.hlt.rails, hlt.voltAt := some s.wall, rst.cmdUntil := u.rst.cmdUntil, ic := u.ic, free := u.free }) := by
  have hrails := railsSampled_acts mvs s
  obtain ⟨hacts, hvdd, hsame⟩ := supplySeen_acts mvs (railsSampled mvs s)
  have hheld := voltageHeld_eq (supplySeen mvs (railsSampled mvs s))
  rw [voltageSample_over h]
  generalize voltageHeld (supplySeen mvs (railsSampled mvs s)) = u at hheld
  generalize supplySeen mvs (railsSampled mvs s) = v at hacts hvdd hsame hheld
  generalize railsSampled mvs s = r at hrails hacts hvdd hsame
  have hvr : v.hlt.rails = r.hlt.rails := (congrArg (fun x : State => x.hlt.rails) (show v = _ from hacts) :)
  have hpins : r.pins = s.pins := (congrArg State.pins (show r = _ from hrails) :)
  have hur : u.hlt = v.hlt := (congrArg State.hlt (show u = _ from hheld) :)
  have hup : u.pins = v.pins := (congrArg State.pins (show u = _ from hheld) :)
  dsimp only
  rw [hpins] at hvdd hsame
  refine ⟨by rw [hur, hvr], by rw [hup, hvdd], ?_, fun hp => ?_⟩
  · unfold RailActs at hrails
    unfold GuardActs at hacts ⊢
    rw [hheld, hacts, hrails]
    rfl
  · rw [hup] at hp
    have hv : v = r := hsame hp
    unfold RailActs at hrails
    rw [hheld, hv, hrails]

end Sys2Proof.Machine
end

section
/-! SUPPORT. Oscillators (R512), the score (R516), the health commands (R530, R531), and O37. -/

namespace Sys2Proof.Machine

/-! ### Oscillators -/

/-- `u` differs from `s` in the event log, the interrupt controller and the oscillators' ratios alone. -/
def AgeActs (s u : State) : Prop := LogOnly { s with hlt.osc := u.hlt.osc, hlt.oscLow := u.hlt.oscLow, ic := u.ic } u

theorem AgeActs.trans {s u v : State} (h : AgeActs s u) (g : AgeActs u v) : AgeActs s v := by
  unfold AgeActs LogOnly at h g ⊢
  rw [h] at g
  exact g

theorem LogOnly.ageActs {s u : State} (h : LogOnly s u) : AgeActs s u := by
  unfold LogOnly at h
  unfold AgeActs LogOnly
  rw [h]
  rfl

theorem AgeActs.nv {s u : State} (h : AgeActs s u) : u.nv = s.nv := by
  unfold AgeActs LogOnly at h
  rw [h]
  rfl

/-- A ratio as it is written, with its interrupt. -/
def ratioShown (cs : List Nat) (i : Nat) (s : State) : State :=
  irqOpen (325 + i) { (ageRatio i (cs.getD i 0) s).2 with hlt.osc := tput 0 (ageRatio i (cs.getD i 0) s).2.hlt.osc i (ageRatio i (cs.getD i 0) s).1 }

/-- One oscillator's measurement. -/
def ageStep (cs : List Nat) (s : State) (i : Nat) : State :=
  if 100 * (ageRatio i (cs.getD i 0) s).1 < 95 * 32768 ∧ (ratioShown cs i s).hlt.oscLow.testBit i = false then
    logEv 0x0B06 (le 1 i ++ le 2 (ageRatio i (cs.getD i 0) s).1) { ratioShown cs i s with hlt.oscLow := (ratioShown cs i s).hlt.oscLow ||| 2 ^ i }
  else ratioShown cs i s

theorem ageing_over {cs : List Nat} {s : State} (h : intervalOver s.hlt.ageAt tSec s = true) :
    ageing cs s = (List.range (min 16 cs.length)).foldl (ageStep cs) { s with hlt.ageAt := some s.wall } := by
  unfold ageing
  exact if_neg (by rw [h]; decide)

theorem ratioShown_acts (cs : List Nat) (i : Nat) (s : State) : AgeActs s (ratioShown cs i s)
    ∧ (ratioShown cs i s).hlt = { s.hlt with osc := tput 0 s.hlt.osc i (ageRatio i (cs.getD i 0) s).1 } := by
  have hfree : (ageRatio i (cs.getD i 0) s).2 = { s with free := (ageRatio i (cs.getD i 0) s).2.free } := by
    unfold ageRatio
    dsimp only
    split <;> rfl
  unfold ratioShown
  rw [irqOpen_ic]
  generalize (ageRatio i (cs.getD i 0) s).1 = r
  generalize (ageRatio i (cs.getD i 0) s).2 = v at hfree ⊢
  rw [hfree]
  exact ⟨rfl, rfl⟩

/-- A measurement writes its own ratio, and a ratio below 0.95 is marked (R512). -/
theorem ageStep_acts (cs : List Nat) (s : State) (i : Nat) : AgeActs s (ageStep cs s i)
    ∧ (ageStep cs s i).hlt.osc = tput 0 s.hlt.osc i (ageRatio i (cs.getD i 0) s).1
    ∧ (100 * (ageRatio i (cs.getD i 0) s).1 < 95 * 32768 → (ageStep cs s i).hlt.oscLow.testBit i = true)
    ∧ ∀ k, s.hlt.oscLow.testBit k = true → (ageStep cs s i).hlt.oscLow.testBit k = true := by
  obtain ⟨hacts, hhlt⟩ := ratioShown_acts cs i s
  have hosc : (ratioShown cs i s).hlt.osc = tput 0 s.hlt.osc i (ageRatio i (cs.getD i 0) s).1 := by rw [hhlt]
  have hlow : (ratioShown cs i s).hlt.oscLow = s.hlt.oscLow := by rw [hhlt]
  unfold ageStep
  split
  · have hlog := logEv_logOnly 0x0B06 (le 1 i ++ le 2 (ageRatio i (cs.getD i 0) s).1)
      { ratioShown cs i s with hlt.oscLow := (ratioShown cs i s).hlt.oscLow ||| 2 ^ i }
    refine ⟨hacts.trans (AgeActs.trans (u := { ratioShown cs i s with hlt.oscLow := _ }) rfl hlog.ageActs), ?_, fun _ => ?_, fun k hk => ?_⟩
    · rw [hlog.hlt]
      exact hosc
    · rw [hlog.hlt, Nat.testBit_or, Nat.testBit_two_pow_self, Bool.or_true]
    · rw [hlog.hlt, Nat.testBit_or, hlow, hk, Bool.true_or]
  · next hn =>
    refine ⟨hacts, hosc, fun hr => ?_, fun k hk => by rw [hlow, hk]⟩
    exact Bool.eq_true_of_not_eq_false fun hf => hn ⟨hr, hf⟩

/-- What an oscillator that was measured shows (R512). -/
def Measured (cs : List Nat) (s : State) (i : Nat) : Prop :=
  (tget 0 s.nv.osc i ≠ 0 → tget 0 s.hlt.osc i = min 65535 (cs.getD i 0 * 32768 / tget 0 s.nv.osc i))
    ∧ (100 * tget 0 s.hlt.osc i < 95 * 32768 → s.hlt.oscLow.testBit i = true)

theorem ageRatio_of_otp {i count : Nat} {s : State} (h : tget 0 s.nv.osc i ≠ 0) : (ageRatio i count s).1 = min 65535 (count * 32768 / tget 0 s.nv.osc i) := by
  unfold ageRatio
  rw [if_neg h]

theorem ageStep_measured (cs : List Nat) (s : State) (i : Nat) : Measured cs (ageStep cs s i) i := by
  obtain ⟨hacts, hosc, hlow, -⟩ := ageStep_acts cs s i
  unfold Measured
  rw [hacts.nv, hosc, tget_tput, if_pos rfl]
  exact ⟨ageRatio_of_otp, hlow⟩

theorem ageStep_keeps (cs : List Nat) (s : State) (i k : Nat) (h : Measured cs s k) : Measured cs (ageStep cs s i) k := by
  by_cases hk : k = i
  · rw [hk]
    exact ageStep_measured cs s i
  · obtain ⟨hacts, hosc, -, hmono⟩ := ageStep_acts cs s i
    unfold Measured at h ⊢
    rw [hacts.nv, hosc, tget_tput, if_neg hk]
    exact ⟨h.1, fun hr => hmono k (h.2 hr)⟩

theorem ageing_measures {cs : List Nat} {s : State} (h : intervalOver s.hlt.ageAt tSec s = true) :
    (∀ i, i < 16 → i < cs.length → Measured cs (ageing cs s) i ∧ (s.hlt.oscLow.testBit i = true → (ageing cs s).hlt.oscLow.testBit i = true))
      ∧ AgeActs { s with hlt.ageAt := some s.wall } (ageing cs s) := by
  rw [ageing_over h]
  refine ⟨fun i hi hc => ⟨foldl_reaches (ageStep_measured cs) (ageStep_keeps cs) (List.mem_range.2 (by omega)) _, fun hb => ?_⟩, ?_⟩
  · exact foldl_holds (fun u => u.hlt.oscLow.testBit i = true) (fun u k hu => (ageStep_acts cs u k).2.2.2 i hu) _ { s with hlt.ageAt := some s.wall } hb
  · exact foldl_holds (AgeActs { s with hlt.ageAt := some s.wall }) (fun u k hu => hu.trans (ageStep_acts cs u k).1) _ _ rfl

theorem AgeActs.logOnly {s u : State} {w : Option Nat} (h : AgeActs { s with hlt.ageAt := w } u) :
    LogOnly { s with hlt.osc := u.hlt.osc, hlt.oscLow := u.hlt.oscLow, hlt.ageAt := w, ic := u.ic } u := h

/-! ### A rail's warning and the score -/

theorem railWarning_acts {i b mv : Nat} {s : State} (ho : (tget {} s.hlt.rails i).out = some b) (hm : (tget {} s.hlt.rails i).mv = some mv)
    (hl : (tget {} s.hlt.rails i).logged = false) (hb : b + 100 * tUs ≤ s.wall) :
    LogOnly { s with hlt.rails := tput {} s.hlt.rails i { tget {} s.hlt.rails i with logged := true }, hlt.warns := s.hlt.warns.add 1 }
      (railWarning i s) := by
  unfold railWarning
  dsimp only
  rw [ho, hm]
  dsimp only
  rw [if_neg (by rw [hl]; simpa using hb)]
  exact (logEv_logOnly ..).trans (wrapEv_logOnly ..)

theorem updScore_awake {s : State} (h : s.desk.st ≠ 7) : (updScore s).hlt.score = scoreBase s.desk.st - sumN (penalties s)
    ∧ (updScore s).desk.health = (updScore s).hlt.score
    ∧ updScore s = { s with desk.health := (updScore s).desk.health, hlt.score := (updScore s).hlt.score, hlt.penal := (updScore s).hlt.penal } := by
  unfold updScore
  rw [if_neg h]
  exact ⟨rfl, rfl, rfl⟩

/-! ### HEALTH_READ (R530) -/

theorem DeskOnly.withHlt {k : Nat} {s u : State} (h : DeskOnly k s u) (x : Hlt) :
    DeskOnly k { s with hlt := x } { u with hlt := x } := by
  obtain ⟨hu, hm⟩ := h
  refine ⟨?_, hm⟩
  rw [hu]
  rfl

theorem healthPayload_started (op t : Nat) (r : Req) (s : State) : healthPayload (started op t r s) = healthPayload s := by
  rw [started_eq]
  rfl

theorem length_healthPayload (s : State) : (healthPayload s).length = 132 := by
  unfold healthPayload
  simp [List.length_flatMap, leI, apply_ite]

theorem healthReadBody_done {op : Nat} {r : Req} {s : State} (hc : fld r.payload 0 1 < 4) (hz : allZero (r.payload.drop 1) = true) :
    healthReadBody op r s = .done rOK (healthPayload s) { s with
      hlt.steps := s.hlt.steps.clear ((fld r.payload 0 1).testBit 0) ((fld r.payload 0 1).testBit 1)
      hlt.warns := s.hlt.warns.clear ((fld r.payload 0 1).testBit 0) ((fld r.payload 0 1).testBit 1) } := by
  have hok : clearOk (fld r.payload 0 1) = true := by simpa [clearOk] using hc
  unfold healthReadBody
  exact if_neg (by rw [hok, hz]; decide)

theorem exec_healthRead (t : Nat) (r : Req) (s : State) :
    exec (.healthRead t r) s = .next (command { op := 0x0B10 } (lenEq 4) healthReadBody t r s) := rfl

theorem healthRead_completes {t : Nat} {r : Req} {s : State} (h : Ready r s) (hlen : r.payload.length = 4) (hc : fld r.payload 0 1 < 4)
    (hz : allZero (r.payload.drop 1) = true) :
    CompletesOk (.healthRead t r) r 0x0B10 s { advance t s with
      hlt.steps := s.hlt.steps.clear ((fld r.payload 0 1).testBit 0) ((fld r.payload 0 1).testBit 1)
      hlt.warns := s.hlt.warns.clear ((fld r.payload 0 1).testBit 0) ((fld r.payload 0 1).testBit 1) } (fun p => p = healthPayload s) := by
  have hhlt : (started 0x0B10 t r s).hlt = s.hlt := by rw [started_eq]
  refine completesOk_of_effect (exec_of_body h (exec_healthRead t r s) (by omega) (by simp [lenEq, hlen]) (healthReadBody_done hc hz))
    (started_origin 0x0B10 t r s) ?_ (healthPayload_started ..) (by rw [length_healthPayload]; decide)
  rw [hhlt]
  exact (started_deskOnly 0x0B10 t r s h.2.2.2.2.2).withHlt _

/-! ### HEALTH_SENSOR_RETIRE (R531) -/

/-- A sensor as it is retired, with the event of a sensor that was not. -/
def sensorRetired (n : Nat) (s : State) : State :=
  if (dieSensor s n).retired then setDieSensor s n { dieSensor s n with retired := true, subst := none }
  else logEv 0x0B04 (le 1 n ++ le 1 2) (setDieSensor s n { dieSensor s n with retired := true, subst := none })

theorem sensorRetired_acts (n : Nat) (s : State) : SensorActs s (sensorRetired n s) ∧ (∀ k, (mb (sensorRetired n s) k).origin = (mb s k).origin)
    ∧ ∀ k, dieSensor (sensorRetired n s) k = if k = n then { dieSensor s n with retired := true, subst := none } else dieSensor s k := by
  unfold sensorRetired
  split
  · exact ⟨rfl, fun _ => rfl, fun k => dieSensor_setDieSensor ..⟩
  · have hlog := logEv_logOnly 0x0B04 (le 1 n ++ le 1 2) (setDieSensor s n { dieSensor s n with retired := true, subst := none })
    exact ⟨logEv_setDieSensor .., fun k => by rw [hlog.mb k]; rfl, fun k => by rw [hlog.dieSensor, dieSensor_setDieSensor]⟩

theorem sensorRetireBody_done {op : Nat} {r : Req} {s : State} (hn : fld r.payload 0 1 < 24)
    (hl : 12 ≤ ((List.range 24).filter (fun k => (dieSensor s k).valid && k != fld r.payload 0 1)).length)
    (hz : allZero (r.payload.drop 1) = true) :
    sensorRetireBody op r s = .done rOK (le 4 (retiredMask (interlocked (sensorRetired (fld r.payload 0 1) s))))
      (interlocked (sensorRetired (fld r.payload 0 1) s)) := by
  unfold sensorRetireBody
  have hin : ¬(23 < fld r.payload 0 1 ∨ allZero (r.payload.drop 1) = false) := by
    rw [hz]
    simp only [Bool.true_eq_false, or_false]
    omega
  rw [if_neg (by omega), if_neg hin]
  rfl

theorem interlocked_origin (s : State) (k : Nat) : (mb (interlocked s) k).origin = (mb s k).origin := by
  have hlock := writeInterlock_acts (levelFault 18 (thermalCause s) s)
  rw [interlocked, hlock.mb k]
  exact origin_of_kept (steady_levelFault ..).1 k

theorem mbDone_thermal (k op result tag : Nat) (p : List Byte) (s : State) :
    ThermalActs s (mbDone k op result tag p s) ∧ (mbDone k op result tag p s).hlt = s.hlt := by
  rw [mbDone_frame]
  exact ⟨⟨rfl, rfl, rfl, rfl⟩, rfl⟩

theorem retiredMask_of_hlt {s u : State} (h : u.hlt = s.hlt) : retiredMask u = retiredMask s := by
  unfold retiredMask dieSensor
  rw [h]

theorem exec_healthSensorRetire (t : Nat) (r : Req) (s : State) :
    exec (.healthSensorRetire t r) s = .next (command { op := 0x0B11 } (lenEq 4) sensorRetireBody t r s) := rfl

theorem sensorRetire_completes {t : Nat} {r : Req} {s : State} (h : Ready r s) (hlen : r.payload.length = 4)
    (hz : allZero (r.payload.drop 1) = true) (hn : fld r.payload 0 1 < 24)
    (hl : 12 ≤ ((List.range 24).filter (fun k => (dieSensor s k).valid && k != fld r.payload 0 1)).length) :
    Runs (.healthSensorRetire t r) s (fun u => Answered r 0x0B11 rOK (le 4 (retiredMask u)) u
      ∧ dieSensor u (fld r.payload 0 1) = { dieSensor s (fld r.payload 0 1) with retired := true, subst := none }
      ∧ (∀ k, k ≠ fld r.payload 0 1 → dieSensor u k = dieSensor s k)
      ∧ u.nk.wrHeld = writeHold u ∧ u.nv = s.nv ∧ u.par.inForce = s.par.inForce ∧ u.par.shadow = s.par.shadow ∧ u.mem = s.mem ∧ u.cal = s.cal
      ∧ u.tal = s.tal ∧ u.ext = s.ext) := by
  have hstart : ∀ k, dieSensor (started 0x0B11 t r s) k = dieSensor s k := fun k => by rw [started_eq]; rfl
  obtain ⟨hretire, horigin, hsensor⟩ := sensorRetired_acts (fld r.payload 0 1) (started 0x0B11 t r s)
  obtain ⟨hacts, hclimate, hheld⟩ := interlocked_acts (sensorRetired (fld r.payload 0 1) (started 0x0B11 t r s))
  have ho : (mb (interlocked (sensorRetired (fld r.payload 0 1) (started 0x0B11 t r s))) r.mb).origin = none :=
    (interlocked_origin ..).trans ((horigin _).trans (started_origin ..))
  have hx := exec_of_body h (exec_healthSensorRetire t r s) (by omega) (by simp [lenEq, hlen])
    (sensorRetireBody_done (op := 0x0B11) (s := started 0x0B11 t r s) hn (by simpa only [hstart] using hl) hz)
  have hacts := hretire.thermal.trans hacts
  generalize interlocked (sensorRetired (fld r.payload 0 1) (started 0x0B11 t r s)) = e at *
  obtain ⟨hdone, hhlt⟩ := mbDone_thermal r.mb 0x0B11 rOK r.tag (le 4 (retiredMask e)) e
  have hnk := (mbDone_units r.mb 0x0B11 rOK r.tag (le 4 (retiredMask e)) e).1
  obtain ⟨hlog, hforce, hshadow, -⟩ := hacts.trans hdone
  have hans := mbDone_answered r 0x0B11 rOK (le 4 (retiredMask e)) e ho (.inl rfl) (by simp)
  refine ⟨_, hx, ?_⟩
  generalize mbDone r.mb 0x0B11 rOK r.tag (le 4 (retiredMask e)) e = u at *
  have hdie : ∀ k, dieSensor u k = if k = fld r.payload 0 1 then { dieSensor s (fld r.payload 0 1) with retired := true, subst := none } else dieSensor s k :=
    fun k => by rw [dieSensor, hhlt, ← dieSensor, dieSensor_of_climate hclimate, hsensor k, hstart, hstart]
  rw [retiredMask_of_hlt hhlt]
  refine ⟨hans, (hdie _).trans (if_pos rfl), fun k hk => (hdie k).trans (if_neg hk), ?_, ?_⟩
  · rw [hnk, hheld, writeHold_of_hlt (by rw [hhlt])]
  · rw [hforce, hshadow, started_par]
    unfold LogOnly at hlog
    rw [hlog, started_eq]
    exact ⟨rfl, rfl, rfl, rfl, rfl, rfl, rfl⟩

/-- Settles O37: a clause per event and command. -/
theorem healthRuns : Obligations.HealthRuns := by
  unfold Obligations.HealthRuns
  refine ⟨fun t rs s => ⟨fun h => ?_, fun h => ?_⟩, fun t b s ha hm hb => ⟨fun hr => ?_, fun hr hc => ?_⟩,
    fun t mvs s => ⟨fun h => ?_, fun h => ?_⟩, ?_, fun t cs s ha => ⟨fun h => ?_, fun h => ?_⟩, ?_, ?_, ?_⟩
  · exact congrArg Host.Outcome.next (tempSample_waits (s := advance t s) h)
  · obtain ⟨⟨hlog, hforce, hshadow, hframe⟩, hclimate, hheld⟩ := tempSample_acts (rs := rs) (s := advance t s) h
    obtain ⟨-, hat, hread, hretired⟩ := converted_acts rs (advance t s)
    have hsensor := dieSensor_of_climate hclimate
    refine ⟨_, rfl, fun n hn hq => ?_, fun n => ?_, hheld, (tempAt_of_climate hclimate).trans hat, hlog, hforce, hshadow, hframe⟩
    · obtain ⟨ht, hmiss, -⟩ := DieSensor.fields_of_shown (hread n (mem_sampledSet hn hq))
      obtain ⟨ht', hmiss'⟩ := take_shown (dieSensor (advance t s) n) (rs.getD n none)
      rw [hsensor n]
      exact ⟨ht.trans ht', hmiss.trans hmiss'⟩
    · rw [hsensor n]
      exact hretired n
  · have htimes := setTarget_times (min 8 (s.hlt.target + 1)) { advance t s with hlt.riseAt := some (b + 100 * tMs) }
    obtain ⟨htarget, hrise, -⟩ := times_fields htimes
    refine ⟨_, exec_live rfl ha (throttleTimer_rise (s := advance t s) hm hr hb), htarget, hrise, ?_⟩
    exact ThrottleActs.logOnly (ThrottleActs.trans (u := { advance t s with hlt.riseAt := some (b + 100 * tMs) }) rfl (setTarget_throttleActs ..))
  · refine ⟨_, exec_live rfl ha (throttleTimer_cool (s := advance t s) hm hr hc hb), ?_⟩
    have hsub : substituted (advance t s) = substituted s := rfl
    rw [hsub, show (advance t s).hlt = s.hlt from rfl]
    cases s.hlt.barred || substituted s with
    | true => exact ⟨rfl, rfl, rfl⟩
    | false =>
      obtain ⟨htarget, -, hcool⟩ := times_fields (setTarget_times (s.hlt.target - 1) { advance t s with hlt.coolAt := some (b + tSec) })
      exact ⟨htarget, hcool,
        ThrottleActs.logOnly (ThrottleActs.trans (u := { advance t s with hlt.coolAt := some (b + tSec) }) rfl (setTarget_throttleActs ..))⟩
  · exact congrArg Host.Outcome.next (voltageSample_waits (s := advance t s) h)
  · obtain ⟨hrails, hvdd, hacts, hsame⟩ := voltageSample_acts (mvs := mvs) (s := advance t s) h
    refine ⟨_, rfl, fun i hi => ?_, hvdd, hacts, hsame⟩
    rw [hrails]
    exact railsSampled_mv mvs (advance t s) hi
  · intro t i b mv s ha x ho hm hl hb
    exact runs_live rfl ha (railWarning_acts (s := advance t s) ho hm hl hb)
  · exact exec_live rfl ha (if_pos h)
  · obtain ⟨hmeas, hacts⟩ := ageing_measures (cs := cs) (s := advance t s) h
    refine ⟨_, exec_live rfl ha rfl, fun i hi hc => ?_, hacts.logOnly⟩
    obtain ⟨⟨hratio, hlow⟩, hkeep⟩ := hmeas i hi hc
    rw [hacts.nv] at hratio
    exact ⟨hratio, hlow, hkeep⟩
  · intro t s ha
    exact runs_live rfl ha (updScore_awake (s := advance t s) ha.2)
  · exact fun t r s h hlen hc hz => healthRead_completes h hlen hc hz
  · exact fun t r s h hlen hz hn hl => sensorRetire_completes h hlen hz hn hl

end Sys2Proof.Machine
end

section
/-! SUPPORT. The flash's image slots and boot directory (R465, R466), and O55. -/

namespace Sys2Proof.Machine

/-! ### The boot directory (R465) -/

section
variable {d : BootDir}

/-- The fields of a directory copy in their places (R465). -/
theorem fld_dirBytes (d : BootDir) : fld (dirBytes d) 0 4 = 1 ∧ fld (dirBytes d) 4 4 = d.seq % 256 ^ 4 ∧ fld (dirBytes d) 8 1 = d.active % 256 ^ 1
    ∧ fld (dirBytes d) 9 1 = d.trial % 256 ^ 1 ∧ fld (dirBytes d) 10 1 = d.boots % 256 ^ 1 ∧ (dirBytes d).length = 16
    ∧ fld (dirBytes d) 12 4 = crc32 ((dirBytes d).take 12) % 256 ^ 4 := by
  have hhead : (le 4 1 ++ le 4 d.seq ++ le 1 d.active ++ le 1 d.trial ++ le 1 d.boots ++ le 1 0).length = 12 := by simp
  have htake : ∀ c : List Byte, ((le 4 1 ++ le 4 d.seq ++ le 1 d.active ++ le 1 d.trial ++ le 1 d.boots ++ le 1 0) ++ c).take 12
      = le 4 1 ++ le 4 d.seq ++ le 1 d.active ++ le 1 d.trial ++ le 1 d.boots ++ le 1 0 := fun c => List.take_left' hhead
  have hcheck : fld (dirBytes d) 12 4 = crc32 ((dirBytes d).take 12) % 256 ^ 4 := by
    unfold dirBytes
    dsimp only
    rw [htake, List.take_of_length_le (le_of_eq hhead), ← List.append_nil (le 4 (crc32 _)), fld_append hhead (length_le ..), unle_le]
  refine ⟨?_, ?_, ?_, ?_, ?_, ?_, hcheck⟩
  · unfold dirBytes
    simp only [List.append_assoc]
    exact (fld_append (a := []) rfl (length_le ..)).trans (unle_le ..)
  · unfold dirBytes
    simp only [List.append_assoc]
    rw [fld_append (length_le ..) (length_le ..), unle_le]
  · unfold dirBytes
    simp only [List.append_assoc]
    rw [← List.append_assoc (le 4 1), fld_append (by simp) (length_le ..), unle_le]
  · unfold dirBytes
    simp only [List.append_assoc]
    rw [← List.append_assoc (le 4 1), ← List.append_assoc (le 4 1 ++ le 4 d.seq), fld_append (by simp) (length_le ..), unle_le]
  · unfold dirBytes
    simp only [List.append_assoc]
    rw [← List.append_assoc (le 4 1), ← List.append_assoc (le 4 1 ++ le 4 d.seq), ← List.append_assoc (le 4 1 ++ le 4 d.seq ++ le 1 d.active),
      fld_append (by simp) (length_le ..), unle_le]
  · simp [dirBytes]

/-- A directory whose fields fit reads back as it was written (R465). -/
theorem dirRead_dirBytes (hs : d.seq < 2 ^ 32) (ha : d.active < 2) (ht : d.trial < 256) (hb : d.boots < 256) : dirRead (dirBytes d) = some d := by
  obtain ⟨hform, hseq, hact, htri, hboots, hlen, hcheck⟩ := fld_dirBytes d
  have hc : crc32 ((dirBytes d).take 12) % 256 ^ 4 = crc32 ((dirBytes d).take 12) := Nat.mod_eq_of_lt (crc32_lt _)
  unfold dirRead
  rw [if_pos ⟨hlen, hform, hcheck.trans hc⟩, hseq, hact, htri, hboots]
  refine congrArg some ?_
  rw [Nat.mod_eq_of_lt (show d.seq < 256 ^ 4 by omega), Nat.mod_eq_of_lt (show d.active < 256 ^ 1 by omega), Nat.mod_eq_of_lt ha,
    Nat.mod_eq_of_lt (show d.trial < 256 ^ 1 by omega), Nat.mod_eq_of_lt (show d.boots < 256 ^ 1 by omega)]

end

/-- The directory that a write puts in force (R465). -/
def nextDir (a tr n : Nat) (s : State) : BootDir := { seq := (bootDir s).seq + 1, active := a, trial := tr, boots := n }

/-- Where copy 0 governs, it holds the directory in force (R465). -/
theorem bootDir_of_copy0 {s : State} (h : dirCopy s = some 0) : dirRead s.nv.dir0 = some (bootDir s) := by
  unfold bootDir
  rw [h]
  unfold dirCopy at h
  cases h0 : dirRead s.nv.dir0 with
  | some a => rfl
  | none => cases h1 : dirRead s.nv.dir1 <;> simp [h0, h1] at h

/-- Where copy 0 does not govern, copy 1 is not valid or holds the directory in force (R465). -/
theorem bootDir_of_copy1 {s : State} (h : dirCopy s ≠ some 0) : dirRead s.nv.dir1 = none ∨ dirRead s.nv.dir1 = some (bootDir s) := by
  unfold bootDir
  unfold dirCopy at h ⊢
  cases h1 : dirRead s.nv.dir1 with
  | none => exact .inl rfl
  | some b =>
    right
    cases h0 : dirRead s.nv.dir0 with
    | none => rfl
    | some a =>
      simp only [h0, h1] at h ⊢
      split at h
      · next hlt => rw [if_pos hlt]; rfl
      · exact absurd rfl h

/-- A write goes to the copy that does not govern, and governs from then on (R465). -/
theorem dirWrite_governs {a tr n : Nat} {s : State} (ha : a < 2) (ht : tr < 256) (hn : n < 256) (hs : (bootDir s).seq + 1 < 2 ^ 32) :
    bootDir (dirWrite a tr n s) = nextDir a tr n s ∧ dirCopy (dirWrite a tr n s) ≠ dirCopy s := by
  have hread : dirRead (dirBytes (nextDir a tr n s)) = some (nextDir a tr n s) := dirRead_dirBytes hs ha ht hn
  have hseq : (nextDir a tr n s).seq = (bootDir s).seq + 1 := rfl
  by_cases h0 : dirCopy s = some 0
  · have hw : dirWrite a tr n s = { s with nv.dir1 := dirBytes (nextDir a tr n s) } := if_pos h0
    have hcopy : dirCopy (dirWrite a tr n s) = some 1 := by
      rw [hw, dirCopy]
      dsimp only
      rw [hread, bootDir_of_copy0 h0]
      dsimp only
      rw [if_pos (by omega)]
    refine ⟨?_, by rw [hcopy, h0]; decide⟩
    rw [bootDir, hcopy, hw]
    exact congrArg (Option.getD · {}) hread
  · have hw : dirWrite a tr n s = { s with nv.dir0 := dirBytes (nextDir a tr n s) } := if_neg h0
    have hcopy : dirCopy (dirWrite a tr n s) = some 0 := by
      rw [hw, dirCopy]
      dsimp only
      rw [hread]
      rcases bootDir_of_copy1 h0 with h1 | h1
      · rw [h1]
      · rw [h1]
        dsimp only
        rw [if_neg (by omega)]
    refine ⟨?_, by rw [hcopy]; exact Ne.symm h0⟩
    rw [bootDir, hcopy, hw]
    exact congrArg (Option.getD · {}) hread

/-- Beside the copy it writes, a directory write leaves everything (R465). -/
theorem dirWrite_eq (a tr n : Nat) (s : State) : dirWrite a tr n s = { s with
    nv.dir0 := if dirCopy s = some 0 then s.nv.dir0 else (dirWrite a tr n s).nv.dir0
    nv.dir1 := if dirCopy s = some 0 then (dirWrite a tr n s).nv.dir1 else s.nv.dir1 } := by
  unfold dirWrite
  dsimp only
  split <;> rfl

/-! ### Images (R466) -/

/-- The first of the six steps that fails, counted from 1 (R466). -/
theorem imageStep_findIdx (s : State) (k : Nat) : imageStep s k =
    (match ([headerOk s k, keyKnown s.nv.imgKeys (slotNum s k 20 1) (slotGet s k 24 64), !s.nv.imgRevoked.testBit (slotNum s k 20 1),
      decide (s.nv.rollback ≤ slotRollback s k), slotGet s k 88 32 == digest (slotGet s k 256 (slotNum s k 16 4)),
      Config.ecdsaOk (slotGet s k 24 64) (digest (slotGet s k 0 120)) (slotGet s k 120 64)]).findIdx? (· == false) with
      | some i => i + 1 | none => 0) := by
  unfold imageStep
  dsimp only
  simp only [List.findIdx?_cons, List.findIdx?_nil]
  cases headerOk s k with
  | false => rfl
  | true =>
    cases keyKnown s.nv.imgKeys (slotNum s k 20 1) (slotGet s k 24 64) with
    | false => rfl
    | true =>
      cases s.nv.imgRevoked.testBit (slotNum s k 20 1) with
      | true => rfl
      | false =>
        by_cases hroll : s.nv.rollback ≤ slotRollback s k
        · rw [if_neg (by omega : ¬slotRollback s k < s.nv.rollback), decide_eq_true hroll]
          by_cases hdig : slotGet s k 88 32 = digest (slotGet s k 256 (slotNum s k 16 4))
          · rw [if_neg (not_not.2 hdig), beq_iff_eq.2 hdig]
            cases Config.ecdsaOk (slotGet s k 24 64) (digest (slotGet s k 0 120)) (slotGet s k 120 64) <;> rfl
          · rw [if_pos hdig, beq_eq_false_iff_ne.2 hdig]
            rfl
        · rw [if_pos (by omega : slotRollback s k < s.nv.rollback), decide_eq_false hroll]
          rfl

/-! ### Completion -/

/-- A response whose result carries its payload is what the mailbox holds (R446, R452, R453). -/
theorem mbDone_answered_of_payload (r : Req) (op result : Nat) (p : List Byte) (s : State) (ho : (mb s r.mb).origin = none)
    (hr : ¬(result = rBadOpcode ∨ result = rSafetyLocked ∨ result = rNotPermitted ∨ result = rBUSY)) (hp : p.length ≤ 244) :
    Answered r op result p (mbDone r.mb op result r.tag p s) := by
  obtain ⟨hst, hres, hop, hbuf⟩ := mbDone_mailbox r.mb op result r.tag p s ho
  have hbytes : respBytes op result r.tag p = le 2 op ++ le 2 result ++ le 4 r.tag ++ le 2 p.length ++ le 2 0 ++ p := by
    unfold respBytes
    rw [if_neg hr]
  have hlen : (le 2 op ++ le 2 result ++ le 4 r.tag ++ le 2 p.length ++ le 2 0 ++ p).length = 12 + p.length := by
    simp only [List.length_append, length_le]
  refine ⟨hst, hres, hop, ?_⟩
  rw [hbuf, hbytes, take_self_of_length (by omega), ← hlen, cgets_cputs]

/-- A mailbox whose request is not the one that completes keeps all it holds, whoever is answered (R447). -/
theorem mbDone_other (k op result tag : Nat) (p : List Byte) (s : State) {j : Nat} (hj : j ≠ k) : mb (mbDone k op result tag p s) j = mb s j := by
  have hwrap : mb (wrapEv (mb s k).completed 1 0x0009 (le 1 2 ++ le 1 k) s) j = mb s j := (wrapEv_logOnly ..).mb j
  unfold mbDone
  dsimp only
  split
  · rw [LogOnly.mb (attnSet_logOnly _ _), mb_setMb, if_neg hj, hwrap]
  · refine Eq.trans ?_ hwrap
    simp [mb, setMb, tget_tput, hj]

theorem DeskOnly.withNv {k : Nat} {s u : State} (h : DeskOnly k s u) (x : Nv) :
    DeskOnly k { s with nv := x } { u with nv := x } := by
  obtain ⟨hu, hm⟩ := h
  refine ⟨?_, hm⟩
  rw [hu]
  rfl

section
variable (op t : Nat) (r : Req) (s : State)

theorem flashBusy_started : flashBusy (started op t r s) = flashBusy s := by
  rw [started_eq]
  rfl

theorem imageStep_started (k : Nat) : imageStep (started op t r s) k = imageStep s k := by
  rw [started_eq]
  rfl

theorem bootDir_started : bootDir (started op t r s) = bootDir s := by
  rw [started_eq]
  rfl

theorem started_update : (started op t r s).desk.slot = s.desk.slot ∧ (started op t r s).desk.trial = s.desk.trial
    ∧ (started op t r s).desk.fwWait = s.desk.fwWait ∧ (started op t r s).desk.erase = s.desk.erase := by
  rw [started_eq]
  exact ⟨rfl, rfl, rfl, rfl⟩

theorem fwAnswer_started (k n : Nat) : fwAnswer (started op t r s) k n = fwAnswer s k n := by
  rw [started_eq]
  rfl

end

theorem length_fwAnswer (s : State) (k n : Nat) : (fwAnswer s k n).length = 8 := by simp [fwAnswer]

/-- A request that stays pending in its mailbox. -/
theorem started_busy (op t : Nat) (r : Req) (s : State) : (mb (started op t r s) r.mb).st = 1 := by
  rw [started_mb, if_pos rfl]

/-! ### FW_WRITE (R294, R468) -/

section
variable {op : Nat} {r : Req} {s : State}

/-- What an admitted FW_WRITE gives (R468). -/
theorem fwWriteBody_eq (h1 : 1 ≤ fld r.payload 4 2) (h240 : fld r.payload 4 2 ≤ 240) (ho : fld r.payload 0 4 + fld r.payload 4 2 ≤ slotSize)
    (hz : fld r.payload 6 2 = 0) : fwWriteBody op r s = if flashBusy s then flashWait r s
      else if s.nk.wrHeld then .done rSafetyLocked [] s else .done rOK [] (slotPut (fld r.payload 0 4) (r.payload.drop 8) s) := by
  unfold fwWriteBody
  exact if_neg (by omega)

/-- What a well-formed FW_UPDATE that its action admits gives (R467, R468). -/
theorem fwUpdateBody_eq (hp : ¬((s.desk.recovery = true ∧ (fld r.payload 0 1 = 3 ∨ fld r.payload 0 1 = 4))
      ∨ (fld r.payload 0 1 = 3 ∧ (s.desk.trial = false ∨ s.desk.st < 2))
      ∨ (fld r.payload 0 1 = 4 ∧ ¬((bootDir s).trial = 1 ∧ (bootDir s).boots = 0 ∧ (bootDir s).active ≠ s.desk.slot))))
    (ha : fld r.payload 0 1 ≠ 0) (h4 : fld r.payload 0 1 ≤ 4) (hz : allZero (r.payload.drop 1) = true) :
    fwUpdateBody op r s = if flashBusy s then flashWait r s else if s.nk.wrHeld then .done rSafetyLocked [] s
      else if fld r.payload 0 1 = 1 then .pending { s with desk.erase := some r.mb } else if fld r.payload 0 1 = 2 then fwVerify s
      else if fld r.payload 0 1 = 3 then fwConfirm s else fwCancel s := by
  unfold fwUpdateBody
  rw [if_neg hp, if_neg (by rw [hz]; simp only [Bool.true_eq_false, or_false]; omega)]

end

end Sys2Proof.Machine
end

section
/-! SUPPORT. FW_WRITE and FW_UPDATE (R294, R467, R468), the end of an erase, and O55. -/

namespace Sys2Proof.Machine

/-! ### What a write of the flash keeps of the desk -/

theorem slotPut_nv (o : Nat) (l : List Byte) (s : State) : slotPut o l s = { s with
    nv := if s.desk.slot = 0 then { s.nv with slotB := cputs 0xFF#8 s.nv.slotB o l } else { s.nv with slotA := cputs 0xFF#8 s.nv.slotA o l } } := by
  unfold slotPut
  split <;> rfl

theorem dirWrite_nv (a tr n : Nat) (s : State) : dirWrite a tr n s = { s with
    nv := if dirCopy s = some 0 then { s.nv with dir1 := dirBytes (nextDir a tr n s) } else { s.nv with dir0 := dirBytes (nextDir a tr n s) } } := by
  unfold dirWrite nextDir
  dsimp only
  split <;> rfl

theorem mb_dirWrite (a tr n : Nat) (s : State) (k : Nat) : mb (dirWrite a tr n s) k = mb s k := by
  rw [dirWrite_nv]
  rfl

section
variable {k : Nat} {s u : State} (h : DeskOnly k s u)
include h

theorem DeskOnly.slotPut (o : Nat) (l : List Byte) : DeskOnly k (Machine.slotPut o l s) (Machine.slotPut o l u) := by
  have hslot : u.desk.slot = s.desk.slot := by rw [h.1]; rfl
  have hnv : u.nv = s.nv := by rw [h.1]; rfl
  rw [slotPut_nv, slotPut_nv, hslot, hnv]
  exact h.withNv _

theorem DeskOnly.dirWrite (a tr n : Nat) : DeskOnly k (Machine.dirWrite a tr n s) (Machine.dirWrite a tr n u) := by
  have hnv : u.nv = s.nv := by rw [h.1]; rfl
  have hcopy : dirCopy u = dirCopy s := by rw [dirCopy, hnv]; rfl
  have hdir : bootDir u = bootDir s := by rw [bootDir, hcopy, hnv]; rfl
  rw [dirWrite_nv, dirWrite_nv, nextDir, nextDir, hcopy, hdir, hnv]
  exact h.withNv _

theorem DeskOnly.withTrial (tr : Bool) : DeskOnly k { s with desk.trial := tr } { u with desk.trial := tr } := ⟨by rw [h.1]; rfl, h.2⟩
theorem DeskOnly.withErase (e : Option Nat) : DeskOnly k { s with desk.erase := e } { u with desk.erase := e } := ⟨by rw [h.1]; rfl, h.2⟩
theorem DeskOnly.withWait (w : List Nat) : DeskOnly k { s with desk.fwWait := w } { u with desk.fwWait := w } := ⟨by rw [h.1]; rfl, h.2⟩

end

/-! ### FW_WRITE -/

section
variable {t : Nat} {r : Req} {s : State} (h : Ready r s)

theorem exec_fwWrite (t : Nat) (r : Req) (s : State) : exec (.fwWrite t r) s = .next (command { op := 0x0013, recovery := true }
    (fun p => decide (8 ≤ p.length) && p.length == 8 + fld p 4 2) fwWriteBody t r s) := rfl

theorem exec_fwUpdate (t : Nat) (r : Req) (s : State) : exec (.fwUpdate t (r.mb, r.tag) r.payload) s =
    .next (command { op := 0x0014, recovery := true } (lenEq 4) fwUpdateBody t r s) := rfl

/-- A request that finds the flash taken waits for it (R468). -/
theorem flashWait_runs {op : Nat} {i : Instr} (h : Ready r s) (hx : exec i s = .next { started op t r s with desk.fwWait := s.desk.fwWait ++ [r.mb] }) :
    Runs i s (fun u => (mb u r.mb).st = 1 ∧ DeskOnly r.mb { advance t s with desk.fwWait := s.desk.fwWait ++ [r.mb] } u) :=
  ⟨_, hx, started_busy op t r s, (started_deskOnly op t r s h.2.2.2.2.2).withWait _⟩

theorem flashWait_started (op t : Nat) (r : Req) (s : State) :
    flashWait r (started op t r s) = .pending { started op t r s with desk.fwWait := s.desk.fwWait ++ [r.mb] } := by
  unfold flashWait
  rw [(started_update op t r s).2.2.1]

include h

theorem fwWrite_runs (hlen : r.payload.length = 8 + fld r.payload 4 2) (h1 : 1 ≤ fld r.payload 4 2) (h240 : fld r.payload 4 2 ≤ 240)
    (ho : fld r.payload 0 4 + fld r.payload 4 2 ≤ slotSize) (hz : fld r.payload 6 2 = 0) :
    (flashBusy s = true → Runs (.fwWrite t r) s (fun u => (mb u r.mb).st = 1
      ∧ DeskOnly r.mb { advance t s with desk.fwWait := s.desk.fwWait ++ [r.mb] } u)) ∧
    (flashBusy s = false → s.nk.wrHeld = false →
      CompletesOk (.fwWrite t r) r 0x0013 s (slotPut (fld r.payload 0 4) (r.payload.drop 8) (advance t s)) (fun p => p = [])) ∧
    (flashBusy s = false → s.nk.wrHeld = true → RefusedWith (.fwWrite t r) r 0x0013 rSafetyLocked t s) := by
  have hbody := fwWriteBody_eq (op := 0x0013) (s := started 0x0013 t r s) h1 h240 ho hz
  have hok : (decide (8 ≤ r.payload.length) && r.payload.length == 8 + fld r.payload 4 2) = true := by simp [hlen]
  rw [flashBusy_started, started_nk, flashWait_started] at hbody
  refine ⟨fun hb => ?_, fun hb hw => ?_, fun hb hw => ?_⟩
  · rw [if_pos hb] at hbody
    exact flashWait_runs h (exec_of_pending h (exec_fwWrite t r s) (by omega) hok hbody)
  · rw [hb, hw] at hbody
    refine completesOk_of_effect (exec_of_body h (exec_fwWrite t r s) (by omega) hok hbody) ?_
      ((started_deskOnly 0x0013 t r s h.2.2.2.2.2).slotPut _ _) rfl (by simp)
    rw [slotPut_nv]
    exact started_origin 0x0013 t r s
  · rw [hb, hw] at hbody
    exact refusedWith_of_done h (exec_of_body h (exec_fwWrite t r s) (by omega) hok hbody) (mbDone_answered_empty r _ _ _ (started_origin ..))

/-! ### FW_UPDATE -/

/-- What a well-formed FW_UPDATE that its action admits gives, once it has started (R467, R468). -/
theorem fwUpdate_body (hp : ¬((fld r.payload 0 1 = 3 ∧ (s.desk.trial = false ∨ s.desk.st < 2))
      ∨ (fld r.payload 0 1 = 4 ∧ ¬((bootDir s).trial = 1 ∧ (bootDir s).boots = 0 ∧ (bootDir s).active ≠ s.desk.slot))))
    (ha : fld r.payload 0 1 ≠ 0) (h4 : fld r.payload 0 1 ≤ 4) (hz : allZero (r.payload.drop 1) = true) :
    fwUpdateBody 0x0014 r (started 0x0014 t r s) =
      if flashBusy s then .pending { started 0x0014 t r s with desk.fwWait := s.desk.fwWait ++ [r.mb] }
      else if s.nk.wrHeld then .done rSafetyLocked [] (started 0x0014 t r s)
      else if fld r.payload 0 1 = 1 then .pending { started 0x0014 t r s with desk.erase := some r.mb }
      else if fld r.payload 0 1 = 2 then fwVerify (started 0x0014 t r s)
      else if fld r.payload 0 1 = 3 then fwConfirm (started 0x0014 t r s) else fwCancel (started 0x0014 t r s) := by
  obtain ⟨hslot, htrial, -, -⟩ := started_update 0x0014 t r s
  have hrec : s.desk.recovery = false := h.2.2.2.1
  have hadmit : ¬(((started 0x0014 t r s).desk.recovery = true ∧ (fld r.payload 0 1 = 3 ∨ fld r.payload 0 1 = 4))
      ∨ (fld r.payload 0 1 = 3 ∧ ((started 0x0014 t r s).desk.trial = false ∨ (started 0x0014 t r s).desk.st < 2))
      ∨ (fld r.payload 0 1 = 4 ∧ ¬((bootDir (started 0x0014 t r s)).trial = 1 ∧ (bootDir (started 0x0014 t r s)).boots = 0
        ∧ (bootDir (started 0x0014 t r s)).active ≠ (started 0x0014 t r s).desk.slot))) := by
    rw [started_recovery, hrec, htrial, hslot, bootDir_started, started_st]
    exact fun hc => hp (hc.resolve_left fun hr => Bool.false_ne_true hr.1)
  have hheld : (started 0x0014 t r s).nk.wrHeld = s.nk.wrHeld := by rw [started_nk]
  rw [fwUpdateBody_eq hadmit ha h4 hz, flashBusy_started, hheld, flashWait_started]

theorem fwUpdate_waits (hlen : r.payload.length = 4) (hz : allZero (r.payload.drop 1) = true) (hb : flashBusy s = true)
    (ha : fld r.payload 0 1 = 1 ∨ fld r.payload 0 1 = 2) :
    Runs (.fwUpdate t (r.mb, r.tag) r.payload) s (fun u => (mb u r.mb).st = 1
      ∧ DeskOnly r.mb { advance t s with desk.fwWait := s.desk.fwWait ++ [r.mb] } u) := by
  have hbody := fwUpdate_body (t := t) h (by omega) (by omega) (by omega) hz
  rw [if_pos hb] at hbody
  exact flashWait_runs h (exec_of_pending h (exec_fwUpdate t r s) (by omega) (by simp [lenEq, hlen]) hbody)

section
variable (hlen : r.payload.length = 4) (hz : allZero (r.payload.drop 1) = true) (hb : flashBusy s = false) (hw : s.nk.wrHeld = false)
include hlen hz hb hw

/-- Action 1: the erase is pending (R468). -/
theorem fwErase_runs (ha : fld r.payload 0 1 = 1) : Runs (.fwUpdate t (r.mb, r.tag) r.payload) s (fun u => (mb u r.mb).st = 1
    ∧ u.desk.erase = some r.mb ∧ DeskOnly r.mb { advance t s with desk.erase := some r.mb } u) := by
  have hbody := fwUpdate_body (t := t) h (by omega) (by omega) (by omega) hz
  rw [hb, hw, if_pos ha] at hbody
  exact ⟨_, exec_of_pending h (exec_fwUpdate t r s) (by omega) (by simp [lenEq, hlen]) hbody, started_busy 0x0014 t r s, rfl,
    (started_deskOnly 0x0014 t r s h.2.2.2.2.2).withErase _⟩

/-- Action 2: the image is verified and made active for a trial (R466, R468). -/
theorem fwVerify_runs (ha : fld r.payload 0 1 = 2) : Runs (.fwUpdate t (r.mb, r.tag) r.payload) s (fun u =>
    Answered r 0x0014 (if imageStep s (1 - s.desk.slot) = 0 then rOK else rCheckMismatch)
      (fwAnswer s (1 - s.desk.slot) (imageStep s (1 - s.desk.slot))) u
    ∧ DeskOnly r.mb (if imageStep s (1 - s.desk.slot) = 0 then dirWrite (1 - s.desk.slot) 1 0 (advance t s) else advance t s) u) := by
  have hbody := fwUpdate_body (t := t) h (by omega) (by omega) (by omega) hz
  have hdesk := started_deskOnly 0x0014 t r s h.2.2.2.2.2
  rw [hb, hw, if_neg (by omega : ¬fld r.payload 0 1 = 1), if_pos ha] at hbody
  unfold fwVerify at hbody
  rw [(started_update 0x0014 t r s).1] at hbody
  simp only [imageStep_started, fwAnswer_started] at hbody
  by_cases hbad : imageStep s (1 - s.desk.slot) = 0
  · have ho : (mb (dirWrite (1 - s.desk.slot) 1 0 (started 0x0014 t r s)) r.mb).origin = none := by
      rw [mb_dirWrite]
      exact started_origin ..
    rw [if_neg (not_not.2 hbad)] at hbody
    refine ⟨_, exec_of_body h (exec_fwUpdate t r s) (by omega) (by simp [lenEq, hlen]) hbody, ?_⟩
    rw [if_pos hbad, if_pos hbad, hbad]
    exact ⟨mbDone_answered r _ _ _ _ ho (.inl rfl) (by rw [length_fwAnswer]; decide), (hdesk.dirWrite _ _ _).trans (mbDone_deskOnly _ _ _ _ _ _ ho)⟩
  · have ho := started_origin 0x0014 t r s
    rw [if_pos hbad] at hbody
    refine ⟨_, exec_of_body h (exec_fwUpdate t r s) (by omega) (by simp [lenEq, hlen]) hbody, ?_⟩
    rw [if_neg hbad, if_neg hbad]
    exact ⟨mbDone_answered_of_payload r _ _ _ _ ho (by decide) (by rw [length_fwAnswer]; decide), hdesk.trans (mbDone_deskOnly _ _ _ _ _ _ ho)⟩

/-- Action 3: the running trial is confirmed (R468, R471). -/
theorem fwConfirm_completes (ha : fld r.payload 0 1 = 3) (htr : s.desk.trial = true) (hst : 2 ≤ s.desk.st) :
    CompletesOk (.fwUpdate t (r.mb, r.tag) r.payload) r 0x0014 s
      (dirWrite (bootDir s).active 0 (bootDir s).boots { advance t s with
        desk.trial := false, nv.rollback := max s.nv.rollback (slotRollback s s.desk.slot) })
      (fun p => p = fwAnswer s s.desk.slot 0) := by
  have hadmit : ¬((fld r.payload 0 1 = 3 ∧ (s.desk.trial = false ∨ s.desk.st < 2))
      ∨ (fld r.payload 0 1 = 4 ∧ ¬((bootDir s).trial = 1 ∧ (bootDir s).boots = 0 ∧ (bootDir s).active ≠ s.desk.slot))) := by
    rintro (⟨-, hf | hlt⟩ | ⟨h4, -⟩)
    · exact Bool.false_ne_true (hf.symm.trans htr)
    · omega
    · omega
  have hbody := fwUpdate_body (t := t) h hadmit (by omega) (by omega) hz
  have hroll : slotRollback (started 0x0014 t r s) s.desk.slot = slotRollback s s.desk.slot := by rw [started_eq]; rfl
  rw [hb, hw, if_neg (by omega : ¬fld r.payload 0 1 = 1), if_neg (by omega : ¬fld r.payload 0 1 = 2), if_pos ha] at hbody
  unfold fwConfirm at hbody
  rw [(started_update 0x0014 t r s).1] at hbody
  simp only [fwAnswer_started, bootDir_started, started_nv, hroll] at hbody
  have hdesk := (((started_deskOnly 0x0014 t r s h.2.2.2.2.2).withTrial false).withNv
    { s.nv with rollback := max s.nv.rollback (slotRollback s s.desk.slot) }).dirWrite (bootDir s).active 0 (bootDir s).boots
  refine completesOk_of_effect (exec_of_body h (exec_fwUpdate t r s) (by omega) (by simp [lenEq, hlen]) hbody) ?_
    (hdesk.trans ((logEv_logOnly ..).deskOnly _)) rfl (by rw [length_fwAnswer]; decide)
  rw [(logEv_logOnly ..).mb, mb_dirWrite]
  exact started_origin 0x0014 t r s

/-- Action 4: the running image is the active one again (R468). -/
theorem fwCancel_completes (ha : fld r.payload 0 1 = 4) (h1 : (bootDir s).trial = 1) (h0 : (bootDir s).boots = 0)
    (hs : (bootDir s).active ≠ s.desk.slot) : CompletesOk (.fwUpdate t (r.mb, r.tag) r.payload) r 0x0014 s
      (dirWrite s.desk.slot (b2n s.desk.trial) (b2n s.desk.trial) (advance t s)) (fun p => p = fwAnswer s (bootDir s).active 0) := by
  have hbody := fwUpdate_body (t := t) h (fun hc => hc.elim (fun h3 => by omega) fun h4 => h4.2 ⟨h1, h0, hs⟩) (by omega) (by omega) hz
  obtain ⟨hslot, htrial, -⟩ := started_update 0x0014 t r s
  rw [hb, hw, if_neg (by omega : ¬fld r.payload 0 1 = 1), if_neg (by omega : ¬fld r.payload 0 1 = 2), if_neg (by omega : ¬fld r.payload 0 1 = 3)] at hbody
  unfold fwCancel at hbody
  rw [hslot, htrial, fwAnswer_started, bootDir_started] at hbody
  refine completesOk_of_effect (exec_of_body h (exec_fwUpdate t r s) (by omega) (by simp [lenEq, hlen]) hbody) ?_
    ((started_deskOnly 0x0014 t r s h.2.2.2.2.2).dirWrite _ _ _) rfl (by rw [length_fwAnswer]; decide)
  rw [mb_dirWrite]
  exact started_origin ..

end

/-- Without a trial there is nothing to confirm (R468). -/
theorem fwConfirm_refused (hlen : r.payload.length = 4) (ha : fld r.payload 0 1 = 3) (htr : s.desk.trial = false) :
    RefusedWith (.fwUpdate t (r.mb, r.tag) r.payload) r 0x0014 rNotPermitted t s := by
  have hbody : fwUpdateBody 0x0014 r (started 0x0014 t r s) = .done rNotPermitted [] (started 0x0014 t r s) :=
    if_pos (.inr (.inl ⟨ha, .inl ((started_update 0x0014 t r s).2.1.trans htr)⟩))
  exact refusedWith_of_done h (exec_of_body h (exec_fwUpdate t r s) (by omega) (by simp [lenEq, hlen]) hbody)
    (mbDone_answered_empty r _ _ _ (started_origin ..))

end

/-! ### The end of an erase (R294, R468) -/

/-- The slot not running as an erase leaves it. -/
def slotErased (s : State) : State :=
  { s with desk.erase := none, nv := if 1 - s.desk.slot = 0 then { s.nv with slotA := [] } else { s.nv with slotB := [] } }

/-- The erase ends and its request is answered. -/
def eraseAnswered (k : Nat) (s : State) : State :=
  mbDone k 0x0014 rOK (cgetLE 0 (mb s k).buf 4 4) (fwAnswer (slotErased s) (1 - s.desk.slot) 0) (slotErased s)

theorem fwEraseDone_eq {k : Nat} {s : State} (h : s.desk.erase = some k) (hw : s.nk.wrHeld = false) :
    fwEraseDone s = flashNext (eraseAnswered k s).desk.fwWait (eraseAnswered k s) := by
  have herased : (if 1 - s.desk.slot = 0 then { { s with desk.erase := none } with nv.slotA := [] }
      else { { s with desk.erase := none } with nv.slotB := [] }) = slotErased s := by
    unfold slotErased
    split <;> rfl
  unfold fwEraseDone eraseAnswered
  rw [h, ← herased]
  dsimp only
  rw [hw]
  rfl

/-- What completion leaves of the desk's firmware words, of Nerrak and of memory. -/
theorem mbDone_flash (k op result tag : Nat) (p : List Byte) (s : State) :
    let u := mbDone k op result tag p s
    u.desk.fwWait = s.desk.fwWait ∧ u.desk.slot = s.desk.slot ∧ u.nk = s.nk ∧ u.nv = s.nv ∧ flashBusy u = flashBusy s := by
  intro u
  have hu : u = _ := mbDone_frame k op result tag p s
  rw [hu]
  exact ⟨rfl, rfl, rfl, rfl, rfl⟩

theorem flashNext_nil {s : State} (h : s.desk.fwWait = []) : flashNext [] s = s := by
  unfold flashNext
  rw [← h]

theorem fwEraseDone_runs {t k : Nat} {s : State} (ha : Awake s) (he : s.desk.erase = some k) (hq : s.desk.fwWait = [])
    (ho : (mb s k).origin = none) (hw : s.nk.wrHeld = false) :
    Runs (.fwEraseDone t) s (fun u => (mb u k).st = 2 ∧ (mb u k).lastResult = rOK ∧ (mb u k).lastOpcode = 0x0014
      ∧ u.nv = (if s.desk.slot = 1 then { s.nv with slotA := [] } else if s.desk.slot = 0 then { s.nv with slotB := [] } else u.nv)
      ∧ DeskOnly k { advance t s with nv := u.nv, desk.erase := none } u) := by
  obtain ⟨hwait, -, -, hnv, -⟩ := mbDone_flash k 0x0014 rOK (cgetLE 0 (mb (advance t s) k).buf 4 4)
    (fwAnswer (slotErased (advance t s)) (1 - s.desk.slot) 0) (slotErased (advance t s))
  obtain ⟨hst, hres, hop, -⟩ := mbDone_mailbox k 0x0014 rOK (cgetLE 0 (mb (advance t s) k).buf 4 4)
    (fwAnswer (slotErased (advance t s)) (1 - s.desk.slot) 0) (slotErased (advance t s)) ho
  have hdesk := mbDone_deskOnly k 0x0014 rOK (cgetLE 0 (mb (advance t s) k).buf 4 4)
    (fwAnswer (slotErased (advance t s)) (1 - s.desk.slot) 0) (slotErased (advance t s)) ho
  have hx : exec (.fwEraseDone t) s = .next (eraseAnswered k (advance t s)) := by
    refine exec_live rfl ha ?_
    rw [fwEraseDone_eq (s := advance t s) he hw, eraseAnswered, show (advance t s).desk.slot = s.desk.slot from rfl, hwait]
    exact (congrArg (flashNext · _) hq).trans (flashNext_nil (hwait.trans hq))
  refine ⟨_, hx, hst, hres, hop, ?_, ?_⟩
  · split
    · next h1 => exact hnv.trans (if_pos (show 1 - s.desk.slot = 0 by omega))
    · split
      · next h0 => exact hnv.trans (if_neg (show ¬1 - s.desk.slot = 0 by omega))
      · rfl
  · rw [eraseAnswered, show (advance t s).desk.slot = s.desk.slot from rfl, hnv]
    exact hdesk

theorem flashBusy_eq_false (s : State) : flashBusy s = false ↔ s.desk.erase = none ∧ ∀ x, s.dma.xfer = some x → x.target ≠ 2 := by
  unfold flashBusy
  cases s.dma.xfer <;> simp

theorem mb_slotPut (o : Nat) (l : List Byte) (s : State) (k : Nat) : mb (slotPut o l s) k = mb s k := by
  rw [slotPut_nv]
  rfl

/-- The request that a mailbox's buffer still holds (R448). -/
def heldReq (s : State) (j : Nat) : Req :=
  { mb := j, tag := cgetLE 0 (mb s j).buf 4 4, payload := cgets 0 (mb s j).buf 8 (cgetLE 0 (mb s j).buf 2 2) }

/-- A waiting FW_WRITE that finds the flash free runs from its buffer (R468). -/
theorem flashNext_write {j : Nat} {w : List Nat} {s u : State} {result : Nat} {p : List Byte} (hb : flashBusy s = false)
    (hop : cgetLE 0 (mb s j).buf 0 2 = 0x0013) (hw : fwWriteBody 0x0013 (heldReq s j) s = .done result p u) :
    flashNext (j :: w) s = flashNext w (mbDone j 0x0013 result (heldReq s j).tag p u) := by
  rw [flashNext, if_neg (by rw [hb]; decide)]
  dsimp only
  rw [if_pos hop, hop]
  unfold heldReq at hw
  rw [hw]
  rfl

theorem heldReq_of_mb {s u : State} {j : Nat} (h : mb u j = mb s j) : heldReq u j = heldReq s j := by
  unfold heldReq
  rw [h]

/-- The erase ends and the FW_WRITE that waited for it follows (R448, R468). -/
theorem fwEraseDone_thenWrites {t k j : Nat} {s : State} (ha : Awake s) (he : s.desk.erase = some k) (hq : s.desk.fwWait = [j]) (hj : j ≠ k)
    (hw : s.nk.wrHeld = false) (hx : ∀ x, s.dma.xfer = some x → x.target ≠ 2) (hslot : s.desk.slot = 0)
    (hop : cgetLE 0 (mb s j).buf 0 2 = 0x0013) (h1 : 1 ≤ fld (heldReq s j).payload 4 2) (h240 : fld (heldReq s j).payload 4 2 ≤ 240)
    (ho : fld (heldReq s j).payload 0 4 + fld (heldReq s j).payload 4 2 ≤ slotSize) (hz : fld (heldReq s j).payload 6 2 = 0) :
    Runs (.fwEraseDone t) s (fun u => u.desk.fwWait = [] ∧ (mb u k).st = 2 ∧ (mb u j).st = 2 ∧ (mb u j).lastResult = rOK
      ∧ u.nv = { s.nv with slotB := cputs 0xFF#8 [] (fld (heldReq s j).payload 0 4) ((heldReq s j).payload.drop 8) }) := by
  have hbusy : flashBusy (slotErased (advance t s)) = false := (flashBusy_eq_false _).2 ⟨rfl, hx⟩
  obtain ⟨hwait, hslot', hnk, hnv, hfree⟩ := mbDone_flash k 0x0014 rOK (cgetLE 0 (mb (advance t s) k).buf 4 4)
    (fwAnswer (slotErased (advance t s)) (1 - (advance t s).desk.slot) 0) (slotErased (advance t s))
  have hother : mb (eraseAnswered k (advance t s)) j = mb s j := mbDone_other k _ _ _ _ (slotErased (advance t s)) hj
  have hstatus := (mbDone_status k 0x0014 rOK (cgetLE 0 (mb (advance t s) k).buf 4 4)
    (fwAnswer (slotErased (advance t s)) (1 - (advance t s).desk.slot) 0) (slotErased (advance t s))).1
  have hdone := fwEraseDone_eq (s := advance t s) he hw
  change (eraseAnswered k (advance t s)).desk.fwWait = s.desk.fwWait at hwait
  change (eraseAnswered k (advance t s)).desk.slot = s.desk.slot at hslot'
  change (eraseAnswered k (advance t s)).nk = s.nk at hnk
  change (eraseAnswered k (advance t s)).nv = _ at hnv
  change flashBusy (eraseAnswered k (advance t s)) = _ at hfree
  change (mb (eraseAnswered k (advance t s)) k).st = 2 at hstatus
  generalize eraseAnswered k (advance t s) = v at *
  have hreq := heldReq_of_mb hother
  have hbody := fwWriteBody_eq (op := 0x0013) (r := heldReq s j) (s := v) h1 h240 ho hz
  rw [hfree, hbusy, hnk, hw] at hbody
  rw [hwait, hq, flashNext_write (hfree.trans hbusy) (by rw [hother]; exact hop) (by rw [hreq]; exact hbody), hreq] at hdone
  obtain ⟨hst, hres⟩ := mbDone_status j 0x0013 rOK (heldReq s j).tag [] (slotPut (fld (heldReq s j).payload 0 4) ((heldReq s j).payload.drop 8) v)
  refine ⟨_, exec_live rfl ha hdone, rfl, ?_, hst, hres, ?_⟩
  · refine (congrArg Mailbox.st ((mbDone_other j _ _ _ _ _ hj.symm).trans (mb_slotPut ..))).trans hstatus
  · refine (mbDone_flash j ..).2.2.2.1.trans ?_
    rw [slotPut_nv, hslot', if_pos hslot, hnv, slotErased]
    simp [hslot]

/-- Settles O55: a clause per command, write and event. -/
theorem firmwareUpdateRuns : Obligations.FirmwareUpdateRuns := by
  unfold Obligations.FirmwareUpdateRuns
  refine ⟨fun t r s h hlen h1 h240 ho hz => fwWrite_runs h hlen h1 h240 ho hz, ?_,
    fun t r s h hlen hz hb ha => fwUpdate_waits h hlen hz hb ha, fun k s => imageStep_findIdx s k,
    fun a tr n s ha ht hn hs => ⟨(dirWrite_governs ha ht hn hs).1, (dirWrite_governs ha ht hn hs).2, dirWrite_eq a tr n s⟩,
    fun t k s ha he hq ho hw => fwEraseDone_runs ha he hq ho hw, ?_⟩
  · intro t r s h hlen hz hb hw a o d bad
    exact ⟨fun ha => fwErase_runs h hlen hz hb hw ha, fun ha => fwVerify_runs h hlen hz hb hw ha,
      fun ha htr hst => fwConfirm_completes h hlen hz hb hw ha htr hst, fun ha htr => fwConfirm_refused h hlen ha htr,
      fun ha h1 h0 hs => fwCancel_completes h hlen hz hb hw ha h1 h0 hs⟩
  · intro t k j s ha he hq hj hw hx hslot p hop h1 h240 ho hz
    exact fwEraseDone_thenWrites ha he hq hj hw hx hslot hop h1 h240 ho hz

end Sys2Proof.Machine
end
